-- ==== Sys2Proof/Word.lean ====
section
/-! DEFINITION. The word of registers and packets (R9 of 00_scope.md). -/

namespace Sys2Proof

/-- A register, a packet word or a word of external memory: 32 bits (R9). -/
abbrev Word := BitVec 32

/-- A byte of memory or of a CRC's message. -/
abbrev Byte := BitVec 8

end Sys2Proof
end

