-- ==== Sys2Proof/Syntax.lean ====
section
/-! DEFINITION. The commands and events of the block: one constructor per row of opcode_table.json.
An opcode row carries the context of its CMD packet and its payload words; a register row carries
its source and the value written; an event row carries what the event brings from outside the block
(a measured voltage, a received word, the verdict of a test). -/

namespace Sys2Proof

/-- The ports that carry commands, in the order of CMD_STATUS.SESS_PORT (Table 10.10). -/
inductive CmdPort where
  | h0 | h1 | spi
deriving DecidableEq, Repr

/-- The two Halyard ports (Table 01.1). -/
inductive HPort where
  | p0 | p1
deriving DecidableEq, Repr

/-- The two compositor engines (Table 01.1). -/
inductive Eng where
  | fore | main
deriving DecidableEq, Repr

/-- Who makes a register write: a head-end port, or one of the two Rigger cores (R38, R480). -/
inductive RegSrc where
  | port (p : CmdPort)
  | safety
  | service
deriving DecidableEq, Repr

/-- The part of a CMD packet's header that bears on its execution (Tables 10.1, 10.3 and 10.4). -/
structure CmdCtx where
  /-- port the command arrives on -/
  port : CmdPort
  /-- CH of header word 0 -/
  ch : BitVec 4
  /-- TAG of header word 1 -/
  tag : BitVec 8
  /-- SESSION of header word 1 -/
  session : BitVec 16
  /-- FLAGS.ORDER of header word 0 -/
  order : Bool
  /-- not of the packet: 2 for an uncorrectable and 1 for a corrected word of Keep that the command reads (R472, R477) -/
  keepEcc : Nat := 0
deriving DecidableEq, Repr

/-- Clocks with a monitor (R409); a trip of ROW says whether the clock has stopped (R415). -/
inductive MonClk where
  | refosc | linkclk0 | linkclk1 | fbosc | lposc | plla | pllb
  | row (stopped : Bool)
deriving DecidableEq, Repr

/-- A firmware record that a Rigger core submits (R380, R538, Table 13.12). -/
structure FwEntry where
  /-- SEV as submitted -/
  sev : Fin 4
  /-- SOURCE as submitted -/
  source : Fin 32
  /-- INDEX as submitted -/
  index : BitVec 16
  /-- COUNT as submitted -/
  count : BitVec 16
  /-- DATA[23:0], which the firmware defines -/
  data : BitVec 24
deriving DecidableEq, Repr

/-- What the Rigger service core meets and submits as it runs (R300, R380, R539). -/
structure CoreRun where
  /-- 2 for an uncorrectable and 1 for a corrected word read from its SRAM -/
  ecc : Nat
  /-- the same of the words of Keep that the command it executes reads (R472, R477) -/
  keepEcc : Nat
  /-- the firmware records submitted, in order -/
  entries : List FwEntry
deriving DecidableEq, Repr

/-- The supply voltages at a report of a supervisor, in mV (R435; the switch of 16 opens when VSUP falls 20 mV below VHU). -/
structure Supply where
  /-- VHU -/
  vhu : Nat
  /-- VSUP -/
  vsup : Nat
deriving DecidableEq, Repr

/-- The level of a wake pin at two consecutive LPOSC edges (R432). -/
structure WakeLevel where
  /-- WAKE0 to WAKE3 -/
  pin : Fin 4
  /-- the pin is high -/
  high : Bool
deriving DecidableEq, Repr

/-- The end of a read of external memory (R140, R470). -/
structure ReadEnd where
  /-- the device reported no error -/
  good : Bool
  /-- blocks of NAND pages read whose corrected bits are at or above the refresh level, by chip select, CS1 if true -/
  refresh : List (Bool × Nat)
deriving DecidableEq, Repr

/-- A temperature sensor of THERM (R391). -/
inductive SensorId where
  | tile (t : Fin 256)
  | die (n : Fin 4)
  | ntc
deriving DecidableEq, Repr

/-- What the probe of a chip select found at boot (R449, Table 17.1): device type, suspend flag, log2 of erase unit, page
and capacity; none when nothing answers. -/
structure Probe where
  /-- TYPE of the device, 4 bits -/
  dtype : Nat
  /-- the device can suspend an erase -/
  suspend : Bool
  /-- log2 of the erase unit -/
  eraseLog2 : Nat
  /-- log2 of the page -/
  pageLog2 : Nat
  /-- log2 of the capacity in bytes -/
  capLog2 : Nat
deriving DecidableEq, Repr

/-- The line bits that arrive on the two physical lanes of a port in one evaluation (R259, R264). -/
structure LaneBits where
  /-- on lane 0 -/
  lane0 : List Bool
  /-- on lane 1 -/
  lane1 : List Bool
deriving DecidableEq, Repr

/-- The end of an engine's block reset in step 1 (R197). -/
structure ResetEnd where
  /-- the engine -/
  eng : Eng
  /-- heartbeat tokens restart -/
  tokens : Bool
deriving DecidableEq, Repr

/-- What a Trysail segment write meets (R248, R541). -/
structure TryUpset where
  /-- a parity error of the profile or the level table -/
  profile : Bool
  /-- an uncorrectable error of a buffer word -/
  ecc : Bool
deriving DecidableEq, Repr

/-- Reaction registers, by block and offset, whose parity fails (R373). -/
structure ParityUpsets where
  /-- found by the sweep itself -/
  now : List (Fin 18 × BitVec 16)
  /-- failing after the sweep, for an access or the next sweep to find -/
  later : List (Fin 18 × BitVec 16)
deriving DecidableEq, Repr

/-- What is measured at the end of a sink or probe pulse, or at the bridge sample, of one pixel (R75, R77, R216). -/
structure NodeSample where
  /-- pixel number 1024y + x -/
  pixel : Nat
  /-- sink node voltage in mV -/
  mv : Nat
  /-- for a probe, its source is out of regulation (Table 07.1) -/
  probeLost : Bool
deriving DecidableEq, Repr

/-- What the array self-test measures (R223, Table 07.7): rails in mV at 1.7 µs, an unlisted tile's being off, and in strokes 3
to 8 the pixels whose sample is not that of an intact pixel. -/
structure SelfTestEnv where
  /-- rails of stroke 1, switches open -/
  stuck : List (Fin 256 × Nat)
  /-- rails of the switch tests of stroke 2 -/
  test : List (Fin 256 × Nat)
  /-- rails of the retests -/
  retest : List (Fin 256 × Nat)
  /-- VLED at the die and at the sense contacts, mV, at slot 511 of strokes 1 to 8 in order -/
  vled : List (Nat × Nat)
  /-- the samples of strokes 3 to 8, in order -/
  nodes : List (List NodeSample)
deriving DecidableEq, Repr

/-- What a boot meets outside the block (R458, R41, R449, R460, R462, R223, R470, R441, R519): levels of its straps and
pins, the answers of the memory devices, and the verdicts of checks that the model does not compute. -/
structure BootEnv where
  /-- COMPAT is high (R5) -/
  compat : Bool
  /-- TEST_N is high (R519) -/
  testN : Bool
  /-- PRESENT_N is low: the module is present (R441) -/
  present : Bool
  /-- the answer of the probe of CS0 (R449) -/
  probe0 : Option Probe
  /-- the answer of the probe of CS1 (R449) -/
  probe1 : Option Probe
  /-- the manifest header reads the same after the step-up of CS0 (R460) -/
  step0 : Bool
  /-- the manifest header reads the same after the step-up of CS1 (R460) -/
  step1 : Bool
  /-- factory bad-block markers of CS0 (R470) -/
  factory0 : List Nat
  /-- factory bad-block markers of CS1 (R470) -/
  factory1 : List Nat
  /-- the first thermal scan, of step 7: each sensor with its reading and what THERM_READING brings beside it (Table 17.7) -/
  scan : List (SensorId × Option Int × Nat)
  /-- the measurements of the array self-test (R223) -/
  tests : SelfTestEnv
  /-- outcome of the read of the Keep header: 0 good, 1 corrected, 2 uncorrectable (R474, R477) -/
  keepEcc : Nat
deriving DecidableEq, Repr

/-- The commands and events (opcode_table.json). -/
inductive Instr where
  /-- PING (R320): Command that returns its parameter words unchanged. -/
  | ping (c : CmdCtx) (ws : List Word)
  /-- GET_STATUS (R320): Command that returns the module status words of Table 11.3. -/
  | getStatus (c : CmdCtx) (ws : List Word)
  /-- GET_EVENT (R312): Command that removes the oldest event from the issuing port's queue and returns it. -/
  | getEvent (c : CmdCtx) (ws : List Word)
  /-- SESSION_OPEN (R306): Command that issues a session ID and a challenge, ending any session on the same port. -/
  | sessionOpen (c : CmdCtx) (ws : List Word)
  /-- SESSION_PROVE (R307): Command that checks the CMAC response and opens the safety session, or fails the attempt and may start a lockout. -/
  | sessionProve (c : CmdCtx) (ws : List Word)
  /-- MODE_NATIVE (R41): Command that, in extended compatibility mode, sends its reply and then resets the module into native mode. -/
  | modeNative (c : CmdCtx) (ws : List Word)
  /-- READ_REG (R327): Command that reads a list of registers and returns a status byte for each access. -/
  | readReg (c : CmdCtx) (ws : List Word)
  /-- WRITE_REG (R327): Command that makes a list of register writes in order and returns a status byte for each. -/
  | writeReg (c : CmdCtx) (ws : List Word)
  /-- MODIFY_REG (R329): Command that atomically reads a register, merges VALUE under MASK and writes the result back. -/
  | modifyReg (c : CmdCtx) (ws : List Word)
  /-- REGISTER_WRITE (R11): Write to a register that has no behaviour of its own, stored according to its access codes. -/
  | registerWrite (src : RegSrc) (addr v : Word)
  /-- LAYER_DEFINE (R144): Command that writes a layer's staged descriptor. -/
  | layerDefine (c : CmdCtx) (ws : List Word)
  /-- LAYER_LOAD (R138): Command that gives a buffer its format and size, allocates its pages and sets it LOADING from the link or a record. -/
  | layerLoad (c : CmdCtx) (ws : List Word)
  /-- LAYER_FREE (R138): LAYER_LOAD with the FREE flag, which returns the buffer's pages and sets it FREE. -/
  | layerFree (c : CmdCtx) (ws : List Word)
  /-- LAYER_ARM (R145): Command that makes the staged descriptor and a buffer into the layer's pending arm, optionally with a fence and HOLD. -/
  | layerArm (c : CmdCtx) (ws : List Word)
  /-- FLIP (R161): Command that releases the HOLD arms and pending placements of the named flip groups. -/
  | flip (c : CmdCtx) (ws : List Word)
  /-- FENCE_SIGNAL (R159): Command that sets a fence's count to the given value. -/
  | fenceSignal (c : CmdCtx) (ws : List Word)
  /-- SPRITE_PLACE (R158): Command that writes one or more pending placements of one sprite layer. -/
  | spritePlace (c : CmdCtx) (ws : List Word)
  /-- WRITEBACK (R165): Slow-path command that allocates two write-back buffers and configures canvas write-back. -/
  | writeback (c : CmdCtx) (ws : List Word)
  /-- WRITEBACK_STOP (R165): WRITEBACK with TARGET 0b00, which stops write-back and frees both buffers. -/
  | writebackStop (c : CmdCtx) (ws : List Word)
  /-- SET_LIGHT_NORMAL (R251): SET_LIGHT NORMAL in a safety session, which clears the latches and returns the beam to Normal at the next compose point. -/
  | setLightNormal (c : CmdCtx) (ws : List Word)
  /-- SET_LIGHT_TRYSAIL (R249): SET_LIGHT TRYSAIL, which makes the beam state Trysail at once with cause 5. -/
  | setLightTrysail (c : CmdCtx) (ws : List Word)
  /-- SET_LIGHT_DARK (R251): SET_LIGHT DARK, which makes the beam state Dark at once. -/
  | setLightDark (c : CmdCtx) (ws : List Word)
  /-- SET_CLASS (R230): Slow-path command in a safety session that changes the beam class from the next compose point. -/
  | setClass (c : CmdCtx) (ws : List Word)
  /-- SET_CEILING_STAGE (R233): SET_CEILING with STAGE = 1, which holds ceiling and zone-limit parts in the staging copy. -/
  | setCeilingStage (c : CmdCtx) (ws : List Word)
  /-- SET_CEILING_COMMIT (R233): SET_CEILING with STAGE = 0, which makes its parts and every staged part targets together at the next compose point. -/
  | setCeilingCommit (c : CmdCtx) (ws : List Word)
  /-- SET_AIM (R232): Command that sets the vertical and horizontal aim targets. -/
  | setAim (c : CmdCtx) (ws : List Word)
  /-- STEER_INPUT (R240): Command that delivers a steering angle, which Backstay accepts as the current input or rejects. -/
  | steerInput (c : CmdCtx) (ws : List Word)
  /-- GAPLESS (R63): Command that sets SCAN_CTRL.GAPLESS, refused unless the class is HIGH. -/
  | gapless (c : CmdCtx) (ws : List Word)
  /-- DIAG_RUN_BRIDGE (R216): DIAG_RUN operation that runs the bridge check on all tiles in the next four full-gap strokes. -/
  | diagRunBridge (c : CmdCtx) (ws : List Word)
  /-- DIAG_RUN_SWTEST (R224): DIAG_RUN operation that pends a suspect switch test of the named tile. -/
  | diagRunSwtest (c : CmdCtx) (ws : List Word)
  /-- DIAG_RUN_CLEAR_TILE (R219): DIAG_RUN operation that clears SW_FAIL, SW_STUCK, TILE_BAD and SUSPECT_RUN of a tile. -/
  | diagRunClearTile (c : CmdCtx) (ws : List Word)
  /-- DIAG_RUN_CLEAR_MAP (R224): DIAG_RUN operation that sets the dead-map entries and candidates of a rectangle to GOOD and NONE. -/
  | diagRunClearMap (c : CmdCtx) (ws : List Word)
  /-- DIAG_MAP_READ (R221): Command that returns the dead-map entries of one array row. -/
  | diagMapRead (c : CmdCtx) (ws : List Word)
  /-- TIME_SET (R346): Command that loads a software-servo domain's NS, FRAC and ERA and counts as a step. -/
  | timeSet (c : CmdCtx) (ws : List Word)
  /-- TIME_ADJUST_OFFSET (R346): TIME_ADJUST OFFSET, which adds signed nanoseconds to a software-servo domain counter. -/
  | timeAdjustOffset (c : CmdCtx) (ws : List Word)
  /-- TIME_ADJUST_INC (R346): TIME_ADJUST INC, which loads a software-servo domain's INC within 500 ppm of 4 ns. -/
  | timeAdjustInc (c : CmdCtx) (ws : List Word)
  /-- PULSE_SET_ONE_SHOT (R353): PULSE_SET in one-shot mode, which schedules one pulse on TPULSE0 or TPULSE1. -/
  | pulseSetOneShot (c : CmdCtx) (ws : List Word)
  /-- PULSE_SET_PERIODIC (R353): PULSE_SET in periodic mode, which schedules a pulse train on TPULSE0 or TPULSE1. -/
  | pulseSetPeriodic (c : CmdCtx) (ws : List Word)
  /-- PULSE_SET_OFF (R353): PULSE_SET with MODE off, which drives the output low at once. -/
  | pulseSetOff (c : CmdCtx) (ws : List Word)
  /-- FLIP_AT (R355): Command that schedules a release of all HOLD arms and placements at the compose point of the first flip instant at or after T. -/
  | flipAt (c : CmdCtx) (ws : List Word)
  /-- POWER_STATE (R429): Command that requests a power state and begins its entry or exit. -/
  | powerState (c : CmdCtx) (ws : List Word)
  /-- DVFS_SET (R420): Slow-path command that checks the armed load and starts an operating-point change. -/
  | dvfsSet (c : CmdCtx) (ws : List Word)
  /-- MEM_READ (R472): Slow-path command that reads external memory or Keep and returns the words in EV_CMD_DONE. -/
  | memRead (c : CmdCtx) (ws : List Word)
  /-- MEM_WRITE (R471): Slow-path command that writes external memory or the permitted Keep areas. -/
  | memWrite (c : CmdCtx) (ws : List Word)
  /-- MEM_ERASE (R471): Slow-path command that erases an aligned range of external memory. -/
  | memErase (c : CmdCtx) (ws : List Word)
  /-- FW_UPDATE_PREPARE (R464): FW_UPDATE PREPARE, which erases a firmware slot and marks it unverified. -/
  | fwUpdatePrepare (c : CmdCtx) (ws : List Word)
  /-- FW_UPDATE_VERIFY (R464): FW_UPDATE VERIFY, which reads a slot and checks its signature and SVN. -/
  | fwUpdateVerify (c : CmdCtx) (ws : List Word)
  /-- FW_UPDATE_SELECT (R464): FW_UPDATE SELECT, which sets PREF to a verified slot and TRIAL to pending. -/
  | fwUpdateSelect (c : CmdCtx) (ws : List Word)
  /-- FAULT_INJECT_ARM (R375): FAULT_INJECT KIND 0 with SET = 1, or a write to FLT_INJECT, which arms a one-shot inverted-check-bit injection. -/
  | faultInjectArm (c : CmdCtx) (ws : List Word)
  /-- FAULT_INJECT_DISARM (R375): FAULT_INJECT KIND 0 with SET = 0, which disarms an unused injection. -/
  | faultInjectDisarm (c : CmdCtx) (ws : List Word)
  /-- FAULT_FORCE_SET (R377): FAULT_INJECT KIND 1 with SET = 1, or a write to FLT_FORCE, which in a safety session sets a force bit. -/
  | faultForceSet (c : CmdCtx) (ws : List Word)
  /-- FAULT_FORCE_CLEAR (R377): FAULT_INJECT KIND 1 with SET = 0, which clears a force bit. -/
  | faultForceClear (c : CmdCtx) (ws : List Word)
  /-- FAULT_ACK (R362): Command that clears the named sources' FLT_STATUS, FLT_INJ and FLT_REAL bits. -/
  | faultAck (c : CmdCtx) (ws : List Word)
  /-- FLT_STATUS_CLEAR (R362): Write of 1 to FLT_STATUS bits, clearing the sources as FAULT_ACK does. -/
  | fltStatusClear (src : RegSrc) (block : Fin 18) (v : Word)
  /-- FAULT_CONFIG_REACT (R365): FAULT_CONFIG WHAT = 0, or a write to FLT_REACT, which sets a source's reactions from its next rising setting. -/
  | faultConfigReact (c : CmdCtx) (ws : List Word)
  /-- FAULT_CONFIG_ESC (R371): FAULT_CONFIG WHAT = 1, or a write to FLT_ESC, which sets the array escalation reaction and time. -/
  | faultConfigEsc (c : CmdCtx) (ws : List Word)
  /-- CLR_FIRST (R334): Write of CLR_FIRST, which returns FLT_FIRST.VALID to 0. -/
  | clrFirst (src : RegSrc) (block : Fin 18)
  /-- ENGINE_SWITCH (R196): Command in a safety session that performs a planned switch or a recovery to the named engine. -/
  | engineSwitch (c : CmdCtx) (ws : List Word)
  /-- ENGINE_HEALTH_READ (R204): ENGINE_HEALTH READ, which returns the arbitration and both engines' health registers. -/
  | engineHealthRead (c : CmdCtx) (ws : List Word)
  /-- ENGINE_HEALTH_RUN_TEST (R201): ENGINE_HEALTH RUN_TEST, which takes the standby engine through resynchronisation from step 1 without counting a failure. -/
  | engineHealthRunTest (c : CmdCtx) (ws : List Word)
  /-- ENGINE_HEALTH_RETRY (R197): ENGINE_HEALTH RETRY, which clears a PERM_FAILED engine's attempt count and restarts it at step 1. -/
  | engineHealthRetry (c : CmdCtx) (ws : List Word)
  /-- FORWARD_CFG (R282): Command that changes the H1 role and returns H1 to DETECT or OFF after its reply. -/
  | forwardCfg (c : CmdCtx) (ws : List Word)
  /-- SCAN_CTRL_WRITE (R69): Write to SCAN_CTRL, checked on receipt and applied at the next flip instant or compose point. -/
  | scanCtrlWrite (src : RegSrc) (v : Word)
  /-- TILE_CTRL_WRITE (R83): Write to a tile's TILE_CTRL, checked against the 100 mA limit, with range and trim held pending and fresh parity stored. -/
  | tileCtrlWrite (src : RegSrc) (t : Fin 256) (v : Word)
  /-- ARRAY_CTRL_WRITE (R83): Write to ARRAY_CTRL.GTRIM, checked against every tile and held pending. -/
  | arrayCtrlWrite (src : RegSrc) (v : Word)
  /-- LP_REG_WRITE (R105): Write to a light-pipeline register through either engine window, applied to both pipelines and held pending. -/
  | lpRegWrite (src : RegSrc) (e : Eng) (off : BitVec 16) (v : Word)
  /-- COMPOSITION_REG_WRITE (R143): Write to a composition register through either engine window, applied to both engines and held pending. -/
  | compositionRegWrite (src : RegSrc) (e : Eng) (off : BitVec 16) (v : Word)
  /-- DIAG_CTRL_WRITE (R227): Write to DIAG_CTRL, checked for reserved codes and session rights and applied from the next stroke. -/
  | diagCtrlWrite (src : RegSrc) (v : Word)
  /-- BSTAY_CFG_WRITE (R257): Write to BSTAY_CFG, BSTAY_SLP or BSTAY_TRY_MAP in a safety session, applied at the next compose point. -/
  | bstayCfgWrite (src : RegSrc) (off : BitVec 16) (v : Word)
  /-- VERDICT_POST (R244): Write of BSTAY_VERD_FW2 by the Rigger safety core, completing its verdict post. -/
  | verdictPost (v : Word)
  /-- HLY_CTRL_WRITE (R284): Write to HLY_CTRL, checked and applied at the next entry to DETECT. -/
  | hlyCtrlWrite (src : RegSrc) (p : HPort) (v : Word)
  /-- RETRAIN (R273): Write of HLY_CTRL.RETRAIN, which returns the port to DETECT after any owed reply. -/
  | retrain (src : RegSrc) (p : HPort)
  /-- ERA_WRITE (R338): Write to a domain's ERA, which clears WRAP_PEND. -/
  | eraWrite (src : RegSrc) (d1 : Bool) (v : Word)
  /-- TIME_NS_READ (R356): Read of a domain NS or WK_NS, which latches the matching fraction and era into snapshot registers. -/
  | timeNsRead (src : RegSrc) (off : BitVec 16)
  /-- THERM_REG_WRITE (R405): Write to THERM control, thresholds or HYST in a safety session, checked and applied at the next reading. -/
  | thermRegWrite (src : RegSrc) (off : BitVec 16) (v : Word)
  /-- CLK_SEL_WRITE (R416): Write to CLK_SRC.SEL, accepted only for a good source, after which the PLLs relock to it. -/
  | clkSelWrite (src : RegSrc) (v : Word)
  /-- CLK_GATE_WRITE (R417): Write to CLK_GATE that stops or restarts clocks subject to the gating tree conditions. -/
  | clkGateWrite (src : RegSrc) (v : Word)
  /-- SAVE_NOW (R436): Write of PWR_SAVE_CTRL.SAVE_NOW, which triggers a save and park. -/
  | saveNow (src : RegSrc)
  /-- XMEM_RELOAD (R461): Write of XMEM_CTRL.RELOAD, which reloads CALIB_PIXEL, CALIB_TILE or TEMP_CURVES. -/
  | xmemReload (src : RegSrc) (v : Word)
  /-- FW_CONFIRM (R463): Write of RIGGER_FW_CTRL.CONFIRM, which clears TRIAL and raises MIN_SVN. -/
  | fwConfirm (src : RegSrc)
  /-- WATCHDOG_KICK (R387): Write of RIGGER_WDOG_KICK by a core, judged against key and window. -/
  | watchdogKick (src : RegSrc) (v : Word)
  /-- WATCHDOG_ARM (R388): Write of a watchdog EN bit, which arms it until reset. -/
  | watchdogArm (src : RegSrc) (v : Word)
  /-- WATCHDOG_TO_WRITE (R388): Write to RIGGER_WDOG_TO, refused where it would change an armed watchdog's timeout. -/
  | watchdogToWrite (src : RegSrc) (v : Word)
  /-- PIN_CLR (R381): Write of PIN_CLR in a safety session, freeing all pinned log entries. -/
  | pinClr (src : RegSrc)
  /-- CRCU_START (R481): Write to CRCU_CTRL with START, which stores the configuration, loads INIT and makes the unit active. -/
  | crcuStart (src : RegSrc) (u : Fin 4) (v : Word)
  /-- CRCU_FINISH (R481): Write to CRCU_CTRL with FINISH, which completes the unit once its queued bytes are processed. -/
  | crcuFinish (src : RegSrc) (u : Fin 4) (v : Word)
  /-- CRCU_START_FINISH (R481): Write to CRCU_CTRL with both START and FINISH, which completes over an empty message. -/
  | crcuStartFinish (src : RegSrc) (u : Fin 4) (v : Word)
  /-- CRCU_CTRL_NBYTES (R483): Write to CRCU_CTRL with neither START nor FINISH, which may change NBYTES only while active. -/
  | crcuCtrlNbytes (src : RegSrc) (u : Fin 4) (v : Word)
  /-- CRCU_DATA_IN (R482): Write to DATA_IN that feeds bytes to an active unit's input FIFO. -/
  | crcuDataIn (src : RegSrc) (u : Fin 4) (v : Word)
  /-- CRCU_DATA_OUT_READ (R484): Read of DATA_OUT that removes an output word or sets UNDERRUN. -/
  | crcuDataOutRead (src : RegSrc) (u : Fin 4)
  /-- CRCU_RUN_READ (R486): Read of RUN_LO, which latches RUN_HI and COUNT. -/
  | crcuRunRead (src : RegSrc) (u : Fin 4)
  /-- CRCU_RUN_WRITE (R486): Write of RUN_HI staged and RUN_LO loading both halves of the running value. -/
  | crcuRunWrite (src : RegSrc) (u : Fin 4) (hi lo : Word)
  /-- CRCU_CHECK_DONE (R485): Self-completion of a CHECK-mode unit when COUNT reaches LEN, setting MATCH or MISMATCH. -/
  | crcuCheckDone (u : Fin 4)
  /-- CRCU_KAT_RUN (R487): Write of CRCU_KAT.RUN, or boot or exit, which runs the known-answer tests of the fixed checkers. -/
  | crcuKatRun (bad : BitVec 4)
  /-- STROKE_START (R42): Start of a stroke, with phase measurement, gap trim, fold and stroke counting. -/
  | strokeStart
  /-- VLED_MEASURE (R89): Measurement of VLED and tile rails at slot 511 with the VLED_LOW, VLED_HIGH and sense checks. -/
  | vledMeasure (die sense : Nat) (rails : List Nat)
  /-- GAP_START (R45): Start of a stroke's gap, with headroom latching, parity check, tile closes and the VLED_ADJ request update. -/
  | gapStart (heads peaks : List (Nat × Nat)) (upset : List Nat) (bad : Bool)
  /-- SWITCH_TEST (R213): Comparison of the tested tile's rail with V_OFF at gap time 1.7 µs and its pass or failure. -/
  | switchTest (rail : Nat)
  /-- DARK_PROBE (R212): Sampling of the probed dark pixels' latches at gap time 5.0 µs. -/
  | darkProbe (nodes : List NodeSample)
  /-- CAPTURE (R206): Capture of each pixel's 2-bit latch result into its tile's capture store. -/
  | capture (nodes : List NodeSample)
  /-- READBACK_SWEEP_DONE (R217): Completion of a readback sweep, followed by its classification. -/
  | readbackSweepDone
  /-- FLIP_INSTANT (R49): Flip instant at the gap start of a flip stroke, where a pending flip copies next codes to live codes. -/
  | flipInstant (bad : Bool)
  /-- FENCE_TIMEOUT (R162): Expiry of a layer's fence wait count, applying its ACTION. -/
  | fenceTimeout (e : Eng) (layer : Fin 8)
  /-- ROW_COMPLETE (R540): Completion of an array row's codes and signature by an engine. It brings the code bits of the row that
  are upset, the pixel numbers whose calibration word is bad, the store words that are, and the corrected ones' number. -/
  | rowComplete (e : Eng) (upset : List (Fin 1024 × BitVec 16)) (calBad : List Nat) (storeBad : List (Nat × Nat)) (corr : Nat)
  /-- COMPOSITION_END (R166): End of a frame's composition, completing any write-back buffer. -/
  | compositionEnd (e : Eng) (up : Bool)
  /-- SEGMENT_WRITE (R53): Write of a dirty row segment by the owning engine's row writer through Backstay's checks. -/
  | segmentWrite (e : Eng) (seg : Fin 16384) (cut bad : Bool)
  /-- TRYSAIL_SEGMENT_WRITE (R250): Write of a dirty segment by the Trysail writer. -/
  | trysailSegmentWrite (seg : Fin 16384) (cut : Bool) (bad : TryUpset)
  /-- TILE_OC_TRIP (R84): Over-current of a tile beyond the filter time, putting it into its safe state. -/
  | tileOcTrip (t : Fin 256)
  /-- HEARTBEAT_STROBE (R183): Heartbeat strobe sent by Backstay every 384 SAFE clocks. -/
  | heartbeatStrobe
  /-- HEARTBEAT_TOKEN (R183): Arrival of an engine's heartbeat token answering a strobe. -/
  | heartbeatToken (e : Eng) (seq : BitVec 8)
  /-- HEARTBEAT_WINDOW_END (R185): End of a strobe's answer window, detecting a heartbeat loss after two unanswered strobes. -/
  | heartbeatWindowEnd
  /-- ENG_ERR_ASSERT (R184): Assertion of an engine's error line, acted on by arbitration. -/
  | engErrAssert (e : Eng) (src : Fin 3)
  /-- MISMATCH_DECIDE_TIMEOUT (R187): Expiry of 16 µs after an undecided mismatch, deciding it as neither flagged. -/
  | mismatchDecideTimeout
  /-- SWITCHOVER_HANDOVER (R191): Grant of the row bus to the incoming engine after it builds its dirty set. -/
  | switchoverHandover
  /-- SWITCHOVER_OVERLAP_END (R192): End of the overlap when the outgoing drivers are off. -/
  | switchoverOverlapEnd
  /-- ENGINE_BLOCK_RESET_DONE (R197): Completion of resynchronisation step 1, the engine's block reset. -/
  | engineBlockResetDone (r : ResetEnd)
  /-- ENGINE_SELF_TEST_DONE (R197): Completion of the engine self-test with pass or failure. -/
  | engineSelfTestDone (e : Eng) (passed : Bool)
  /-- RESYNC_COPY_DONE (R197): Completion of the copy of state from the active engine at a compose point. -/
  | resyncCopyDone (e : Eng) (ok : Bool)
  /-- SAFE_N_LOW (R249): SAFE_N low beyond its filter time, latching it and making the beam state Trysail. -/
  | safeNLow
  /-- TRYSAIL_TAKEOVER (R250): Connection of the Trysail writer to the row bus in place of both engines. -/
  | trysailTakeover
  /-- TRYSAIL_LOAD_DONE (R245): Completion of loading a Trysail image into the buffer and computing I_TRY. -/
  | trysailLoadDone (r : ReadEnd)
  /-- TRYSAIL_SCRUB (R248): Background scrub read of the Trysail buffer. -/
  | trysailScrub (bad : Nat)
  /-- ESCALATION (R371): Expiry of the array escalation timer with a MAJOR or SAFETY source still set. -/
  | escalation
  /-- PARITY_SWEEP (R373): Background check of reaction register parity, setting PAR_ERR on failure. -/
  | paritySweep (bad : ParityUpsets)
  /-- BLOCK_RESET_DONE (R366): Completion of a block reset selected by a reaction. -/
  | blockResetDone (block : Fin 18)
  /-- CHIP_RESET (R367): Reset of the module once the log writer has written the clock's records. -/
  | chipReset
  /-- LOG_ENTRY_WRITE (R383): Writing of a queued record as a Keep log entry with read-back. -/
  | logEntryWrite (badReads ecc : Nat)
  /-- WATCHDOG_TIMEOUT (R387): Expiry of a core watchdog without a good kick. -/
  | watchdogTimeout (safety : Bool)
  /-- THERM_READING (R391): Completion of a sensor reading and its evaluation of substitution, levels and targets. -/
  | thermReading (id : SensorId) (reading : Option Int) (aux : Nat)
  /-- CLK_MONITOR_TRIP (R409): Trip of a monitored clock in a 2.0 µs window or after 0.2 µs without an edge. -/
  | clkMonitorTrip (c : MonClk)
  /-- PLL_UNLOCK (R410): Trip of a PLL lock detector while its source is good, with relock to the same source. -/
  | pllUnlock (b : Bool)
  /-- PLL_RELOCK_DONE (R410): Completion of a PLL relock, ending the coast. -/
  | pllRelockDone
  /-- PLL_RELOCK_TIMEOUT (R410): Failure of a 20 µs relock, coasting after the third. -/
  | pllRelockTimeout (b : Bool)
  /-- FBOSC_READY (R407): FBOSC within tolerance for 20 µs, so a coasting PLL can take it as reference. -/
  | fboscReady
  /-- PHY_LOOP_TIMING (R412): Switch of an ACTIVE port's transmitter to loop timing after REFOSC trips. -/
  | phyLoopTiming (p : HPort)
  /-- PHY_LOOP_RETURN (R412): Return of a loop-timed port to REFOSC after 1 ms of good REFOSC. -/
  | phyLoopReturn (p : HPort)
  /-- FBOSC_FAIL (R414): Trip of FBOSC, blanking every tile and making the beam state Dark. -/
  | fboscFail
  /-- ROW_MON (R415): ROW clock trip or a coast longer than 25 µs raising ROW_MON. -/
  | rowMon
  /-- DVFS_SETTLED (R421): Report by the VPIX regulator that it has settled after a ramp. -/
  | dvfsSettled
  /-- DVFS_RAMP_END (R421): End of a VPIX ramp, which may complete DVFS_SET. -/
  | dvfsRampEnd
  /-- DVFS_SETTLE_TIMEOUT (R422): Expiry of SETTLE_TO, ramping VPIX back and raising DVFS_FAIL. -/
  | dvfsSettleTimeout
  /-- POWER_ENTRY (R429): Entry to a lower power state once its waits are done, switching domains in order. -/
  | powerEntry
  /-- WAKE_PIN (R432): Enabled WAKE pin at its active level at two LPOSC edges, starting an exit. -/
  | wakePin (n : WakeLevel)
  /-- WAKE_STAGE_READY (R432): Ready report of a wake stage, moving the exit to the next stage or S0. -/
  | wakeStageReady (imgOk readOk : Bool)
  /-- WAKE_STAGE_TIMEOUT (R432): Timeout of a wake stage, retrying or powering down to S4 with WAKE_FAIL. -/
  | wakeStageTimeout
  /-- SAVE_SUPERVISOR_TRIP (R436): VHU falling below the SAVE threshold, triggering a save. -/
  | saveSupervisorTrip (mv : Supply)
  /-- PRESENT_N_REMOVED (R436): PRESENT_N high for 1.0 µs after READY, triggering a save. -/
  | presentNRemoved
  /-- SAVE_COMPLETE (R436): Completion of the save record write and read-back, parking the module in S5. -/
  | saveComplete (mv us : Nat) (good : Bool)
  /-- POR_TRIP (R435): VHU below the POR threshold, holding the module in reset. -/
  | porTrip
  /-- POR_RELEASE (R435): Release of reset after VHU has been above the rising threshold for 1 ms. -/
  | porRelease (mv : Supply)
  /-- VSUP_LOW (R435): Supervisor detecting VSUP below its low threshold. -/
  | vsupLow (mv : Supply)
  /-- VSUP_OV (R435): Supervisor detecting VSUP above its over-voltage threshold. -/
  | vsupOv (mv : Supply)
  /-- VREG_FAIL (R435): Internal regulator of a powered domain out of regulation. -/
  | vregFail (index : Fin 16)
  /-- PARKED_WAKE (R439): Wake of a parked module on VHU or PRESENT_N return, resuming from the S5 image or save record. -/
  | parkedWake
  /-- BOOT (R458): Boot sequence from power-on or reset to READY. -/
  | boot (b : BootEnv)
  /-- RESET_N_ASSERT (R442): RESET_N low beyond its filter, resetting the module. -/
  | resetNAssert
  /-- RESET_STUCK (R443): RESET_N low for longer than 5 s, declared stuck so the module boots. -/
  | resetStuck
  /-- RESET_N_IGNORE_END (R443): RESET_N high for 100 ms after a stuck declaration, clearing IGNORE. -/
  | resetNIgnoreEnd
  /-- OPSEC_TICK (R440): Count of an operating second, written to Keep every 256 s. -/
  | opsecTick
  /-- PRESENT_N_BOOT_BLANK (R518): PRESENT_N high before READY, putting every tile into its safe state without a save. -/
  | presentNBootBlank
  /-- PRESENT_N_BOOT_RESTORE (R518): PRESENT_N low again for 100 ms, ending the boot-time safe state. -/
  | presentNBootRestore
  /-- TEST_N_LOW (R519): TEST_N low for 10 µs, blanking every tile, making the beam Dark and stopping boot. -/
  | testNLow
  /-- EXTEST_LOAD (R520): Loading of EXTEST at Update-IR, making the beam state Dark until reset. -/
  | extestLoad
  /-- SIGNAL_DETECT (R543): Far-end signal for 2.0 µs on a port in DETECT, moving it to BASE. -/
  | signalDetect (p : HPort)
  /-- DETECT_BEACON (R543): Sending of a 20 µs beacon every 1 ms in DETECT. -/
  | detectBeacon (p : HPort)
  /-- PORT_LEAVE_OFF (R267): Port leaving OFF at boot step 9, on a role change or at an exit from S4 or S5. -/
  | portLeaveOff (p : HPort)
  /-- TRAIN_RECEIVE (R268): Receipt of a TRAIN packet, advancing LOCKED, negotiation and step state. -/
  | trainReceive (p : HPort)
  /-- BRINGUP_TIMEOUT (R267): Timeout in BASE, NEGOTIATE, STEP or BLIND, returning to DETECT, stepping down or re-entering BLIND. -/
  | bringupTimeout (p : HPort)
  /-- LCW_RECEIVE (R266): Receipt of a lane control word, updating lock, markers, LSTATE and STRIPE. -/
  | lcwReceive (p : HPort) (lane : Fin 2) (lead line : List Bool)
  /-- LOSS_OF_SIGNAL (R266): Loss of signal on a locked lane, losing lock. -/
  | lossOfSignal (p : HPort) (lane : Fin 2)
  /-- LINK_WAKE (R281): Signal on a port in SLACK or FURLED for 2.0 µs, waking the module. -/
  | linkWake (p : HPort)
  /-- PACKET_RECEIVE (R287): Delineation, trailer, type and sequence checks of a received packet. -/
  | packetReceive (p : HPort) (line : LaneBits)
  /-- CMD_RECEIVE (R298): Checks of a received CMD and fast-path execution or acceptance for the slow path. -/
  | cmdReceive (p : HPort)
  /-- SLOW_PATH_EXECUTE (R299): Execution of the next pending slow-path command, completing with EV_CMD_DONE. -/
  | slowPathExecute (run : CoreRun)
  /-- LAYER_DATA_RECEIVE (R140): Storing of a LAYER_DATA packet into a loading buffer and its validation at the end. -/
  | layerDataReceive (p : HPort)
  /-- RECORD_LOAD_DONE (R140): End of a buffer's DMA from a record with its CRC-32C check. -/
  | recordLoadDone (r : ReadEnd)
  /-- SYNC_RECEIVE (R343): Receipt of a SYNC, measuring the offset and running the servo. -/
  | syncReceive (p : HPort)
  /-- PDELAY_REQ_RECEIVE (R340): Receipt of a PDELAY_REQ, answered with a PDELAY_RESP within 10 µs. -/
  | pdelayReqReceive (p : HPort)
  /-- PDELAY_RESP_RECEIVE (R342): Receipt of a matching PDELAY_RESP, computing the mean path delay. -/
  | pdelayRespReceive (p : HPort)
  /-- PDELAY_REQ_SEND (R340): Sending of a PDELAY_REQ every PDELAY_INT. -/
  | pdelayReqSend (p : HPort)
  /-- LEADER_SYNC_SEND (R352): Sending of a SYNC by a leader on H1 every LSYNC. -/
  | leaderSyncSend
  /-- FLIP_NOTICE_RECEIVE (R352): Receipt of a FLIP_NOTICE by a follower, aligning its flip instant. -/
  | flipNoticeReceive (p : HPort)
  /-- FORWARD_RECEIVE (R309): Unwrapping of a FORWARD packet by a leader and sending of the inner packet on H1. -/
  | forwardReceive
  /-- FOLLOWER_PACKET_WRAP (R310): Wrapping of a follower's packet into a FORWARD on H0. -/
  | followerPacketWrap
  /-- PACKET_SEND (R296): Choosing and sending the next outgoing packet by queue priority. -/
  | packetSend (p : HPort) (start : Nat)
  /-- SESSION_IDLE_TIMEOUT (R308): Expiry of the session idle time, ending the session. -/
  | sessionIdleTimeout
  /-- SESSION_LOCKOUT_END (R307): End of the 10 s session lockout. -/
  | sessionLockoutEnd
  /-- TIME_TICK (R337): Advance of each domain counter by INC and of WK_OFS towards 0. -/
  | timeTick (n : Nat)
  /-- NS_WRAP (R338): Wrap of a domain's NS, setting WRAP_PEND and queuing EV_TIME_WRAP. -/
  | nsWrap (d1 : Bool)
  /-- SYNC_TIMEOUT (R344): Expiry of SYNC_TO without a used SYNC, entering HOLDOVER. -/
  | syncTimeout (d1 : Bool)
  /-- TPULSE_RISE (R353): Rising edge of a timed pulse at its scheduled working time. -/
  | tpulseRise (out1 : Bool)
  /-- TPULSE_FALL (R353): Falling edge of a timed pulse after WIDTH_NS. -/
  | tpulseFall (out1 : Bool)
  /-- TCAPT_EDGE (R354): Rising edge on TCAPT, capturing working time. -/
  | tcaptEdge
  /-- XMEM_WORK_SERVE (R466): Start of the next external-memory operation by work class. -/
  | xmemWorkServe
  /-- ERASE_SUSPEND (R467): Suspension of an erase for a waiting foreground request and its later resumption. -/
  | eraseSuspend
  /-- LOG_FLUSH (R468): Writing of Keep log entries to the LOG region. -/
  | logFlush (res block : Nat)
  /-- DEADMAP_WRITE (R469): Writing of a dead-map snapshot to the DEADMAP region. -/
  | deadmapWrite (res block : Nat)
  /-- SCRUB (R470): Full read of directory entries with NAND refresh and bad-block remapping. -/
  | scrub (refresh : List (Bool × Nat))
  /-- MEM_CMD_TIMEOUT (R471): MEM command not complete after 200 ms, completing with TIMEOUT. -/
  | memCmdTimeout (n : Nat)
  /-- KEEP_MIRROR_WRITE (R474): Writing of the KEEP_MIRROR record. -/
  | keepMirrorWrite (res block : Nat)
  /-- LEGACY_FRAME (R492): Receipt of a legacy SPI frame, executed if valid, replied to in the next frame. -/
  | legacyFrame (edges : Nat) (w : Word) (early : Bool)
  /-- GCUR_WRITE (R495): Legacy write to GCUR, setting range, GTRIM and the legacy current code. -/
  | gcurWrite (v : BitVec 16)
  /-- TCUR_WRITE (R496): Legacy write to a TCUR register, switching tiles off or setting their trim. -/
  | tcurWrite (n : Fin 32) (v : BitVec 16)
  /-- LEGACY_MODE_WRITE (R505): Legacy write of MODE, acting as POWER_STATE S0, S1 or S2. -/
  | legacyModeWrite (v : BitVec 16)
  /-- KEY_WRITE (R508): Legacy write to KEY, unlocking extended compatibility after 0x5A5A then 0xA5A5. -/
  | keyWrite (v : BitVec 16)
  /-- FAULT_READ (R503): Legacy read of FAULT that clears and acknowledges the returned bits. -/
  | faultRead
  /-- LEGACY_CLEAR_ON_READ (R503): Legacy read of VERR, VDROP or a TFLT register that clears the returned value. -/
  | legacyClearOnRead (a : BitVec 7)
  /-- ROW_CELL_RECEIVE (R499): Receipt of a legacy row cell, storing or discarding it in the frame in progress. -/
  | rowCellReceive (line : List Bool)
  /-- VIDEO_LOCK_TIMEOUT (R499): 10 ms without a row-cell header, clearing VID_LOCK. -/
  | videoLockTimeout
  /-- TUNNEL_TRANSACTION (R509): Receipt of a tunnel transaction on the control SPI port carrying one native packet. -/
  | tunnelTransaction (edges : Nat) (ws : List Word)
  /-- SAFE_N_HIGH (R251): SAFE_N returning high beyond its filter time, so that SAFE_N_LEVEL reads 1 and NORMAL is no longer refused for SAFE_N low. -/
  | safeNHigh
  /-- CLK_MONITOR_GOOD (R409): A monitored clock's window count back within tolerance, clearing its FAILED bit and setting REF_OK, LINK_OK or FBOSC good again. -/
  | clkMonitorGood (c : MonClk)
  /-- XMEM_OPERATION_DONE (R471): Completion of an external-memory read, program or erase, ending MEM_READ, MEM_WRITE, MEM_ERASE, FW_UPDATE or a reload with its result. -/
  | xmemOperationDone (res n block : Nat) (refresh : List (Bool × Nat))
  /-- TAP_TCK_EDGE (R520): A rising edge on TCK, which steps the IEEE 1149.1 test access port, shifts its registers and counts the five TMS-high cycles that reset it. -/
  | tapTckEdge (tms tdi : Bool)
  /-- VSUP_LOW_CLEAR (R435): VHU rising back through 3.00 V, clearing the VSUP_LOW level in PWR. -/
  | vsupLowClear (mv : Supply)
deriving DecidableEq, Repr

end Sys2Proof
end

