-- ==== Sys2Proof/Config.lean ====
section
/-! DEFINITION. The values the spec leaves open: opaque functions without a body, applied to a counter
of State or to the operands they depend on, so that nothing can be proved of a particular value. -/

namespace Sys2Proof.Config

/-- A fresh random number below 65535; a session ID is this plus 1, so it is never 0 (R306). -/
opaque sessionDraw : Nat → Fin 65535

/-- The 128 bits drawn from the internal random source for a challenge (R306). -/
opaque challenge : Nat → BitVec 128

/-- A byte of Keep whose contents the spec does not lay out, by the number of S5 images written so far and its
address (Table 17.11). -/
opaque keepByte : Nat → Nat → BitVec 8

/-- Byte 0 to 15 of the module serial, an arbitrary value (R473). -/
opaque serialByte : Nat → BitVec 8

/-- A byte of a save record whose place in the record the spec does not give, by the values the record holds and its
offset (Table 16.9). -/
opaque saveByte : List Nat → Nat → BitVec 8

/-- The size of a retention image in bytes, at most 14,336, by whether it holds every register of the retention list
(R434, Table 16.12). -/
opaque imageBytes : Bool → Fin 14337

/-- SHA-256 of a message (R462), which the model does not compute. -/
opaque sha256 : List (BitVec 8) → BitVec 256

/-- The ECDSA P-256 signature r, s in 64 bytes verifies against the public key in the boot ROM over a digest (R462), which the
model does not compute. -/
opaque signatureGood : BitVec 256 → List (BitVec 8) → Bool

/-- The boundary-scan cell of output contact `k` of Table 20.4, whose place the spec does not give (R520). -/
opaque bsrCell : Nat → Fin 31

/-- What a boundary-scan cell holds before its first load (R520). -/
opaque bsrReset : Nat → Bool

/-- The NTC temperature in 1/16 degree that a resistance in ohms converts to with NTC_B and NTC_R25, a word as Table 14.6 lays
them out; the spec gives no formula. -/
opaque ntcTemp : Nat → BitVec 32 → Int

/-- Unstated word values, one for each draw of the model's counter. -/
opaque freeWord : Nat → BitVec 32

/-- Unstated bits, one for each draw of the model's counter. -/
opaque freeBit : Nat → Bool

end Sys2Proof.Config
end

