-- ==== Sys2Proof/Machine/State.lean ====
section
/-! DEFINITION. The state of the block: every register, buffer, counter, mode and pin of the spec, by block,
with its reset value as the default of its field; the reasons a step can stop; and the state after reset.
Each field's docstring names the register, its width and the rule or table of spec/ that gives it. -/

namespace Sys2Proof.Machine

/-! ### Names of the states of Tables 01.6 -/

/-- Interface mode (R5, R40; 01). -/
inductive IfMode where
  | native | compat | compatExt
deriving DecidableEq, Repr

/-- Power states S0 to S5 (Table 01.8; 16). -/
inductive PState where
  | s0 | s1 | s2 | s3 | s4 | s5
deriving DecidableEq, Repr

/-- Beam state (Table 01.6). -/
inductive Beam where
  | normal | trysail | dark
deriving DecidableEq, Repr

/-- Beam class, in the order of its codes (R230; 08). -/
inductive BClass where
  | low | high | adaptive | signal
deriving DecidableEq, Repr

/-- Association lists with rising keys: a sparse table over natural numbers. -/
abbrev Sparse (α : Type) := List (Nat × α)

/-- A code pair of a pixel latch, c in 0..63 and d in 0..1023 (R48; 02). -/
structure Code where
  c : BitVec 6 := 0
  d : BitVec 10 := 0
deriving DecidableEq, Repr

/-- SCAN: the stroke sequencer (02). -/
structure Scan where
  /-- SCAN_CTRL as last written, 32 bits (Table 02.6, R69) -/
  ctrl : BitVec 32 := 0x7072
  /-- RATE code in effect, taken from SCAN_CTRL at a flip instant (R69) -/
  rateAct : BitVec 2 := 2
  /-- N_f minus 1 in effect (R69) -/
  nfAct : BitVec 5 := 7
  /-- LEAD minus 1 in effect (R69, R50) -/
  leadAct : BitVec 5 := 7
  /-- FLIP_H as sampled at the last compose point (R69) -/
  flipH : Bool := false
  /-- FLIP_V as sampled at the last compose point (R69) -/
  flipV : Bool := false
  /-- GAPLESS as sampled at the last compose point (R63) -/
  gaplessSmp : Bool := false
  /-- SCAN_STATUS.GAPLESS_ACT, 1 bit (Table 02.7, R63) -/
  gaplessAct : Bool := false
  /-- SCAN_STATUS.PHASE_LOCK, 1 bit (Table 02.7, R350) -/
  phaseLock : Bool := false
  /-- SCAN_STATUS.FORCED_GAP, 1 bit (Table 02.7, R64) -/
  forcedGap : Bool := false
  /-- SCAN_STATUS.CFG_ERR, 1 bit (Table 02.7) -/
  cfgErr : Bool := false
  /-- SCAN_STATUS.DEFER_CNT, 12 bits (Table 02.7, R64) -/
  deferCnt : Nat := 0
  /-- SCAN_STROKE_CNT, 32 bits (Table 02.8, R68) -/
  strokeCnt : BitVec 32 := 0
  /-- SCAN_FRAME_CNT, 24 bits (Table 02.8, R68) -/
  frameCnt : BitVec 24 := 0
  /-- SCAN_OVERRUN_CNT, saturating 16 bits (Table 02.8, R57) -/
  overrunCnt : Nat := 0
  /-- ROWS_LAST, 0..1024 (Table 02.8) -/
  rowsLast : Nat := 0
  /-- SEGS_LAST, saturating 15 bits (Table 02.8) -/
  segsLast : Nat := 0
  /-- SCAN_WRITE_MARGIN in microseconds, saturating 16 bits (Table 02.8) -/
  writeMargin : Nat := 0
  /-- model time, in 4 ns ticks, of the last segment write of the frame (Table 02.8) -/
  lastWrite : Nat := 0
  /-- SCAN_FORCED_CNT, saturating 16 bits (Table 02.8, R64) -/
  forcedCnt : Nat := 0
  /-- strokes of the current frame that have started, 0..32 (R47) -/
  strokeInFrame : Nat := 0
  /-- the stroke in progress is gapless (R46, R63) -/
  strokeGapless : Bool := false
  /-- the stroke in progress has a forced full gap (R64) -/
  strokeForced : Bool := false
  /-- the gap of the stroke in progress has started (R45) -/
  inGap : Bool := false
  /-- next row to be written in full, 0..1023 (R55) -/
  fullRow : Nat := 0
  /-- the next frame is written with every segment dirty (R54) -/
  allDirtyNext : Bool := true
  /-- segments written so far in the current frame (R53): segment keys 16y+j -/
  segsWritten : List Nat := []
  /-- working time in whole ns at the last stroke start, 48 bits (R350) -/
  strokeAt : Nat := 0
  /-- gap trim of the stroke in progress in ROW clocks, -32..+32 (R350) -/
  gapTrim : Int := 0
  /-- model time, in 4 ns ticks, of the last stroke start, from which the slots count (R43, R44) -/
  strokeTick : Nat := 0
  /-- model time, in 4 ns ticks, of the last gap start, from which Table 02.2 counts (R45, R46) -/
  gapTick : Nat := 0
  /-- time in ns that a slip inserts in the gap of the stroke in progress, 0 where it has none (R351) -/
  slipNs : Nat := 0
  /-- nominal period of the stroke in progress in 1/3 ns (R42, R350) -/
  strokeP3 : Nat := 0
  /-- working time of the last flip instant in 1/3 ns (R355) -/
  lastFlip3 : Nat := 0
deriving DecidableEq, Repr

/-- One tile of ARRAY (03): control, status, measurements, and the causes of its safe state. -/
structure Tile where
  /-- TILE_CTRL.ON, 1 bit (Table 03.9) -/
  on : Bool := false
  /-- RANGE as last written, 2 bits (Table 03.9) -/
  range : BitVec 2 := 3
  /-- TTRIM as last written, 8 bits (Table 03.9) -/
  ttrim : BitVec 8 := 128
  /-- RANGE sampled at the last compose point (R86) -/
  rangeSmp : BitVec 2 := 3
  /-- TTRIM sampled at the last compose point (R86) -/
  ttrimSmp : BitVec 8 := 128
  /-- RANGE in effect (R86) -/
  rangeAct : BitVec 2 := 3
  /-- TTRIM in effect (R86) -/
  ttrimAct : BitVec 8 := 128
  /-- stored TILE_CTRL parity bit is wrong (R539); not visible -/
  parityBad : Bool := false
  /-- TILE_STATUS.HEAD_VALID (Table 03.10, R91) -/
  headValid : Bool := false
  /-- TILE_STATUS.HEAD_LOW (Table 03.10, R91) -/
  headLow : Bool := false
  /-- TILE_STATUS.PARITY (Table 03.10, R539) -/
  parity : Bool := false
  /-- TILE_STATUS.NO_SUPPLY (Table 03.10, R90) -/
  noSupply : Bool := false
  /-- TILE_STATUS.OC_TRIP (Table 03.10, R84) -/
  ocTrip : Bool := false
  /-- TILE_STATUS.SW_CLOSED (Table 03.10, R81) -/
  swClosed : Bool := false
  /-- TILE_HEADROOM in mV, 13 bits (Table 03.11, R91) -/
  headroom : Nat := 0
  /-- TILE_RAIL in mV, 13 bits (Table 03.11) -/
  rail : Nat := 0
  /-- TILE_CURRENT in 0.1 mA, 12 bits (Table 03.11) -/
  current : Nat := 0
  /-- TILE_OC_CNT, saturating 8 bits (Table 03.11, R84) -/
  ocCnt : Nat := 0
  /-- held off by the TILE_OFF reaction of the per-tile sources listed (Table 03.3, R368) -/
  tileOff : List (Nat × Nat) := []
  /-- tile at its SHUTDOWN level (Table 03.3, R394) -/
  shutdown : Bool := false
  /-- SW_FAIL: switch test failed (Table 03.3, R213) -/
  swFail : Bool := false
  /-- SW_STUCK: switch stuck closed (R213) -/
  swStuck : Bool := false
  /-- TILE_BAD: declared faulty by diagnosis (Table 03.3, R218) -/
  tileBad : Bool := false
  /-- TILE_OC is raised at the start of the next gap (R84, Table 03.5) -/
  ocPend : Bool := false
  /-- segments of the tile to be marked dirty at the next compose point (R81) -/
  markDirty : Bool := false
  /-- RANGE in effect in the stroke whose gap is in progress (R75, R86) -/
  rangeShone : BitVec 2 := 3
deriving DecidableEq, Repr

/-- ARRAY: pixel latches, tiles and supply request (03). -/
structure Arr where
  /-- the 256 tiles (R18, R97) -/
  tiles : List Tile := List.replicate 256 {}
  /-- next latches by pixel number 1024y+x; absent is (0, 0) (R48, R76) -/
  next : Sparse Code := []
  /-- live latches by pixel number; absent is (0, 0) (R48, R76) -/
  live : Sparse Code := []
  /-- the live codes that emitted in the stroke whose gap is in progress, as they stood at its gap start (R77, R206) -/
  shone : Sparse Code := []
  /-- D_MIN of that stroke (R208) -/
  shoneMin : Nat := 2
  /-- regulation latches set, pixel numbers (R77) -/
  regLatch : List Nat := []
  /-- node latches set, pixel numbers (R77) -/
  nodeLatch : List Nat := []
  /-- GTRIM as last written, 8 bits (Table 03.12) -/
  gtrim : BitVec 8 := 128
  /-- GTRIM sampled at the last compose point (R86) -/
  gtrimSmp : BitVec 8 := 128
  /-- GTRIM in effect (R86) -/
  gtrimAct : BitVec 8 := 128
  /-- ARRAY_STATUS.SNS_USED (Table 03.13, R89) -/
  snsUsed : Bool := false
  /-- ARRAY_STATUS.SNS_FAULT (Table 03.13, R89) -/
  snsFault : Bool := false
  /-- ARRAY_STATUS.VLED_HIGH (Table 03.13, R90) -/
  vledHigh : Bool := false
  /-- ARRAY_STATUS.VLED_LOW (Table 03.13, R90) -/
  vledLow : Bool := false
  /-- ARRAY_STATUS.VLED_OK (Table 03.13, R90) -/
  vledOk : Bool := false
  /-- the previous measurement was above 4.75 V (R90) -/
  vledWasHigh : Bool := false
  /-- VLED_DIE in mV, 13 bits (Table 03.14) -/
  vledDie : Nat := 0
  /-- VLED in mV, 13 bits (Table 03.14, R89) -/
  vled : Nat := 0
  /-- HMIN_VALID (Table 03.14) -/
  hminValid : Bool := false
  /-- HMIN_TILE, 8 bits (Table 03.14) -/
  hminTile : Nat := 0
  /-- H_MIN in mV, 13 bits (Table 03.14, R92) -/
  hmin : Nat := 0
  /-- ARRAY_VADJ_CFG: STEP_DN, STEP_UP, H_TARGET, 32 bits (Table 03.15) -/
  vadjCfg : BitVec 32 := 0x005281C2
  /-- ARRAY_VADJ_LIM: VADJ_MAX, VADJ_MIN, 32 bits (Table 03.15, R99) -/
  vadjLim : BitVec 32 := 0x11940BB8
  /-- CODE of VLED_ADJ, 12 bits (Table 03.15, R92) -/
  code : Nat := 2550
  /-- CODE computed in the last gap (R92, R93) -/
  codeNext : Nat := 2550
  /-- tick of the first PWM period after that gap, at which it becomes CODE (R93) -/
  codeDue : Option Nat := none
  /-- REQ in mV, 13 bits (Table 03.15, R92) -/
  req : Nat := 4500
  /-- ARRAY_RAIL_CFG: V_OFF, H_LOW, 32 bits (Table 03.15) -/
  railCfg : BitVec 32 := 0x003E812C
  /-- ITOTAL in mA, 16 bits (Table 03.15) -/
  itotal : Nat := 0
deriving DecidableEq, Repr

/-- Light pipeline registers of one engine as written or as sampled (04). -/
structure LpRegs where
  /-- LP_CTRL, 32 bits (Table 04.7) -/
  ctrl : BitVec 32 := 0x3110
  /-- I_BUDGET in mA, 14 bits (Table 04.9) -/
  iBudget : BitVec 14 := 6000
  /-- B_INIT, 17 bits (Table 04.9) -/
  bInit : BitVec 17 := 16384
  /-- TGAIN of each tile, 16 bits; absent is 16384 (Table 04.10) -/
  tgain : Sparse (BitVec 16) := []
  /-- curve points P[k] of tile t at 8t+k, 16 bits; absent is 16384 (Table 04.10) -/
  tcurve : Sparse (BitVec 16) := []
deriving DecidableEq, Repr

/-- Light pipeline of one engine (04). -/
structure Lp where
  /-- registers as last written (R105) -/
  reg : LpRegs := {}
  /-- registers as sampled at the last compose point (R103) -/
  smp : LpRegs := {}
  /-- LP_STATUS.PEND (Table 04.8, R105) -/
  pend : Bool := false
  /-- LP_STATUS.CAL_ECC (Table 04.8, R107) -/
  calEcc : Bool := false
  /-- LP_STATUS.PRED_OVER (Table 04.8, R119) -/
  predOver : Bool := false
  /-- LP_STATUS.FACTOR_MOVED (Table 04.8, R128) -/
  factorMoved : Bool := false
  /-- LP_STATUS.TGAIN_VALID (Table 04.8) -/
  tgainValid : Bool := false
  /-- LP_STATUS.TCURVE_VALID (Table 04.8) -/
  tcurveValid : Bool := false
  /-- I_PRED in mA, 16 bits (Table 04.9, R114) -/
  iPred : Nat := 0
  /-- B_PREV: budget factor of the frame that I_PRED describes (R116, R117) -/
  bPrev : Nat := 16384
  /-- B_ACT, 0..65536 (Table 04.9, R113) -/
  bAct : Nat := 16384
  /-- LP_STATUS.BUDGET_LIMIT, set with B_ACT (Table 04.8) -/
  budgetLimit : Bool := false
  /-- B_TGT, 0..65536 (Table 04.9, R116) -/
  bTgt : Nat := 65536
  /-- R_GLOB_ACT, 0..65536 (Table 04.9, R113) -/
  rGlobAct : Nat := 65536
  /-- DEAD_USED, 21 bits (Table 04.9, R120) -/
  deadUsed : Nat := 0
  /-- LP_CAL_ECC_CNT, saturating 16 bits (Table 04.9, R107) -/
  calEccCnt : Nat := 0
  /-- R_TILE_ACT of each tile; absent is 65536 (Table 04.10) -/
  rTileAct : Sparse Nat := []
  /-- TCOMP_ACT of each tile; absent is 16384 (Table 04.10) -/
  tcompAct : Sparse Nat := []
  /-- sum of c times d per tile of the frame being composed (R114) -/
  sumCd : Sparse Nat := []
  /-- no frame has been composed since reset or an exit from S4 or S5 (R131) -/
  freshStart : Bool := true
  /-- no frame has been composed since an exit from S2 or S3 (R131) -/
  deepExit : Bool := false
deriving DecidableEq, Repr

/-- A layer descriptor: LYR_CTRL, LYR_SRC_POS, LYR_SRC_SIZE, LYR_DST_POS, LYR_DST_SIZE, LYR_FILL and LYR_FENCE (Tables 05.8 and 05.9). -/
structure LayerDesc where
  /-- LYR_CTRL, 32 bits (Table 05.8) -/
  ctrl : BitVec 32 := 0x00FF0100
  /-- LYR_SRC_POS, 32 bits (Table 05.9) -/
  srcPos : BitVec 32 := 0
  /-- LYR_SRC_SIZE, 32 bits (Table 05.9) -/
  srcSize : BitVec 32 := 0x04000400
  /-- LYR_DST_POS, 32 bits (Table 05.9) -/
  dstPos : BitVec 32 := 0
  /-- LYR_DST_SIZE, 32 bits (Table 05.9) -/
  dstSize : BitVec 32 := 0x04000400
  /-- LYR_FILL, 16 bits (Table 05.9) -/
  fill : BitVec 16 := 0
  /-- ACTION and TIMEOUT of LYR_FENCE, 10 bits (Table 05.9) -/
  actTo : BitVec 10 := 0
deriving DecidableEq, Repr

/-- A pending arm of a layer (R144 to R146). -/
structure Arm where
  /-- staged descriptor taken by the arm (R144) -/
  desc : LayerDesc := {}
  /-- buffer named by the arm, 0..63 (R145) -/
  buf : Nat := 0
  /-- the arm waits on a fence (R145) -/
  useFence : Bool := false
  /-- fence, 5 bits (Table 05.9) -/
  fence : Nat := 0
  /-- wait value, 16 bits (Table 05.9) -/
  waitVal : BitVec 16 := 0
  /-- made with HOLD and not yet released by FLIP (R161) -/
  held : Bool := false
  /-- wait count, 8 bits (R162) -/
  waitCnt : Nat := 0
  /-- the fence timeout has made the arm count as ready (R160, Table 05.3) -/
  forced : Bool := false
  /-- the layer blanks when it moves to this arm (BLANK_LAYER, Table 05.3) -/
  blanks : Bool := false
deriving DecidableEq, Repr

/-- A placement of a sprite layer: LYR_SPR words +0 and +4 (Table 05.10). -/
structure Placement where
  /-- LEVEL, EN and SPRITE, 32 bits (Table 05.10) -/
  w0 : BitVec 32 := 0
  /-- Y and X, 32 bits (Table 05.10) -/
  w1 : BitVec 32 := 0
deriving DecidableEq, Repr

/-- One layer of one engine (05). -/
structure Layer where
  /-- staged descriptor (R144) -/
  staged : LayerDesc := {}
  /-- descriptor in effect (R147) -/
  act : LayerDesc := {}
  /-- ACT_BUF, none reads 0xFF (Table 05.9) -/
  actBuf : Option Nat := none
  /-- pending arm (R146); FENCE, WAIT_VAL, PEND_BUF and WAIT_CNT are read from it -/
  arm : Option Arm := none
  /-- BLANK (Table 05.9, R162) -/
  blank : Bool := false
  /-- READY (Table 05.9, R160) -/
  ready : Bool := true
  /-- placements in effect, by m; absent is zero (R157) -/
  spr : Sparse Placement := []
  /-- pending placements, by m (R158) -/
  sprPend : Sparse Placement := []
  /-- placements as last written, by m (Table 05.10) -/
  sprReg : Sparse Placement := []
deriving DecidableEq, Repr

/-- Composition state of one engine (05). -/
structure Comp where
  /-- ENG_CMP_CTRL as last written, 32 bits (Table 05.5) -/
  ctrl : BitVec 32 := 0x10010000
  /-- ENG_CMP_CTRL as sampled at the last compose point (R143) -/
  ctrlSmp : BitVec 32 := 0x10010000
  /-- ENG_CMP_STATUS.PEND (Table 05.6, R143) -/
  pend : Bool := false
  /-- HOLD_CNT, 8 bits (Table 05.6, R170) -/
  holdCnt : Nat := 0
  /-- ENG_CMP_STATUS.HOLD (Table 05.6, R170) -/
  hold : Bool := false
  /-- READY_MAP, bit n for layer n, 8 bits (Table 05.6) -/
  readyMap : Nat := 0
  /-- a fence timeout or a cancellation has applied since the last compose point that looked for a content change (R169) -/
  moved : Bool := false
  /-- ENG_CMP_LOAD.LAST, 24 bits (Table 05.7, R156) -/
  loadLast : Nat := 0
  /-- ENG_CMP_LOAD.ARMED, 24 bits (Table 05.7, R156) -/
  loadArmed : Nat := 1048576
  /-- COMPOSE_TIME in microseconds, saturating 16 bits (Table 05.7) -/
  composeTime : Nat := 0
  /-- ENG_WB_CTRL, 32 bits (Table 05.7, R165) -/
  wbCtrl : BitVec 32 := 0
  /-- current write-back buffer, none reads 0xFF (Table 05.7, R166) -/
  wbCur : Option Nat := none
  /-- write-back buffer the frame in progress is written to (R165) -/
  wbTarget : Option Nat := none
  /-- frames until the next write-back is due (R165) -/
  wbCount : Nat := 0
  /-- a write-back with PERIOD 0 has been made (R165) -/
  wbDone : Bool := false
  /-- SKIP_CNT, saturating 8 bits (Table 05.7, R168) -/
  skipCnt : Nat := 0
  /-- ENG_WB_CRC, 32 bits (Table 05.7, R166) -/
  wbCrc : BitVec 32 := 0
  /-- port that issued WRITEBACK (R168); 0 H0, 1 H1, 2 control SPI -/
  wbPort : Nat := 0
  /-- the eight layers (Tables 05.8 to 05.10) -/
  layers : List Layer := List.replicate 8 {}
deriving DecidableEq, Repr

/-- What the compose point samples for the frame then composed, beside the registers (R103). -/
structure Job where
  /-- a frame is being composed or awaits its flip instant (R51) -/
  active : Bool := false
  /-- composition has ended (R166) -/
  ended : Bool := false
  /-- rows completed, 0..1024 (R540) -/
  rows : Nat := 0
  /-- sampled FLIP_H (R69) -/
  flipH : Bool := false
  /-- sampled FLIP_V (R69) -/
  flipV : Bool := false
  /-- effective vertical aim of the frame, rows (R231) -/
  aimV : Int := 0
  /-- effective horizontal aim of the frame, columns (R231) -/
  aimH : Int := 0
  /-- the frame was composed for gapless strokes (R114) -/
  gapless : Bool := false
  /-- dead pixels sampled (R120), pixel numbers -/
  dead : List Nat := []
  /-- tiles in their safe state at the compose point (R103, R114) -/
  safe : List Nat := []
  /-- stage-5 factor (R116) -/
  bFac : Nat := 16384
  /-- stage-3 gain of each tile; absent is 16384 (R110) -/
  fTile : Sparse Nat := []
  /-- stage-4 factor of each tile; absent is 65536 (R112) -/
  rTile : Sparse Nat := []
  /-- segments of the frame that a rule marks dirty (R54, R55, R81, R236, R190) -/
  marks : List Nat := []
  /-- store words that met an uncorrectable error in the frame, with the array row whose composition fetched them (R142) -/
  badWords : List (Nat × (Nat × Nat)) := []
  /-- pixels whose calibration word met an uncorrectable error in the frame (R107) -/
  badCal : List Nat := []
deriving DecidableEq, Repr

/-- Engine roles (Table 06.1). -/
inductive Role where
  | active | standby | failed | permFailed
deriving DecidableEq, Repr

/-- Engine health and heartbeat (06). -/
structure Health where
  /-- ROLE, 2 bits (Table 06.5); 0 in ENG_A, 1 in ENG_B -/
  role : Role := .active
  /-- TEST_RESULT, 2 bits (Table 06.5) -/
  testResult : Nat := 0
  /-- ATTEMPTS, 2 bits (Table 06.5, R197) -/
  attempts : Nat := 0
  /-- STEP, 3 bits (Table 06.5, Table 06.4) -/
  step : Nat := 0
  /-- LAST_FAIL, 2 bits (Table 06.5) -/
  lastFail : Nat := 0
  /-- MATCH_RUN, saturating 16 bits (Table 06.6) -/
  matchRun : Nat := 0
  /-- MATCH_TOTAL, saturating 32 bits (Table 06.6) -/
  matchTotal : Nat := 0
  /-- LATE_CNT, saturating 16 bits (Table 06.6) -/
  lateCnt : Nat := 0
  /-- MISMATCH_CNT, saturating 16 bits (Table 06.6) -/
  mismatchCnt : Nat := 0
  /-- TEST_FRAME, 24 bits (Table 06.6) -/
  testFrame : BitVec 24 := 0
  /-- HB_MISS_CNT, saturating 16 bits (Table 06.6) -/
  hbMissCnt : Nat := 0
  /-- sequence number of the previous token, 8 bits; none before the first (R183) -/
  hbPrev : Option (BitVec 8) := none
  /-- a strobe awaits its token (R183) -/
  hbWaiting : Bool := false
  /-- consecutive unanswered strobes (R185) -/
  hbMisses : Nat := 0
  /-- a token that ENG_HB_LOST's force bit suppressed would have answered one of them (R377, Table 13.11) -/
  hbHeard : Bool := false
  /-- ERR bit of the last token (R183) -/
  tokenErr : Bool := false
  /-- the last composed frame was late (R182) -/
  lateLast : Bool := false
  /-- a row of the frame in progress compared unequal (R181) -/
  frameBad : Bool := false
  /-- rows compared equal in the frame in progress (R181) -/
  rowsEqual : Nat := 0
  /-- TAG of the ENGINE_HEALTH command that started the resynchronisation, 0 otherwise (R325) -/
  runTag : BitVec 8 := 0
  /-- the error line is asserted by a block reset of the engine (Table 13.3) -/
  resetErr : Bool := false
  /-- frames shadowed in step 4, the first not counted (Table 06.4) -/
  shadowed : Nat := 0
deriving DecidableEq, Repr

/-- One compositor engine with its light pipeline, row writer and health (04 to 06). -/
structure Engine where
  /-- composition state (05) -/
  comp : Comp := {}
  /-- light pipeline (04) -/
  lp : Lp := {}
  /-- health registers (06) -/
  health : Health := {}
  /-- what the frame in progress sampled (R103) -/
  job : Job := {}
  /-- code words of the completed rows of the frame in progress (R540) -/
  codes : Sparse Code := []
  /-- row signatures of the frame in progress, 32 bits each, by row (R180) -/
  rowSig : Sparse (BitVec 32) := []
  /-- segment table: signature of the last codes written, by segment 16y+j (R53) -/
  segSig : Sparse (BitVec 32) := []
  /-- signatures of the segments of the frame in progress, by segment (R53) -/
  newSig : Sparse (BitVec 32) := []
  /-- dirty segments of the frame not yet written, by segment (R53) -/
  dirty : List Nat := []
  /-- segments to be written first after an overlap (R192) -/
  overlapFirst : List Nat := []
  /-- the stroke after the overlap has started: those segments go ahead of every other one (R192) -/
  overlapDue : Bool := false
deriving DecidableEq, Repr

/-- State of a store buffer (R138). -/
inductive BufState where
  | free | loading | complete | invalid
deriving DecidableEq, Repr

/-- One buffer of the layer store (Table 05.12). -/
structure Buffer where
  /-- STATE, 4 bits (Table 05.12) -/
  state : BufState := .free
  /-- FORMAT, 4 bits (Table 05.12) -/
  format : Nat := 0
  /-- width, 14 bits (Table 05.12) -/
  w : Nat := 0
  /-- height, 14 bits (Table 05.12) -/
  h : Nat := 0
  /-- PAGES, 8 bits (Table 05.12) -/
  pages : Nat := 0
  /-- SOURCE: 0 link, 1 record, 2 write-back (Table 05.12) -/
  source : Nat := 0
  /-- size in bytes (R141) -/
  size : Nat := 0
  /-- FILL: write pointer, 32 bits (Table 05.12, R140) -/
  fill : Nat := 0
  /-- CRC: running CRC-32, 32 bits (Table 05.12) -/
  crc : BitVec 32 := 0
  /-- expected check value, if LAYER_LOAD gave one (R140) -/
  expect : Option (BitVec 32) := none
  /-- external record loaded from, for the reload of R173 -/
  record : Option Nat := none
  /-- byte offset in that record (R455) -/
  recOff : Nat := 0
  /-- TAG of the LAYER_LOAD that loads it, for EV_BUFFER_DONE (R325) -/
  tag : BitVec 8 := 0
  /-- it is being sent to the head-end (R139, R168) -/
  sending : Bool := false
  /-- it is freed when its last word has been sent (R165, R168) -/
  freeDue : Bool := false
  /-- contents in offset order; an absent byte is 0 and no complete buffer shows one -/
  bytes : List Host.Cell := []
deriving DecidableEq, Repr

/-- STORE: the layer store (05). -/
structure Store where
  /-- the 64 buffers (Table 05.12) -/
  bufs : List Buffer := List.replicate 64 {}
  /-- STORE_FENCE_CNT, 32 counts of 16 bits (Table 05.13, R159) -/
  fences : List (BitVec 16) := List.replicate 32 0
  /-- STORE_ECC.CORR, saturating 16 bits (Table 05.11) -/
  corr : Nat := 0
  /-- STORE_ECC.UNCORR, saturating 16 bits (Table 05.11) -/
  uncorr : Nat := 0
  /-- STORE_DROP_CNT, saturating 16 bits (Table 05.11) -/
  drop : Nat := 0
  /-- CALIB_PIXEL words by pixel number; absent is 0x4000, gain 1.000 and no flags (R106) -/
  calib : Sparse (BitVec 16) := []
  /-- LP_STATUS.CAL_VALID: a CALIB_PIXEL map is loaded (Table 04.8) -/
  calValid : Bool := false
deriving DecidableEq, Repr

/-- Arbitration registers of BSTAY and the switch-over in progress (Table 06.7). -/
structure Arb where
  /-- S1_PEND (Table 06.7, R195): the engine the latched decision removes -/
  s1Pend : Bool := false
  /-- cause and outgoing engines of the decision latched in S1 (R195) -/
  s1Cause : Nat := 0
  /-- the decision latched in S1 names Fore as failing (R195) -/
  s1FailA : Bool := false
  /-- the decision latched in S1 names Main as failing (R195) -/
  s1FailB : Bool := false
  /-- Fore fails in that decision by a heartbeat loss (R195, Table 06.5) -/
  s1HbA : Bool := false
  /-- Main fails in that decision by a heartbeat loss (R195, Table 06.5) -/
  s1HbB : Bool := false
  /-- UNDECIDED (Table 06.7, R187) -/
  undecided : Bool := false
  /-- model time, in 4 ns ticks, of the undecided mismatch (R187) -/
  undecidedAt : Nat := 0
  /-- LAST_CAUSE, 4 bits (Table 06.7) -/
  lastCause : Nat := 0
  /-- SWITCH_CNT, saturating 16 bits (Table 06.7) -/
  switchCnt : Nat := 0
  /-- LAST_FRAME, 24 bits (Table 06.7) -/
  lastFrame : BitVec 24 := 0
  /-- the engine that drives the row bus is Main; Fore otherwise (R177) -/
  ownerMain : Bool := false
  /-- a switch-over whose handover has not ended (R191) -/
  handover : Bool := false
  /-- the overlap of a switch-over is in progress (R192) -/
  overlap : Bool := false
  /-- accepted planned switches under way, in order: the engine named, Main if true, and the TAG (R196, R325) -/
  planned : List (Bool × BitVec 8) := []
  /-- accepted recoveries under way, in order: the engine named, Main if true, and the TAG (R196, R325) -/
  recovery : List (Bool × BitVec 8) := []
  /-- consecutive frames matched by both engines in both lost (R200) -/
  bothRun : Nat := 0
deriving DecidableEq, Repr

/-- DIAG registers of one tile (Table 07.13). SW_FAIL, SW_STUCK and TILE_BAD stand in the tile record of ARRAY. -/
structure DiagTile where
  /-- SW_RETEST (Table 07.13, R214) -/
  retest : Bool := false
  /-- a suspect test is pending (R213, R217) -/
  suspectTest : Bool := false
  /-- the pending suspect test is that of DIAG_RUN SWTEST (R224) -/
  runTest : Bool := false
  /-- TILE_SUSPECT (Table 07.13) -/
  suspect : Bool := false
  /-- SUSPECT_RUN, saturating 8 bits (Table 07.13) -/
  suspectRun : Nat := 0
  /-- FLAGS_LAST, 0..4096 (Table 07.13) -/
  flagsLast : Nat := 0
  /-- the tile was in its safe state, or closed its switch, in the captured stroke (Table 07.4, step 2) -/
  exclCapt : Bool := false
  /-- the same for the stroke before (Table 07.4, step 2) -/
  exclPrev : Bool := false
  /-- the same so far in the stroke in progress (Table 07.4, step 2) -/
  exclNow : Bool := true
  /-- REG counts as NONE in the sweep of the last stroke: headroom below V_COMP (Table 07.4, step 3) -/
  starved : Bool := false
deriving DecidableEq, Repr

/-- DIAG: pixel and tile diagnostics (07). -/
structure Diag where
  /-- DIAG_CTRL as last written, 32 bits (Table 07.10) -/
  ctrl : BitVec 32 := 0x0010000F
  /-- DIAG_CTRL in effect from the last stroke start (R227) -/
  ctrlAct : BitVec 32 := 0x0010000F
  /-- CONFIRM_PEND (Table 07.11, R209) -/
  confirmPend : Bool := false
  /-- SW_PTR, 8 bits (Table 07.11, R213) -/
  swPtr : Nat := 0
  /-- SUPPLY (Table 07.11) -/
  supply : Bool := false
  /-- RUN_BUSY (Table 07.11, R224) -/
  runBusy : Bool := false
  /-- operation of the DIAG_RUN in progress: 0 BRIDGE, 1 SWTEST (R224) -/
  runOp : Nat := 0
  /-- tile named by the SWTEST in progress (R224) -/
  runTile : Nat := 0
  /-- tag of the DIAG_RUN in progress, 16 bits, with its port 0, 1 or 2 (R224, R299) -/
  runTag : Nat := 0
  /-- tiles found by the bridge check in progress (R224) -/
  runFound : List Nat := []
  /-- MAP_DIRTY (Table 07.11, R222) -/
  mapDirty : Bool := false
  /-- MAP_VALID (Table 07.11, R222) -/
  mapValid : Bool := false
  /-- SUSPECT_CNT, saturating 16 bits (Table 07.12) -/
  suspectCnt : Nat := 0
  /-- SUPPLY_CNT, saturating 16 bits (Table 07.12) -/
  supplyCnt : Nat := 0
  /-- SWEEP_LOST_CNT, saturating 16 bits (Table 07.12) -/
  sweepLostCnt : Nat := 0
  /-- HEAD_SKIP_CNT, saturating 16 bits (Table 07.12) -/
  headSkipCnt : Nat := 0
  /-- the 256 tiles (Table 07.13) -/
  tiles : List DiagTile := List.replicate 256 {}
  /-- dead map by pixel number: 1 OPEN, 2 SHORT; absent is GOOD (R221) -/
  deadMap : Sparse (BitVec 2) := []
  /-- candidates by pixel number: 1 CAND_OPEN, 2 CAND_SHORT; absent is NONE (07) -/
  cand : Sparse (BitVec 2) := []
  /-- pixels of the dead map whose last result was PASS, for HEAL (R217) -/
  healOne : List Nat := []
  /-- capture stores by pixel number (Table 07.1); absent is NONE -/
  capture : Sparse (BitVec 2) := []
  /-- a sweep of the capture stores is in progress (R207) -/
  sweeping : Bool := false
  /-- VLED_OK at the measurement of the captured stroke (Table 07.4, step 1) -/
  captVledOk : Bool := false
  /-- pixels probed in the gap in progress (R212, R216) -/
  probed : List Nat := []
  /-- phase of the bridge sample captured: 0 none, 1 A, 2 B (R216) -/
  captPhase : Nat := 0
  /-- the captured stroke was the last of a bridge check (R216) -/
  captLast : Bool := false
  /-- the stroke captured was the fold stroke of a window (R209) -/
  captWasFold : Bool := false
  /-- the classified sweeps of the bridge check so far: the phase of each, 1 A or 2 B, with its codes by pixel number (R216) -/
  bridgeSweeps : List (Nat × Sparse (BitVec 2)) := []
  /-- full-gap strokes left of a bridge check, 0..4 (R216) -/
  bridgeLeft : Nat := 0
  /-- phase of the bridge stroke in progress: 0 none, 1 A, 2 B (R216) -/
  bridgePhase : Nat := 0
  /-- tile under switch test in this gap (R213) -/
  testTile : Option Nat := none
  /-- that tile is the one at SW_PTR, which advances after the stroke (R213) -/
  testAtPtr : Bool := false
  /-- a window began and its fold stroke is still to come (R209) -/
  foldDue : Bool := false
  /-- strokes since the fold stroke of this frame, none outside (R210) -/
  foldJ : Option Nat := none
  /-- the fold stroke in progress is a window fold (R209) -/
  foldIsWindow : Bool := false
deriving DecidableEq, Repr

/-- Judgement of the steering input (R242). -/
inductive Sld where
  | free | stale | disagree
deriving DecidableEq, Repr

/-- A Trysail image with its level table (R245, R246). -/
structure TryImg where
  /-- level n of each scene pixel 1024y+x, 4 bits; absent is level 0 -/
  px : Sparse (BitVec 4) := []
  /-- level table: code word of levels 0..15, 16 bits each (R246) -/
  levels : List (BitVec 16) := []
deriving DecidableEq, Repr

/-- BSTAY: Backstay and Trysail (08). -/
structure Bstay where
  /-- BEAM, 2 bits (Table 08.5, Table 01.6) -/
  beam : Beam := .normal
  /-- beam state of the last EV_BEAM_STATE (R253) -/
  beamReported : Beam := .normal
  /-- TRY_CAUSE, 4 bits (Table 08.5, R249) -/
  tryCause : Nat := 0
  /-- TRY_PEND (Table 08.5, R252) -/
  tryPend : Bool := false
  /-- TRY_IMG: 0..3 record, 4 ROM (Table 08.5) -/
  tryImg : Nat := 4
  /-- CEIL_VALID (Table 08.5, R233) -/
  ceilValid : Bool := false
  /-- SLD_STATE (Table 08.5, R242) -/
  sld : Sld := .stale
  /-- SAFE_N_LATCH (Table 08.5, R249) -/
  safeNLatch : Bool := false
  /-- SAFE_N_LEVEL (Table 08.5) -/
  safeNLevel : Bool := true
  /-- CLASS (Table 08.5, R230) -/
  cls : BClass := .adaptive
  /-- class accepted by SET_CLASS and not yet sampled (R230) -/
  clsPend : Option BClass := none
  /-- class held by the CONFIG record, ADAPTIVE if none (R230, Table 01.7) -/
  clsConfig : BClass := .adaptive
  /-- an accepted SET_LIGHT NORMAL awaits its compose point (R251) -/
  normalPend : Bool := false
  /-- MODEL'S OWN: TRY_CAUSE was recorded in the evaluation in progress, so that a lower code still replaces it (R249) -/
  tryNow : Bool := false
  /-- BSTAY_CFG as last written, 32 bits (Table 08.6) -/
  cfg : BitVec 32 := 0x00C80402
  /-- BSTAY_CFG in effect (R257) -/
  cfgAct : BitVec 32 := 0x00C80402
  /-- CLAMP_LIMIT as last written, 21 bits (Table 08.6) -/
  slp : BitVec 21 := 4096
  /-- CLAMP_LIMIT in effect (R257) -/
  slpAct : BitVec 21 := 4096
  /-- BSTAY_TRY_MAP as last written, 15 bits (Table 08.8) -/
  tryMap : BitVec 15 := 0x4444
  /-- BSTAY_TRY_MAP in effect (R257) -/
  tryMapAct : BitVec 15 := 0x4444
  /-- AIM_V_TGT, signed 7 bits (Table 08.7, R232) -/
  aimVTgt : Int := 0
  /-- AIM_H_TGT, signed 8 bits (Table 08.7, R232) -/
  aimHTgt : Int := 0
  /-- AIM_V_ACT, signed 7 bits (Table 08.7, R238) -/
  aimVAct : Int := 0
  /-- AIM_H_ACT, signed 8 bits (Table 08.7, R238) -/
  aimHAct : Int := 0
  /-- h_eff of the last compose point (R242) -/
  hEff : Int := 0
  /-- CEIL_TGT by scene column, 0..1024; absent is 0 (Table 08.9) -/
  ceilTgt : Sparse Nat := []
  /-- CEIL_ACT by scene column; absent is 0 (Table 08.9, R238) -/
  ceilAct : Sparse Nat := []
  /-- the effective ceiling of the previous frame, which R239 compares with -/
  ceilPrev : Sparse Nat := []
  /-- ZLIM_TGT by zone in LU; absent is 0 (Table 08.9) -/
  zlimTgt : Sparse Nat := []
  /-- ZLIM_ACT by zone in LU; absent is 0 (Table 08.9, R238) -/
  zlimAct : Sparse Nat := []
  /-- staging copy of CEIL parts (R233) -/
  stageCeil : List (Nat × Nat) := []
  /-- staging copy of ZLIM parts (R233) -/
  stageZlim : List (Nat × Nat) := []
  /-- parts of SET_CEILING with STAGE 0 that become targets at the next compose point (R233) -/
  commitCeil : List (Nat × Nat) := []
  /-- ZLIM parts that become targets at the next compose point (R233) -/
  commitZlim : List (Nat × Nat) := []
  /-- a committed profile awaits the next compose point (R233) -/
  commitPend : Bool := false
  /-- a parity error has discarded the profile (R541) -/
  discarded : Bool := false
  /-- the effective class, ceiling or limits differ from the previous frame's (R236) -/
  profileMoved : Bool := false
  /-- STEER in 0.01 degree, signed 16 bits (Table 08.7, R240) -/
  steer : Int := 0
  /-- STEER_SEQ, 16 bits (Table 08.7) -/
  steerSeq : BitVec 16 := 0
  /-- SCAN_STROKE_CNT at arrival of the current input; none before the first (R240) -/
  steerStamp : Option (BitVec 32) := none
  /-- no input has been accepted since reset or an exit from S2 to S5 (R240) -/
  steerFirst : Bool := true
  /-- STEER_AGE in strokes, saturating 16 bits (Table 08.7, R241) -/
  steerAge : Nat := 0xFFFF
  /-- clamps made so far in the frame in progress (R235) -/
  clampNow : Nat := 0
  /-- the clamps counted so far include one of a row written by an engine (R235) -/
  clampNowEng : Nat := 0
  /-- segments clamped in the frame in progress, dirty in the next (R236) -/
  clampSegs : List Nat := []
  /-- CLAMP_LAST, 21 bits (Table 08.7) -/
  clampLast : Nat := 0
  /-- SLP_CNT, saturating 16 bits (Table 08.7) -/
  slpCnt : Nat := 0
  /-- SLD_CNT, saturating 16 bits (Table 08.7) -/
  sldCnt : Nat := 0
  /-- STEER_BAD_CNT, saturating 16 bits (Table 08.7) -/
  steerBadCnt : Nat := 0
  /-- VERDICT_LATE_CNT, saturating 16 bits (Table 08.7) -/
  verdLateCnt : Nat := 0
  /-- BSTAY_VERD_HW0 to HW2, 32 bits each (Table 08.7, R243) -/
  verdHw : List (BitVec 32) := [0, 0, 0]
  /-- BSTAY_VERD_FW0 to FW2, 32 bits each (Table 08.7, R244) -/
  verdFw : List (BitVec 32) := [0, 0, 0]
  /-- a post of the Rigger safety core has completed (R244) -/
  verdPosted : Bool := false
  /-- compose points running without a post (R244) -/
  verdMissing : Nat := 0
  /-- no compose point has come since reset or an exit from S2 to S5 (R244, R255) -/
  firstCompose : Bool := true
  /-- the SLS check makes no comparison at the next compose point (R239, R541) -/
  slsSkip : Bool := true
  /-- the Trysail writer owns the row bus (R250) -/
  tryOwns : Bool := false
  /-- dirty segments of the Trysail writer (R250) -/
  tryDirty : List Nat := []
  /-- the Trysail writer's segment table, by segment (R53, R250) -/
  trySegSig : Sparse (BitVec 32) := []
  /-- image in the Trysail buffer, 512 KiB (R245); none is the ROM image -/
  tryBuf : Option TryImg := none
  /-- segments that the Trysail writer wrote with a clamp, dirty in its next frame (R236) -/
  tryClampSegs : List Nat := []
  /-- the Trysail codes may have changed through image or level table since the last compose point (R250) -/
  tryChanged : Bool := false
  /-- BSTAY_LEVEL, 16 code words (Table 08.8, R246, R247) -/
  levels : List (BitVec 16) :=
    [0, 0x4044, 0x4088, 0x40CC, 0x4110, 0x4154, 0x4198, 0x41DC, 0x4220, 0x4264, 0x42A8, 0x42EC, 0x4330, 0x4374, 0x43B8, 0x43FC]
  /-- I_TRY in mA, 16 bits (Table 08.8, R246) -/
  iTry : Nat := 0
  /-- LOADING (Table 08.8, R248) -/
  tryLoading : Bool := false
  /-- TRY_VALID, 4 bits (Table 08.8, R245) -/
  tryValid : BitVec 4 := 0
  /-- arbitration registers (Table 06.7) -/
  arb : Arb := {}
deriving DecidableEq, Repr

/-- States of a Halyard port (Table 09.3). -/
inductive PortState where
  | off | detect | base | negotiate | step | active | blind | slack | furled
deriving DecidableEq, Repr

/-- Role of a port, with the codes of HLY_STATUS.ROLE (Table 09.8). -/
inductive PRole where
  | off | headEnd | leader | follower
deriving DecidableEq, Repr

/-- The line bits that a receive lane has taken (R260, R261). -/
structure RxLine where
  /-- the last 58 line bits, stuffing removed, the newest in bit 0 (R260) -/
  scr : BitVec 58 := 0
  /-- line bits descrambled since the signal was acquired, up to the 58 that are invalid (R260) -/
  got : Nat := 0
  /-- the last line bit (R261) -/
  lastBit : Bool := false
  /-- length of the run of identical line bits, 0..24 (R261) -/
  run : Nat := 0
deriving DecidableEq, Repr

/-- A lane word as received: one of the packet stream, or an LCW with the STRIPE it names, none where it is invalid (R264). -/
inductive RxUnit where
  | word (w : BitVec 32)
  | lcw (stripe : Option (BitVec 2))
deriving DecidableEq, Repr

/-- One receive lane of a port (R265, R266, R278). -/
structure RxLane where
  /-- the line bits taken so far (R260, R261) -/
  line : RxLine := {}
  /-- lane words received and not yet put together with the other lane's, oldest first, with their lane positions (R264,
  R265) -/
  words : List (Nat × RxUnit) := []
  /-- lane position of the next word, counted like the other lane's once deskewed (R265) -/
  pos : Nat := 0
  /-- lane position after the last good marker (R265) -/
  markPos : Nat := 0
  /-- the skew to the other lane is known and absorbed (R265, R268) -/
  deskewed : Bool := false
  /-- model time, in 4 ns ticks, of the last marker (R265) -/
  markAt : Nat := 0
  /-- LOCK: the lane is locked (Table 09.8, R265) -/
  locked : Bool := false
  /-- POL_INV: the lane is inverted (Table 09.8, R265) -/
  inverted : Bool := false
  /-- consecutive valid LCWs found while searching, 0..8 (R265) -/
  found : Nat := 0
  /-- consecutive invalid LCWs while locked (R266) -/
  badRun : Nat := 0
  /-- consecutive wrong markers (R266) -/
  badMarkers : Nat := 0
  /-- MSEQ expected in the next marker, 8 bits (Table 09.2) -/
  mseq : BitVec 8 := 0
  /-- LCW positions since the last marker (R262) -/
  sinceMarker : Nat := 0
  /-- MI of the last valid status LCW: markers every 4096 words (R262) -/
  mi : Bool := false
  /-- the lane is lost: its bit in the LSTATE this port sends (R274) -/
  lost : Bool := false
  /-- consecutive valid LCWs since relock, towards 1024 (R278) -/
  goodRun : Nat := 0
  /-- losses since the port last left DETECT (R279) -/
  losses : Nat := 0
  /-- a signal is present on the lane (R266, R543) -/
  signal : Bool := false
  /-- a marker has given the positions since lock or since an exit from SLACK (R262, R265) -/
  anchored : Bool := false
deriving DecidableEq, Repr

/-- One transmit lane of a port (R259 to R262). -/
structure TxLane where
  /-- lane word position (R262) -/
  pos : Nat := 0
  /-- scrambler state, 58 bits (R260) -/
  scr : BitVec 58 := 0x3FFFFFFFFFFFFFF
  /-- last line bit sent (R261) -/
  lastBit : Bool := false
  /-- length of the run of identical line bits, 0..24 (R261) -/
  run : Nat := 0
  /-- count of markers sent, 8 bits (R262) -/
  mseq : BitVec 8 := 0
  /-- line bits of the last packet sent, in line order (R259) -/
  line : List Bool := []
deriving DecidableEq, Repr

/-- Packet types (Table 10.2). -/
inductive PType where
  | idle | train | cmd | reply | event | layerData | time | forward
deriving DecidableEq, Repr

/-- A packet without its core header and trailer (Table 10.1). -/
structure Packet where
  /-- TYPE (Table 10.2) -/
  ptype : PType := .idle
  /-- CH, 4 bits (Table 10.1) -/
  ch : BitVec 4 := 0
  /-- FLAGS, 8 bits: bit 7 SEQ_RST, 6 ORDER, 5 LOST (Table 10.3) -/
  flags : BitVec 8 := 0
  /-- SEQ, 16 bits (R293) -/
  seq : BitVec 16 := 0
  /-- header word 1, 32 bits (Table 10.4) -/
  hw1 : BitVec 32 := 0
  /-- payload, 0..1024 words (Table 10.1) -/
  payload : List (BitVec 32) := []
  /-- a received packet that was a gap in its sequence (Table 10.5) -/
  gap : Bool := false
  /-- receive stamp of a TIME packet in 1/256 ns (R341) -/
  stamp : Int := 0
deriving DecidableEq, Repr

/-- An event in a queue (R312, R330). -/
structure Event where
  /-- CODE, 16 bits (Table 11.10) -/
  code : BitVec 16 := 0
  /-- TAG, 8 bits; 0 for most events (Table 10.4) -/
  tag : BitVec 8 := 0
  /-- STATUS, 8 bits (Table 10.4) -/
  status : BitVec 8 := 0
  /-- severity 0..3 (R330) -/
  sev : Nat := 0
  /-- payload words from word 0 (R330) -/
  words : List (BitVec 32) := []
  /-- EV_CMD_DONE, never discarded (R312) -/
  done : Bool := false
  /-- MODEL'S OWN: model time of its queueing, in 4 ns ticks, within which EV_FAULT events are put in order (R369) -/
  at_ : Nat := 0
deriving DecidableEq, Repr

/-- The event queue of one destination (R312). -/
structure EvQueue where
  /-- queued events, oldest first, at most 64 (R312) -/
  q : List Event := []
  /-- events were discarded before the next one (FLAGS.LOST, R312) -/
  lost : Bool := false
deriving DecidableEq, Repr

/-- One Halyard port with its packet layer (09, 10). -/
structure Port where
  /-- HLY_CTRL as last written, 32 bits (Table 09.7) -/
  ctrl : BitVec 32 := 0x00F13004
  /-- HLY_CTRL in effect since the last entry to DETECT (R284) -/
  ctrlAct : BitVec 32 := 0x00F13004
  /-- STATE, 4 bits (Table 09.8, Table 09.3) -/
  state : PortState := .off
  /-- RATE, 2 bits (Table 09.8) -/
  rate : BitVec 2 := 0
  /-- TX_LANES, 2 bits (Table 09.8) -/
  txLanes : BitVec 2 := 0
  /-- the STRIPE that the next LCWs are to announce; TX_LANES follows it from the position after them (R264, R274, R278) -/
  txWant : BitVec 2 := 0
  /-- RX_LANES, 2 bits (Table 09.8) -/
  rxLanes : BitVec 2 := 0
  /-- ROLE, 2 bits (Table 09.8) -/
  role : PRole := .off
  /-- configured role of H1 (R26, R282); H0 has none and is held OFF until boot step 9 (R267) -/
  cfgRole : PRole := .off
  /-- PEER_ANN, 2 bits (Table 09.8) -/
  peerAnn : BitVec 2 := 3
  /-- ROLE_ERR (Table 09.8, R269) -/
  roleErr : Bool := false
  /-- SWAP (Table 09.8, R265) -/
  swap : Bool := false
  /-- STEP_DOWN (Table 09.8, R270) -/
  stepDown : Bool := false
  /-- HLY_PEER_W0, 32 bits (Table 09.8) -/
  peerW0 : BitVec 32 := 0
  /-- HLY_PEER_W1, 32 bits (Table 09.8) -/
  peerW1 : BitVec 32 := 0
  /-- TRAIN_FAIL_CNT, saturating 16 bits (Table 09.9) -/
  trainFailCnt : Nat := 0
  /-- STEP_DOWN_CNT, saturating 16 bits (Table 09.9) -/
  stepDownCnt : Nat := 0
  /-- LINK_DOWN_CNT, saturating 16 bits (Table 09.9) -/
  linkDownCnt : Nat := 0
  /-- LANE0_LOST, saturating 8 bits (Table 09.9) -/
  lane0Lost : Nat := 0
  /-- LANE1_LOST, saturating 8 bits (Table 09.9) -/
  lane1Lost : Nat := 0
  /-- LCW_ERR_CNT, saturating 16 bits (Table 09.9) -/
  lcwErrCnt : Nat := 0
  /-- STUFF_ERR_CNT, saturating 16 bits (Table 09.9, R261) -/
  stuffErrCnt : Nat := 0
  /-- REJOIN_CNT, saturating 16 bits (Table 09.9) -/
  rejoinCnt : Nat := 0
  /-- MARKER_ERR_CNT, saturating 16 bits (Table 09.9) -/
  markerErrCnt : Nat := 0
  /-- UP_TIME in microseconds, saturating 16 bits (Table 09.9) -/
  upTime : Nat := 0
  /-- model time, in 4 ns ticks, of the last entry to DETECT or FURLED exit (Table 09.9) -/
  upFrom : Nat := 0
  /-- receive lane 0 (R265) -/
  rx0 : RxLane := {}
  /-- receive lane 1 (R265) -/
  rx1 : RxLane := {}
  /-- transmit lane 0 (R259) -/
  tx0 : TxLane := {}
  /-- transmit lane 1 (R259) -/
  tx1 : TxLane := {}
  /-- markers every 4096 words on transmit (R262, R281) -/
  txMi : Bool := false
  /-- after an exit from SLACK: the change to 4096 waits for the far end's LCWs to show it locked (R281) -/
  miHold : Bool := false
  /-- LSTATE last received, 2 bits: this port's transmit lanes the far end lost (R274) -/
  peerLstate : BitVec 2 := 0
  /-- valid TRAIN packets received in the state, 0..16 (R268) -/
  trains : Nat := 0
  /-- LOCKED, as the port sends it (R268) -/
  locked : Bool := false
  /-- a TRAIN packet with LOCKED set has gone out in the state (Table 09.3) -/
  lockedSent : Bool := false
  /-- a TRAIN packet with ACK set has gone out in the state (Table 09.3) -/
  ackSent : Bool := false
  /-- role agreed in the last negotiation (R269, R281) -/
  agreedRole : PRole := .off
  /-- lane position from which received words are still to be put together (R264, R265) -/
  rxPos : Nat := 0
  /-- receive stamps, one per domain, of the packet in `rxWords`, taken when its core header was detected (R341) -/
  hdrStamp : Option (Int × Int) := none
  /-- ACK sent: the peer's word 0 was received twice the same (Table 09.4) -/
  ack : Bool := false
  /-- beacons sent since the last entry to DETECT (R543) -/
  beacons : Nat := 0
  /-- model time, in 4 ns ticks, at which the last beacon began (R543) -/
  beaconAt : Nat := 0
  /-- model time, in 4 ns ticks, of the entry to the present state (Table 09.3) -/
  enteredAt : Nat := 0
  /-- the bring-up under way began in FURLED: E and the counts are kept (R293, Table 10.9) -/
  fromFurled : Bool := false
  /-- the beacon is suppressed in S2 and S3 (R280) -/
  beaconOff : Bool := false
  /-- step rate agreed, coded as BLIND_RATE (R269) -/
  stepRate : BitVec 2 := 0
  /-- rate being tried in STEP (R270) -/
  tryRate : BitVec 2 := 0
  /-- lanes agreed for transmit, 2 bits (R269) -/
  agreedTx : BitVec 2 := 3
  /-- the link has been down and EV_LINK_UP is owed (R272) -/
  upOwed : Bool := false
  /-- PM of the status LCWs now sent: 0 none, 1 entering SLACK, 2 entering FURLED (Table 09.2) -/
  pm : Nat := 0
  /-- PM LCWs sent on the last entry to SLACK or FURLED (R280) -/
  pmSent : Nat := 0
  /-- RETRAIN waits for the owed reply (R273) -/
  retrainPend : Bool := false
  /-- a changed H1 role, which waits for the reply to FORWARD_CFG owed on a port (R282) -/
  roleChange : Option (CmdPort × PRole) := none
  /-- loop timing of the transmitter (R412) -/
  loopTimed : Bool := false
  /-- SYNC: delineation in SYNC (Table 10.12, R287) -/
  sync : Bool := false
  /-- expected sequence value E by channel; absent is undefined (R293) -/
  expect : Sparse (BitVec 16) := []
  /-- own count by channel; absent is 0 (R294) -/
  ownSeq : Sparse (BitVec 16) := []
  /-- channels whose first packet since ACTIVE has been sent (R294) -/
  rstSent : List Nat := []
  /-- RX_PKT, saturating 32 bits (Table 10.12) -/
  rxPkt : Nat := 0
  /-- TX_PKT, saturating 32 bits (Table 10.12) -/
  txPkt : Nat := 0
  /-- HEC_ERR_CNT, saturating 16 bits (Table 10.12) -/
  hecErrCnt : Nat := 0
  /-- BAD_LENGTH_CNT, saturating 16 bits (Table 10.12) -/
  badLengthCnt : Nat := 0
  /-- CRC_ERR_CNT, saturating 16 bits (Table 10.12) -/
  crcErrCnt : Nat := 0
  /-- BAD_TYPE_CNT, saturating 16 bits (Table 10.12) -/
  badTypeCnt : Nat := 0
  /-- SEQ_GAP_CNT, saturating 16 bits (Table 10.12) -/
  seqGapCnt : Nat := 0
  /-- SEQ_OLD_CNT, saturating 16 bits (Table 10.12) -/
  seqOldCnt : Nat := 0
  /-- FWD_DROP_CNT, saturating 16 bits (Table 10.12, R309) -/
  fwdDropCnt : Nat := 0
  /-- BUSY_CNT, saturating 16 bits (Table 10.12) -/
  busyCnt : Nat := 0
  /-- packet-stream words of a packet that has not come whole yet, its core header first (R287); in the compatibility modes the
  words of a row cell, its header first (R499) -/
  rxWords : List (BitVec 32) := []
  /-- packets received and accepted, waiting to be acted on, oldest first (R287 to R293) -/
  rxq : List Packet := []
  /-- replies whose sending has not begun (R296, step 3 of Table 10.7) -/
  replies : List Packet := []
  /-- MSEQ of the next PDELAY_REQ, 16 bits (R340) -/
  pdNext : BitVec 16 := 0
  /-- TIME packets waiting to be sent (R296) -/
  times : List Packet := []
  /-- FORWARD packets waiting to be sent (R296) -/
  forwards : List Packet := []
  /-- LAYER_DATA packets waiting to be sent (R296, R168) -/
  layers : List Packet := []
  /-- inner packets a leader passes on unchanged: header words, payload, trailer (R309) -/
  inner : List (List (BitVec 32)) := []
  /-- event queue (R312) -/
  events : EvQueue := {}
  /-- packet-stream words of the packet sent last, core header to trailer (Table 10.1) -/
  lastSent : List (BitVec 32) := []
deriving DecidableEq, Repr

/-- The control SPI port in native and extended compatibility mode (R33, R316, R509). -/
structure SpiPort where
  /-- expected sequence value E by channel; absent is undefined (R293, R316) -/
  expect : Sparse (BitVec 16) := []
  /-- own count by channel; absent is 0 (R294, R316) -/
  ownSeq : Sparse (BitVec 16) := []
  /-- channels whose first packet has been sent (R294, R316) -/
  rstSent : List Nat := []
  /-- replies waiting for the outgoing tunnel stream (R510) -/
  replies : List Packet := []
  /-- words of the outgoing tunnel stream still to be clocked out (R510) -/
  out : List (BitVec 32) := []
  /-- event queue, read by GET_EVENT (R312) -/
  events : EvQueue := {}
  /-- words returned by the last tunnel transaction (R509) -/
  lastSent : List (BitVec 32) := []
deriving DecidableEq, Repr


/-- A slow-path command that is pending (R299, R300). -/
structure SlowCmd where
  /-- issuing port (R300) -/
  port : CmdPort := .spi
  /-- channel of the command, 4 bits (Table 10.2) -/
  ch : BitVec 4 := 0
  /-- opcode, 8 bits (Table 10.4) -/
  opcode : BitVec 8 := 0
  /-- TAG, 8 bits (Table 10.4) -/
  tag : BitVec 8 := 0
  /-- SESSION, 16 bits (Table 10.4) -/
  session : BitVec 16 := 0
  /-- payload words -/
  payload : List (BitVec 32) := []
  /-- execution has begun and its end is awaited (R299) -/
  started : Bool := false
  /-- model time, in 4 ns ticks, at which it began (R471) -/
  startedAt : Nat := 0
  /-- completed; EV_CMD_DONE is in the port's event queue (R300) -/
  finished : Bool := false
deriving DecidableEq, Repr

/-- CMD: sessions, pending commands and counters (10). -/
structure Cmd where
  /-- CMD_SESS_CFG.IDLE in ms, 16 bits (Table 10.10) -/
  idle : BitVec 16 := 1000
  /-- SESS_OPEN (Table 10.10) -/
  sessOpen : Bool := false
  /-- PROVING (Table 10.10) -/
  proving : Bool := false
  /-- SESS_PORT (Table 10.10) -/
  sessPort : CmdPort := .h0
  /-- SESS_ID, 16 bits (Table 10.10); the ID issued while PROVING -/
  sessId : BitVec 16 := 0
  /-- challenge of the SESSION_OPEN in progress, 16 bytes (R306) -/
  challenge : BitVec 128 := 0
  /-- model time, in 4 ns ticks, of the SESSION_OPEN in progress (R307) -/
  openedAt : Nat := 0
  /-- model time, in 4 ns ticks, of the last command that bore the session's ID, or of its opening (R308) -/
  sessAt : Nat := 0
  /-- LOCKOUT (Table 10.10) -/
  lockout : Bool := false
  /-- model time, in 4 ns ticks, at which the lockout began (R307) -/
  lockAt : Nat := 0
  /-- failed proofs in a row (R307) -/
  fails : Nat := 0
  /-- slow-path commands that are pending, in arrival order (R299, R300) -/
  slow : List SlowCmd := []
  /-- CMD_BLOCKOFF_COUNT, saturating 32 bits (Table 10.11) -/
  blockOff : Nat := 0
  /-- PROVE_FAIL_CNT, saturating 16 bits (Table 10.11) -/
  proveFail : Nat := 0
  /-- EV_LOST_CNT, saturating 16 bits (Table 10.11) -/
  evLost : Nat := 0
  /-- CMD_REPLY_MAX in 10 ns, saturating 16 bits (Table 10.11) -/
  replyMax : Nat := 0
  /-- MODEL'S OWN: events discarded in this evaluation, each of which raises EVENT_LOST (R312) -/
  lostNow : Nat := 0
deriving DecidableEq, Repr

/-- The fault window of one block (Table 11.11). -/
structure FltWin where
  /-- FLT_STATUS, 32 bits -/
  status : BitVec 32 := 0
  /-- FLT_INJ, 32 bits -/
  inj : BitVec 32 := 0
  /-- FLT_REAL, 32 bits -/
  real : BitVec 32 := 0
  /-- FLT_FIRST, 32 bits -/
  first : BitVec 32 := 0
  /-- FLT_FIRST_NS, 32 bits -/
  firstNs : BitVec 32 := 0
  /-- SCAN_STROKE_CNT at the record of FLT_FIRST, within whose stroke a lower tile takes its place (R100) -/
  firstStroke : BitVec 32 := 0
  /-- FLT_INJECT, 32 bits -/
  inject : BitVec 32 := 0
  /-- FLT_FORCE, 32 bits -/
  force : BitVec 32 := 0
  /-- FLT_ESC, 32 bits; 0x50002710 in ARRAY -/
  esc : BitVec 32 := 0
  /-- REACT of the sources written since reset, by source; absent is the source's default -/
  react : Sparse (BitVec 8) := []
  /-- reactions in force of the sources that are set, held from their rising setting (R251, R365) -/
  held : Sparse (BitVec 8) := []
  /-- FLT_COUNT by source, saturating 16 bits; absent is 0 -/
  count : Sparse Nat := []
  /-- indexes of the per-tile sources that are set: source and tile (R368) -/
  idx : List (Nat × Nat) := []
  /-- the sources with a real setting since their rising setting, which are not set only by injection (R364, R378) -/
  wasReal : BitVec 32 := 0
  /-- MODEL'S OWN: the sources with a setting of FLT_INJ in the present 4 ns clock (R12, R362) -/
  injNow : BitVec 32 := 0
  /-- MODEL'S OWN: the sources with a setting of FLT_REAL in the present 4 ns clock (R12, R362) -/
  realNow : BitVec 32 := 0
  /-- ESC_RUN (ARRAY) -/
  escRun : Bool := false
  /-- model time, in 4 ns ticks, at which the escalation timer started (R370) -/
  escAt : Nat := 0
  /-- the escalation has taken place (R372) -/
  escDone : Bool := false
  /-- ESC_REACT as the last escalation applied it (R371, R372) -/
  escHeld : BitVec 8 := 0
  /-- PAR_ERR (R374) -/
  parErr : Bool := false
  /-- offsets of reaction registers whose hidden parity has been found wrong (R373) -/
  parBad : List Nat := []
  /-- offsets of reaction registers that have had their PARITY entry since PAR_ERR rose (R373) -/
  parLogged : List Nat := []
  /-- offsets of reaction registers whose hidden parity has gone wrong since their last check (R373) -/
  parHid : List Nat := []
  /-- offsets of reaction registers rewritten in a safety session since PAR_ERR rose (R374) -/
  rewritten : List Nat := []
  /-- a BLOCK_RESET of the block runs; accesses return BLOCK_OFF (R366) -/
  resetting : Bool := false
deriving DecidableEq, Repr

/-- Servo states of a time domain (Table 12.3). -/
inductive DState where
  | unsync | acquire | locked | holdover
deriving DecidableEq, Repr

/-- One network time domain (Table 12.6). Extended time is kept as NS, FRAC and ERA with WRAP_PEND (R337, R338). -/
structure Domain where
  /-- NS, 32 bits (Table 12.6, R337) -/
  ns : BitVec 32 := 0
  /-- FRAC in 2^-32 ns, 32 bits (R337) -/
  frac : BitVec 32 := 0
  /-- snapshot of FRAC taken at the last read of NS (Table 12.6, R356) -/
  fracSnap : BitVec 32 := 0
  /-- snapshot of ERA_EFF taken at the last read of NS (Table 12.6, R356) -/
  eraSnap : BitVec 16 := 0
  /-- ERA, 16 bits (Table 12.6) -/
  era : BitVec 16 := 0
  /-- WRAP_PEND (Table 12.5, R338) -/
  wrapPend : Bool := false
  /-- INC in 2^-32 ns per tick: INC_NS and INC_FRAC, 36 bits (Table 12.6) -/
  inc : BitVec 36 := 0x400000000
  /-- OFFSET in 1/256 ns, signed 32 bits (Table 12.6, R343) -/
  offset : Int := 0
  /-- MPD_VALID (Table 12.6) -/
  mpdValid : Bool := false
  /-- MPD in 1/256 ns, 31 bits (Table 12.6, R342) -/
  mpd : Int := 0
  /-- KP, 6 bits (Table 12.6) -/
  kp : BitVec 6 := 25
  /-- KI, 6 bits (Table 12.6) -/
  ki : BitVec 6 := 31
  /-- EPOCH, 32 bits (Table 12.6) -/
  epoch : BitVec 32 := 0
  /-- SYNC_RX_CNT, saturating 32 bits (Table 12.6) -/
  syncRx : Nat := 0
  /-- state of the domain (Table 12.3) -/
  dstate : DState := .unsync
  /-- lock count: consecutive SYNCs within LOCK_NS (R344) -/
  lockCnt : Nat := 0
  /-- integral accumulator of the servo, 1/256 ns (R345) -/
  acc : Int := 0
  /-- MSEQ of the PDELAY_REQ in flight (R342) -/
  pdSeq : Option (BitVec 16) := none
  /-- its departure stamp t1 in 1/256 ns of extended time (R342) -/
  pdT1 : Int := 0
  /-- model time, in 4 ns ticks, of its departure (R342) -/
  pdAt : Nat := 0
  /-- model time of the last SYNC used; none before the first (R344) -/
  syncAt : Option Nat := none
  /-- a wrap in the present tick met WRAP_PEND 1: ERA_LOST follows unless ERA is written in the same tick (R338) -/
  lostDue : Bool := false
  /-- model time of the last wrap of NS; none before the first (R338) -/
  wrapAt : Option Nat := none
  /-- model time of the last write of ERA; none before the first (R338) -/
  eraAt : Option Nat := none
deriving DecidableEq, Repr

/-- A timed pulse output (Table 12.9). -/
structure Pulse where
  /-- MODE: 0 off, 1 one-shot, 2 periodic (Table 12.9) -/
  mode : Nat := 0
  /-- LEVEL (Table 12.9) -/
  level : Bool := false
  /-- START, 48 bits: START_ERA and START_NS (Table 12.9) -/
  start : BitVec 48 := 0
  /-- PERIOD_NS, 32 bits (Table 12.9) -/
  period : BitVec 32 := 0
  /-- WIDTH_NS, 32 bits (Table 12.9) -/
  width : BitVec 32 := 0
  /-- pulses of the train that have risen (R353) -/
  k : Nat := 0
  /-- working time that has gone by since the last rise, steps apart, in 2^-32 ns (R353) -/
  high : Int := 0
  /-- a setting that waits for the falling edge: mode, start, period, width (R353) -/
  waiting : Option (Nat × BitVec 48 × BitVec 32 × BitVec 32) := none
deriving DecidableEq, Repr

/-- TIME: domains, working clock and pulses (12). -/
structure Time where
  /-- TIME_CTRL, 32 bits (Table 12.5) -/
  ctrl : BitVec 32 := 0x00010012
  /-- domain D0 (Table 12.6) -/
  d0 : Domain := {}
  /-- domain D1 (Table 12.6) -/
  d1 : Domain := {}
  /-- SEL_ACT: D1 in use (Table 12.5, R349) -/
  selAct : Bool := false
  /-- DOMAIN_DISAGREE has been raised for the switch now withheld (R349) -/
  disagreed : Bool := false
  /-- ERA_LOST (Table 12.5, R338) -/
  eraLost : Bool := false
  /-- WK_SYNC (Table 12.5, R348) -/
  wkSync : Bool := false
  /-- WK_OFS in 2^-32 ns, signed (Table 12.7, R347) -/
  wkOfs : Int := 0
  /-- snapshot of the working fraction (Table 12.7, R356) -/
  wkFracSnap : BitVec 32 := 0
  /-- snapshot of the working era (Table 12.7, R356) -/
  wkEraSnap : BitVec 16 := 0
  /-- SYNC_TO and LOCK_NS, 32 bits (Table 12.5) -/
  syncCfg : BitVec 32 := 0x01770064
  /-- LSYNC and PDELAY_INT, 32 bits (Table 12.5) -/
  intCfg : BitVec 32 := 0x7A1203E8
  /-- TIME_PHASE, 24 bits (Table 12.5) -/
  phase : BitVec 24 := 0
  /-- SLIP_CNT, saturating 16 bits (Table 12.5) -/
  slipCnt : Nat := 0
  /-- PHASE_ERR in ns, signed saturating 16 bits (Table 12.5, R350) -/
  phaseErr : Int := 0
  /-- consecutive strokes with a phase error of at most 50 ns, towards 16 (R351) -/
  phaseGood : Nat := 0
  /-- TIME_BAD_CNT, saturating 16 bits (Table 12.5) -/
  timeBadCnt : Nat := 0
  /-- TCAPT_MISS, saturating 8 bits (Table 12.5) -/
  tcaptMiss : Nat := 0
  /-- NOTICE_LATE_CNT, saturating 8 bits (Table 12.5) -/
  noticeLateCnt : Nat := 0
  /-- TX_LAT of H0 and H1 in 1/256 ns, 20 bits (Table 12.8, Table 12.2) -/
  txLat : List (BitVec 20) := [34816, 34816]
  /-- RX_LAT of H0 and H1 in 1/256 ns, 20 bits (Table 12.8, Table 12.2) -/
  rxLat : List (BitVec 20) := [67584, 67584]
  /-- ASYM of H0 and H1 in 1/256 ns, 32 bits (Table 12.8) -/
  asym : List (BitVec 32) := [0, 0]
  /-- TPULSE0 (Table 12.9) -/
  p0 : Pulse := {}
  /-- TPULSE1 (Table 12.9) -/
  p1 : Pulse := {}
  /-- TCAPT_ERA and TCAPT_NS, 48 bits (Table 12.9, R354) -/
  tcapt : BitVec 48 := 0
  /-- model time, in 4 ns ticks, of the last captured edge, for the 1 us rule; none before the first (R354) -/
  tcaptLast : Option Nat := none
  /-- FLIPAT_PEND (Table 12.5, R355) -/
  flipAtPend : Bool := false
  /-- FLIPAT_ERA and FLIPAT_NS, 48 bits (Table 12.9) -/
  flipAt : BitVec 48 := 0
  /-- SCAN_FRAME_CNT of the last FLIP_NOTICE received, with its instant (R352) -/
  notice : Option (BitVec 48 × BitVec 24) := none
  /-- MSEQ of the next SYNC a leader sends (R340, R352) -/
  syncSeq : BitVec 16 := 0
  /-- MSEQ of the next FLIP_NOTICE a leader sends (R340, R352) -/
  noticeSeq : BitVec 16 := 0
deriving DecidableEq, Repr

/-- A record queued for the log writer (R383); its words 0 to 4 and 6 as in Table 13.5. -/
structure LogRec where
  /-- word 0 (Table 13.5) -/
  w0 : BitVec 32 := 0
  /-- word 1 (Table 13.5) -/
  w1 : BitVec 32 := 0
  /-- word 2: working-clock ns32 (Table 13.5) -/
  w2 : BitVec 32 := 0
  /-- word 3 (Table 13.5) -/
  w3 : BitVec 32 := 0
  /-- word 4: SCAN_STROKE_CNT (Table 13.5) -/
  w4 : BitVec 32 := 0
  /-- word 6: DATA (Table 13.5) -/
  w6 : BitVec 32 := 0
  /-- MODEL'S OWN: model time of its queueing, in 4 ns ticks, within which the records of settings are put in order (R369) -/
  at_ : Nat := 0
deriving DecidableEq, Repr

/-- MODEL'S OWN: a fault set in the evaluation in progress, with the record and the event it sends; they are put in
the order of R369 when the evaluation ends. -/
structure Fresh where
  /-- severity of the source (R363) -/
  sev : Nat
  /-- block ID -/
  block : Nat
  /-- source number -/
  source : Nat
  /-- index carried -/
  index : Nat
  /-- the setting was a rising one (R361) -/
  rising : Bool
  /-- set by a real fault -/
  isReal : Bool
  /-- set by an injection or a force -/
  isInj : Bool
  /-- record for the log writer, where R380 has one written -/
  entry : Option LogRec
  /-- words 2 and 3 of EV_FAULT, where the setting queues one (R332) -/
  words : Option (List (BitVec 32))
deriving DecidableEq, Repr

/-- The log writer of the always-on domain (R380 to R384). -/
structure LogW where
  /-- queued records, in order of writing, at most 32 (R383) -/
  q : List LogRec := []
  /-- LOG_LSEQ, 32 bits (Table 13.8) -/
  lseq : BitVec 32 := 0
  /-- slot after the last one written, 0..2047 (R380) -/
  head : Nat := 0
  /-- PIN_USED, 0..16 (Table 13.8, R381) -/
  pinUsed : Nat := 0
  /-- LOG_DROP_CNT, saturating 16 bits (Table 13.8) -/
  dropCnt : Nat := 0
  /-- records discarded since the last DROP entry (R383) -/
  dropPend : Nat := 0
  /-- MODEL'S OWN: settings of the evaluation in progress (R369) -/
  fresh : List Fresh := []
  /-- MODEL'S OWN: records discarded in this evaluation, each of which raises LOG_DROP (R383) -/
  dropNow : Nat := 0
deriving DecidableEq, Repr

/-- A core watchdog (R387). -/
structure Wdog where
  /-- EN (Table 13.8) -/
  en : Bool := false
  /-- the next key expected is 0xA53C (R387) -/
  second : Bool := false
  /-- model time, in 4 ns ticks, of the last kick or of arming (R387) -/
  from_ : Nat := 0
deriving DecidableEq, Repr

/-- RIGGER: core status, watchdogs, firmware slots (13, 17). -/
structure Rigger where
  /-- SAFE_RUN (Table 13.8) -/
  safeRun : Bool := false
  /-- SVC_RUN (Table 13.8) -/
  svcRun : Bool := false
  /-- safety watchdog (Table 13.8) -/
  safeW : Wdog := {}
  /-- service watchdog (Table 13.8) -/
  svcW : Wdog := {}
  /-- SAFE_TO and SVC_TO in ms, 32 bits (Table 13.8) -/
  wdogTo : BitVec 32 := 0x001400C8
  /-- MIN_SEV, 2 bits (Table 13.8) -/
  minSev : BitVec 2 := 1
  /-- POST_PEND (Table 13.9) -/
  postPend : Bool := false
  /-- LAST_FRAME, 24 bits (Table 13.9) -/
  lastFrame : BitVec 24 := 0
  /-- POST_CNT, saturating 32 bits (Table 13.9) -/
  postCnt : Nat := 0
  /-- SHA-256 of the running image, taken when boot selected it (R462, R465) -/
  digest : BitVec 256 := 0
  /-- interrupts that IRQ reactions have sent to the service core since reset (Table 13.2) -/
  irqs : Nat := 0
  /-- non-maskable interrupts that NMI reactions have sent to the safety core since reset (Table 13.2) -/
  nmis : Nat := 0
deriving DecidableEq, Repr

/-- One temperature sensor (R391 to R394). -/
structure Sensor where
  /-- last good reading, 1/16 degree; none before the first (R393) -/
  last : Option Int := none
  /-- TSENS, T or T_MEAS as shown, signed 13 bits (Table 14.6) -/
  shown : Int := 0
  /-- value used after substitution: TJ, T or T_USED, signed 13 bits (Table 14.6) -/
  used : Int := 0
  /-- consecutive failed readings (R393) -/
  fails : Nat := 0
  /-- consecutive good readings while broken (R393) -/
  good : Nat := 0
  /-- BROKEN (Table 14.6) -/
  broken : Bool := false
  /-- WARN level set (R394) -/
  warn : Bool := false
  /-- THROTTLE level set (R394) -/
  throttle : Bool := false
  /-- SHUTDOWN level set (R394) -/
  shutdown : Bool := false
deriving DecidableEq, Repr

/-- THERM: sensors, levels and reefing targets (14). -/
structure Therm where
  /-- THERM_CTRL: REEF_EN and REEF_K, 32 bits (Table 14.5) -/
  ctrl : BitVec 32 := 0x00010CCD
  /-- FLOOR, 17 bits (Table 14.5) -/
  floor : BitVec 17 := 6554
  /-- THETA, 16 bits (Table 14.5) -/
  theta : BitVec 16 := 320
  /-- SCAN_CNT, 16 bits (Table 14.5) -/
  scanCnt : BitVec 16 := 0
  /-- the 256 tile sensors (Table 14.6) -/
  tiles : List Sensor := List.replicate 256 {}
  /-- the four die sensors (Table 14.6) -/
  dies : List Sensor := List.replicate 4 {}
  /-- the heat-sink NTC (Table 14.6) -/
  ntc : Sensor := {}
  /-- NTC_RES in ohms, 24 bits (Table 14.6) -/
  ntcRes : Nat := 0
  /-- NTC_B and NTC_R25, 32 bits (Table 14.6) -/
  ntcCfg : BitVec 32 := 0x0D6B2710
  /-- DIE_VALUE, signed 13 bits, as the last DIE reading left it (Table 14.6, R400) -/
  dieVal : Int := 0
  /-- R_DIE_SINK, 0..65536 (Table 14.6) -/
  rDieSink : Nat := 65536
  /-- thresholds THR at 3g+l, signed 13 bits (Tables 14.3 and 14.7) -/
  thr : List Int := [2000, 2160, 2400, 1840, 2000, 2240, 1520, 1680, 1920]
  /-- HYST, 8 bits (Table 14.7) -/
  hyst : BitVec 8 := 64
  /-- R_TILE_TGT by tile; absent is 65536 (Table 14.7) -/
  tileTgt : Sparse Nat := []
  /-- R_GLOB_TGT, 0..65536 (Table 14.7) -/
  globTgt : Nat := 65536
deriving DecidableEq, Repr

/-- One general check-value unit (R480 to R486; 18). -/
structure CrcUnit where
  /-- NBYTES, 2 bits (Table 18.3) -/
  nbytes : BitVec 2 := 3
  /-- MODE: 0 COMPUTE, 1 APPEND, 2 CHECK (Tables 18.2 and 18.3) -/
  mode : BitVec 2 := 0
  /-- ORDER, 1 bit (Table 18.3) -/
  order : Bool := false
  /-- REFIN, 1 bit (Table 18.3) -/
  refin : Bool := true
  /-- REFOUT, 1 bit (Table 18.3) -/
  refout : Bool := true
  /-- WIDTH, 1..64 (Table 18.3) -/
  width : Nat := 32
  /-- POLY_LO and POLY_HI, 64 bits (Table 18.3) -/
  poly : BitVec 64 := 0x04C11DB7
  /-- INIT_LO and INIT_HI, 64 bits (Table 18.3) -/
  init : BitVec 64 := 0xFFFFFFFF
  /-- XOR_LO and XOR_HI, 64 bits (Table 18.3) -/
  xorout : BitVec 64 := 0xFFFFFFFF
  /-- RUN, the running value, 64 bits (Table 18.3, R486) -/
  run : BitVec 64 := 0
  /-- RUN_HI as latched by the last read of RUN_LO, 32 bits (R486) -/
  runHiSnap : BitVec 32 := 0
  /-- COUNT as latched by the last read of RUN_LO, 32 bits (R486) -/
  countSnap : BitVec 32 := 0
  /-- RUN_HI write staged for the next write of RUN_LO, 32 bits (R486) -/
  runHiStage : BitVec 32 := 0
  /-- RESULT_LO and RESULT_HI, 64 bits (Table 18.3) -/
  result : BitVec 64 := 0
  /-- words in the input FIFO, oldest first, each as its bytes still to be processed, at most 16 (R482) -/
  inFifo : List (List (BitVec 8)) := []
  /-- output bytes in order; four make a word, at most 16 words (R484) -/
  outFifo : List (BitVec 8) := []
  /-- the last output bytes of a CHECK not yet known to be message or check value (Table 18.2) -/
  strip : List (BitVec 8) := []
  /-- LEN, 24 bits (Table 18.3) -/
  len : BitVec 24 := 0
  /-- COUNT, 32 bits (Table 18.3) -/
  count : BitVec 32 := 0
  /-- ACTIVE (Table 18.3, R481) -/
  active : Bool := false
  /-- DONE (Table 18.3) -/
  done : Bool := false
  /-- MATCH (Table 18.3) -/
  isMatch : Bool := false
  /-- MISMATCH (Table 18.3) -/
  mismatch : Bool := false
  /-- SHORT (Table 18.3, R485) -/
  short : Bool := false
  /-- UNDERRUN (Table 18.3, R484) -/
  underrun : Bool := false
  /-- a FINISH waits for the queued input bytes (R481) -/
  finishing : Bool := false
deriving DecidableEq, Repr

/-- CRCU: the four units and the fixed checkers (18). -/
structure Crcu where
  /-- the units CRCU0 to CRCU3 (R480) -/
  units : List CrcUnit := List.replicate 4 {}
  /-- PASS, 4 bits (Table 18.4, R487) -/
  pass : BitVec 4 := 0
  /-- CRCU_FAIL0 to CRCU_FAIL3, saturating 32 bits (Table 18.4) -/
  fails : List Nat := [0, 0, 0, 0]
deriving DecidableEq, Repr

/-- CLK: sources, PLLs, gating and DVFS (15). -/
structure Clk where
  /-- FB_READY (Table 15.8) -/
  fbReady : Bool := false
  /-- REF_OK (Table 15.8) -/
  refOk : Bool := false
  /-- model time, in 4 ns ticks, since which REFOSC has been good (R412) -/
  refFrom : Nat := 0
  /-- LINKCLK of H0 and of H1 good (Table 15.8, LINK_OK) -/
  linkOk0 : Bool := false
  /-- LINKCLK of H1 good (Table 15.8, LINK_OK) -/
  linkOk1 : Bool := false
  /-- FBOSC good: not tripped (R409, R414) -/
  fbGood : Bool := true
  /-- tick at which FBOSC became good again after a trip; none where it has not tripped (R414) -/
  fbFrom : Option Nat := none
  /-- ON_FB (Table 15.8, R410) -/
  onFb : Bool := false
  /-- SEL, 2 bits (Table 15.8) -/
  sel : BitVec 2 := 0
  /-- COAST (Table 15.8, R410) -/
  coast : Bool := false
  /-- a PLL waits, coasting, for FBOSC to be ready (R411) -/
  waitFb : Bool := false
  /-- a relock is under way (R410, R416) -/
  relocking : Bool := false
  /-- failed relocks of PLL_A to its own good source, 0..3 (R410) -/
  failsA : Nat := 0
  /-- failed relocks of PLL_B to its own good source, 0..3 (R410) -/
  failsB : Nat := 0
  /-- PLLA_LOCK (Table 15.8) -/
  lockA : Bool := false
  /-- PLLB_LOCK (Table 15.8) -/
  lockB : Bool := false
  /-- the relock under way, or waited for, is to FBOSC (R410) -/
  toFb : Bool := false
  /-- FAILED, 7 bits (Table 15.8, R409) -/
  failed : BitVec 7 := 0
  /-- LINKCLK of H0 has tripped; FAILED bit 1 shows either (R409) -/
  linkBad0 : Bool := false
  /-- LINKCLK of H1 has tripped (R409) -/
  linkBad1 : Bool := false
  /-- ROW has stopped, so that Backstay holds every tile off from the SAFE clock (R415) -/
  rowStop : Bool := false
  /-- model time, in 4 ns ticks, at which the coast under way began (R415, Table 15.8) -/
  coastFrom : Nat := 0
  /-- COAST_CNT, saturating 16 bits (Table 15.8) -/
  coastCnt : Nat := 0
  /-- LAST_COAST in 0.1 us, saturating 16 bits (Table 15.8) -/
  lastCoast : Nat := 0
  /-- CLK_GATE, 6 bits (Table 15.8, R417) -/
  gate : BitVec 6 := 0
  /-- VPIX in mV, 13 bits (Table 15.8) -/
  vpix : Nat := 900
  /-- LOAD_OVER (Table 15.8, R420) -/
  loadOver : Bool := false
  /-- BUSY: a DVFS sequence is in progress (Table 15.8) -/
  dvfsBusy : Bool := false
  /-- OP_TGT, 2 bits (Table 15.8) -/
  opTgt : BitVec 2 := 0
  /-- OP_ACT, 2 bits (Table 15.8) -/
  opAct : BitVec 2 := 0
  /-- step of the DVFS sequence: 0 none, 1 ramp up, 2 settling, 3 divider due, 4 ramp down, 5 ramp back (R421, R422) -/
  dvfsStep : Nat := 0
  /-- SETTLE_TO in us, 10 bits (Table 15.8) -/
  settleTo : BitVec 10 := 100
  /-- model time, in 4 ns ticks, at which the VPIX ramp ended (R422) -/
  settleFrom : Nat := 0
deriving DecidableEq, Repr

/-- Registers kept across S4 and S5, and part of them across S3 (Table 16.6, R434, R465). -/
structure RetImage where
  /-- the register state of SCAN at the entry (Table 16.6) -/
  scan : Scan := {}
  /-- composition registers of both engines (Table 16.6) -/
  compA : Comp := {}
  /-- composition registers of ENG_B (Table 16.6) -/
  compB : Comp := {}
  /-- light pipeline registers of ENG_A (Table 16.6) -/
  lpA : LpRegs := {}
  /-- light pipeline registers of ENG_B (Table 16.6) -/
  lpB : LpRegs := {}
  /-- role and ATTEMPTS of Fore (R203) -/
  healthA : Health := {}
  /-- role and ATTEMPTS of Main (R203) -/
  healthB : Health := {}
  /-- tiles: TILE_CTRL, OC_TRIP and the flags of DIAG (Table 16.6) -/
  tiles : List Tile := []
  /-- DIAG per-tile SW_RETEST and SUSPECT_RUN (Table 16.6) -/
  diagTiles : List DiagTile := []
  /-- DIAG_CTRL (Table 16.6) -/
  diagCtrl : BitVec 32 := 0
  /-- ARRAY_CTRL.GTRIM (Table 16.6) -/
  gtrim : BitVec 8 := 0
  /-- ARRAY_VADJ_CFG (Table 16.6) -/
  vadjCfg : BitVec 32 := 0
  /-- ARRAY_VADJ_LIM (Table 16.6) -/
  vadjLim : BitVec 32 := 0
  /-- ARRAY_RAIL_CFG (Table 16.6) -/
  railCfg : BitVec 32 := 0
  /-- SCRUB_H (Table 16.6) -/
  scrubH : BitVec 8 := 0
  /-- class, configuration, targets, engine state (Table 16.6) -/
  bstay : Bstay := {}
  /-- HLY_CTRL of H0 and H1 (Table 16.6) -/
  hlyCtrl : List (BitVec 32) := []
  /-- role of H0 (Table 16.6) -/
  h0Role : PRole := .off
  /-- configured role of H1 (Table 16.6) -/
  h1Role : PRole := .off
  /-- TIME settings and domains (Table 16.6) -/
  time : Time := {}
  /-- CMD_SESS_CFG (Table 16.6) -/
  idle : BitVec 16 := 0
  /-- THERM configuration (Table 16.6) -/
  therm : Therm := {}
  /-- CLK_SRC.SEL, operating point and SETTLE_TO (Table 16.6) -/
  clk : Clk := {}
  /-- unit configurations of CRCU (Table 16.6) -/
  crcu : List CrcUnit := []
  /-- SHA-256 of the running image (R465) -/
  digest : BitVec 256 := 0
  /-- buffers loaded from records, without their contents, for the reload of R173: number and buffer -/
  reloads : List (Nat × Buffer) := []
deriving DecidableEq, Repr

/-- A save record (Table 16.9, R437). -/
structure SaveRec where
  /-- SAVE_SEQ, 32 bits -/
  seq : BitVec 32 := 0
  /-- CAUSE: 1 supply, 2 PRESENT_N, 3 command, 4 S5 entry -/
  cause : Nat := 0
  /-- flags, 8 bits: bit n a further trigger of cause n+1, bit 7 CONSUMED -/
  flags : BitVec 8 := 0
  /-- power state, beam state, TRY_CAUSE, TRY_PEND, SAFE_N_LATCH, engine state (bytes 8 to 15) -/
  pstate : PState := .s0
  /-- beam state -/
  beam : Beam := .normal
  /-- TRY_CAUSE -/
  tryCause : Nat := 0
  /-- TRY_PEND -/
  tryPend : Bool := false
  /-- SAFE_N_LATCH -/
  safeNLatch : Bool := false
  /-- role of Fore, ATTEMPTS of Fore -/
  roleA : Role := .active
  /-- role of Main -/
  roleB : Role := .standby
  /-- ATTEMPTS of Fore -/
  attA : Nat := 0
  /-- ATTEMPTS of Main -/
  attB : Nat := 0
  /-- working clock WK_NS and WK_ERA, 48 bits -/
  wk : BitVec 48 := 0
  /-- EPOCH of the selected domain -/
  epoch : BitVec 32 := 0
  /-- SCAN_STROKE_CNT -/
  stroke : BitVec 32 := 0
  /-- SCAN_FRAME_CNT -/
  frame : BitVec 24 := 0
  /-- operating seconds -/
  opsec : BitVec 32 := 0
  /-- operating point -/
  op : BitVec 2 := 0
  /-- role of H0 -/
  h0Role : PRole := .off
  /-- role of H1 -/
  h1Role : PRole := .off
  /-- SCAN_CTRL -/
  scanCtrl : BitVec 32 := 0
  /-- TJ_MAX -/
  tjMax : Int := 0
  /-- THERM levels: WARN, THROTTLE and SHUTDOWN of any tile, of any die and of the NTC, 9 bits -/
  levels : BitVec 9 := 0
  /-- up to 256 pixels declared since the last DEADMAP write: pixel number and kind -/
  pixels : List (Nat × BitVec 2) := []
  /-- firmware area staged in the retention RAM, 512 bytes -/
  fw : List Host.Cell := []
deriving DecidableEq, Repr

/-- PWR: power states, wake, supervisors, save and reset (16). -/
structure Pwr where
  /-- PSTATE, 3 bits (Table 16.12) -/
  pstate : PState := .s0
  /-- FROM, 3 bits (Table 16.12) -/
  from_ : PState := .s0
  /-- LAST_CAUSE, 4 bits (Table 16.12, Table 16.3) -/
  lastCause : Nat := 0
  /-- RST_CAUSE, 8 bits (Table 16.12, Table 16.11) -/
  rstCause : BitVec 8 := 1
  /-- the SYSTEM entry of the reset cause is still to be written (R444) -/
  causeOwed : Bool := true
  /-- the module is held in reset: POR, RESET_N low or a pending CHIP_RESET (R435, R442) -/
  inReset : Bool := false
  /-- a CHIP_RESET reaction waits for the log writer (R367) -/
  chipPend : Bool := false
  /-- model time, in 4 ns ticks, of the clock in which it was selected, whose records it waits for (R367) -/
  chipAt : Nat := 0
  /-- the array self-test has run since the reset; until then every tile stays in its safe state (R76, R98, R529) -/
  tested : Bool := false
  /-- a retry of wake stage 5 has powered off PIX, ROW, ARRAY and MEM in the exit under way (R432) -/
  lostRows : Bool := false
  /-- POR supervisor holds the module (R435) -/
  porHeld : Bool := false
  /-- boot has reached READY (R458) -/
  ready : Bool := false
  /-- the boot to come is a full boot from step 4, after a failed wake from S4 or S5 (R434, R465) -/
  bootFrom4 : Bool := false
  /-- boot is stopped by TEST_N (R519) -/
  bootStopped : Bool := false
  /-- PWR_OPSEC, 32 bits (Table 16.12, R440) -/
  opsec : BitVec 32 := 0
  /-- LINK_EN, POL and EN, 10 bits (Table 16.12, R432) -/
  wakeCtrl : BitVec 10 := 0x300
  /-- LAST_SRC, 4 bits (Table 16.12) -/
  lastSrc : Nat := 0
  /-- SEEN, 4 bits (Table 16.12) -/
  seen : BitVec 4 := 0
  /-- LEVEL of WAKE0 to WAKE3, 4 bits (Table 16.12) -/
  wakeLevel : BitVec 4 := 0
  /-- FAIL_CNT, saturating 16 bits (Table 16.12) -/
  failCnt : Nat := 0
  /-- STAGE: last failed stage (Table 16.12) -/
  failStage : Nat := 0
  /-- ATTEMPTS of the last failed stage (Table 16.12) -/
  failAttempts : Nat := 0
  /-- a WAKE_FAIL SYSTEM entry is owed at the next boot or wake (R432) -/
  wakeFailOwed : Bool := false
  /-- SYSTEM entries owed at the next boot or wake: the save's code in the low byte, SAVE_FAIL above it (R444) -/
  saveOwed : Nat := 0
  /-- entry asked for and still waiting (R429), with its cause -/
  entryTo : Option PState := none
  /-- a DEADMAP write has failed since the entry was asked for (R222) -/
  entryTried : Bool := false
  /-- port of the POWER_STATE that asked for it, whose reply goes first (R315) -/
  entryPort : CmdPort := .spi
  /-- stage of the exit in progress, 0 none, 1..5 (Table 16.4) -/
  wakeStage : Nat := 0
  /-- tries of that stage so far (R432) -/
  wakeTries : Nat := 0
  /-- model time, in 4 ns ticks, at which the present try of that stage begins (R432) -/
  stageAt : Option Nat := none
  /-- cause of the exit in progress (Table 16.3) -/
  wakeCause : Nat := 0
  /-- state POWER_STATE named for the end of the exit, S0 or S1 (R314) -/
  wakeTo : PState := .s0
  /-- a wake source was detected during an entry (R431): its cause and source -/
  wakeLatched : Option (Nat × Nat) := none
  /-- VHU_MV in mV, 13 bits (Table 16.12) -/
  vhuMv : Nat := 0
  /-- DIODE_OPEN (Table 16.12) -/
  diodeOpen : Bool := false
  /-- OV (Table 16.12) -/
  ov : Bool := false
  /-- LOW (Table 16.12) -/
  low : Bool := false
  /-- SAVE_LVL (Table 16.12) -/
  saveLvl : Bool := false
  /-- REG_GOOD (Table 16.12) -/
  regGood : Bool := false
  /-- IGNORE (Table 16.12, R443) -/
  ignore : Bool := false
  /-- STUCK (Table 16.12, R443) -/
  stuck : Bool := false
  /-- PRESENT (Table 16.12) -/
  present : Bool := false
  /-- RESET_LVL (Table 16.12) -/
  resetLvl : Bool := true
  /-- model time, in 4 ns ticks, since which RESET_N has been low (R443) -/
  lowAt : Nat := 0
  /-- a RESET_N low waits for the end of a save (R442) -/
  resetHeld : Bool := false
  /-- the boot-time PRESENT_N safe state is in force (R518) -/
  presentBlank : Bool := false
  /-- save in progress: its cause (Table 16.9); none when idle -/
  saving : Option Nat := none
  /-- further triggers seen during the save, flags (Table 16.9) -/
  saveFlags : BitVec 8 := 0
  /-- the module is parked by a save (R439): cause -/
  parked : Option Nat := none
  /-- the two save slots in Keep (R437); none is not valid -/
  slots : List (Option SaveRec) := [none, none]
  /-- SAVE_CNT, saturating 16 bits (Table 16.12) -/
  saveCnt : Nat := 0
  /-- LAST_US in us, saturating 8 bits (Table 16.12) -/
  lastUs : Nat := 0
  /-- VHU_TRIG in mV, 13 bits (Table 16.12) -/
  vhuTrig : Nat := 0
  /-- VHU_END in mV, 13 bits (Table 16.12) -/
  vhuEnd : Nat := 0
  /-- RET_ERR (Table 16.12, R434) -/
  retErr : Bool := false
  /-- retention image in the retention RAM (R434) -/
  image : Option RetImage := none
  /-- S5 image in Keep (R434) -/
  s5Image : Option RetImage := none
  /-- Rigger firmware's 16 KiB of retention RAM (R427) -/
  retFw : List Host.Cell := []
  /-- state held when S2 to S5 was entered: beam state and gapless setting (R38) -/
  heldBeam : Beam := .normal
  /-- the store contents are being restored after S4 or S5: the array stays dark (R38) -/
  restoring : Bool := false
  /-- VREG_FAIL, VSUP supervisors: the regulator condition now holds (R435) -/
  vregBad : Bool := false
deriving DecidableEq, Repr

/-- A directory entry of the manifest (Table 17.3). -/
structure DirEntry where
  /-- REC_ID, 16 bits -/
  recId : Nat := 0
  /-- FLAGS.REGION -/
  region : Bool := false
  /-- FLAGS.CS: CS1 -/
  cs1 : Bool := false
  /-- OFFSET, 32 bits -/
  offset : Nat := 0
  /-- LENGTH, 32 bits -/
  length : Nat := 0
  /-- VERIFIED (Table 17.12, R457) -/
  verified : Bool := false
deriving DecidableEq, Repr

/-- A device on a chip select (Table 17.12). -/
structure MemDev where
  /-- TYPE, 4 bits (Table 17.1); 0 none -/
  dtype : Nat := 0
  /-- CLK, 2 bits -/
  clk : Nat := 0
  /-- bus mode in use, coded as BUS[3:0] (R460, Table 17.2) -/
  mode : Nat := 0
  /-- SUSPEND -/
  suspend : Bool := false
  /-- ERASE_LOG2, 5 bits -/
  eraseLog2 : Nat := 0
  /-- PAGE_LOG2, 5 bits -/
  pageLog2 : Nat := 0
  /-- CAP_LOG2, 6 bits -/
  capLog2 : Nat := 0
  /-- bad-block table of the chip select in Keep: bad block and spare (Table 17.11) -/
  bbt : List (Nat × Nat) := []
  /-- SPARE: spare blocks left, 16 bits -/
  spare : Nat := 0
  /-- contents by logical byte address; an absent byte reads 0xFF -/
  bytes : List Host.Cell := []
deriving DecidableEq, Repr

/-- A NAND page that is not complete yet (R471). -/
structure PartPage where
  /-- chip select, CS1 if true -/
  cs1 : Bool := false
  /-- address of the page -/
  page : Nat := 0
  /-- the bytes of the page from its start, where written so far; the others are padded with 0xFF -/
  bytes : List (Option (BitVec 8)) := []
deriving DecidableEq, Repr

/-- Work of XMEM (Table 17.10). -/
inductive XKind where
  /-- RELOAD of bit k of XMEM_CTRL (class 1) -/
  | reload (k : Nat)
  /-- reload of a buffer on an exit from S4 or S5 (class 1): buffer, record, offset -/
  | exitReload (buf rec off : Nat)
  /-- Trysail buffer load of an image (class 2) -/
  | trysail (img : Nat)
  /-- LAYER_LOAD from a record (class 3): buffer, record, offset -/
  | layerLoad (buf rec off : Nat)
  /-- the memory command now executing (class 4) -/
  | memCmd
  /-- LOG flush (class 5) -/
  | logFlush
  /-- DEADMAP write (class 6) -/
  | deadmap
  /-- KEEP_MIRROR write (class 7) -/
  | mirror
  /-- scrub and refresh (class 8) -/
  | scrub
  /-- erase within a managed region (class 9): record type -/
  | regionErase (rec : Nat)
deriving DecidableEq, Repr

/-- XMEM: external memory, manifest and background work (17). -/
structure Xmem where
  /-- device on CS0 -/
  cs0 : MemDev := {}
  /-- device on CS1 -/
  cs1 : MemDev := {}
  /-- MAN_USED: 0 none, 1 primary, 2 backup (Table 17.12) -/
  manUsed : Nat := 0
  /-- ERASE_SUSP (Table 17.12, R467) -/
  eraseSusp : Bool := false
  /-- MSEQ of the manifest in use, 32 bits (Table 17.12) -/
  mseq : BitVec 32 := 0
  /-- REC_VALID, 14 bits (Table 17.12) -/
  recValid : BitVec 14 := 0
  /-- directory of the manifest in use (Table 17.3) -/
  dir : List DirEntry := []
  /-- SCRUB_H, 8 bits (Table 17.12) -/
  scrubH : BitVec 8 := 24
  /-- SCRUB_PASS, saturating 16 bits (Table 17.12) -/
  scrubPass : Nat := 0
  /-- REFRESH_CNT, saturating 16 bits (Table 17.12) -/
  refreshCnt : Nat := 0
  /-- XMEM_LOG_LSEQ, 32 bits (Table 17.12) -/
  logLseq : BitVec 32 := 0
  /-- waiting work, in order of arrival (R466) -/
  queue : List XKind := []
  /-- operation in progress (R466) -/
  busy : Option XKind := none
  /-- erase suspended for a foreground request (R467) -/
  suspended : Option XKind := none
  /-- model times, in 4 ns ticks, since which the Keep log entries not yet flushed have waited, oldest first (R466, R468) -/
  waits : List Nat := []
  /-- model time, in 4 ns ticks, at which the last scrub pass began; none before the first since boot or an exit (R470) -/
  scrubAt : Option Nat := none
  /-- slot verified by FW_UPDATE VERIFY with no write since, by slot (R464) -/
  fwVerified : List Bool := [false, false]
  /-- pixels declared since the last DEADMAP write (Table 16.9) -/
  declared : List (Nat × BitVec 2) := []
  /-- a pixel was declared since the DEADMAP write in progress started (R469) -/
  declaredSince : Bool := false
  /-- snapshot of the dead map taken at the start of the DEADMAP write in progress (R469) -/
  snap : Sparse (BitVec 2) := []
  /-- how many of the declared pixels that snapshot holds (R469) -/
  snapLen : Nat := 0
  /-- a DEADMAP write has started and has not ended (R469) -/
  deadOn : Bool := false
  /-- model time, in 4 ns ticks, at which the last DEADMAP write ended; none before the first (R469) -/
  deadEnd : Option Nat := none
  /-- partial NAND pages that wait for padding, at most one on a chip select (R471) -/
  partialPage : List PartPage := []
deriving DecidableEq, Repr

/-- KEEP: the module's MRAM (17). -/
structure Keep where
  /-- bytes of Keep that have a stated layout and no other home in the state; an absent byte is 0 (Table 17.11). At
  reset one valid header copy of zeros stands there (Table 17.16) -/
  bytes : List Host.Cell :=
    [(0, 0x53), (1, 0x50), (2, 0x4B), (3, 0x48), (124, 0x42), (125, 0xBB), (126, 0xE0), (127, 0xE3)]
  /-- MIRROR_RESTORED (Table 17.13) -/
  mirrorRestored : Bool := false
  /-- HDR_VALID, 2 bits (Table 17.13, R474) -/
  hdrValid : BitVec 2 := 0
  /-- KSEQ of the current header copy, 32 bits (Table 17.16) -/
  kseq : BitVec 32 := 0
  /-- CORR, saturating 16 bits (Table 17.13) -/
  corr : Nat := 0
  /-- UNCORR, saturating 16 bits (Table 17.13) -/
  uncorr : Nat := 0
  /-- WO_LOCK1 and WO_LOCK0, 64 bits (Table 17.13, R473). DESIGN CHOICE (log entry 158): the module is a shipped one, so block 1
  is locked, and SERIAL_SET, whose own reset value the table gives as 0, reads 1 -/
  lock : BitVec 64 := 2
  /-- PREF: slot B preferred (Table 17.14, R463) -/
  pref : Bool := false
  /-- TRIAL, 2 bits (Table 17.14, R463) -/
  trial : Nat := 0
  /-- MIN_SVN, 32 bits (Table 17.14) -/
  minSvn : BitVec 32 := 0
  /-- SVN_RUN, 16 bits (Table 17.14) -/
  svnRun : BitVec 32 := 0
  /-- RUNNING: 0 base firmware, 1 slot A, 2 slot B (Table 17.14) -/
  running : Nat := 0
  /-- FW_VERSION, 32 bits (Table 17.14) -/
  fwVersion : BitVec 32 := 0
  /-- the current header copy is copy 1; updates alternate (R474) -/
  hdrOne : Bool := false
  /-- MODEL'S OWN: S5 images written so far, on which the bytes of the image in Keep depend -/
  version : Nat := 0
deriving DecidableEq, Repr

/-- Row-cell receiver of legacy video (R499, R500; 19). -/
structure RowRx where
  /-- a legacy frame is in progress (R499) -/
  inFrame : Bool := false
  /-- last row stored of the frame in progress, 0..1023 (R499) -/
  lastRow : Nat := 0
  /-- cells are ignored until the first ROW 0 cell after the swap (R500) -/
  ignoring : Bool := false
  /-- VID_LOCK (Table 19.2, R499) -/
  vidLock : Bool := false
  /-- consecutive cells that passed both checks, 0..2 (R499) -/
  goodRun : Nat := 0
  /-- consecutive failed trailers, 0..4 (R499) -/
  badRun : Nat := 0
  /-- model time, in 4 ns ticks, of the last header (R499) -/
  headAt : Nat := 0
deriving DecidableEq, Repr

/-- LX1000 compatibility: the legacy registers and video buffers (19). -/
structure Legacy where
  /-- MODE, 2 bits (Table 19.2) -/
  mode : BitVec 2 := 2
  /-- RANGE of GCUR, 2 bits (Table 19.2) -/
  range : BitVec 2 := 3
  /-- C of GCUR as last written, 6 bits (Table 19.2, R495) -/
  c : BitVec 6 := 32
  /-- C sampled at the last compose point, 6 bits (R495, R497) -/
  cSmp : BitVec 6 := 32
  /-- GTRIM of GCUR, 8 bits (Table 19.2) -/
  gtrim : BitVec 8 := 128
  /-- FAULT, 14 bits (Table 19.4, R502) -/
  fault : BitVec 14 := 0
  /-- FAULT_MASK, 14 bits (Table 19.2) -/
  faultMask : BitVec 14 := 0x3FFF
  /-- FRAMES, wrapping 16 bits (Table 19.2, R500) -/
  frames : BitVec 16 := 0
  /-- VERR, saturating 16 bits (Table 19.2, R499) -/
  verr : Nat := 0
  /-- VDROP, saturating 16 bits (Table 19.2, R500) -/
  vdrop : Nat := 0
  /-- BUDGET in 10 mA, 10 bits (Table 19.2) -/
  budget : BitVec 10 := 600
  /-- TCUR0 to TCUR31, 16 bits each (Table 19.3) -/
  tcur : List (BitVec 16) := List.replicate 32 0xAAAA
  /-- TFLT0 to TFLT31, 16 bits each (Table 19.3, R506) -/
  tflt : List (BitVec 16) := List.replicate 32 0
  /-- the previous valid frame wrote 0x5A5A to KEY (R508) -/
  keyHalf : Bool := false
  /-- reply word owed to the next frame, 32 bits (R493); 0 before the first frame -/
  reply : BitVec 32 := 0
  /-- reply word sent during the last frame, 32 bits (R493) -/
  sent : BitVec 32 := 0
  /-- row-cell receiver (R499) -/
  rx : RowRx := {}
  /-- the legacy buffer shown in layer 0 is buffer 1 (R174, R500) -/
  showOne : Bool := false
  /-- a complete frame is pending (R500) -/
  pending : Bool := false
  /-- legacy buffer 0 by pixel number 1024y+x, 1 MiB; an absent byte is 0 (R174) -/
  buf0 : List Host.Cell := []
  /-- legacy buffer 1 by pixel number, 1 MiB; an absent byte is 0 (R174) -/
  buf1 : List Host.Cell := []
  /-- words of the return stream on H0_TX0 that have fallen due, oldest first (R501) -/
  returns : List (BitVec 32) := []
deriving DecidableEq, Repr

/-- States of the test access port of IEEE 1149.1 (R520; 20). -/
inductive TapState where
  | reset | idle
  | selDr | capDr | shDr | ex1Dr | paDr | ex2Dr | upDr
  | selIr | capIr | shIr | ex1Ir | paIr | ex2Ir | upIr
deriving DecidableEq, Repr

/-- The test access port (R520; 20). -/
structure Tap where
  /-- controller state (R520) -/
  st : TapState := .reset
  /-- instruction shift register, 4 bits (R520) -/
  irShift : BitVec 4 := 0
  /-- instruction in effect, 4 bits; BYPASS after test-logic reset (R520) -/
  ir : BitVec 4 := 0xF
  /-- data register being shifted, bit 0 next to TDO (R520) -/
  dr : List Bool := []
  /-- boundary-scan cells as preloaded at the last Update-DR (R520) -/
  bsr : List Bool := []
  /-- TCK cycles in a row with TMS high, 0..5 (R520) -/
  tmsHigh : Nat := 0
  /-- TDO: level driven, none when floating (R520, Table 20.4) -/
  tdo : Option Bool := none
deriving DecidableEq, Repr

/-- What an output contact does (Table 20.4): `pullUp` is its internal pull alone. -/
inductive Drive where
  | driven | idle | low | high | float | pullUp
deriving DecidableEq, Repr

/-- Contacts whose level or drive no other register holds (Table 20.4; 20). -/
structure Pins where
  /-- COMPAT, pulled up (R5, Table 20.4) -/
  compat : Bool := true
  /-- TEST_N, pulled up (R519, Table 20.4) -/
  testN : Bool := true
  /-- TCAPT, pulled down (R354, Table 20.4) -/
  tcapt : Bool := false
  /-- ERROR_N released (R368, R504) -/
  errorN : Bool := true
  /-- IRQ_N released (R33, R504) -/
  irqN : Bool := true
  /-- the internal pulls are there: VSUP is present (R517) -/
  pulls : Bool := true
  /-- H0_TX0 (Table 20.4, R501); floating while the port is OFF -/
  tx0 : Drive := .float
  /-- H0_TX1 (Table 20.4, R501); floating while the port is OFF -/
  tx01 : Drive := .float
  /-- H1_TX outputs (Table 20.4, R282); floating while the port is OFF -/
  tx1 : Drive := .float
  /-- MEM_CLK and MEM_DQ outputs (Table 20.4) -/
  mem : Drive := .driven
  /-- MEM_CS0_N and MEM_CS1_N (Table 20.4) -/
  memCs : Drive := .driven
  /-- MEM_RST_N (Table 20.4, R449) -/
  memRst : Drive := .low
  /-- VLED_ADJ (Table 20.4) -/
  vledAdj : Drive := .float
  /-- TPULSE0 and TPULSE1 (Table 20.4) -/
  tpulse : Drive := .driven
  /-- SPI_SDO, which is driven while SPI_CS_N is low: a row that uses the port is a whole such period, so that it floats after
  every row (Table 20.4) -/
  spiSdo : Drive := .float
  /-- TDO: driven in Shift-IR and Shift-DR only (Table 20.4) -/
  tdo : Drive := .float
  /-- the levels that EXTEST drives on the 19 outputs that the boundary-scan register covers, over what the fields above say:
  MEM_CLK, MEM_DQ0 to MEM_DQ7, MEM_DQS, MEM_CS0_N, MEM_CS1_N, MEM_RST_N, SPI_SDO, IRQ_N, ERROR_N, TPULSE0, TPULSE1 and VLED_ADJ;
  empty where EXTEST is not in effect (R520) -/
  scan : List Bool := []
deriving DecidableEq, Repr

/-- Interface mode and holds of the whole module (01, 20). -/
structure ModeSt where
  /-- interface mode (R5, R40) -/
  ifMode : IfMode := .native
  /-- the reset in progress or to come was caused by MODE_NATIVE (R41) -/
  forceNative : Bool := false
  /-- TEST_N low preceded the present reset, and its SYSTEM entry is owed (R519) -/
  testBefore : Bool := false
  /-- TEST_N low has been acted on and holds until a reset (R519) -/
  testHeld : Bool := false
  /-- EXTEST has been loaded and holds Dark until a reset (R520) -/
  extestHeld : Bool := false
deriving DecidableEq, Repr

/-- MODEL'S OWN: the blocks as they stood when the present 4 ns clock began, where a rule compares with that (R12, R219, R362,
R395). -/
structure Base where
  /-- ARRAY (03) -/
  arr : Arr := {}
  /-- fault windows of blocks 0x00 to 0x11 (11, 13) -/
  flt : List FltWin := (List.replicate 18 {}).set 8 { esc := 0x50002710 }
  /-- THERM, whose thresholds and HYST judge the readings of the clock (R395; 14) -/
  therm : Therm := {}
  /-- pins of PWR_WAKE_STAT.SEEN set in the present clock (R12) -/
  seen : BitVec 4 := 0
  /-- bits of the legacy FAULT set in the present clock (R503) -/
  fault : BitVec 14 := 0
  /-- bits of TFLT0 to TFLT31 set in the present clock (R503) -/
  tflt : List (BitVec 16) := List.replicate 32 0
  /-- increments of VERR made in the present clock (R503) -/
  verr : Nat := 0
  /-- increments of VDROP made in the present clock (R503) -/
  vdrop : Nat := 0
  /-- RW1C bits set and clearable counters incremented in the present clock: block, offset and lowest bit (R12, R70) -/
  hits : List (Nat × Nat × Nat) := []
deriving DecidableEq, Repr

/-- The whole block: every register, buffer, counter, mode and pin of the spec, the model's own
bookkeeping, and the queue of commands that wait. -/
structure State where
  /-- interface mode and holds (01, 20) -/
  mode : ModeSt := {}
  /-- SCAN (02) -/
  scan : Scan := {}
  /-- ARRAY (03) -/
  arr : Arr := {}
  /-- ENG_A, the engine Fore (04 to 06) -/
  engA : Engine := {}
  /-- ENG_B, the engine Main (04 to 06) -/
  engB : Engine := { health := { role := .standby } }
  /-- STORE (05) -/
  store : Store := {}
  /-- DIAG (07) -/
  diag : Diag := {}
  /-- BSTAY with arbitration (06, 08) -/
  bstay : Bstay := {}
  /-- HLY0 (09, 10) -/
  h0 : Port := {}
  /-- HLY1 (09, 10) -/
  h1 : Port := {}
  /-- control SPI port (10, 19) -/
  spi : SpiPort := {}
  /-- CMD (10) -/
  cmd : Cmd := {}
  /-- fault windows of blocks 0x00 to 0x11, by block ID (11, 13) -/
  flt : List FltWin := (List.replicate 18 {}).set 8 { esc := 0x50002710 }
  /-- TIME (12) -/
  time : Time := {}
  /-- log writer (13) -/
  log : LogW := {}
  /-- RIGGER (13, 17) -/
  rigger : Rigger := {}
  /-- THERM (14) -/
  therm : Therm := {}
  /-- CLK (15) -/
  clk : Clk := {}
  /-- PWR (16) -/
  pwr : Pwr := {}
  /-- XMEM (17) -/
  xmem : Xmem := {}
  /-- KEEP (17) -/
  keep : Keep := {}
  /-- CRCU (18) -/
  crcu : Crcu := {}
  /-- LX1000 compatibility (19) -/
  legacy : Legacy := {}
  /-- test access port (20) -/
  tap : Tap := {}
  /-- contacts (20) -/
  pins : Pins := {}
  /-- MODEL'S OWN: elapsed time in 4 ns ticks, advanced only by TIME_TICK -/
  ticks : Nat := 0
  /-- MODEL'S OWN: what the present 4 ns clock began with, and what was set or counted in it (R12, R70) -/
  base : Base := {}
  /-- MODEL'S OWN: count of the free values drawn so far -/
  freeCtr : Nat := 0
  /-- MODEL'S OWN: status byte answered by the last register access that a row makes directly -/
  lastStatus : BitVec 8 := 0
  /-- MODEL'S OWN: value answered by the last register read that a row makes directly -/
  lastRead : BitVec 32 := 0
  /-- commands that wait, first in, first out -/
  pending : List Instr := []
deriving DecidableEq, Repr

/-- The machine right after reset: every field at the value its docstring's table gives, or, where the spec
gives none, at the value a log entry of notes/assumptions names. -/
def State.reset : State := {}

/-- Why a step stops with a fault. No meaning of this model faults: every row completes with a next state.
The one reason is kept so that the outcome type has the form the host fixes; nothing raises it (safe). -/
inductive Fault where
  /-- Raised by no row: the block has no stop of its own (safe). -/
  | none
deriving DecidableEq, Repr

/-- Why a step is refused. -/
inductive Refusal where
  /-- Raised by exec for a row that has no meaning yet, named by its mnemonic (safe). -/
  | notModelled (mnemonic : String)
deriving DecidableEq, Repr

end Sys2Proof.Machine
end

