-- ==== Sys2Proof/Machine/Bits.lean ====
section
/-! DEFINITION. Bit fields, saturating counters, sparse tables, byte memories, sorted sets and the
CRC model of R478, shared by every block. -/

namespace Sys2Proof.Machine

/-! ### Fields of a word -/

/-- The field of `len` bits from bit `lo` up, as a number (R7). -/
def bits (w : Word) (lo len : Nat) : Nat := (w.toNat >>> lo) % 2 ^ len

/-- Bit `n` of a word (R7). -/
def bit (w : Word) (n : Nat) : Bool := w.getLsbD n

/-- A word with the number `v` placed from bit `lo` up; bits above 31 are lost. -/
def put (lo v : Nat) : Word := BitVec.ofNat 32 (v <<< lo)

/-- One bit of a word. -/
def putb (lo : Nat) (b : Bool) : Word := if b then BitVec.ofNat 32 (1 <<< lo) else 0

/-- The word `w` with its field of `len` bits from `lo` up replaced by `v`. -/
def setField (w : Word) (lo len v : Nat) : Word :=
  (w &&& ~~~ (put lo (2 ^ len - 1))) ||| put lo (v % 2 ^ len)

/-- The two's-complement value of an `n`-bit number (R321). -/
def signed (n v : Nat) : Int := if v % 2 ^ n < 2 ^ (n - 1) then (v % 2 ^ n : Nat) else (v % 2 ^ n : Nat) - (2 ^ n : Nat)

/-- An integer as an `n`-bit two's-complement number. -/
def unsigned (n : Nat) (i : Int) : Nat := (i % (2 ^ n : Nat)).toNat

/-- No bit of `w` outside `mask` is set (R321). -/
def within (w mask : Word) : Bool := w &&& ~~~ mask == 0

/-- A counter of `n` bits that saturates. -/
def satInc (n c : Nat) : Nat := min (c + 1) (2 ^ n - 1)

/-- A counter of `n` bits that saturates, advanced by `k`. -/
def satAdd (n c k : Nat) : Nat := min (c + k) (2 ^ n - 1)

/-- A counter after a write of 1 to its clear bit: 0, or 1 where it was incremented in the clock of the write, `hit` (R70). -/
def cleared (hit : Bool) (now : Nat) : Nat := if hit && now != 0 then 1 else 0

/-- An RW1C bit after a write whose bit is `w`: a write of 1 clears it unless it was set in the clock of the write, `hit`
(R12). -/
def rw1c (w hit now : Bool) : Bool := now && (!w || hit)

/-- The low byte first bytes of a word (R8). -/
def wordBytes (w : Word) : List Byte :=
  [w.setWidth 8, (w >>> 8).setWidth 8, (w >>> 16).setWidth 8, (w >>> 24).setWidth 8]

/-- The bytes of a list of words, low byte first in each (R8). -/
def wordsBytes (ws : List Word) : List Byte := ws.flatMap wordBytes

/-- Four bytes as a word, the first lowest (R8). -/
def bytesWord : List Byte → Word
  | [] => 0
  | b :: bs => b.setWidth 32 ||| (bytesWord bs <<< 8)

/-- Bytes as words, four to a word, the first lowest; a short last word is filled with zeros (R8). -/
def bytesWords : List Byte → List Word
  | a :: b :: c :: d :: rest => bytesWord [a, b, c, d] :: bytesWords rest
  | [] => []
  | short => [bytesWord short]

/-- The `n` low bytes of a number, low byte first. -/
def natBytes : Nat → Nat → List Byte
  | 0, _ => []
  | n + 1, v => BitVec.ofNat 8 v :: natBytes n (v / 256)

/-- Bytes as a number, the first lowest. -/
def bytesNat : List Byte → Nat
  | [] => 0
  | b :: bs => b.toNat + 256 * bytesNat bs

/-! ### Sparse tables: association lists with rising keys -/

/-- The entry at key `k`, or `d` where none is listed. -/
def spGet {α : Type} (m : Sparse α) (k : Nat) (d : α) : α :=
  match m with
  | [] => d
  | (j, v) :: rest => if j = k then v else spGet rest k d

/-- The table with `v` at key `k`. -/
def spSet {α : Type} (m : Sparse α) (k : Nat) (v : α) : Sparse α :=
  match m with
  | [] => [(k, v)]
  | (j, u) :: rest =>
    if k < j then (k, v) :: (j, u) :: rest
    else if j = k then (k, v) :: rest
    else (j, u) :: spSet rest k v

/-- The table without key `k`. -/
def spDel {α : Type} (m : Sparse α) (k : Nat) : Sparse α := m.filter (fun p => p.1 != k)

/-- The table with `v` at key `k`, kept out of the list where it is the value an unlisted key has. -/
def spPut {α : Type} [DecidableEq α] (d : α) (m : Sparse α) (k : Nat) (v : α) : Sparse α :=
  if v = d then spDel m k else spSet m k v

/-- The table with the entries of `new` put in, each over what it held (`d` is the unlisted value). -/
def spPutAll {α : Type} [DecidableEq α] (d : α) (m : Sparse α) (new : List (Nat × α)) : Sparse α :=
  new.foldl (fun acc p => spPut d acc p.1 p.2) m

/-! ### Byte memories in canonical form -/

/-- The byte at address `a`; an unlisted address reads `d`. -/
def memGet (d : Byte) (m : List Host.Cell) (a : Nat) : Byte := spGet m a d

/-- The memory with byte `v` at address `a`, in canonical form: rising addresses, no entry equal to `d`. -/
def memSet (d : Byte) (m : List Host.Cell) (a : Nat) (v : Byte) : List Host.Cell := spPut d m a v

/-- The bytes from address `a` up to below `e`, of a memory in canonical form. -/
def memFrom (d : Byte) (e : Nat) : List Host.Cell → Nat → List Byte
  | [], a => List.replicate (e - a) d
  | (k, v) :: rest, a =>
    if k < a then memFrom d e rest a
    else if e ≤ k then List.replicate (e - a) d
    else List.replicate (k - a) d ++ v :: memFrom d e rest (k + 1)

/-- `n` bytes from address `a` up. -/
def memRead (d : Byte) (m : List Host.Cell) (a n : Nat) : List Byte := memFrom d (a + n) m a

/-- The entries that the bytes `bs` from address `a` up make. -/
def memCells (d : Byte) : Nat → List Byte → List Host.Cell
  | _, [] => []
  | a, b :: bs => if b = d then memCells d (a + 1) bs else (a, b) :: memCells d (a + 1) bs

/-- The memory with the bytes `bs` stored from address `a` up. -/
def memWrite (d : Byte) (m : List Host.Cell) (a : Nat) (bs : List Byte) : List Host.Cell :=
  m.filter (fun p => p.1 < a) ++ (memCells d a bs ++ m.filter (fun p => a + bs.length ≤ p.1))

/-- The memory with every byte of an address range at the unlisted value. -/
def memErase (m : List Host.Cell) (a n : Nat) : List Host.Cell :=
  m.filter (fun p => p.1 < a || a + n ≤ p.1)

/-- The canonical form: addresses strictly rise and no entry has the unlisted value. -/
def Memory.wf (d : Byte) : List Host.Cell → Bool
  | [] => true
  | [p] => p.2 != d
  | p :: q :: rest => p.1 < q.1 && p.2 != d && Memory.wf d (q :: rest)

/-! ### Sorted sets of numbers -/

/-- The set with `k` in it. -/
def setIns (l : List Nat) (k : Nat) : List Nat :=
  match l with
  | [] => [k]
  | j :: rest => if k < j then k :: j :: rest else if k = j then j :: rest else j :: setIns rest k

/-- The set without `k`. -/
def setDel (l : List Nat) (k : Nat) : List Nat := l.filter (fun j => j != k)

/-- The union of two sets. -/
def setUnion (a b : List Nat) : List Nat := b.foldl setIns a

/-- Element `n` of a list replaced by its image. -/
def modAt {α : Type} (l : List α) (n : Nat) (f : α → α) : List α :=
  match l, n with
  | [], _ => []
  | a :: rest, 0 => f a :: rest
  | a :: rest, n + 1 => a :: modAt rest n f

/-! ### The CRC model (R478) -/

/-- Parameters of a CRC (R478). -/
structure CrcP where
  /-- WIDTH, 1..64 -/
  width : Nat
  /-- POLY without its top term -/
  poly : Nat
  /-- INIT -/
  init : Nat
  /-- REFIN -/
  refin : Bool
  /-- REFOUT -/
  refout : Bool
  /-- XOROUT -/
  xorout : Nat
deriving DecidableEq, Repr

/-- The order of the `n` low bits of `x` reversed (R478). -/
def reflect (x n : Nat) : Nat :=
  (List.range n).foldl (fun acc i => acc * 2 + (x >>> i) % 2) 0

/-- One bit of the message into the running value (R478). -/
def crcBit (p : CrcP) (run : Nat) (b : Nat) : Nat :=
  let top := ((run >>> (p.width - 1)) % 2) ^^^ (b % 2)
  let r := (run * 2) % 2 ^ p.width
  if top = 1 then r ^^^ (p.poly % 2 ^ p.width) else r

/-- One byte of the message into the running value (R478). -/
def crcByte (p : CrcP) (run : Nat) (v : Byte) : Nat :=
  let v := if p.refin then reflect v.toNat 8 else v.toNat
  [7, 6, 5, 4, 3, 2, 1, 0].foldl (fun r k => crcBit p r (v >>> k)) run

/-- The result for a running value (R478). -/
def crcOut (p : CrcP) (run : Nat) : Nat :=
  (if p.refout then reflect run p.width else run) ^^^ (p.xorout % 2 ^ p.width)

/-- The CRC of a message (R478). -/
def crc (p : CrcP) (msg : List Byte) : Nat :=
  crcOut p (msg.foldl (crcByte p) (p.init % 2 ^ p.width))

/-- CRC-8 of Table 18.1. -/
def crc8P : CrcP := ⟨8, 0x2F, 0xFF, false, false, 0⟩
/-- CRC-16 of Table 18.1. -/
def crc16P : CrcP := ⟨16, 0x1021, 0xFFFF, false, false, 0⟩
/-- CRC-32 of Table 18.1. -/
def crc32P : CrcP := ⟨32, 0x04C11DB7, 0xFFFFFFFF, true, true, 0xFFFFFFFF⟩
/-- CRC-32C of Table 18.1. -/
def crc32cP : CrcP := ⟨32, 0x1EDC6F41, 0xFFFFFFFF, true, true, 0xFFFFFFFF⟩

/-- CRC-8 of a message (Table 18.1). -/
def crc8 (m : List Byte) : Nat := crc crc8P m
/-- CRC-16 of a message (Table 18.1). -/
def crc16 (m : List Byte) : Nat := crc crc16P m
/-- CRC-32 of a message (Table 18.1). -/
def crc32 (m : List Byte) : Nat := crc crc32P m
/-- CRC-32C of a message (Table 18.1). -/
def crc32c (m : List Byte) : Nat := crc crc32cP m

/-- The three upper bytes of a word, most significant first: what the CRC-8 of a legacy frame, a row-cell
header or a tunnel header covers (Tables 18.1, 19.1 and 19.5). -/
def upper24 (w : Word) : List Byte := [(w >>> 24).setWidth 8, (w >>> 16).setWidth 8, (w >>> 8).setWidth 8]

/-- Bits [7:0] hold the CRC-8 over bits [31:8] (Table 19.1). -/
def crc8Ok (w : Word) : Bool := bits w 0 8 == crc8 (upper24 w)

/-- A word with the CRC-8 over its bits [31:8] in bits [7:0] (Table 19.1). -/
def withCrc8 (w : Word) : Word := setField w 0 8 (crc8 (upper24 w))

/-! ### Coordinates (R18) -/

/-- The tile of a pixel number 1024y + x (R18). -/
def tileOfPix (k : Nat) : Nat := 16 * (k / 1024 / 64) + (k % 1024) / 64

/-- The segment 16y + j of a pixel number (R52). -/
def segOfPix (k : Nat) : Nat := 16 * (k / 1024) + (k % 1024) / 64

/-- The tile of a segment 16y + j (03). -/
def tileOfSeg (g : Nat) : Nat := 16 * (g / 16 / 64) + g % 16

/-- Segment `g` lies in tile `t`. -/
def segInTile (g t : Nat) : Bool := tileOfSeg g == t

/-- The 64 segments of a tile. -/
def segsOfTile (t : Nat) : List Nat := (List.range 64).map (fun r => 16 * (64 * (t / 16) + r) + t % 16)

/-- Every segment of the array. -/
def allSegs : List Nat := List.range 16384

end Sys2Proof.Machine
end

