-- ==== Sys2Proof/Machine/Faults.lean ====
section
/-! DEFINITION. The fault sources of every block with their severities, default reactions, capabilities and
legacy bits (Tables 03.17, 04.11, 05.14, 06.8, 07.14, 08.10, 09.10, 10.13, 12.10, 13.4, 13.10, 14.8, 15.9, 16.13,
17.15 and 19.4). -/

namespace Sys2Proof.Machine

/-- A fault source (R333, R363, R379). -/
structure Src where
  /-- block ID -/
  block : Nat
  /-- source number -/
  source : Nat
  /-- severity 0..3 (R363) -/
  sev : Nat
  /-- default FLT_REACT (Table 13.2 bits) -/
  react : BitVec 8
  /-- injection capability (R379) -/
  inject : Bool := false
  /-- force bit (R379) -/
  force : Bool := false
  /-- carries a tile index (R365) -/
  tile : Bool := false
deriving DecidableEq, Repr

/-- Sources of the CMD, HLY, TIME and STORE windows. -/
def srcsA : List Src :=
  [⟨0, 0, 1, 1, false, false, false⟩, ⟨0, 1, 2, 1, false, false, false⟩, ⟨0, 2, 1, 1, false, false, false⟩,
   ⟨0, 3, 2, 0x11, false, false, false⟩,
   ⟨1, 0, 1, 1, false, false, false⟩, ⟨1, 1, 2, 1, false, false, false⟩, ⟨1, 2, 1, 1, false, false, false⟩,
   ⟨1, 3, 2, 1, false, false, false⟩, ⟨1, 4, 1, 1, false, false, false⟩,
   ⟨2, 0, 1, 1, false, false, false⟩, ⟨2, 1, 2, 1, false, false, false⟩, ⟨2, 2, 1, 1, false, false, false⟩,
   ⟨2, 3, 2, 1, false, false, false⟩, ⟨2, 4, 1, 1, false, false, false⟩,
   ⟨3, 0, 2, 1, false, false, false⟩, ⟨3, 1, 1, 1, false, false, false⟩, ⟨3, 2, 2, 1, false, false, false⟩,
   ⟨3, 3, 2, 1, false, false, false⟩, ⟨3, 4, 1, 1, false, false, false⟩, ⟨3, 5, 1, 1, false, false, false⟩,
   ⟨4, 0, 1, 1, true, false, false⟩, ⟨4, 1, 0, 0, true, false, false⟩, ⟨4, 2, 0, 1, false, false, false⟩]

/-- Sources of an engine window, by block ID (Tables 04.11 and 06.8). -/
def srcsEng (b : Nat) : List Src :=
  [⟨b, 0, 2, 1, true, false, false⟩, ⟨b, 1, 2, 1, true, false, false⟩, ⟨b, 2, 2, 1, false, true, false⟩,
   ⟨b, 3, 2, 1, true, false, false⟩, ⟨b, 4, 1, 1, false, false, false⟩, ⟨b, 5, 2, 1, false, false, false⟩,
   ⟨b, 6, 3, 0x11, false, false, false⟩, ⟨b, 16, 1, 1, true, false, false⟩, ⟨b, 17, 1, 1, false, false, false⟩]

/-- Sources of the ARRAY, DIAG and BSTAY windows. -/
def srcsB : List Src :=
  [⟨8, 0, 2, 0x21, false, false, true⟩, ⟨8, 1, 2, 0x21, true, false, true⟩, ⟨8, 2, 1, 1, false, false, false⟩,
   ⟨8, 3, 2, 0x11, false, false, false⟩, ⟨8, 4, 1, 1, false, false, true⟩, ⟨8, 5, 1, 1, false, false, false⟩,
   ⟨9, 0, 0, 1, false, false, false⟩, ⟨9, 1, 1, 1, false, false, true⟩, ⟨9, 2, 2, 0x21, false, false, true⟩,
   ⟨9, 3, 2, 0x11, false, false, true⟩, ⟨9, 4, 2, 0x21, false, false, true⟩, ⟨9, 5, 2, 0x11, false, false, false⟩,
   ⟨9, 6, 1, 1, false, false, false⟩, ⟨9, 7, 1, 1, true, false, false⟩,
   ⟨10, 0, 3, 0x51, false, true, false⟩, ⟨10, 1, 3, 0x51, false, true, false⟩, ⟨10, 2, 2, 1, false, true, false⟩,
   ⟨10, 3, 1, 1, true, false, false⟩, ⟨10, 4, 3, 0x51, true, false, false⟩, ⟨10, 5, 3, 0x51, false, false, false⟩,
   ⟨10, 6, 3, 0x51, true, false, false⟩, ⟨10, 7, 1, 1, true, false, false⟩, ⟨10, 8, 2, 1, true, false, false⟩,
   ⟨10, 9, 1, 1, false, false, false⟩, ⟨10, 10, 2, 1, false, false, false⟩, ⟨10, 11, 3, 0x11, false, false, false⟩]

/-- Sources of the CRCU, XMEM, KEEP, CLK, PWR, THERM and RIGGER windows. -/
def srcsC : List Src :=
  [⟨11, 0, 2, 0x11, true, false, false⟩,
   ⟨12, 0, 1, 1, false, false, false⟩, ⟨12, 1, 1, 1, true, false, false⟩, ⟨12, 2, 1, 1, false, false, false⟩,
   ⟨12, 3, 2, 1, false, false, false⟩, ⟨12, 4, 2, 1, false, false, false⟩, ⟨12, 5, 2, 1, false, false, false⟩,
   ⟨12, 6, 1, 1, false, false, false⟩, ⟨12, 7, 1, 1, false, false, false⟩, ⟨12, 8, 0, 0, false, false, false⟩,
   ⟨13, 0, 2, 1, true, false, false⟩, ⟨13, 1, 0, 0, true, false, false⟩, ⟨13, 2, 1, 1, false, false, false⟩,
   ⟨14, 0, 2, 1, false, true, false⟩, ⟨14, 1, 1, 1, false, true, false⟩, ⟨14, 2, 3, 0x91, false, true, false⟩,
   ⟨14, 3, 3, 0x91, false, true, false⟩, ⟨14, 4, 2, 1, false, false, false⟩, ⟨14, 5, 2, 1, false, false, false⟩,
   ⟨14, 6, 1, 1, false, false, false⟩, ⟨14, 7, 1, 1, false, false, false⟩,
   ⟨15, 0, 1, 1, false, true, false⟩, ⟨15, 1, 2, 0x11, false, true, false⟩, ⟨15, 2, 3, 0x91, false, true, false⟩,
   ⟨15, 3, 2, 0x11, false, false, false⟩, ⟨15, 4, 2, 1, true, false, false⟩, ⟨15, 5, 1, 1, false, false, false⟩,
   ⟨15, 6, 1, 1, false, false, false⟩,
   ⟨16, 0, 1, 1, false, false, true⟩, ⟨16, 1, 2, 1, false, false, true⟩, ⟨16, 2, 1, 1, false, false, false⟩,
   ⟨16, 3, 3, 0x91, false, false, false⟩, ⟨16, 4, 1, 1, false, false, false⟩, ⟨16, 5, 2, 0x91, false, false, false⟩,
   ⟨16, 6, 1, 1, false, false, true⟩, ⟨16, 7, 1, 1, false, false, false⟩,
   ⟨17, 0, 2, 5, false, false, false⟩, ⟨17, 1, 3, 0x51, false, false, false⟩, ⟨17, 2, 2, 3, true, false, false⟩,
   ⟨17, 3, 0, 0, true, false, false⟩, ⟨17, 4, 1, 1, false, false, false⟩, ⟨17, 5, 2, 0x11, false, false, false⟩]

/-- Every fault source of the module (R333). -/
def srcs : List Src := srcsA ++ srcsEng 5 ++ srcsEng 6 ++ srcsB ++ srcsC

/-- Source `n` of block `b`, where the block assigns it. -/
def srcOf (b n : Nat) : Option Src := srcs.find? (fun r => r.block == b && r.source == n)

/-- The sources of a block, as a mask (R333). -/
def srcMask (b : Nat) (p : Src → Bool) : Word :=
  (srcs.filter (fun r => r.block == b && p r)).foldl (fun m r => m ||| putb r.source true) 0

/-- The severity of a source (R363). -/
def sevOf (b n : Nat) : Nat := ((srcOf b n).map Src.sev).getD 0

/-- The default reactions of a source. -/
def reactOf (b n : Nat) : BitVec 8 := ((srcOf b n).map Src.react).getD 0

/-- The FAULT bit of LX1000 compatibility that a native source sets (Table 19.4); INFO sources set none
(PIX_DEAD sets OPEN or SHORT where pixels are declared). -/
def legacyBit (b n : Nat) : Option Nat :=
  if sevOf b n = 0 then none
  else if b = 1 then some 6
  else if b = 5 ∨ b = 6 then (if n ≤ 6 then some 9 else some 13)
  else if b = 8 then (if n ≤ 1 then some 2 else some 3)
  else if b = 9 then (if n = 5 then some 3 else if 1 ≤ n ∧ n ≤ 4 then some 2 else some 13)
  else if b = 10 then (if n = 11 then some 9 else some 10)
  else if b = 14 then some 12
  else if b = 15 then some 11
  else if b = 16 then (if n = 1 ∨ n = 3 ∨ n = 5 then some 5 else some 4)
  else if b = 17 ∧ n = 1 then some 10
  else some 13

end Sys2Proof.Machine
end

