-- ==== Sys2Proof/Machine/Ops.lean ====
section
/-! DEFINITION. The operations every block shares: access to engines, ports and tiles; working time; the engine
state; settings and clearings of faults with their reactions, records and events; the event queues; beam requests;
the end of a session; and the forcing rules, which close every evaluation. -/

namespace Sys2Proof.Machine

/-! ### Access -/

/-- Engine `e` (Table 01.1). -/
def State.eng (s : State) : Eng → Engine
  | .fore => s.engA
  | .main => s.engB

/-- The state with engine `e` changed. -/
def State.modEng (s : State) (e : Eng) (f : Engine → Engine) : State :=
  match e with
  | .fore => { s with engA := f s.engA }
  | .main => { s with engB := f s.engB }

/-- A new 4 ns clock begins (R12, R70). -/
def newClock (s : State) : State :=
  { s with
    flt := s.flt.map (fun w => { w with injNow := 0, realNow := 0 })
    base := { arr := s.arr, flt := s.flt, therm := s.therm } }

/-- The RW1C bit, or the counter with its lowest bit, at bit `n` of the register at `off` of block `b` is set or incremented in
the present clock (R12, R70). -/
def State.hit (s : State) (b off n : Nat) : State :=
  { s with base := { s.base with hits := if s.base.hits.contains (b, off, n) then s.base.hits else (b, off, n) :: s.base.hits } }

/-- The same, where `c` holds. -/
def State.hitIf (s : State) (c : Bool) (b off n : Nat) : State := if c then s.hit b off n else s

/-- The bit or counter has been set or incremented in the present clock (R12, R70). -/
def State.wasHit (s : State) (b off n : Nat) : Bool := s.base.hits.contains (b, off, n)

/-- The fault window of block `b` as it stood when the present clock began. -/
def Base.win (x : Base) (b : Nat) : FltWin := x.flt.getD b {}

/-- The other engine. -/
def other : Eng → Eng
  | .fore => .main
  | .main => .fore

/-- The block ID of an engine (Table 00.5). -/
def engBlk : Eng → Nat
  | .fore => 5
  | .main => 6

/-- The number of an engine in events: 0 Fore, 1 Main (Table 11.10). -/
def engNo : Eng → Nat
  | .fore => 0
  | .main => 1

/-- Halyard port `p`. -/
def State.hport (s : State) : HPort → Port
  | .p0 => s.h0
  | .p1 => s.h1


/-- The state with Halyard port `p` changed. -/
def State.modPort (s : State) (p : HPort) (f : Port → Port) : State :=
  match p with
  | .p0 => { s with h0 := f s.h0 }
  | .p1 => { s with h1 := f s.h1 }

/-- The block ID of a port (Table 00.5). -/
def portBlk : HPort → Nat
  | .p0 => 1
  | .p1 => 2

/-- The number of a command port (Table 10.10). -/
def portNo : CmdPort → Nat
  | .h0 => 0
  | .h1 => 1
  | .spi => 2

/-- The command port of a Halyard port. -/
def cmdPort : HPort → CmdPort
  | .p0 => .h0
  | .p1 => .h1

/-- Tile `t` of ARRAY. -/
def State.tile (s : State) (t : Nat) : Tile := s.arr.tiles.getD t {}

/-- The state with tile `t` changed. -/
def State.modTile (s : State) (t : Nat) (f : Tile → Tile) : State :=
  { s with arr := { s.arr with tiles := modAt s.arr.tiles t f } }

/-- The state with the DIAG record of tile `t` changed. -/
def State.modDiagTile (s : State) (t : Nat) (f : DiagTile → DiagTile) : State :=
  { s with diag := { s.diag with tiles := modAt s.diag.tiles t f } }

/-- The fault window of block `b`. -/
def State.win (s : State) (b : Nat) : FltWin := s.flt.getD b {}

/-- The state with the fault window of block `b` changed. -/
def State.modWin (s : State) (b : Nat) (f : FltWin → FltWin) : State :=
  { s with flt := modAt s.flt b f }

/-- The module is in one of the two compatibility modes (Table 00.2). -/
def State.compat (s : State) : Bool := s.mode.ifMode != .native

/-- A fresh number for a free value. -/
def State.draw (s : State) : Nat × State := (s.freeCtr, { s with freeCtr := s.freeCtr + 1 })

/-! ### Codes of enumerated fields -/

/-- PSTATE (Table 16.12). -/
def pstateNo : PState → Nat
  | .s0 => 0 | .s1 => 1 | .s2 => 2 | .s3 => 3 | .s4 => 4 | .s5 => 5

/-- The power state with a code. -/
def pstateOf : Nat → PState
  | 0 => .s0 | 1 => .s1 | 2 => .s2 | 3 => .s3 | 4 => .s4 | _ => .s5

/-- BEAM (Table 08.5). -/
def beamNo : Beam → Nat
  | .normal => 0 | .trysail => 1 | .dark => 2

/-- CLASS (Table 08.2). -/
def classNo : BClass → Nat
  | .low => 0 | .high => 1 | .adaptive => 2 | .signal => 3

/-- The class with a code (Table 08.2). -/
def classOf : Nat → BClass
  | 0 => .low | 1 => .high | 2 => .adaptive | _ => .signal

/-- ROLE of HLY_STATUS (Table 09.8). -/
def proleNo : PRole → Nat
  | .off => 0 | .headEnd => 1 | .leader => 2 | .follower => 3

/-- ROLE of an engine (Table 06.1). -/
def roleNo : Role → Nat
  | .active => 0 | .standby => 1 | .failed => 2 | .permFailed => 3

/-- The role of an engine with a code (Table 06.1). -/
def roleOf : Nat → Role
  | 0 => .active | 1 => .standby | 2 => .failed | _ => .permFailed

/-- IfMode as in GET_STATUS (Table 11.3). -/
def modeNo : IfMode → Nat
  | .native => 0 | .compat => 1 | .compatExt => 2

/-- Power state S2, S3, S4 or S5. -/
def deep : PState → Bool
  | .s0 | .s1 => false
  | _ => true

/-- Power state S4 or S5. -/
def vault : PState → Bool
  | .s4 | .s5 => true
  | _ => false

/-! ### Time -/

/-- ERA_EFF of a domain (R338). -/
def eraEff (d : Domain) : Nat := (d.era.toNat + if d.wrapPend then 1 else 0) % 65536

/-- The extended time of a domain in 2^-32 ns (R338, R347). -/
def extFrac (d : Domain) : Nat := (eraEff d * 2 ^ 32 + d.ns.toNat) * 2 ^ 32 + d.frac.toNat

/-- The selected domain (R347). -/
def selDomain (s : State) : Domain := if s.time.selAct then s.time.d1 else s.time.d0

/-- Working time W in 2^-32 ns, modulo 2^80 (R347). -/
def workFrac (s : State) : Nat :=
  (((extFrac (selDomain s) : Int) + s.time.wkOfs) % (2 ^ 80 : Nat)).toNat

/-- Working time in whole nanoseconds, 48 bits (R347). -/
def workNs (s : State) : Nat := workFrac s / 2 ^ 32

/-- The working-clock ns32 (R330, Table 13.5). -/
def ns32 (s : State) : Word := BitVec.ofNat 32 (workNs s)

/-- The working era (Table 13.5). -/
def wkEra (s : State) : Nat := workNs s / 2 ^ 32

/-- The row bus is closed (Table 02.2, R46, R351): in a full gap for 0.5 us from its start and from 6.0 us on, in a gapless
gap throughout, but for the time that a slip inserts, from gap time 6.4 us or 0.5 us on. -/
def busClosed (s : State) : Bool :=
  let c := s.scan
  let t := 4 * (s.ticks - c.gapTick)
  if !c.inGap then false
  else if c.strokeGapless then !(decide (500 ≤ t) && decide (t < 500 + c.slipNs))
  else !((decide (500 ≤ t) && decide (t < 6000)) || (decide (6400 ≤ t) && decide (t < 6400 + c.slipNs)))

/-! ### Engine state (R178) -/

/-- The ACTIVE engine, if there is one (R178). -/
def activeEng (s : State) : Option Eng :=
  if s.engA.health.role = .active then some .fore
  else if s.engB.health.role = .active then some .main
  else none

/-- ESTATE: 0 Fore active, 1 Main active, 2 single engine, 3 both lost (R178, Table 06.7). -/
def estate (s : State) : Nat :=
  match activeEng s with
  | some .fore => if s.engB.health.role = .standby then 0 else 2
  | some .main => if s.engA.health.role = .standby then 1 else 2
  | none => 3

/-- The engine that composition events come from: the ACTIVE one, Fore in both lost (R331). -/
def composer (s : State) : Eng := (activeEng s).getD .fore

/-! ### Power and clocks of the blocks (Table 16.1, R417, R418) -/

/-- The PIX clock of the engines is stopped by automatic Hold (R418). -/
def holdStops (s : State) : Bool := (s.eng (composer s)).comp.hold

/-- The clock or power of block `b` is off, or the block is being reset, so that accesses return BLOCK_OFF
(Table 10.8, Table 16.1, R366, R417, R418); a save powers PIX and LINK off (Table 16.8). -/
def blockOff (b : Nat) (s : State) : Bool :=
  let p := s.pwr.pstate
  let g := s.clk.gate
  (s.win b).resetting || (s.pwr.saving.isSome && (b == 1 || b == 2 || b == 4 || b == 5 || b == 6)) ||
  (if b = 13 ∨ b = 14 ∨ b = 15 then false
   else if b = 10 then vault p
   else if b = 11 then vault p || g.getLsbD 2
   else if b = 1 ∨ b = 3 then p == .s3 || vault p
   else if b = 2 then p == .s3 || vault p || s.h1.cfgRole == .off || g.getLsbD 4
   else if b = 4 then p != .s0 || g.getLsbD 5
   else if b = 5 then p != .s0 || g.getLsbD 5 || g.getLsbD 0 || holdStops s
   else if b = 6 then p != .s0 || g.getLsbD 5 || g.getLsbD 1 || holdStops s
   else if b = 7 ∨ b = 8 ∨ b = 9 then p == .s3 || vault p
   else if b = 12 then p == .s3 || vault p || g.getLsbD 3
   else vault p)

/-! ### Events (R312, R330) -/

/-- The lowest severity among events that are not EV_CMD_DONE. -/
def minSev (q : List Event) : Nat :=
  (q.filter (fun e => !e.done)).foldl (fun m e => min m e.sev) 3

/-- The list without its first element that satisfies `p`. -/
def dropFirst {α : Type} (p : α → Bool) : List α → List α
  | [] => []
  | a :: rest => if p a then rest else a :: dropFirst p rest

/-- The order of R369, smaller first: decreasing severity, then block, source and index. -/
def faultKey (sev block source index : Nat) : Nat := (((3 - sev) * 256 + block) * 32 + source) * 65536 + index

/-- Stable insertion into a list in order of `key`. -/
def insKey {α : Type} (key : α → Nat) (a : α) : List α → List α
  | [] => [a]
  | b :: rest => if key b ≤ key a then b :: insKey key a rest else a :: b :: rest

/-- `a` put behind a list, but in order of `key` among the last elements, those that satisfy `p`. -/
def insTail {α : Type} (p : α → Bool) (key : α → Nat) (a : α) (l : List α) : List α :=
  let n := (l.reverse.takeWhile p).length
  l.take (l.length - n) ++ insKey key a (l.drop (l.length - n))

/-- The event is an EV_FAULT (R332). -/
def isFaultEvent (e : Event) : Bool := !e.done && e.code.toNat % 256 == 255

/-- The place of an EV_FAULT in the order of R369. -/
def eventKey (e : Event) : Nat :=
  faultKey e.sev (e.code.toNat / 256) (bits (e.words.getD 2 0) 0 5) (bits (e.words.getD 2 0) 16 16)

/-- An event put behind a queue; an EV_FAULT in the order of R369 among those of its own clock (R332, R369). -/
def evPlace (q : List Event) (e : Event) : List Event :=
  if isFaultEvent e then insTail (fun x => isFaultEvent x && x.at_ == e.at_) eventKey e q else q ++ [e]

/-- An event other than EV_CMD_DONE put into a queue: when 48 of them are there, the oldest of the lowest
severity present is discarded (R312). -/
def evPush (q : EvQueue) (e : Event) : EvQueue :=
  if (q.q.filter (fun x => !x.done)).length < 48 then { q with q := evPlace q.q e }
  else { q := evPlace (dropFirst (fun x => !x.done && x.sev == minSev q.q) q.q) e, lost := true }

/-- Pushing an event into the queue discards another one (R312). -/
def evFull (q : EvQueue) : Bool := 48 ≤ (q.q.filter (fun x => !x.done)).length

/-- Events go to H0: in native mode it is a head-end port, or the H0 of a follower, from boot step 9 on
(R267, R312, R316). -/
def evToH0 (s : State) : Bool :=
  s.mode.ifMode == .native && (s.pwr.ready || s.h0.role == .headEnd || s.h0.role == .follower)

/-- Events go to H1: its role is HEAD_END, or will be once its first bring-up ends (R267, R312). -/
def evToH1 (s : State) : Bool := s.h1.role == .headEnd || (s.h1.role == .off && s.h1.cfgRole == .headEnd)

/-- The command engine is there to queue an event: native or extended compatibility mode (R316), and its domain
on (Table 10.9). -/
def evOn (s : State) : Bool := s.mode.ifMode != .compat && !vault s.pwr.pstate

/-- The common words of an event: ns32, then SCAN_FRAME_CNT and severity (R330). -/
def evHead (s : State) (sev : Nat) : List Word :=
  [ns32 s, put 8 s.scan.frameCnt.toNat ||| put 0 sev]

/-- An event queued for every destination (R312). -/
def pushEvent (e : Event) (s : State) : State :=
  if evOn s then
    let n := (if evToH0 s && evFull s.h0.events then 1 else 0) + (if evToH1 s && evFull s.h1.events then 1 else 0)
      + (if evFull s.spi.events then 1 else 0)
    let s1 := { s with
      h0 := { s.h0 with events := if evToH0 s then evPush s.h0.events e else s.h0.events }
      h1 := { s.h1 with events := if evToH1 s then evPush s.h1.events e else s.h1.events }
      spi := { s.spi with events := evPush s.spi.events e }
      cmd := { s.cmd with
        evLost := satAdd 16 s.cmd.evLost n
        lostNow := s.cmd.lostNow + n } }
    s1.hitIf (n != 0) 0 0x10 0
  else s

/-- The event with code `code`, severity `sev` and words `ws` from word 2 on (R330). -/
def mkEvent (code sev : Nat) (ws : List Word) (s : State) : Event :=
  { code := BitVec.ofNat 16 code, sev := sev, words := evHead s sev ++ ws, at_ := s.ticks }

/-- Queues an event (R312, R330). -/
def queueEvent (code sev : Nat) (ws : List Word) (s : State) : State :=
  pushEvent (mkEvent code sev ws s) s

/-- Queues an event that carries the tag and final status of a command (R325). -/
def queueTagged (code sev : Nat) (tag status : BitVec 8) (ws : List Word) (s : State) : State :=
  pushEvent { mkEvent code sev ws s with tag := tag, status := status } s

/-- EV_CMD_DONE queued on the port that issued the command (R300, R326). -/
def queueDone (p : CmdPort) (tag status opcode : BitVec 8) (ws : List Word) (s : State) : State :=
  let e : Event := { code := 1, tag := tag, status := status, sev := 0, done := true
                     words := evHead s 0 ++ (put 24 opcode.toNat ||| put 0 ws.length) :: ws }
  match p with
  | .h0 => { s with h0 := { s.h0 with events := { s.h0.events with q := s.h0.events.q ++ [e] } } }
  | .h1 => { s with h1 := { s.h1 with events := { s.h1.events with q := s.h1.events.q ++ [e] } } }
  | .spi => { s with spi := { s.spi with events := { s.spi.events with q := s.spi.events.q ++ [e] } } }

/-! ### Beam requests (R35, R249, R251) -/

/-- A cause of R249 arises: Trysail, unless Dark is in force, when it is recorded (R35, R252). TRY_CAUSE records the first
cause, of several in one evaluation the lowest code. A pending NORMAL is cancelled (R251). -/
def reqTrysail (cause : Nat) (s : State) : State :=
  { s with bstay := { s.bstay with
      beam := if s.bstay.beam = .normal then .trysail else s.bstay.beam
      tryPend := s.bstay.tryPend || s.bstay.beam == .dark
      tryCause := if s.bstay.tryCause = 0 ∨ (s.bstay.tryNow ∧ cause < s.bstay.tryCause) then cause else s.bstay.tryCause
      tryNow := s.bstay.tryNow || s.bstay.tryCause == 0
      normalPend := false } }

/-- A DARK request: Dark at once (R35); a pending NORMAL is cancelled (R251). Trysail in force is recorded. In S2 to S5
the wake returns to Dark (R252). -/
def reqDark (s : State) : State :=
  { s with
    pwr := { s.pwr with heldBeam := if deep s.pwr.pstate then .dark else s.pwr.heldBeam }
    bstay := { s.bstay with
      beam := .dark
      tryPend := s.bstay.tryPend || s.bstay.beam == .trysail
      normalPend := false } }

/-! ### Settings of a fault source (R361 to R372) -/

/-- The reactions a source has now: the stored ones, or the defaults while PAR_ERR is 1 (R373). -/
def reactNow (b n : Nat) (s : State) : BitVec 8 :=
  if (s.win b).parErr then reactOf b n else spGet (s.win b).react n (reactOf b n)

/-- Source `n` of block `b` is set. -/
def isSet (b n : Nat) (s : State) : Bool := (s.win b).status.getLsbD n

/-- FLT_FIRST of a record (Table 11.11). -/
def firstWord (real inj : Bool) (sev n idx : Nat) : Word :=
  putb 31 true ||| putb 30 real ||| putb 29 inj ||| put 24 sev ||| put 16 n ||| put 0 idx

/-- The lowest index of source `n` among those set (R334, R369). -/
def lowIndex (w : FltWin) (n : Nat) : Nat := ((w.idx.filter (fun p => p.1 == n)).map (·.2)).foldl min 65535

/-- FLT_FIRST names the lowest source of the block that has become set in the present clock, with its lowest index (R334);
where none has, VALID is 0. -/
def recordFirst (b : Nat) (s : State) : State :=
  s.modWin b (fun w =>
    match (List.range 32).find? (fun n => w.status.getLsbD n && !(s.base.win b).status.getLsbD n) with
    | none => { w with first := w.first &&& ~~~ putb 31 true }
    | some n => { w with
        first := firstWord (w.real.getLsbD n) (w.inj.getLsbD n) (sevOf b n) n (lowIndex w n), firstNs := ns32 s
        firstStroke := s.scan.strokeCnt })

/-- The record of a setting for the log writer (Table 13.5). -/
def faultRec (kind : Nat) (b n idx : Nat) (real inj : Bool) (sev : Nat) (react : BitVec 8) (count data : Nat)
    (s : State) : LogRec :=
  { w0 := put 28 kind ||| putb 27 real ||| putb 26 inj ||| put 24 sev ||| put 16 b ||| put 8 n ||| put 0 react.toNat
    w1 := put 16 idx ||| put 0 count
    w2 := ns32 s
    w3 := putb 31 s.time.wkSync ||| putb 30 s.time.selAct ||| put 0 (wkEra s)
    w4 := if vault s.pwr.pstate then 0 else s.scan.strokeCnt
    w6 := put 30 (beamNo s.bstay.beam) ||| put 28 (estate s) ||| put 24 (pstateNo s.pwr.pstate) ||| put 0 data
    at_ := s.ticks }

/-- A tile named by the INDEX of a setting enters its safe state (Table 13.2). -/
def takeTileOff (b n t : Nat) (s : State) : State :=
  s.modTile t (fun x => { x with tileOff := if x.tileOff.contains (b, n) then x.tileOff else x.tileOff ++ [(b, n)] })

/-- The interrupts to the Rigger cores that IRQ and NMI send (Table 13.2). -/
def interrupt (r : BitVec 8) (s : State) : State :=
  { s with rigger := { s.rigger with
      irqs := s.rigger.irqs + (if r.getLsbD 0 then 1 else 0), nmis := s.rigger.nmis + (if r.getLsbD 1 then 1 else 0) } }

/-- The once reactions of Table 13.2; the EV_FAULT of IRQ is queued when the evaluation ends. -/
def onceReact (b : Nat) (r : BitVec 8) (s : State) : State :=
  let s := interrupt r s
  let s := if r.getLsbD 6 then reqTrysail 3 s else s
  let s := if r.getLsbD 7 then reqDark s else s
  let s := if r.getLsbD 2 then s.modWin b (fun w => { w with resetting := true }) else s
  let s := if r.getLsbD 2 && b == 5 then s.modEng .fore (fun e => { e with health := { e.health with resetErr := true } }) else s
  let s := if r.getLsbD 2 && b == 6 then s.modEng .main (fun e => { e with health := { e.health with resetErr := true } }) else s
  let s := if r.getLsbD 2 && b == 8 then { s with arr := { s.arr with tiles := s.arr.tiles.map (fun t => { t with on := false }) } } else s
  if r.getLsbD 3 then { s with pwr := { s.pwr with
      chipPend := true, chipAt := if s.pwr.chipPend then s.pwr.chipAt else s.ticks } }
  else s

/-- Bits of the legacy FAULT and of TFLTn are set, and marked as set in the present clock (R502, R503, R506). -/
def setLegacy (f : BitVec 14) (n : Nat) (t : BitVec 16) (s : State) : State :=
  { s with
    legacy := { s.legacy with fault := s.legacy.fault ||| f, tflt := modAt s.legacy.tflt n (fun r => r ||| t) }
    base := { s.base with fault := s.base.fault ||| f, tflt := modAt s.base.tflt n (fun r => r ||| t) } }

/-- The FAULT and TFLT bits of LX1000 compatibility that a setting sets (R502, R506). -/
def legacyMark (b n idx : Nat) (rising : Bool) (s : State) : State :=
  if s.compat then
    let f : BitVec 14 := match legacyBit b n with
      | some k => if rising then BitVec.ofNat 14 (1 <<< k) else 0
      | none => 0
    let both := (b == 8 && n == 0) || (b == 9 && (n == 2 || n == 3 || n == 4))
    setLegacy f (idx / 8) (if both then BitVec.ofNat 16 (3 <<< (2 * (idx % 8))) else 0) s
  else s

/-- One setting of source `n` of block `b` with index `idx` (R361, R364, R378, R380). The reactions are those that FLT_REACT
held at the rising setting (R365). The first real setting of a source set only by injection runs its once reactions again,
with the default ones while PAR_ERR is 1 (R364, R373). A source that a clear of the same clock has just cleared stays set as
it was, and the setting is no rising one (R362). -/
def raiseFault (b n idx : Nat) (real inj : Bool) (s : State) : State :=
  let stays := !(s.win b).status.getLsbD n && (s.base.win b).status.getLsbD n
  let w := if stays then s.base.win b else s.win b
  let rising := !w.status.getLsbD n
  let again := real && !rising && !(s.win b).wasReal.getLsbD n
  let sev := sevOf b n
  let h := if rising then reactNow b n s else spGet w.held n 0
  let r := if again && (s.win b).parErr then reactOf b n else h
  let count := satInc 16 (spGet (s.win b).count n 0)
  let off := h.getLsbD 5 && !((s.tile idx).tileOff.contains (b, n)) &&
    !(stays && (s.base.arr.tiles.getD idx {}).tileOff.contains (b, n))
  let timed := b == 8 && decide (2 ≤ sev)
  let logged := (rising && s.rigger.minSev.toNat ≤ sev) || again || off
  let applied : BitVec 8 := if rising || again then r else 0x20
  let f : Fresh :=
    { sev := sev, block := b, source := n, index := idx, rising := rising, isReal := real, isInj := inj
      entry := if logged then some (faultRec 1 b n idx real inj sev applied count 0 s) else none
      words := if rising && r.getLsbD 0 then
          some [put 16 idx ||| putb 13 real ||| putb 12 inj ||| put 8 sev ||| put 0 n, put 0 count]
        else none }
  let bitn : Word := putb n true
  let s1 := s.modWin b (fun w => { w with
      status := w.status ||| bitn
      inj := if inj then w.inj ||| bitn else w.inj
      real := if real then w.real ||| bitn else w.real
      injNow := if inj then w.injNow ||| bitn else w.injNow
      realNow := if real then w.realNow ||| bitn else w.realNow
      wasReal := (if rising then w.wasReal &&& ~~~ bitn else w.wasReal) ||| (if real then bitn else 0)
      count := spSet w.count n count
      held := if rising || stays then spSet w.held n h else w.held
      idx := if w.idx.contains (n, idx) then w.idx else w.idx ++ [(n, idx)]
      escRun := w.escRun || (timed && (rising || (stays && (s.base.win 8).escRun)))
      escDone := w.escDone || (timed && stays && (s.base.win 8).escDone)
      escAt := if timed && rising && !w.escRun then s.ticks else w.escAt })
  let s2 := { s1 with log := { s1.log with fresh := s1.log.fresh ++ [f] } }
  let s3 := if h.getLsbD 5 then takeTileOff b n idx s2 else s2
  let s4 := legacyMark b n idx rising s3
  if rising || again then onceReact b r s4 else s4

/-- The fault windows of the blocks in `bs` are lost with their power domain (R385). -/
def loseWindows (bs : List Nat) (s : State) : State :=
  bs.foldl (fun s b => s.modWin b (fun _ => State.reset.win b)) s

/-- A check of a source with its real condition: an armed injection is used up, and a force bit sets the source
at every check (R375 to R378). -/
def check (b n idx : Nat) (cond : Bool) (s : State) : State :=
  let w := s.win b
  let inj := w.inject.getLsbD n
  let frc := w.force.getLsbD n
  let s1 := if inj then s.modWin b (fun w => { w with inject := w.inject &&& ~~~ putb n true }) else s
  if cond || inj || frc then raiseFault b n idx cond (inj || frc) s1 else s1

/-- A report of a source's own condition outside its scheduled checks: while the force bit is 1 only those set it (R377). -/
def ownCheck (b n idx : Nat) (s : State) : State := if (s.win b).force.getLsbD n then s else check b n idx true s

/-- The next check of the source would set it: its real condition, an armed injection or a force bit. -/
def fails (b n : Nat) (cond : Bool) (s : State) : Bool :=
  cond || (s.win b).inject.getLsbD n || (s.win b).force.getLsbD n

/-- A source of the ARRAY window of severity MAJOR or SAFETY is set (R370). -/
def arrayMajor (s : State) : Bool := (s.win 8).status &&& srcMask 8 (fun r => 2 ≤ r.sev) != 0

/-- Clears sources of a block: FLT_STATUS, FLT_INJ and FLT_REAL together; a source with a setting in the same clock
stays set (R362), and so does one whose force bit is 1 (R377). Tiles taken off by the sources are released (R364), and the
escalation ends when no MAJOR or SAFETY source of ARRAY is left (R370, R372). -/
def clearSources (b : Nat) (mask : Word) (s : State) : State :=
  let f := mask &&& ~~~ (s.win b).force
  let m := f &&& ~~~ ((s.win b).injNow ||| (s.win b).realNow)
  let s1 := s.modWin b (fun w => { w with
      status := w.status &&& ~~~ m
      inj := w.inj &&& ~~~ (f &&& ~~~ w.injNow)
      real := w.real &&& ~~~ (f &&& ~~~ w.realNow)
      held := w.held.filter (fun p => !m.getLsbD p.1)
      idx := w.idx.filter (fun p => !m.getLsbD p.1) })
  let s2 := { s1 with arr := { s1.arr with tiles := s1.arr.tiles.map (fun t =>
      { t with tileOff := t.tileOff.filter (fun p => !(p.1 == b && m.getLsbD p.2)) }) } }
  if b = 8 ∧ arrayMajor s2 = false then s2.modWin 8 (fun w => { w with escRun := false, escDone := false }) else s2

/-- A source is set whose reactions in force have a bit of `m`, in any block (R251, R368). -/
def heldReact (m : BitVec 8) (s : State) : Bool :=
  s.flt.any (fun w => w.held.any (fun p => w.status.getLsbD p.1 && p.2 &&& m != 0))

/-- PAR_ERR is 1 in some window. -/
def anyParErr (s : State) : Bool := s.flt.any (fun w => w.parErr)

/-- ESC_REACT of the escalation in force as it was applied, 0 where none is (R372). -/
def escReact (s : State) : BitVec 8 := if (s.win 8).escDone then (s.win 8).escHeld else 0

/-- A set source selects TRYSAIL or DARK; an escalation with TRYSAIL and a PAR_ERR of 1 count (R251). -/
def lightHeld (s : State) : Bool :=
  heldReact 0xC0 s || anyParErr s || escReact s &&& 0x40 != 0

/-! ### The end of a session (R308) -/

/-- The session ends: EV_SESSION_END, its force bits and its staging copy go (R308, R377, R233). A SESSION_OPEN
in progress ends with it. Causes: 1 idle, 2 port left ACTIVE, 3 power state, 4 SESSION_OPEN. -/
def endSession (cause : Nat) (s : State) : State :=
  let was := s.cmd.sessOpen
  let s1 := if was then
      { s with
        flt := s.flt.map (fun w => { w with force := 0 })
        bstay := { s.bstay with stageCeil := [], stageZlim := [] } }
    else s
  let s2 := if was then queueEvent 0x0002 0 [put 24 cause ||| put 16 (portNo s.cmd.sessPort) ||| put 0 s.cmd.sessId.toNat] s1
    else s1
  { s2 with cmd := { s2.cmd with sessOpen := false, proving := false, sessId := 0 } }

/-- A safety session is open on port `p` (R328). -/
def sessionOn (p : CmdPort) (s : State) : Bool := s.cmd.sessOpen && s.cmd.sessPort == p

/-- The source of a register write has the rights of a safety session (R328). The Rigger cores hold no session. -/
def srcSession (src : RegSrc) (s : State) : Bool :=
  match src with
  | .port p => sessionOn p s
  | _ => false

/-! ### Switch-over and arbitration (R186, R189, R193) -/

/-- Changes the role of an engine; ENG_HLTH_STATUS.LAST_FAIL where it becomes FAILED. -/
def setRole (e : Eng) (r : Role) (s : State) : State :=
  s.modEng e (fun x => { x with health := { x.health with role := r } })

/-- Step 1 of Table 06.4, the block reset of engine `e`, begins; outside S0 it waits for the return (R197, R39). -/
def startStep1 (e : Eng) (s : State) : State :=
  if s.pwr.pstate = .s0 then
    (s.modEng e (fun x => { x with health := { x.health with step := 1 } })).modWin (engBlk e)
      (fun w => { w with resetting := true })
  else s.modEng e (fun x => { x with health := { x.health with step := 0 } })

/-- An engine becomes FAILED with LAST_FAIL `lf`; its step 1 is still to begin. Its heartbeat is no longer supervised
(R183). -/
def failEng (e : Eng) (lf : Nat) (s : State) : State :=
  s.modEng e (fun x => { x with health := { x.health with
    role := .failed, lastFail := lf, step := 0, matchRun := 0
    hbWaiting := false, hbMisses := 0, shadowed := 0, lateLast := false, frameBad := false } })

/-- A change of the engine state is recorded (Table 06.7). -/
def markChange (cause : Nat) (s : State) : State :=
  { s with bstay := { s.bstay with arb := { s.bstay.arb with lastCause := cause, lastFrame := s.scan.frameCnt } } }

/-- LAST_FAIL for a LAST_CAUSE of Table 06.2 (Table 06.5). -/
def failCode (cause : Nat) : Nat :=
  if cause = 1 ∨ cause = 2 then 1 else if cause = 8 then 3 else 2

/-- Every ENGINE_SWITCH under way when arbitration acts is refused with BAD_STATE, in its event (R194, R325). -/
def cancelSwitch (s : State) : State :=
  let a := s.bstay.arb
  let s1 := (a.planned ++ a.recovery).foldl (fun s p => queueTagged 0x0A01 2 p.2 0x13
    [put 8 9 ||| put 4 (if p.1 then 1 else 0) ||| put 0 (engNo (composer s))] s) s
  { s1 with bstay := { s1.bstay with arb := { s1.bstay.arb with planned := [], recovery := [] } } }

/-- A write-back frame in progress comes to nothing: its buffer becomes INVALID (R166, R193). -/
def wbAbort (s : State) : State :=
  let f (x : Engine) : Engine := { x with comp := { x.comp with wbTarget := none } }
  match (s.eng (composer s)).comp.wbTarget with
  | none => s
  | some b =>
    { s with
      engA := f s.engA, engB := f s.engB
      store := { s.store with bufs := modAt s.store.bufs b (fun u => { u with state := .invalid }) } }

/-- The engine state becomes both lost (R189): every FAILED engine starts at step 1 of Table 06.4 (R200), and a write-back
frame in progress is lost (R166). `hbF` and `hbM` say which engine is lost by its heartbeat (Table 06.5). -/
def bothLost (cause : Nat) (hbF hbM : Bool) (s : State) : State :=
  let lf (hb : Bool) : Nat := if cause != 7 && hb then 1 else 2
  let drop (e : Eng) (n : Nat) (s : State) : State :=
    let s1 := if (s.eng e).health.role = .active ∨ (s.eng e).health.role = .standby then failEng e n s else s
    if (s1.eng e).health.role = .failed then startStep1 e s1 else s1
  let s1 := markChange cause (drop .main (lf hbM) (drop .fore (lf hbF) (cancelSwitch (wbAbort s))))
  let s2 := { s1 with bstay := { s1.bstay with arb := { s1.bstay.arb with
      undecided := false, handover := false, overlap := false, bothRun := 0 } } }
  let s3 := raiseFault 10 11 0 true false s2
  reqTrysail 2 (queueEvent 0x0A02 3 [put 8 cause] s3)

/-- A switch-over from the ACTIVE engine `e` to the other (R191): roles change at once (R36, R186), a write-back frame in
progress is lost (R166, R193), and the handover begins. The outgoing drivers go off at the grant; the event and the outgoing
engine's step 1 come with the end of the overlap (Table 06.3). -/
def switchOver (e : Eng) (cause : Nat) (s : State) : State :=
  let s0 := cancelSwitch (wbAbort s)
  let s1 := markChange cause (setRole (other e) .active (failEng e (failCode cause) s0))
  { s1.hit 10 0x0804 0 with bstay := { s1.bstay with arb := { s1.bstay.arb with
      undecided := false, handover := true
      switchCnt := satInc 16 s1.bstay.arb.switchCnt } } }

/-- The STANDBY engine `e` becomes FAILED and starts at step 1 (Table 06.2, R197). -/
def standbyFails (e : Eng) (cause : Nat) (s : State) : State :=
  let s1 := markChange cause (startStep1 e (failEng e (failCode cause) (cancelSwitch s)))
  { s1 with bstay := { s1.bstay with arb := { s1.bstay.arb with undecided := false } } }

/-- The error line of an engine: ENG_INT_ECC, ENG_PARITY or ENG_TEST_FAIL set (R184), or a block reset by reaction
(Table 13.3). -/
def errLine (e : Eng) (s : State) : Bool :=
  (s.win (engBlk e)).status &&& 0x23 != 0 || (s.eng e).health.resetErr

/-- The engine's role is ACTIVE or STANDBY. -/
def inRole (e : Eng) (s : State) : Bool := (s.eng e).health.role == .active || (s.eng e).health.role == .standby

/-- An engine in a role is flagged: by its error line, or by a heartbeat loss `hb` (R186). -/
def flagged (e : Eng) (hb : Bool) (s : State) : Bool := inRole e s && (hb || errLine e s)

/-- LAST_CAUSE of an arbitration outcome (Table 06.2) for the active engine `a`, its flag and the standby's flag, with
the heartbeat losses of both. DESIGN CHOICE (log entry 182): where a heartbeat loss is the flag that decides an undecided
mismatch, a heartbeat row and a mismatch row of the table both hold; LAST_CAUSE, and LAST_FAIL with it, are the mismatch
row's. -/
def arbCause (undecided fa fo hbA hbO : Bool) : Nat :=
  if fa && fo then (if undecided then 7 else if hbA || hbO then 1 else 3)
  else if fa then (if undecided then 5 else if hbA then 1 else 3)
  else (if undecided then 6 else if hbO then 2 else 4)

/-- Arbitration with the flags of the ACTIVE engine `a` and of the other (Table 06.2); `hbF` and `hbM` say which engines are
flagged by a heartbeat loss. -/
def arbApply (a : Eng) (fa fo : Bool) (cause : Nat) (hbF hbM : Bool) (s : State) : State :=
  if (s.eng (other a)).health.role = .standby then
    if fa && fo then bothLost cause hbF hbM s
    else if fa then switchOver a cause s
    else if fo then standbyFails (other a) cause s
    else s
  else if fa then bothLost cause hbF hbM s else s

/-- Backstay's arbitration (R186, R187, R194, R195): at once in S0; latched in S1, and until the first stroke after the
return to S0; none in S2 to S5. A flag decides an undecided mismatch, at once or in the latch. `hbF` and `hbM` are heartbeat
losses detected in this evaluation. An ENGINE_SWITCH under way is refused (R194). -/
def arbitrate (hbF hbM : Bool) (s : State) : State :=
  if deep s.pwr.pstate then s
  else
    match activeEng s with
    | none => s
    | some a =>
      let hb (e : Eng) : Bool := match e with | .fore => hbF | .main => hbM
      let fa := flagged a (hb a) s
      let fo := flagged (other a) (hb (other a)) s
      let cause := arbCause s.bstay.arb.undecided fa fo (hb a) (hb (other a))
      if !fa && !fo then s
      else if s.pwr.pstate = .s1 || s.bstay.arb.s1Pend then
        let s1 := cancelSwitch s
        { s1 with bstay := { s1.bstay with arb := { s1.bstay.arb with
            s1Pend := true, undecided := false
            s1Cause := if s.bstay.arb.s1Pend then s.bstay.arb.s1Cause else cause
            s1FailA := s.bstay.arb.s1FailA || (if a = .fore then fa else fo)
            s1FailB := s.bstay.arb.s1FailB || (if a = .fore then fo else fa)
            s1HbA := s.bstay.arb.s1HbA || hbF, s1HbB := s.bstay.arb.s1HbB || hbM } } }
      else arbApply a fa fo cause hbF hbM s

/-! ### The evaluation's end: order of coincident faults (R334, R369, R383) -/

/-- The settings of an evaluation in the order of R369. -/
def freshSort (l : List Fresh) : List Fresh :=
  l.foldl (fun acc a => insKey (fun f => faultKey f.sev f.block f.source f.index) a acc) []

/-- The severity in word 0 of a record (Table 13.5). -/
def recSev (r : LogRec) : Nat := bits r.w0 24 2

/-- The list without its last element that satisfies `p`. -/
def dropLast {α : Type} (p : α → Bool) (l : List α) : List α := (dropFirst p l.reverse).reverse

/-- The record is that of a setting: KIND is FAULT (Table 13.6). -/
def isFaultRec (r : LogRec) : Bool := bits r.w0 28 4 == 1

/-- The place of the record of a setting in the order of R369. -/
def recKey (r : LogRec) : Nat := faultKey (recSev r) (bits r.w0 16 8) (bits r.w0 8 5) (bits r.w1 16 16)

/-- A record put behind the queue; that of a setting in the order of R369 among those of its own clock (R369). -/
def recPlace (q : List LogRec) (r : LogRec) : List LogRec :=
  if isFaultRec r then insTail (fun x => isFaultRec x && x.at_ == r.at_) recKey r q else q ++ [r]

/-- A record arrives at the log writer: at a full queue of 32 the newest record of the lowest severity present is
discarded if that severity is below the arriving one's, otherwise the arriving record is (R383). -/
def pushLog (r : LogRec) (s : State) : State :=
  if s.log.q.length < 32 then { s with log := { s.log with q := recPlace s.log.q r } }
  else
    let low := s.log.q.foldl (fun m x => min m (recSev x)) 3
    let q := if low < recSev r then recPlace (dropLast (fun x => recSev x == low) s.log.q) r else s.log.q
    { s.hit 17 0x14 0 with log := { s.log with
        q := q, dropCnt := satInc 16 s.log.dropCnt, dropPend := s.log.dropPend + 1, dropNow := s.log.dropNow + 1 } }

/-- A source of ARRAY or THERM that carries a tile as INDEX (R100, R406). -/
def tileSource (b n idx : Nat) : Bool := (b == 8 || b == 16) && (srcOf b n).any Src.tile && decide (idx < 256)

/-- A lower tile raises the source that FLT_FIRST names in the stroke of its record: the record's INDEX becomes that tile (R100,
R406). DEDUCED (log entry 143): the rest of the record, FLT_FIRST_NS with it, stays as R334 has it. -/
def lowerFirst (f : Fresh) (s : State) : State :=
  s.modWin f.block (fun w =>
    if tileSource f.block f.source f.index && w.first.getLsbD 31 && bits w.first 16 5 == f.source &&
        w.firstStroke == s.scan.strokeCnt && decide (f.index < bits w.first 0 16) then
      { w with first := setField w.first 0 16 f.index }
    else w)

/-- FLT_FIRST after settings: a block's first record, where VALID is 0 or was 0 when the present clock began (R334); a record
that stands takes the lowest tile of its stroke (R100). -/
def takeFirst (l : List Fresh) (s : State) : State :=
  l.foldl (fun s f =>
    if f.rising && !((s.win f.block).first.getLsbD 31 && (s.base.win f.block).first.getLsbD 31) then recordFirst f.block s
    else lowerFirst f s) s

/-- The settings of the evaluation reach FLT_FIRST, the log writer and the event queues in the order of R369. -/
def flushFresh (s : State) : State :=
  match s.log.fresh with
  | [] => s
  | _ =>
    let l := freshSort s.log.fresh
    let s1 := takeFirst l { s with log := { s.log with fresh := [] } }
    l.foldl (fun s f =>
      let s := match f.entry with
        | some r => pushLog r s
        | none => s
      match f.words with
      | some ws => queueEvent (f.block * 256 + 255) f.sev ws s
      | none => s) s1

/-- `k` real settings of a source. -/
def raiseTimes (b n : Nat) : Nat → State → State
  | 0, s => s
  | k + 1, s => raiseTimes b n k (raiseFault b n 0 true false s)

/-- EVENT_LOST and LOG_DROP, once for each discard made so far (R312, R383). -/
def raiseLost (s : State) : State :=
  let s1 := raiseTimes 0 2 s.cmd.lostNow { s with cmd := { s.cmd with lostNow := 0 } }
  raiseTimes 17 4 s1.log.dropNow { s1 with log := { s1.log with dropNow := 0 } }

/-- The discards of the evaluation are reported, and in their turn those that the reports themselves make. Only the rising
settings of EVENT_LOST and LOG_DROP queue an event or a record, so that `k` = 5 rounds reach the end of it (R312, R383). -/
def reportLost : Nat → State → State
  | 0, s => s
  | k + 1, s => reportLost k (flushFresh (raiseLost s))

/-- TRY_CAUSE stands once the evaluation ends (R249). -/
def clearNow (s : State) : State := { s with bstay := { s.bstay with tryNow := false } }

/-- The severity of a SYSTEM entry (Table 16.11); DATA[8] makes RESUME_SAVE MINOR. -/
def sysSev (code data : Nat) : Nat :=
  if code = 7 then (if data / 256 % 2 = 1 then 1 else 0)
  else if code = 5 ∨ code = 8 then 1
  else if code = 3 ∨ code = 6 ∨ code = 11 ∨ code = 12 ∨ code = 13 then 2
  else 0

/-- A SYSTEM entry that the Rigger service core submits: cause code in DATA[7:0] (R444, R538, Table 13.6). -/
def systemEntry (data : Nat) (s : State) : State :=
  pushLog (faultRec 2 15 0 0 true false (sysSev (data % 256) data) 0 0 data s) s

/-- A FIRMWARE entry with the fields that a Rigger core submits (R380, R538, Table 13.12). -/
def firmwareEntry (s : State) (f : FwEntry) : State :=
  pushLog (faultRec 6 17 f.source.val f.index.toNat true false f.sev.val 0 f.count.toNat f.data.toNat s) s

/-! ### The forcing rules (Table 01.7, R34 to R36) and the tile safe state (R78, R79) -/

/-- Ticks of 4 ns in a millisecond. -/
def ticksPerMs : Nat := 250000

/-- The loss of FBOSC holds the beam Dark: until it has been good for 1 ms (R414). -/
def fbDark (s : State) : Bool :=
  !s.clk.fbGood || s.clk.fbFrom.any (fun t => decide (s.ticks < t + ticksPerMs))

/-- Beam state after the forcing rules: Dark in S2 to S5, while TEST_N or EXTEST holds it (R519, R520) and while the loss of
FBOSC does (R414); Trysail in both lost unless Dark is in force. -/
def forcedBeam (s : State) : Beam :=
  if deep s.pwr.pstate || s.mode.testHeld || s.mode.extestHeld || fbDark s then .dark
  else if estate s = 3 ∧ s.bstay.beam = .normal then .trysail
  else s.bstay.beam

/-- Gapless is forced off (Table 01.7). -/
def gaplessOff (beam : Beam) (cls : BClass) (s : State) : Bool :=
  s.compat || beam == .trysail || cls != .high

/-- The class after the forcing rules: the CONFIG record's in plain compatibility mode (Table 01.7). -/
def forcedClass (s : State) : BClass :=
  if s.mode.ifMode = .compat then s.bstay.clsConfig else s.bstay.cls

/-- Injection is forced off: plain compatibility mode, S4 and S5 (Table 01.7). -/
def injOff (s : State) : Bool := s.mode.ifMode == .compat || vault s.pwr.pstate

/-- SET_LIGHT NORMAL is refused, and an accepted one cancelled, while a condition of R251 holds, or while TEST_N, EXTEST or the
loss of FBOSC holds Dark (R414, R519, R520). -/
def normalRefused (s : State) : Bool :=
  !s.bstay.safeNLevel || estate s == 3 || s.pwr.pstate != .s0 || lightHeld s || s.mode.testHeld || s.mode.extestHeld || fbDark s

/-- A tile has a cause of Table 03.3, apart from the beam state, of R415, R518 or R529, or of a save (Table 16.8). -/
def tileCause (s : State) (t : Tile) : Bool :=
  !t.on || t.ocTrip || t.parity || t.tileOff != [] || t.shutdown || t.swFail || t.tileBad || s.pwr.presentBlank ||
    s.pwr.saving.isSome || s.clk.rowStop || !s.pwr.tested

/-- The tiles in their safe state. -/
def darkTile (s : State) (t : Nat) : Bool :=
  s.bstay.beam == .dark || tileCause s (s.tile t)

/-- H1 is OFF by rule, in the compatibility modes and on a follower (R28, R40). -/
def h1Off (s : State) : Bool := s.compat || s.h0.role == .follower

/-- The fault windows after the forcing rules: no injection and no force where Table 01.7 has them off, and the window of HLY1
lost where its LINK domain goes off with its role (R282, R385). -/
def forcedWindows (s : State) : List FltWin :=
  let l := if injOff s then s.flt.map (fun w => { w with inject := 0, force := 0 }) else s.flt
  if h1Off s && s.h1.cfgRole != .off then modAt l 2 (fun _ => {}) else l

/-- The forcing rules of Table 01.7; a forced change of gapless to off waits for the next stroke start (R63). A pending
NORMAL is cancelled once a condition of R251 holds. -/
def force (s : State) : State :=
  let beam := forcedBeam s
  let cls := forcedClass s
  { s with
    bstay := { s.bstay with
      beam := beam
      cls := cls
      tryCause := if beam = .trysail ∧ s.bstay.beam = .normal ∧ s.bstay.tryCause = 0 then 2 else s.bstay.tryCause
      tryPend := s.bstay.tryPend || (beam == .dark && s.bstay.beam == .trysail)
      tryOwns := s.bstay.tryOwns && beam == .trysail
      normalPend := s.bstay.normalPend && !normalRefused s }
    flt := forcedWindows s
    h0 := { s.h0 with role := if s.compat then .headEnd else s.h0.role }
    h1 := { s.h1 with
      role := if h1Off s then .off else s.h1.role
      cfgRole := if h1Off s then .off else s.h1.cfgRole } }

/-- Tiles with a cause of Table 03.3 are blanked and their switches commanded open (R78, R79, R82). -/
def blank (s : State) : State :=
  { s with arr := { s.arr with
      tiles := s.arr.tiles.map (fun t =>
        if s.bstay.beam == .dark || tileCause s t then { t with swClosed := false, headValid := false } else t)
      live := s.arr.live.filter (fun p => !darkTile s (tileOfPix p.1))
      next := s.arr.next.filter (fun p => !darkTile s (tileOfPix p.1)) } }

/-- EV_BEAM_STATE at a change of the beam state (R253). -/
def reportBeam (s : State) : State :=
  if s.bstay.beam = s.bstay.beamReported then s
  else
    let tc := if s.bstay.beam = .trysail then s.bstay.tryCause else 0
    let s1 := queueEvent 0x0A03 2 [put 8 tc ||| put 0 (beamNo s.bstay.beam)] s
    { s1 with bstay := { s1.bstay with beamReported := s.bstay.beam } }

/-! ### Output contacts (Table 20.4, R33, R368, R504) -/

/-- ERROR_N is driven low (R368, R504). -/
def errorLow (s : State) : Bool :=
  let legacy := s.compat && (!s.pwr.ready || s.legacy.fault &&& s.legacy.faultMask != 0 ||
    s.bstay.beam != .normal || anyParErr s)
  let native := heldReact 0x10 s || anyParErr s || escReact s &&& 0x10 != 0
  match s.mode.ifMode with
  | .native => native
  | .compat => legacy
  | .compatExt => legacy || native

/-- IRQ_N is driven low: an unread event is queued for the control SPI port (R33); high in compatibility mode (R504);
released in S4, S5 and reset (Table 20.4). -/
def irqLow (s : State) : Bool :=
  s.mode.ifMode != .compat && !vault s.pwr.pstate && !s.pwr.inReset && s.spi.events.q != []

/-- ADJ_DRIVEN: VLED_ADJ carries the PWM, in S0 and S1 (Table 03.8). DESIGN CHOICE (log entry 149): from READY on, so that it
reads 0 at reset as Table 03.13 has it. -/
def adjDriven (s : State) : Bool := (s.pwr.pstate == .s0 || s.pwr.pstate == .s1) && !s.pwr.inReset && s.pwr.ready

/-- VLED_ADJ is high: in each period of 3,000 ROW clocks, 10 µs, for the first CODE clocks (R93, log entry 161). -/
def adjHigh (s : State) : Bool := s.ticks % 2500 * 6 < 5 * s.arr.code

/-- The test access port is in use: CORE is on and no reset holds it (Table 20.4). -/
def tapOn (s : State) : Bool := !vault s.pwr.pstate && !s.pwr.inReset

/-- A transmit lane of a port: floating where its LINK domain is off, in electrical idle in S2 (Table 20.4, R282); H0_TX1 is in
electrical idle in the compatibility modes (R501). -/
def txDrive (p : HPort) (lane1 : Bool) (s : State) : Drive :=
  let t := s.pwr.pstate
  if vault t || s.pwr.inReset || t == .s3 || (s.hport p).state == .off then .float
  else if t == .s2 || (lane1 && s.compat) then .idle
  else .driven

/-- MEM_RST_N is low: in S4, S5 and reset until stage 5 of an exit begins, and until a boot probes the devices (R433, R449). -/
def memResetLow (s : State) : Bool :=
  s.pwr.inReset || (vault s.pwr.pstate && s.pwr.wakeStage < 5) || (!vault s.pwr.pstate && !s.pwr.ready)

/-- The level that EXTEST drives on output contact `k`: that of its cell (R520). -/
def scanLevel (s : State) (k : Nat) : Bool :=
  let c := (Config.bsrCell k).val
  match s.tap.bsr[c]? with
  | some b => b
  | none => Config.bsrReset c

/-- The output contacts as Table 20.4 gives them for the power state. DEDUCED (log entry 191): VSUP is absent while the POR
supervisor holds the module; every contact is then high-impedance without a pull. -/
def pinsOf (s : State) : Pins :=
  let p := s.pwr.pstate
  let off := vault p || s.pwr.inReset
  { s.pins with
    pulls := !s.pwr.porHeld
    errorN := s.pwr.porHeld || !errorLow s
    irqN := !irqLow s
    tx0 := txDrive .p0 false s
    tx01 := txDrive .p0 true s
    tx1 := txDrive .p1 false s
    mem := if off || p == .s3 then .float else .driven
    memCs := if s.pwr.porHeld then .float else if s.pwr.inReset then .pullUp else if p == .s3 || vault p then .high else .driven
    memRst := if s.pwr.porHeld then .float else if memResetLow s then .low else .high
    vledAdj := if adjDriven s then (if adjHigh s then .high else .low) else if p == .s2 && !off then .low else .float
    tpulse := if off || p == .s3 then .float else .driven
    spiSdo := .float
    tdo := if tapOn s then (match s.tap.tdo with | some true => .high | some false => .low | none => .float) else .float
    scan := if tapOn s && s.tap.ir == 0 then (List.range 19).map (scanLevel s) else [] }

/-- The end of every evaluation: arbitration on the error lines (R186), coincident faults in order, the forcing rules, EV_BEAM_STATE, the safe state of
tiles and the output contacts. -/
def settle (s : State) : State :=
  let s := flushFresh (arbitrate false false s)
  let s := clearNow (reportLost 5 s)
  let s := reportBeam (force s)
  let s := blank (force s)
  { s with pins := pinsOf s }

/-- A meaning's answer: the next state, its evaluation closed. -/
def done (s : State) : Host.Outcome State Fault Refusal := .next (settle s)

end Sys2Proof.Machine
end

