-- ==== Sys2Proof/Machine/Operands.lean ====
section
/-! DEFINITION. The operand forms of commands: status codes (Table 10.8), the opcodes with their classes, session
needs and payload lengths (Tables 11.2 to 11.9), the checks of Table 10.7, replies, the slow path, and the form of
a direct register access. -/

namespace Sys2Proof.Machine

/-! ### Status codes (Table 10.8) -/

/-- OK -/
abbrev stOk : BitVec 8 := 0x00
/-- ACCEPTED -/
abbrev stAccepted : BitVec 8 := 0x01
/-- BUSY -/
abbrev stBusy : BitVec 8 := 0x08
/-- BAD_OPCODE -/
abbrev stBadOpcode : BitVec 8 := 0x10
/-- BAD_LENGTH -/
abbrev stBadLength : BitVec 8 := 0x11
/-- BAD_PARAM -/
abbrev stBadParam : BitVec 8 := 0x12
/-- BAD_STATE -/
abbrev stBadState : BitVec 8 := 0x13
/-- BLOCK_OFF -/
abbrev stBlockOff : BitVec 8 := 0x14
/-- DENIED -/
abbrev stDenied : BitVec 8 := 0x15
/-- CHECK_FAIL -/
abbrev stCheckFail : BitVec 8 := 0x16
/-- SEQ_GAP -/
abbrev stSeqGap : BitVec 8 := 0x17
/-- NO_SPACE -/
abbrev stNoSpace : BitVec 8 := 0x18
/-- TIMEOUT -/
abbrev stTimeout : BitVec 8 := 0x19
/-- MEM_ERROR -/
abbrev stMemError : BitVec 8 := 0x1A

/-! ### Opcodes (Tables 11.2 to 11.9) -/

/-- Session column of the opcode tables (R323). -/
inductive Sess where
  | no | yes | op | id
deriving DecidableEq, Repr

/-- An assigned opcode: class, session need and number of payload words (R320, R321, R323). -/
structure OpInfo where
  /-- opcode value -/
  code : Nat
  /-- slow-path -/
  slow : Bool
  /-- Session column -/
  sess : Sess
  /-- fewest payload words -/
  lo : Nat
  /-- most payload words -/
  hi : Nat
deriving DecidableEq, Repr

/-- The opcodes of Tables 11.2 to 11.9. -/
def opTable : List OpInfo :=
  [⟨0x00, false, .no, 0, 16⟩, ⟨0x01, false, .no, 0, 0⟩, ⟨0x02, false, .no, 0, 0⟩, ⟨0x03, false, .no, 0, 0⟩,
   ⟨0x04, true, .id, 4, 4⟩, ⟨0x05, false, .no, 0, 0⟩,
   ⟨0x10, false, .no, 1, 64⟩, ⟨0x11, false, .no, 2, 128⟩, ⟨0x12, false, .no, 3, 3⟩,
   ⟨0x20, false, .no, 8, 8⟩, ⟨0x21, false, .no, 5, 5⟩, ⟨0x22, false, .no, 2, 2⟩, ⟨0x23, false, .no, 1, 1⟩,
   ⟨0x24, false, .no, 1, 1⟩, ⟨0x25, false, .no, 3, 65⟩, ⟨0x26, true, .no, 1, 1⟩,
   ⟨0x30, false, .op, 1, 1⟩, ⟨0x31, true, .yes, 1, 1⟩, ⟨0x32, true, .yes, 2, 1024⟩, ⟨0x33, false, .no, 1, 1⟩,
   ⟨0x34, false, .no, 2, 2⟩, ⟨0x35, false, .no, 1, 1⟩,
   ⟨0x40, false, .no, 3, 3⟩, ⟨0x41, false, .no, 1, 1⟩,
   ⟨0x50, true, .no, 4, 4⟩, ⟨0x51, false, .no, 3, 3⟩, ⟨0x52, false, .no, 5, 5⟩, ⟨0x53, false, .no, 2, 2⟩,
   ⟨0x60, false, .no, 1, 1⟩, ⟨0x61, true, .no, 1, 1⟩,
   ⟨0x70, true, .no, 3, 3⟩, ⟨0x71, true, .op, 3, 1024⟩, ⟨0x72, true, .no, 3, 3⟩, ⟨0x73, true, .yes, 2, 2⟩,
   ⟨0x80, false, .op, 1, 1⟩, ⟨0x81, false, .no, 2, 2⟩, ⟨0x82, true, .yes, 2, 2⟩,
   ⟨0x90, false, .yes, 1, 1⟩, ⟨0x91, false, .op, 1, 1⟩, ⟨0xA0, false, .no, 1, 1⟩]

/-- The entry of an opcode, where it is assigned. -/
def opInfo (code : Nat) : Option OpInfo := opTable.find? (fun o => o.code == code)

/-- The payload words of SET_CEILING for its counts (Table 11.7). -/
def ceilingLen (ws : List Word) : Nat :=
  2 + (bits (ws.getD 0 0) 16 11 + 1) / 2 + (bits (ws.getD 1 0) 16 11 + 1) / 2

/-- The payload length is one the opcode takes (R321, Table 11.7): WRITE_REG even, SPRITE_PLACE odd, SET_CEILING
as its counts say. -/
def lengthOk (o : OpInfo) (ws : List Word) : Bool :=
  o.lo ≤ ws.length && ws.length ≤ o.hi &&
  (if o.code = 0x11 then ws.length % 2 == 0
   else if o.code = 0x25 then ws.length % 2 == 1
   else if o.code = 0x32 then ws.length == ceilingLen ws
   else true)

/-- Step 6 of Table 10.7 (R305, R323). -/
def sessionOk (o : OpInfo) (c : CmdCtx) (s : State) : Bool :=
  match o.sess with
  | .id => s.cmd.proving && s.cmd.sessPort == c.port && c.session == s.cmd.sessId
  | .yes => c.session != 0 && sessionOn c.port s && c.session == s.cmd.sessId
  | _ => c.session == 0 || (sessionOn c.port s && c.session == s.cmd.sessId)

/-- The command bears the open session of its port (R323, operations marked Op). -/
def inSession (c : CmdCtx) (s : State) : Bool :=
  c.session != 0 && sessionOn c.port s && c.session == s.cmd.sessId

/-! ### Replies and events of a command port -/

/-- Commands arrive on a port: the control SPI port outside plain compatibility mode and outside S4 and S5
(R314, R316); a Halyard port in native mode in S0 and S1 while it is ACTIVE and faces a head-end or, for the H0 of a follower,
its leader (Table 01.4, Table 10.9). -/
def reachable (p : CmdPort) (s : State) : Bool :=
  let hal (h : Port) := s.mode.ifMode == .native && !deep s.pwr.pstate && h.state == .active
  !s.pwr.inReset &&
  (match p with
   | .spi => s.mode.ifMode != .compat && !vault s.pwr.pstate
   | .h0 => hal s.h0 && (s.h0.role == .headEnd || s.h0.role == .follower)
   | .h1 => hal s.h1 && s.h1.role == .headEnd)

/-- The replies of a port that have not begun (step 3 of Table 10.7). -/
def owed (p : CmdPort) (s : State) : List Packet :=
  match p with
  | .h0 => s.h0.replies
  | .h1 => s.h1.replies
  | .spi => s.spi.replies

/-- Header word 1 of a REPLY (Table 10.4). -/
def replyHw1 (code : Nat) (tag st : BitVec 8) : Word := put 24 code ||| put 16 tag.toNat ||| put 8 st.toNat

/-- The REPLY to a command (R301, R322); its SEQ is given when it is sent. -/
def replyPacket (c : CmdCtx) (code : Nat) (st : BitVec 8) (ws : List Word) : Packet :=
  { ptype := .reply, ch := c.ch, hw1 := replyHw1 code c.tag st, payload := ws }

/-- A command that bears the ID of its port's session keeps it from going idle (R308). -/
def noteSession (c : CmdCtx) (s : State) : State :=
  { s with cmd := { s.cmd with sessAt := if inSession c s then s.ticks else s.cmd.sessAt } }

/-- A reply queued on the port the command came on; a BUSY reply is counted in BUSY_CNT of a Halyard port (Table 10.12). -/
def reply (c : CmdCtx) (code : Nat) (st : BitVec 8) (ws : List Word) (s0 : State) : State :=
  let s := noteSession c s0
  let r := replyPacket c code st ws
  let busy (n : Nat) : Nat := if st = stBusy then satInc 16 n else n
  match c.port with
  | .h0 => { s.hitIf (st == stBusy) 1 0x114 0 with h0 := { s.h0 with replies := s.h0.replies ++ [r], busyCnt := busy s.h0.busyCnt } }
  | .h1 => { s.hitIf (st == stBusy) 2 0x114 0 with h1 := { s.h1 with replies := s.h1.replies ++ [r], busyCnt := busy s.h1.busyCnt } }
  | .spi => { s with spi := { s.spi with replies := s.spi.replies ++ [r] } }

/-! ### Execution -/

/-- What the execution of a command answers: a status with reply or result words, or, for a slow-path command whose
end comes later, that it has started. -/
inductive OpRes where
  | fin (st : BitVec 8) (ws : List Word)
  | started
deriving DecidableEq, Repr

/-- The execution of an opcode (step 9 of Table 10.7). -/
abbrev OpFn := CmdCtx → List Word → State → State × OpRes

/-- Execution ends with a status and no words. -/
def endWith (st : BitVec 8) (s : State) : State × OpRes := (s, .fin st [])

/-- The slow-path commands of the module that are pending (R300). -/
def slowPending (s : State) : Nat := s.cmd.slow.length

/-- A tag is held by a pending slow-path command of the port (step 7 of Table 10.7). -/
def tagHeld (p : CmdPort) (tag : BitVec 8) (s : State) : Bool := s.cmd.slow.any (fun x => x.port == p && x.tag == tag)

/-- The execution of the oldest slow-path command that is neither finished nor started is noted. -/
def markSlow (port : CmdPort) (tag : BitVec 8) (f : SlowCmd → SlowCmd) (s : State) : State :=
  { s with cmd := { s.cmd with slow := s.cmd.slow.map (fun x => if x.port == port && x.tag == tag then f x else x) } }

/-- A slow-path command completes with EV_CMD_DONE (R300, R326). -/
def finishSlow (port : CmdPort) (tag opcode : BitVec 8) (st : BitVec 8) (ws : List Word) (s : State) : State :=
  queueDone port tag st opcode ws (markSlow port tag (fun x => { x with started := true, finished := true }) s)

/-- A slow-path command with opcode `code` whose end was awaited completes (R299, R300). -/
def finishStarted (code : Nat) (st : BitVec 8) (ws : List Word) (s : State) : State :=
  match s.cmd.slow.find? (fun x => x.started && !x.finished && x.opcode.toNat == code) with
  | none => s
  | some x => finishSlow x.port x.tag x.opcode st ws s

/-- The context a slow-path command was accepted with, and what it meets in Keep as it runs. -/
def slowCtx (ecc : Nat) (x : SlowCmd) : CmdCtx := ⟨x.port, x.ch, x.tag, x.session, false, ecc⟩

/-- The Rigger service core runs a slow-path command (R299). -/
def runSlow (ecc : Nat) (op : OpFn) (x : SlowCmd) (s : State) : State :=
  match op (slowCtx ecc x) x.payload s with
  | (s1, .fin st ws) => finishSlow x.port x.tag x.opcode st ws s1
  | (s1, .started) => markSlow x.port x.tag (fun y => { y with started := true, startedAt := s.ticks }) s1

/-- No slow-path command is still to complete (R299). -/
def slowIdle (s : State) : Bool := s.cmd.slow.all (fun x => x.finished)

/-- The slow-path form of a command that passed steps 1 to 6 of Table 10.7: steps 7 and 8, ACCEPTED, and, where no
earlier slow-path command is still to complete, its execution. -/
def submitSlow (op : OpFn) (code : Nat) (c : CmdCtx) (ws : List Word) (s : State) : State :=
  if tagHeld c.port c.tag s then reply c code stBadState [] s
  else if 16 ≤ slowPending s then reply c code stBusy [] s
  else
    let x : SlowCmd := { port := c.port, ch := c.ch, opcode := BitVec.ofNat 8 code, tag := c.tag, session := c.session
                         payload := ws }
    let s1 := reply c code stAccepted [] s
    let s2 := { s1 with cmd := { s1.cmd with slow := s1.cmd.slow ++ [x] } }
    if slowIdle s then runSlow c.keepEcc op x s2 else s2

/-- The fast-path form: execution and the reply (R298, R322). -/
def submitFast (op : OpFn) (code : Nat) (c : CmdCtx) (ws : List Word) (s : State) : State :=
  match op c ws s with
  | (s1, .fin st rs) => reply c code st rs s1
  | (s1, .started) => reply c code stOk [] s1

/-- A CMD packet that passed its trailer and sequence checks, with opcode `code` and execution `op`: steps 3 to 9
of Table 10.7 (R298). -/
def submit (op : OpFn) (code : Nat) (c : CmdCtx) (ws : List Word) (s : State) : State :=
  if reachable c.port s then
    if 8 ≤ (owed c.port s).length then reply c code stBusy [] s
    else
      match opInfo code with
      | none => reply c code stBadOpcode [] s
      | some o =>
        if !lengthOk o ws then reply c code stBadLength [] s
        else if !sessionOk o c s then reply c code stDenied [] s
        else if o.slow || c.order then submitSlow op code c ws s
        else submitFast op code c ws s
  else s

/-- The payload with a field of its first word set: the operation or variant that a row of the table names. -/
def stamp (lo len v : Nat) (ws : List Word) : List Word :=
  match ws with
  | [] => []
  | w :: rest => setField w lo len v :: rest

/-! ### Failed checks -/

/-- A failed check of the fixed checker with catalogue number `n` (Table 18.4). -/
def crcFail (n : Nat) (s : State) : State :=
  { s.hit 11 (0x104 + 4 * n) 0 with crcu := { s.crcu with fails := modAt s.crcu.fails n (satInc 32) } }

/-! ### Register accesses -/

/-- The source of a register access can make it: the Rigger cores while CORE is on, a port while it takes
commands. -/
def srcOn (src : RegSrc) (s : State) : Bool :=
  match src with
  | .port p => reachable p s
  | _ => !vault s.pwr.pstate && !s.pwr.inReset

/-- A write discarded under BLOCK_OFF is counted (Table 10.8). -/
def countOff (s : State) : State := { s.hit 0 0x0C 0 with cmd := { s.cmd with blockOff := satInc 32 s.cmd.blockOff } }

/-- An access to the control registers of an engine checks their parity (Table 13.11). -/
def engAccess (e : Eng) (s : State) : State := check (engBlk e) 1 0 false s

/-- A word of the store is read for write-back or for readout to the link: an injected error meets it, is counted and reported
(R142, Table 13.11; log entry 203). -/
def readStore (s : State) : State :=
  let s1 := if (s.win 4).inject.getLsbD 0 then
      check 4 0 0 false { s.hit 4 4 0 with store := { s.store with uncorr := satInc 16 s.store.uncorr } }
    else s
  if (s1.win 4).inject.getLsbD 1 then
    check 4 1 0 false { s1.hit 4 4 16 with store := { s1.store with corr := satInc 16 s1.store.corr } }
  else s1

/-- A read of the cores' ECC SRAM: 2 an uncorrectable and 1 a corrected word (R539, Table 13.11). -/
def coreRead (ecc : Nat) (s : State) : State := check 17 3 0 (ecc == 1) (check 17 2 0 (ecc == 2) s)

/-- A Rigger core that makes an access reads its SRAM (Table 13.11). -/
def srcRead (src : RegSrc) (s : State) : State :=
  match src with
  | .port _ => s
  | _ => coreRead 0 s

/-- A register write to block `b` made directly by a row: BLOCK_OFF where the block is off, and otherwise what the
block's chapter gives; its status is kept in the model's own field. -/
def writeRow (b : Nat) (src : RegSrc) (f : State → State × BitVec 8) (s : State) : State :=
  if srcOn src s then
    if blockOff b s then { countOff (srcRead src s) with lastStatus := stBlockOff }
    else
      let r := f (srcRead src s)
      { r.1 with lastStatus := r.2 }
  else s

/-- A write to offset `off` of block `b` made directly by a row: an offset that is not a multiple of 4 is BAD_PARAM
(R328). -/
def writeAt (b : Nat) (src : RegSrc) (off : BitVec 16) (f : Nat → State → State × BitVec 8) (s : State) : State :=
  if off.toNat % 4 = 0 then writeRow b src (f off.toNat) s
  else if srcOn src s then { s with lastStatus := stBadParam } else s

/-- A register read from block `b` made directly by a row: BLOCK_OFF and 0 where the block is off (R328). -/
def readRow (b : Nat) (src : RegSrc) (f : State → State × Word) (s : State) : State :=
  if srcOn src s then
    if blockOff b s then { srcRead src s with lastStatus := stBlockOff, lastRead := 0 }
    else
      let r := f (srcRead src s)
      { r.1 with lastStatus := stOk, lastRead := r.2 }
  else s

end Sys2Proof.Machine
end

