-- ==== Sys2Proof/Machine/Light.lean ====
section
/-! DEFINITION. The light pipeline: the eight stages, the sampling and slewing of its factors at a compose point,
the current prediction, and its registers (04_light_pipeline.md R101 to R136; 19_legacy_mode.md R497). -/

namespace Sys2Proof.Machine

/-! ### Stages (R102, R110, R123, R124, R497) -/

/-- Stages 1 to 5: factor `f` in units of `u`, rounded half up and saturated (R102). -/
def stage (u f x : Nat) : Nat := min 65535 ((x * f + u / 2) / u)

/-- The temperature breakpoints in 1/16 degree (Table 04.3). -/
def breakpoint (i : Nat) : Int := if i = 0 then -640 else 400 * ((i : Int) - 1)

/-- The stage-3 gain for a junction estimate and curve points (R110). -/
def compGain (p : Nat → Nat) (tj : Int) : Nat :=
  let tj := max (-640) (min 2400 tj)
  let i := if tj < 0 then 0 else min 6 (1 + tj.toNat / 400)
  let w := (breakpoint (i + 1) - breakpoint i).toNat
  let dt := (tj - breakpoint i).toNat
  max 8192 (min 20480 ((p i * (w - dt) + p (i + 1) * dt + w / 2) / w))

/-- Stage 4's factor (R112). -/
def reefFactor (tile glob : Nat) : Nat := (tile * glob + 32768) / 65536

/-- One step of a slewed factor (R113). -/
def slew (act tgt : Nat) : Nat := if act < tgt then min tgt (act + 655) else max tgt (act - 655)

/-- The budget target (R116). -/
def budgetTarget (iBudget bPrev iPred : Nat) : Nat :=
  if iPred = 0 then 65536 else max 1 (min 65536 (iBudget * bPrev / iPred))

/-- Stage 7, drive units (R123). -/
def driveUnits (l6 : Nat) : Nat := (l6 * 64449 + 32767) / 65535

/-- A code pair from numbers. -/
def mkCode (c d : Nat) : Code := ⟨BitVec.ofNat 6 c, BitVec.ofNat 10 d⟩

/-- Stage 8, the hybrid conversion with knee code `k` (R124). -/
def hybrid (k du : Nat) : Code :=
  if du = 0 then mkCode 0 0
  else if du ≤ k * 1023 then
    let d := (du + k / 2) / k
    mkCode (if d = 0 then 0 else k) d
  else
    let c := (du + 1022) / 1023
    mkCode c (min 1023 ((du + c / 2) / c))

/-- The legacy drive mapping in place of stages 7 and 8 (R497). -/
def legacyDrive (cLeg l6 : Nat) : Code :=
  let v := (l6 + 128) / 257
  if v = 0 ∨ cLeg = 0 then mkCode 0 0 else mkCode cLeg (4 * v)

/-- The code word of a pair (R71). -/
def codeWord (x : Code) : BitVec 16 := (x.c ++ x.d : BitVec 16)

/-- The pair of a code word (R71). -/
def wordCode (w : BitVec 16) : Code := ⟨w.extractLsb' 10 6, w.extractLsb' 0 10⟩

/-- The bytes of code words, low byte first in each (R180). -/
def codeBytes (cs : List Code) : List Byte :=
  cs.flatMap (fun x => [(codeWord x).setWidth 8, (codeWord x >>> 8).setWidth 8])

/-! ### Mapping (R104, R231) -/

/-- The scene position of an array pixel under orientation and aim (R231). -/
def sceneOf (flipH flipV : Bool) (aimV aimH : Int) (x y : Nat) : Int × Int :=
  let xm : Int := if flipH then 1023 - x else x
  let ym : Int := if flipV then 1023 - y else y
  (xm - aimH, ym - aimV)

/-- The scene position of an array pixel in a frame (R231). -/
def Job.sceneAt (j : Job) (x y : Nat) : Int × Int := sceneOf j.flipH j.flipV j.aimV j.aimH x y

/-- A position lies on the canvas. -/
def onCanvas (p : Int × Int) : Bool := 0 ≤ p.1 && p.1 < 1024 && 0 ≤ p.2 && p.2 < 1024

/-- The composed value of an array pixel: 0 where no scene pixel maps to it (R104). -/
def l0At (canvas : Nat → Nat → Nat × Bool) (j : Job) (x y : Nat) : Nat × Bool :=
  let p := j.sceneAt x y
  if onCanvas p then canvas p.1.toNat p.2.toNat else (0, false)

/-! ### Per-pixel inputs -/

/-- CAL_EN in effect (Table 04.7, R132). -/
def calOn (e : Engine) (s : State) : Bool := bit e.lp.smp.ctrl 12 && !s.compat && s.store.calValid

/-- The calibration word of a pixel; `bad` lists the pixels whose word meets an uncorrectable error (R106, R107). -/
def calWord (e : Engine) (s : State) (bad : List Nat) (k : Nat) : BitVec 16 :=
  if calOn e s && !bad.contains k then spGet s.store.calib k 0x4000 else 0x4000

/-- GAIN of a calibration word (Table 04.2). -/
def calGain (w : BitVec 16) : Nat := w.toNat / 16

/-- A pixel is dead for stage 6 (R120). -/
def isDead (e : Engine) (s : State) (bad : List Nat) (k : Nat) : Bool :=
  e.job.dead.contains k || (calWord e s bad k).getLsbD 0

/-- The output of stage 5 for an array pixel (R101). -/
def l5At (canvas : Nat → Nat → Nat × Bool) (e : Engine) (s : State) (bad : List Nat) (x y : Nat) : Nat :=
  let k := 1024 * y + x
  let t := tileOfPix k
  let l0 := (l0At canvas e.job x y).1
  let l3 := if s.compat then l0 else
    stage 16384 (spGet e.job.fTile t 16384) (stage 16384 (spGet e.lp.smp.tgain t 16384).toNat
      (stage 1024 (calGain (calWord e s bad k)) l0))
  stage 65536 e.job.bFac (stage 65536 (spGet e.job.rTile t 65536) l3)

/-- The array 4-neighbours of a pixel. -/
def neighbours (x y : Nat) : List (Nat × Nat) :=
  (if 0 < x then [(x - 1, y)] else []) ++ (if x < 1023 then [(x + 1, y)] else []) ++
    (if 0 < y then [(x, y - 1)] else []) ++ (if y < 1023 then [(x, y + 1)] else [])

/-- Neighbour fill is on (Table 04.7, R132). -/
def fillOn (e : Engine) (s : State) : Bool := bit e.lp.smp.ctrl 8 && !s.compat

/-- Stage 6 (R121); an array pixel without a scene pixel enters with 0 (R104) and takes fill like any living pixel. -/
def l6At (canvas : Nat → Nat → Nat × Bool) (e : Engine) (s : State) (bad : List Nat) (x y : Nat) : Nat :=
  let k := 1024 * y + x
  if isDead e s bad k then 0
  else
    let l5 := l5At canvas e s bad x y
    if fillOn e s && !(calWord e s bad k).getLsbD 1 && !(l0At canvas e.job x y).2 then
      min 65535 ((neighbours x y).foldl (fun acc p =>
        if isDead e s bad (1024 * p.2 + p.1) then acc + (l5At canvas e s bad p.1 p.2 + 2) / 4 else acc) l5)
    else l5

/-- The code pair of an array pixel (R101, R122, R132). -/
def codeAt (canvas : Nat → Nat → Nat × Bool) (e : Engine) (s : State) (bad : List Nat) (x y : Nat) : Code :=
  if isDead e s bad (1024 * y + x) then mkCode 0 0
  else
    let l6 := l6At canvas e s bad x y
    if s.compat then legacyDrive s.legacy.cSmp.toNat l6 else hybrid (bits e.lp.smp.ctrl 0 6) (driveUnits l6)

/-! ### The current prediction (R114) -/

/-- The term of a tile: s × 5 × (range + 1) × (u + 384) × (g + 128). -/
def tileTerm (sum range u g : Nat) : Nat := sum * 5 * (range + 1) * (u + 384) * (g + 128)

/-- Active parts of a gapless and of a normal stroke in ROW clocks, by RATE (Table 02.1). -/
def activePart (rate : Nat) (gapless : Bool) : Nat :=
  match rate, gapless with
  | 0, false => 622600
  | 0, true => 624700
  | 1, false => 310100
  | 1, true => 312200
  | 2, false => 153850
  | 2, true => 155950
  | _, _ => 1247600

/-- RATE in effect: 240 strokes/s in the compatibility modes (R42, R67). -/
def rateNow (s : State) : Nat := if s.compat then 3 else s.scan.rateAct.toNat

/-- A sum of tile terms in mA (R114). -/
def milliAmps (num : Nat) : Nat := (num / 8447459328 + 500) / 1000

/-- I_PRED of the frame engine `e` has composed, with the range and trims that were sampled for it (R114). DESIGN CHOICE (log
entry 155): where a new RATE takes effect at the frame's own flip, a gapless frame's prediction takes the active parts of the
RATE before it. -/
def predict (e : Engine) (s : State) : Nat :=
  let num := (List.range 256).foldl (fun acc t =>
    if e.job.safe.contains t then acc
    else
      let x := s.tile t
      acc + tileTerm (spGet e.lp.sumCd t 0) x.rangeSmp.toNat x.ttrimSmp.toNat s.arr.gtrimSmp.toNat) 0
  let ua := num / 8447459328
  let ua := if e.job.gapless then ua * activePart (rateNow s) true / activePart (rateNow s) false else ua
  (ua + 500) / 1000

/-- The prediction of a frame that did not overrun, by the pipeline of each engine in its own window (R114, R117, R119,
R136). -/
def recordPrediction (e : Eng) (s : State) : State :=
  let x := s.eng e
  let p := predict x s
  let s1 := (s.hitIf (decide (8000 < p)) (engBlk e) 0x8004 6).modEng e (fun x => { x with lp := { x.lp with
    iPred := min p 65535, bPrev := x.job.bFac, predOver := x.lp.predOver || decide (8000 < p) } })
  if 8000 < p then raiseFault (engBlk e) 17 0 true false s1 else s1

/-! ### The compose point (R103, R113, R116 to R118, R128 to R131) -/

/-- TCOMP_EN in effect. -/
def tcompOn (e : Engine) (s : State) : Bool := bit e.lp.smp.ctrl 13 && e.lp.tcurveValid && !s.compat

/-- The stage-3 gain of a tile now (R110). -/
def gainNow (e : Engine) (s : State) (t : Nat) : Nat :=
  if tcompOn e s then
    compGain (fun k => (spGet e.lp.smp.tcurve (8 * t + k) 16384).toNat) (s.therm.tiles.getD t {}).used
  else 16384

/-- A sparse table over the tiles from a function, without the entries at the unlisted value. -/
def tileTable (d : Nat) (f : Nat → Nat) : Sparse Nat :=
  ((List.range 256).map (fun t => (t, f t))).filter (fun p => p.2 != d)

/-- The registers are sampled (R103, R105). -/
def sampleLp (e : Eng) (s : State) : State :=
  s.modEng e (fun x => { x with lp := { x.lp with smp := x.lp.reg, pend := false } })

/-- B_TGT is formed (R116, R117). -/
def formTarget (e : Eng) (s : State) : State :=
  s.modEng e (fun x => { x with lp := { x.lp with
    bTgt := budgetTarget x.lp.smp.iBudget.toNat x.lp.bPrev x.lp.iPred } })

/-- The factors of a frame that is composed: the start values of R118 and R131, or one step of R113; and what the
frame's stages use. DESIGN CHOICE (log entry 156): after an exit from S2 or S3 the minimum of R131 is taken by the first frame
composed, at whichever compose point in S0 that is. -/
def slewFactors (e : Eng) (s : State) : State :=
  let x := s.eng e
  let l := x.lp
  let tgt (t : Nat) := spGet s.therm.tileTgt t 65536
  let act (t : Nat) := spGet l.rTileAct t 65536
  let step (a g : Nat) := if l.freshStart then g else if l.deepExit then min a g else slew a g
  let tiles := tileTable 65536 (fun t => step (act t) (tgt t))
  let glob := step l.rGlobAct s.therm.globTgt
  let b := if l.freshStart then l.smp.bInit.toNat else slew l.bAct l.bTgt
  let gains := tileTable 16384 (gainNow x s)
  s.modEng e (fun x => { x with
    lp := { x.lp with
      rTileAct := tiles, rGlobAct := glob, bAct := b, budgetLimit := decide (b < 65536), tcompAct := gains
      factorMoved := false, freshStart := false, deepExit := false, sumCd := [] }
    job := { x.job with
      bFac := b, fTile := gains, rTile := tileTable 65536 (fun t => reefFactor (spGet tiles t 65536) glob) } })

/-- The distance of two factors. -/
def distance (a b : Nat) : Nat := (a - b) + (b - a)

/-- A target has moved beyond the held factor (R128). -/
def factorFar (e : Eng) (s : State) : Bool :=
  let x := s.eng e
  656 ≤ distance x.lp.rGlobAct s.therm.globTgt || 656 ≤ distance x.lp.bAct x.lp.bTgt ||
  (List.range 256).any (fun t =>
    656 ≤ distance (spGet x.lp.rTileAct t 65536) (spGet s.therm.tileTgt t 65536) ||
    164 ≤ distance (spGet x.lp.tcompAct t 16384) (gainNow x s t))

/-- A slewed factor differs from its target (R169). -/
def slewing (e : Eng) (s : State) : Bool :=
  let x := s.eng e
  x.lp.rGlobAct != s.therm.globTgt || x.lp.bAct != x.lp.bTgt ||
  (List.range 256).any (fun t => spGet x.lp.rTileAct t 65536 != spGet s.therm.tileTgt t 65536)

/-- The evaluation of FACTOR_MOVED at a compose point without a composed frame: once set it stays until a frame is composed;
in S1 its rise raises EV_LIGHT_STALE (R128, R129). -/
def judgeFactors (e : Eng) (s : State) : State :=
  let rose := factorFar e s && !(s.eng e).lp.factorMoved
  let s1 := s.modEng e (fun x => { x with lp := { x.lp with factorMoved := x.lp.factorMoved || rose } })
  if rose && s.pwr.pstate == .s1 && e == composer s then queueEvent (engBlk e * 256 + 6) 1 [] s1 else s1

/-! ### Registers (Tables 04.7 to 04.10) -/

/-- Both pipelines changed in the same clock (R105). -/
def modLpRegs (f : LpRegs → LpRegs) (s : State) : State :=
  let g (x : Engine) : Engine := { x with lp := { x.lp with reg := f x.lp.reg, pend := true } }
  { s with engA := g s.engA, engB := g s.engB }

/-- TCURVE is written or loaded (R110). -/
def curveWritten (s : State) : State :=
  let g (x : Engine) : Engine := { x with lp := { x.lp with tcurveValid := true } }
  { s with engA := g s.engA, engB := g s.engB }

/-- LP_CTRL as it reads: CAL_EN, TCOMP_EN and FILL_EN read 0 in the compatibility modes (R132). -/
def lpCtrlRead (e : Engine) (s : State) : Word := if s.compat then e.lp.reg.ctrl &&& ~~~ 0x3100 else e.lp.reg.ctrl

/-- A read of the light pipeline part of an engine window (Tables 04.7 to 04.10). -/
def lpRead (e : Eng) (off : Nat) (s : State) : Word :=
  let x := s.eng e
  let l := x.lp
  if off = 0x8000 then lpCtrlRead x s
  else if off = 0x8004 then
    let reef := l.rGlobAct < 65536 || l.rTileAct.any (fun p => p.2 < 65536)
    putb 8 l.pend ||| putb 7 l.calEcc ||| putb 6 l.predOver ||| putb 5 l.factorMoved ||| putb 4 reef |||
      putb 3 l.budgetLimit ||| putb 2 l.tgainValid ||| putb 1 l.tcurveValid ||| putb 0 s.store.calValid
  else if off = 0x8008 then put 0 l.reg.iBudget.toNat
  else if off = 0x800C then put 0 l.reg.bInit.toNat
  else if off = 0x8010 then put 0 l.iPred
  else if off = 0x8014 then put 0 l.bAct
  else if off = 0x8018 then put 0 l.bTgt
  else if off = 0x801C then put 0 l.rGlobAct
  else if off = 0x8020 then put 0 l.deadUsed
  else if off = 0x8024 then put 0 l.calEccCnt
  else if 0x8400 ≤ off ∧ off < 0x8800 then put 0 (spGet l.rTileAct ((off - 0x8400) / 4) 65536)
  else if 0x8800 ≤ off ∧ off < 0x8C00 then put 0 (spGet l.tcompAct ((off - 0x8800) / 4) 16384)
  else if 0x8C00 ≤ off ∧ off < 0x9000 then put 0 (spGet l.reg.tgain ((off - 0x8C00) / 4) 16384).toNat
  else if 0x9000 ≤ off ∧ off < 0xA000 then
    let k := (off - 0x9000) / 4
    put 16 (spGet l.reg.tcurve (2 * k + 1) 16384).toNat ||| put 0 (spGet l.reg.tcurve (2 * k) 16384).toNat
  else 0

/-- I_BUDGET in mA is stored in both pipelines (R134). -/
def setBudget (ma : Nat) (s : State) : State := modLpRegs (fun r => { r with iBudget := BitVec.ofNat 14 ma }) s

/-- A write to the light pipeline part of an engine window (R105, R125, R132, R134). -/
def lpWrite (e : Eng) (off : Nat) (v : Word) (s : State) : State × BitVec 8 :=
  if off = 0x8000 then
    if s.compat then (s, stBadState)
    else if bits v 0 6 = 0 then (s, stBadParam)
    else (modLpRegs (fun r => { r with ctrl := v &&& 0x333F }) s, stOk)
  else if off = 0x8004 then
    (s.modEng e (fun x => { x with lp := { x.lp with
      calEcc := rw1c (bit v 7) (s.wasHit (engBlk e) 0x8004 7) x.lp.calEcc
      predOver := rw1c (bit v 6) (s.wasHit (engBlk e) 0x8004 6) x.lp.predOver } }), stOk)
  else if off = 0x8008 then
    if bits v 0 14 < 100 ∨ 8000 < bits v 0 14 then (s, stBadParam) else (setBudget (bits v 0 14) s, stOk)
  else if off = 0x800C then
    if bits v 0 17 = 0 ∨ 65536 < bits v 0 17 then (s, stBadParam)
    else (modLpRegs (fun r => { r with bInit := v.setWidth 17 }) s, stOk)
  else if off = 0x8024 then
    (if bit v 31 then
      s.modEng e (fun x => { x with lp := { x.lp with calEccCnt := cleared (s.wasHit (engBlk e) 0x8024 0) x.lp.calEccCnt } })
     else s, stOk)
  else if 0x8C00 ≤ off ∧ off < 0x9000 then
    if s.compat then (s, stBadState)
    else (modLpRegs (fun r => { r with tgain := spPut 16384 r.tgain ((off - 0x8C00) / 4) (v.setWidth 16) }) s, stOk)
  else if 0x9000 ≤ off ∧ off < 0xA000 then
    if s.compat then (s, stBadState)
    else
      let k := (off - 0x9000) / 4
      (curveWritten (modLpRegs (fun r => { r with
        tcurve := spPut 16384 (spPut 16384 r.tcurve (2 * k) (v.setWidth 16)) (2 * k + 1) ((v >>> 16).setWidth 16) }) s), stOk)
  else (s, stOk)

/-- The offsets of the light pipeline in an engine window. -/
def inLp (off : Nat) : Bool := 0x8000 ≤ off && off < 0xA000

/-- LP_REG_WRITE (R105): a write to a light-pipeline register through either engine window. -/
def execLpRegWrite (src : RegSrc) (e : Eng) (off : BitVec 16) (v : Word) (s : State) :
    Host.Outcome State Fault Refusal :=
  done (writeAt (engBlk e) src off (fun o s => if inLp o then lpWrite e o v (engAccess e s) else (s, stOk)) s)

end Sys2Proof.Machine
end

