-- ==== Sys2Proof/Machine/Bstay.lean ====
section
/-! DEFINITION. Backstay and Trysail: position, speed and direction limits, verdicts, the Trysail image, and the beam
commands (08_beam_safety.md R229 to R258, R541). -/

namespace Sys2Proof.Machine

/-- The state with BSTAY changed. -/
def State.modBstay (s : State) (f : Bstay → Bstay) : State := { s with bstay := f s.bstay }

/-! ### Safely limited position (R231, R233, R234) -/

/-- The limit in drive units (R234). -/
def limitUnits (lim : Nat) : Nat := (lim * 64449 + 32767) / 65535

/-- The clamp word of a code for a limit in light units, where it exceeds the limit (R234). -/
def clampCode (lim : Nat) (x : Code) : Option Code :=
  let dul := limitUnits lim
  let c := x.c.toNat
  if dul + c / 2 < c * x.d.toNat then
    let d := (dul + c / 2) / c
    some (mkCode (if d = 0 then 0 else c) d)
  else none

/-- The zone of a scene position. -/
def zoneOf (xs ys : Nat) : Nat := 32 * (ys / 32) + xs / 32

/-- The limit of a scene position above the effective ceiling, in a class whose ceiling check applies (R229, R234). -/
def slpLimit (b : Bstay) (p : Int × Int) : Option Nat :=
  if b.ceilValid && b.cls != .high && onCanvas p && decide (p.2.toNat < spGet b.ceilAct p.1.toNat 0) then
    some (if b.cls = .signal then 0 else spGet b.zlimAct (zoneOf p.1.toNat p.2.toNat) 0)
  else none

/-- A written pixel through the SLP check: its code, and whether it was clamped (R234). -/
def slpPixel (b : Bstay) (p : Int × Int) (x : Code) : Code × Bool :=
  match slpLimit b p with
  | none => (x, false)
  | some lim => match clampCode lim x with | some y => (y, true) | none => (x, false)

/-! ### The profile (R233, R238, R541) -/

/-- A parity error discards the profile (R541). -/
def discardProfile (s : State) : State :=
  s.modBstay (fun b => { b with
    ceilTgt := [], ceilAct := [], zlimTgt := [], zlimAct := [], stageCeil := [], stageZlim := []
    profileMoved := b.profileMoved || b.ceilAct != [] || b.zlimAct != []
    ceilValid := false, discarded := true })

/-- A check of the profile's and the level table's parity, with `bad` a real error (R541, R257). -/
def profileParity (bad : Bool) (s : State) : State :=
  let wrong := fails 10 6 bad s
  let s1 := check 10 6 0 bad s
  if wrong then discardProfile s1 else s1

/-- CEIL_SLEW in effect (Table 08.6). -/
def ceilSlew (b : Bstay) : Nat := bits b.cfgAct 0 4
/-- AIM_SLEW in effect. -/
def aimSlew (b : Bstay) : Nat := bits b.cfgAct 8 5
/-- STEER_POL in effect. -/
def steerPol (b : Bstay) : Bool := bit b.cfgAct 15
/-- STEER_MIN in effect. -/
def steerMin (b : Bstay) : Nat := bits b.cfgAct 16 16

/-- A value moved towards its target by at most `d` (R238). -/
def toward (a t : Int) (d : Nat) : Int := if a < t then min t (a + d) else max t (a - d)

/-- A zone limit's step: falls at once, rises by at most 2048 (R238). -/
def zlimStep (a t : Nat) : Nat := if t < a then t else min t (a + 2048)

/-- A sparse table over 1024 entries, 0 unlisted. -/
def table1024 (f : Nat → Nat) : Sparse Nat := ((List.range 1024).map (fun k => (k, f k))).filter (fun p => p.2 != 0)

/-- Ceiling entries moved one step (R238). -/
def ceilStep (b : Bstay) : Sparse Nat :=
  if b.ceilAct = b.ceilTgt then b.ceilAct
  else table1024 (fun k => (toward ((spGet b.ceilAct k 0 : Nat) : Int) ((spGet b.ceilTgt k 0 : Nat) : Int) (ceilSlew b)).toNat)

/-- Zone limits moved one step (R238). -/
def zlimsStep (b : Bstay) : Sparse Nat :=
  if b.zlimAct = b.zlimTgt then b.zlimAct
  else table1024 (fun k => zlimStep (spGet b.zlimAct k 0) (spGet b.zlimTgt k 0))

/-- An effective value differs from its target (R238). -/
def bstaySlewing (b : Bstay) : Bool :=
  b.ceilAct != b.ceilTgt || b.zlimAct != b.zlimTgt || b.aimVAct != b.aimVTgt || b.aimHAct != b.hEff

/-- A step beyond the limits of R239, from the values of the previous frame to those of this one. -/
def slsExceeded (a b : Bstay) : Bool :=
  (List.range 1024).any (fun k =>
    ceilSlew b < distance (spGet a.ceilAct k 0) (spGet b.ceilAct k 0) ||
    spGet a.zlimAct k 0 + 2048 < spGet b.zlimAct k 0) ||
  decide (ceilSlew b < (b.aimVAct - a.aimVAct).natAbs) || decide (aimSlew b < (b.aimHAct - a.aimHAct).natAbs)

/-! ### Safely limited direction (R240 to R242) -/

/-- N_FRESH at the stroke rate in effect (R241). -/
def nFresh (s : State) : Nat :=
  match rateNow s with
  | 0 => 48
  | 1 => 96
  | 2 => 192
  | _ => 24

/-- The strokes elapsed since the current input's stamp, saturating (R241, STEER_AGE). -/
def steerAgeNow (s : State) : Nat := s.bstay.steerAge

/-- There is a current input, and it is fresh (R241, R255). -/
def steerFresh (s : State) : Bool := s.bstay.steerStamp.isSome && steerAgeNow s ≤ nFresh s

/-- h_eff and the SLD state (R242). -/
def judgeSteer (s : State) : Int × Sld :=
  let b := s.bstay
  let pol : Int := if steerPol b then -1 else 1
  if !steerFresh s then (0, .stale)
  else if steerMin b ≤ b.steer.natAbs ∧ b.aimHTgt ≠ 0 ∧ b.aimHTgt.sign * pol ≠ b.steer.sign then (0, .disagree)
  else (b.aimHTgt, .free)

/-! ### The compose point (R230, R233, R236 to R244, R257) -/

/-- Registers and targets that take effect at a compose point (R233, R257): configuration, and the committed parts;
after a discard every effective value of the profile starts at its target (R541). -/
def takeTargets (s : State) : State :=
  let s1 := s.modBstay (fun b => { b with cfgAct := b.cfg, slpAct := b.slp, tryMapAct := b.tryMap })
  if s1.bstay.commitPend then
    s1.modBstay (fun b =>
      let ct := spPutAll 0 b.ceilTgt b.commitCeil
      let zt := spPutAll 0 b.zlimTgt b.commitZlim
      { b with
        ceilTgt := ct, zlimTgt := zt
        ceilAct := if b.discarded then ct else b.ceilAct
        zlimAct := if b.discarded then zt else b.zlimAct
        slsSkip := b.slsSkip || b.discarded
        ceilValid := true, discarded := false, commitPend := false, commitCeil := [], commitZlim := [] })
  else s1

/-- SLD judged and counted (R242). -/
def sldStep (s : State) : State :=
  let (h, st) := judgeSteer s
  let s1 := s.modBstay (fun b => { b with hEff := h, sld := st })
  let tooMuch := decide (s1.bstay.aimHTgt ≠ 0) && st != .free
  let s2 := if fails 10 2 tooMuch s1 then (s1.modBstay (fun b => { b with sldCnt := satInc 16 b.sldCnt })).hit 10 0x20 0 else s1
  check 10 2 0 tooMuch s2

/-- Every effective value moves one step towards its target, and is compared with the value it held for the previous frame
(R238, R239). Between compose points the ceiling alone can change otherwise than to 0 from a limit, by a discard. -/
def slewStep (s : State) : State :=
  let b0 := s.bstay
  let s1 := s.modBstay (fun b => { b with
    ceilAct := ceilStep b, ceilPrev := ceilStep b, zlimAct := zlimsStep b
    aimVAct := toward b.aimVAct b.aimVTgt (ceilSlew b)
    aimHAct := toward b.aimHAct b.hEff (aimSlew b)
    slsSkip := false })
  check 10 1 0 (!b0.slsSkip && slsExceeded { b0 with ceilAct := b0.ceilPrev } s1.bstay) s1

/-- Codes of the SLD states (R243). -/
def sldNo : Sld → Nat
  | .free => 0 | .stale => 1 | .disagree => 2

/-- Backstay's verdict (R243). -/
def verdict (s : State) : List Word :=
  let b := s.bstay
  [put 26 (sldNo b.sld) ||| put 24 (classNo b.cls) ||| put 0 s.scan.frameCnt.toNat,
   put 16 (unsigned 7 b.aimVAct) ||| put 0 (unsigned 8 b.aimHAct),
   BitVec.ofNat 32 (crc32 ((List.range 1024).flatMap (fun k => natBytes 2 (spGet b.ceilAct k 0)) ++
     (List.range 1024).flatMap (fun k => natBytes 2 (spGet b.zlimAct k 0))))]

/-- The verdicts are compared and a new one is formed (R243, R244). -/
def verdictStep (s : State) : State :=
  let b := s.bstay
  let s1 :=
    if b.firstCompose then s.modBstay (fun b => { b with verdMissing := 0 })
    else if b.verdPosted then
      check 10 4 0 (b.verdHw != b.verdFw) (s.modBstay (fun b => { b with verdMissing := 0 }))
    else
      let s1 := (s.hit 10 0x24 0).modBstay (fun b => { b with
        verdLateCnt := satInc 16 b.verdLateCnt, verdMissing := b.verdMissing + 1 })
      if 2 ≤ s1.bstay.verdMissing then raiseFault 10 5 0 true false s1 else s1
  s1.modBstay (fun b => { b with verdHw := verdict s1, verdPosted := false, firstCompose := false })

/-- Backstay at a compose point in S0 and S1, after the changes of beam and class (R238, R239, R242, R244, R541): `bad`
is a parity error of the profile. A change of class, ceiling or zone limit marks the next frame (R236). -/
def bstayCompose (bad : Bool) (before : Bstay) (s : State) : State :=
  let s1 := profileParity bad (takeTargets s)
  let s2 := if s.pwr.pstate = .s0 then slewStep (sldStep s1) else s1
  let s3 := s2.modBstay (fun b => { b with
    profileMoved := b.profileMoved || b.cls != before.cls || b.ceilAct != before.ceilAct || b.zlimAct != before.zlimAct
    clampNow := 0, clampNowEng := 0 })
  verdictStep s3

/-- The clamp count at a flip instant (R235). -/
def clampFlip (s : State) : State :=
  let b := s.bstay
  let tooMuch := decide (b.slpAct.toNat < b.clampNowEng)
  let s1 := (s.hitIf (fails 10 0 tooMuch s) 10 0x20 16).modBstay (fun b => { b with
    clampLast := satAdd 21 b.clampNow 0, clampNow := 0, clampNowEng := 0
    slpCnt := if fails 10 0 tooMuch s then satInc 16 b.slpCnt else b.slpCnt })
  check 10 0 0 tooMuch s1

/-! ### The Trysail image (R245 to R248) -/

/-- The ROM level table (R247). -/
def romLevels : List (BitVec 16) := (List.range 16).map (fun n => if n = 0 then 0 else codeWord (mkCode 16 (68 * n)))

/-- The level of a scene pixel in the image the Trysail writer uses (R245, R247). -/
def tryLevel (b : Bstay) (xs ys : Nat) : Nat :=
  match b.tryBuf with
  | some i => (spGet i.px (1024 * ys + xs) 0).toNat
  | none => if 576 ≤ ys ∧ ys < 896 ∧ 128 ≤ xs ∧ xs < 896 then 6 else 0

/-- FLIP_H as sampled. -/
def flipHNow (s : State) : Bool := s.scan.flipH
/-- FLIP_V as sampled. -/
def flipVNow (s : State) : Bool := s.scan.flipV

/-- The scene position that the Trysail writer maps to an array pixel: no horizontal aim (R250). -/
def tryScene (s : State) (x y : Nat) : Int × Int := sceneOf (flipHNow s) (flipVNow s) s.bstay.aimVAct 0 x y

/-- The code the Trysail writer puts at an array pixel, before the SLP check (R246, R250). -/
def tryCode (s : State) (x y : Nat) : Code :=
  let p := tryScene s x y
  if onCanvas p then wordCode (s.bstay.levels.getD (tryLevel s.bstay p.1.toNat p.2.toNat) 0) else mkCode 0 0

/-- The overlap of two ranges of whole numbers, both ends in. -/
def overlapLen (a b c d : Int) : Nat := (min b d - max a c + 1).toNat

/-- Array pixels of tile `t` that the lit rectangle of the ROM image reaches (R247). -/
def romCount (s : State) (t : Nat) : Nat :=
  let x0 : Int := if flipHNow s then 1023 - 895 else 128
  let y0 : Int := 576 + s.bstay.aimVAct
  let y1 : Int := min 1023 (895 + s.bstay.aimVAct)
  let (ya, yb) := if flipVNow s then (1023 - y1, 1023 - max 0 y0) else (max 0 y0, y1)
  overlapLen x0 (x0 + 767) (64 * (t % 16)) (64 * (t % 16) + 63) * overlapLen ya yb (64 * (t / 16)) (64 * (t / 16) + 63)

/-- The sum of c × d that the Trysail writer would put into tile `t` (R246). -/
def trySum (s : State) (t : Nat) : Nat :=
  match s.bstay.tryBuf with
  | none =>
    let x := wordCode (s.bstay.levels.getD 6 0)
    romCount s t * (x.c.toNat * x.d.toNat)
  | some _ =>
    (List.range 4096).foldl (fun acc k =>
      let x := tryCode s (64 * (t % 16) + k % 64) (64 * (t / 16) + k / 64)
      acc + x.c.toNat * x.d.toNat) 0

/-- I_TRY by the arithmetic of R114 over every tile (R246). -/
def tryCurrent (s : State) : Nat :=
  milliAmps ((List.range 256).foldl (fun acc t =>
    let x := s.tile t
    acc + tileTerm (trySum s t) x.rangeAct.toNat x.ttrimAct.toNat s.arr.gtrimAct.toNat) 0)

/-- I_BUDGET as sampled, in mA (R246). -/
def budgetNow (s : State) : Nat := (s.eng (composer s)).lp.smp.iBudget.toNat

/-- The ROM image with its level table, scaled where its I_TRY exceeds I_BUDGET (R246, R247). -/
def romImage (s : State) : State × Bool :=
  let s1 := s.modBstay (fun b => { b with tryBuf := none, tryImg := 4, levels := romLevels })
  let i := tryCurrent s1
  if budgetNow s < i then
    (s1.modBstay (fun b => { b with levels := romLevels.map (fun w =>
      let x := wordCode w
      if w = 0 then 0 else codeWord (mkCode x.c.toNat (max 1 (x.d.toNat * budgetNow s / i)))) }), true)
  else (s1, false)

/-- The ROM image replaces the working image, which then counts as changed (R247, R250). -/
def useRom (s : State) : State × Bool :=
  let r := romImage s
  (r.1.modBstay (fun b => { b with
    tryChanged := b.tryChanged || b.tryImg != s.bstay.tryImg || b.levels != s.bstay.levels }), r.2)

/-- I_TRY is computed for the working image; above I_BUDGET the ROM image replaces it and TRY_OVER is raised (R246). -/
def computeTry (s : State) : State :=
  let lv0 := s.bstay.levels
  let img0 := s.bstay.tryImg
  let (s1, tooMuch) :=
    match s.bstay.tryBuf with
    | some _ => if budgetNow s < tryCurrent s then ((useRom s).1, true) else (s, false)
    | none => useRom s
  let s2 := s1.modBstay (fun b => { b with
    iTry := min 65535 (tryCurrent s1)
    tryChanged := b.tryChanged || b.levels != lv0 || b.tryImg != img0 })
  if tooMuch then raiseFault 10 9 0 true false s2 else s2

/-- The image BSTAY_TRY_MAP names for a class (R245, Table 08.8). -/
def namedImg (m : BitVec 15) (c : BClass) : Nat := (m.toNat >>> (4 * classNo c)) % 8

/-- The named image is valid (R247). -/
def imgValid (i : Nat) (s : State) : Bool := i < 4 && s.bstay.tryValid.getLsbD i

/-- The buffer is loaded with the image named for the class in force: from external memory, or the ROM image at once
where none is named or the named one is not valid (R245, R247, R248). -/
def loadTry (s : State) : State :=
  let i := namedImg s.bstay.tryMapAct s.bstay.cls
  let s1 := { s with xmem := { s.xmem with queue := s.xmem.queue.filter (fun k => match k with | .trysail _ => false | _ => true) } }
  if imgValid i s then
    let s2 := computeTry ((useRom s1).1)
    { s2.modBstay (fun b => { b with tryLoading := true }) with
      xmem := { s2.xmem with queue := s2.xmem.queue ++ [.trysail i] } }
  else computeTry ((useRom s1).1.modBstay (fun b => { b with tryLoading := false }))

/-! ### Trysail's dirty segments (R250) -/

/-- The codes the Trysail writer puts into segment 16y + j, after the SLP check, with the count of clamps (R234, R250). -/
def trySegCodes (s : State) (g : Nat) : List Code × Nat :=
  let y := g / 16
  let px := (List.range 64).map (fun u =>
    let x := 64 * (g % 16) + u
    slpPixel s.bstay (tryScene s x y) (tryCode s x y))
  (px.map (·.1), (px.filter (·.2)).length)

/-- The signature of a list of codes (R53). -/
def codesSig (cs : List Code) : BitVec 32 := BitVec.ofNat 32 (crc32 (codeBytes cs))

/-- Segments whose Trysail codes differ from those last written. -/
def tryStale (s : State) : List Nat :=
  allSegs.filter (fun g => codesSig (trySegCodes s g).1 != spGet s.bstay.trySegSig g 0 || !(s.bstay.trySegSig.any (fun p => p.1 == g)))

/-- The segments of array row `y`. -/
def rowSegs (y : Nat) : List Nat := (List.range 16).map (fun j => 16 * y + j)

/-- What a compose point marks for the Trysail writer (R250): `geom` says that orientation or vertical aim has changed;
`row` is the row of R55 and `closed` the segments of tiles that have closed (R81). -/
def tryCompose (geom : Bool) (row : Nat) (closed : List Nat) (s : State) : State :=
  if s.bstay.tryOwns then
    let all := s.bstay.profileMoved
    let marks := if all then allSegs
      else setUnion (setUnion (rowSegs row) (setUnion closed s.bstay.tryClampSegs))
        (if geom || s.bstay.tryChanged then tryStale s else [])
    s.modBstay (fun b => { b with tryDirty := if all then allSegs else setUnion b.tryDirty marks, tryClampSegs := [], tryChanged := false })
  else s

/-- TRYSAIL_TAKEOVER: the Trysail writer is connected to the row bus in place of both engines; every segment is dirty
(R250). -/
def execTrysailTakeover (s : State) : Host.Outcome State Fault Refusal :=
  done (if s.bstay.beam == .trysail && !s.bstay.tryOwns && (s.pwr.pstate == .s0 || s.pwr.pstate == .s1) then
    s.modBstay (fun b => { b with tryOwns := true, tryDirty := allSegs, trySegSig := [], tryClampSegs := [] })
  else s)

/-- The codes of a segment reach the next latches, unless the tile is in its safe state (R48, R80). -/
def latchSeg (g : Nat) (cs : List Code) (s : State) : State :=
  let new := ((List.range 64).zip cs).map (fun p => (1024 * (g / 16) + 64 * (g % 16) + p.1, p.2))
  if (s.tile (tileOfSeg g)).swClosed then
    { s with arr := { s.arr with next := spPutAll (⟨0, 0⟩ : Code) s.arr.next new } }
  else s

/-- A segment write is noted by SCAN (Table 02.8). -/
def noteWrite (g : Nat) (s : State) : State :=
  { s with scan := { s.scan with segsWritten := g :: s.scan.segsWritten, lastWrite := s.ticks } }

/-- A word of the Trysail buffer is read; `bad` is an uncorrectable error, for which the ROM image replaces the buffer
(R248, Table 13.11). -/
def readTry (bad : Bool) (s : State) : State :=
  let wrong := fails 10 8 bad s
  let s1 := check 10 8 0 bad s
  if wrong && s1.bstay.tryBuf.isSome then computeTry ((useRom s1).1) else s1

/-- TRYSAIL_SEGMENT_WRITE: the Trysail writer writes a dirty segment while the row bus is open; a write cut short by a
closure is repeated; `bad` is what goes wrong in the profile or the level table and in a buffer word that the writer reads (R56, R234, R248, R250, R541). -/
def execTrysailSegmentWrite (seg : Fin 16384) (cut : Bool) (bad : TryUpset) (s : State) : Host.Outcome State Fault Refusal :=
  done (
    let g := seg.val
    if s.bstay.tryOwns && s.bstay.tryDirty.contains g && !busClosed s && !cut then
      let s1 := profileParity bad.profile (if s.bstay.tryBuf.isSome then readTry bad.ecc s else s)
      let (cs, n) := trySegCodes s1 g
      let s2 := noteWrite g (latchSeg g cs s1)
      s2.modBstay (fun b => { b with
        tryDirty := setDel b.tryDirty g, trySegSig := spSet b.trySegSig g (codesSig cs), clampNow := b.clampNow + n
        tryClampSegs := if n = 0 then b.tryClampSegs else setIns b.tryClampSegs g })
    else s)

/-- TRYSAIL_SCRUB: a scrub read of the buffer; `bad` is 0 for a good word, 1 for a corrected one and 2 for an
uncorrectable one, which the ROM image replaces (R248). -/
def execTrysailScrub (bad : Nat) (s : State) : Host.Outcome State Fault Refusal :=
  done (if blockOff 10 s then s else readTry (2 ≤ bad) s)

/-! ### Requests from contacts (R249, R251) -/

/-- SAFE_N_LOW: latched, raised, and Trysail with cause 1; in S2 to S5 it is latched (R37, R249, R254). -/
def execSafeNLow (s : State) : Host.Outcome State Fault Refusal :=
  done (
    let s1 := s.modBstay (fun b => { b with safeNLevel := false, safeNLatch := true })
    let s2 := if vault s.pwr.pstate then s1 else raiseFault 10 10 0 true false s1
    reqTrysail 1 s2)

/-- SAFE_N_HIGH: SAFE_N_LEVEL reads 1 (R251). -/
def execSafeNHigh (s : State) : Host.Outcome State Fault Refusal :=
  done (s.modBstay (fun b => { b with safeNLevel := true }))

/-! ### Commands (Table 11.6) -/


/-- SET_LIGHT (0x30). -/
def opSetLight : OpFn := fun c ws s =>
  let w := ws.getD 0 0
  if !within w 3 || bits w 0 2 == 3 then endWith stBadParam s
  else if bits w 0 2 = 0 then
    if !inSession c s then endWith stDenied s
    else if normalRefused s then endWith stBadState s
    else endWith stOk (s.modBstay (fun b => { b with safeNLatch := false, tryPend := false, normalPend := true }))
  else if bits w 0 2 = 1 then
    if deep s.pwr.pstate then endWith stBadState s else endWith stOk (reqTrysail 5 s)
  else endWith stOk (reqDark s)

/-- SET_LIGHT_NORMAL (R251). -/
def execSetLightNormal (c : CmdCtx) (ws : List Word) (s : State) : Host.Outcome State Fault Refusal :=
  done (submit opSetLight 0x30 c (stamp 0 2 0 ws) s)

/-- SET_LIGHT_TRYSAIL (R249, cause 5). -/
def execSetLightTrysail (c : CmdCtx) (ws : List Word) (s : State) : Host.Outcome State Fault Refusal :=
  done (submit opSetLight 0x30 c (stamp 0 2 1 ws) s)

/-- SET_LIGHT_DARK (R251). -/
def execSetLightDark (c : CmdCtx) (ws : List Word) (s : State) : Host.Outcome State Fault Refusal :=
  done (submit opSetLight 0x30 c (stamp 0 2 2 ws) s)

/-- SET_CLASS (0x31). -/
def opSetClass : OpFn := fun _ ws s =>
  let w := ws.getD 0 0
  if !within w 3 then endWith stBadParam s
  else if s.bstay.beam ≠ .normal then endWith stBadState s
  else endWith stOk (s.modBstay (fun b => { b with clsPend := some (classOf (bits w 0 2)) }))

/-- SET_CLASS (R230). -/
def execSetClass (c : CmdCtx) (ws : List Word) (s : State) : Host.Outcome State Fault Refusal :=
  done (submit opSetClass 0x31 c ws s)

/-- The 16-bit halves of words, the low half first. -/
def halves (ws : List Word) : List Nat := ws.flatMap (fun w => [bits w 0 16, bits w 16 16])

/-- `n` entries from number `first` up out of packed words, two to a word (Table 11.7). -/
def entries (first n : Nat) (ws : List Word) : List (Nat × Nat) :=
  ((halves ws).take n).zipIdx.map (fun p => (first + p.2, p.1))

/-- A SET_CEILING payload: counts, first entries and the two lists of packed words (Table 11.7). -/
def ceilingParts (ws : List Word) : List (Nat × Nat) × List (Nat × Nat) :=
  let c := bits (ws.getD 0 0) 16 11
  let z := bits (ws.getD 1 0) 16 11
  let nc := (c + 1) / 2
  (entries (bits (ws.getD 0 0) 0 10) c ((ws.drop 2).take nc), entries (bits (ws.getD 1 0) 0 10) z ((ws.drop (2 + nc)).take ((z + 1) / 2)))

/-- The unused half of a final word is 0 where a count is odd (Table 11.7). -/
def ceilingPad (ws : List Word) : Bool :=
  let c := bits (ws.getD 0 0) 16 11
  let z := bits (ws.getD 1 0) 16 11
  let nc := (c + 1) / 2
  let nz := (z + 1) / 2
  (c % 2 == 0 || bits (ws.getD (1 + nc) 0) 16 16 == 0) && (z % 2 == 0 || bits (ws.getD (1 + nc + nz) 0) 16 16 == 0)

/-- The parameters are acceptable (R233, Table 11.7). -/
def ceilingOk (ws : List Word) : Bool :=
  let w0 := ws.getD 0 0
  let w1 := ws.getD 1 0
  within w0 0x87FF03FF && within w1 0x07FF03FF && ceilingPad ws &&
  bits w0 16 11 ≤ 1024 && bits w1 16 11 ≤ 1024 && bits w0 0 10 + bits w0 16 11 ≤ 1024 && bits w1 0 10 + bits w1 16 11 ≤ 1024 &&
  (ceilingParts ws).1.all (fun p => p.2 ≤ 1024)

/-- SET_CEILING (0x32). A command that has waited on the slow path for longer than its session stages nothing, as the staging
copy of an ended session is empty (R233). -/
def opSetCeiling : OpFn := fun c ws s =>
  if !ceilingOk ws then endWith stBadParam s
  else
    let (cs, z) := ceilingParts ws
    if bit (ws.getD 0 0) 31 then
      endWith stOk (if inSession c s then
        s.modBstay (fun b => { b with stageCeil := b.stageCeil ++ cs, stageZlim := b.stageZlim ++ z }) else s)
    else
      endWith stOk (s.modBstay (fun b => { b with
        commitCeil := b.commitCeil ++ b.stageCeil ++ cs, commitZlim := b.commitZlim ++ b.stageZlim ++ z
        commitPend := true, stageCeil := [], stageZlim := [] }))

/-- SET_CEILING_STAGE: STAGE = 1 (R233). -/
def execSetCeilingStage (c : CmdCtx) (ws : List Word) (s : State) : Host.Outcome State Fault Refusal :=
  done (submit opSetCeiling 0x32 c (stamp 31 1 1 ws) s)

/-- SET_CEILING_COMMIT: STAGE = 0 (R233). -/
def execSetCeilingCommit (c : CmdCtx) (ws : List Word) (s : State) : Host.Outcome State Fault Refusal :=
  done (submit opSetCeiling 0x32 c (stamp 31 1 0 ws) s)

/-- SET_AIM (0x33). -/
def opSetAim : OpFn := fun _ ws s =>
  let v := signed 16 (bits (ws.getD 0 0) 16 16)
  let h := signed 16 (bits (ws.getD 0 0) 0 16)
  if v < -64 ∨ 63 < v ∨ h < -128 ∨ 127 < h then endWith stBadParam s
  else endWith stOk (s.modBstay (fun b => { b with aimVTgt := v, aimHTgt := h }))

/-- SET_AIM (R232). -/
def execSetAim (c : CmdCtx) (ws : List Word) (s : State) : Host.Outcome State Fault Refusal :=
  done (submit opSetAim 0x33 c ws s)

/-- The CRC-16 of a steering input over the four bytes of word 0 (Table 11.6). -/
def steerCrc (w0 : Word) : Nat := crc16 (wordBytes w0)

/-- The conditions of R240 for an input whose CRC-16 has the match `crcOk`. -/
def steerOk (b : Bstay) (w0 : Word) (crcOk : Bool) : Bool :=
  let a := signed 16 (bits w0 16 16)
  let d := (bits w0 0 16 + 65536 - b.steerSeq.toNat) % 65536
  crcOk && decide (a.natAbs ≤ 9000) && (b.steerFirst || (1 ≤ d && d ≤ 32767))

/-- STEER_INPUT (0x34). -/
def opSteerInput : OpFn := fun _ ws s =>
  let w0 := ws.getD 0 0
  let w1 := ws.getD 1 0
  if !within w1 0xFFFF then endWith stBadParam s
  else
    let match_ := steerCrc w0 == bits w1 0 16
    let bad := !steerOk s.bstay w0 match_
    let wrong := fails 10 3 bad s
    let s1 := check 10 3 0 bad (if match_ then s else crcFail 1 s)
    if wrong then endWith stCheckFail ((s1.modBstay (fun b => { b with steerBadCnt := satInc 16 b.steerBadCnt })).hit 10 0x24 16)
    else endWith stOk (s1.modBstay (fun b => { b with
      steer := signed 16 (bits w0 16 16), steerSeq := w0.setWidth 16, steerStamp := some s.scan.strokeCnt
      steerFirst := false, steerAge := 0 }))

/-- STEER_INPUT (R240). -/
def execSteerInput (c : CmdCtx) (ws : List Word) (s : State) : Host.Outcome State Fault Refusal :=
  done (submit opSteerInput 0x34 c ws s)

/-- GAPLESS (0x35): SCAN_CTRL.GAPLESS; refused where the forcing rules hold it off (R34, R63). -/
def opGapless : OpFn := fun _ ws s =>
  let w := ws.getD 0 0
  if blockOff 7 s then endWith stBlockOff s
  else if !within w 1 then endWith stBadParam s
  else if bit w 0 && gaplessOff s.bstay.beam s.bstay.cls s then endWith stBadState s
  else endWith stOk { s with scan := { s.scan with ctrl := setField s.scan.ctrl 20 1 (bits w 0 1) } }

/-- GAPLESS (R63). -/
def execGapless (c : CmdCtx) (ws : List Word) (s : State) : Host.Outcome State Fault Refusal :=
  done (submit opGapless 0x35 c ws s)

/-! ### Registers (Tables 08.5 to 08.9, 06.7) -/

/-- BSTAY_STATUS (Table 08.5). -/
def bstayStatus (b : Bstay) : Word :=
  put 20 b.tryCause ||| putb 19 b.tryPend ||| put 16 b.tryImg ||| putb 15 b.ceilValid ||| putb 14 (bstaySlewing b) |||
    put 12 (sldNo b.sld) ||| putb 11 b.safeNLatch ||| putb 10 b.safeNLevel ||| put 8 (classNo b.cls) ||| put 0 (beamNo b.beam)

/-- BSTAY_ARB_STATUS (Table 06.7). ACTIVE is undefined in both lost: a free value then (log entry 128). -/
def arbStatus (s : State) : Word :=
  let a := s.bstay.arb
  putb 11 a.s1Pend ||| putb 10 a.undecided ||| put 4 a.lastCause |||
    putb 2 (match activeEng s with | some .main => true | some .fore => false | none => Config.freeBit s.freeCtr) |||
    put 0 (estate s)

/-- A read of the BSTAY window. -/
def bstayRead (off : Nat) (s : State) : Word :=
  let b := s.bstay
  if off = 0x0000 then bstayStatus b
  else if off = 0x0004 then b.cfg
  else if off = 0x0008 then put 0 b.slp.toNat
  else if off = 0x000C then put 16 (unsigned 7 b.aimVTgt) ||| put 0 (unsigned 8 b.aimHTgt)
  else if off = 0x0010 then put 16 (unsigned 7 b.aimVAct) ||| put 0 (unsigned 8 b.aimHAct)
  else if off = 0x0014 then put 16 (unsigned 16 b.steer) ||| put 0 b.steerSeq.toNat
  else if off = 0x0018 then put 0 (steerAgeNow s)
  else if off = 0x001C then put 0 b.clampLast
  else if off = 0x0020 then put 16 b.slpCnt ||| put 0 b.sldCnt
  else if off = 0x0024 then put 16 b.steerBadCnt ||| put 0 b.verdLateCnt
  else if off = 0x0040 ∨ off = 0x0044 ∨ off = 0x0048 then b.verdHw.getD ((off - 0x40) / 4) 0
  else if off = 0x0050 ∨ off = 0x0054 ∨ off = 0x0058 then b.verdFw.getD ((off - 0x50) / 4) 0
  else if off = 0x0060 then put 0 b.tryMap.toNat
  else if off = 0x0064 then put 16 b.iTry ||| putb 8 b.tryLoading ||| put 0 b.tryValid.toNat
  else if 0x0100 ≤ off ∧ off < 0x0140 then put 0 (b.levels.getD ((off - 0x100) / 4) 0).toNat
  else if off = 0x0800 then arbStatus s
  else if off = 0x0804 then put 0 b.arb.switchCnt
  else if off = 0x0808 then put 0 b.arb.lastFrame.toNat
  else if 0x2000 ≤ off ∧ off < 0x3000 then
    let k := (off - 0x2000) / 4
    put 16 (spGet b.ceilAct k 0) ||| put 0 (spGet b.ceilTgt k 0)
  else if 0x3000 ≤ off ∧ off < 0x4000 then
    let k := (off - 0x3000) / 4
    put 16 (spGet b.zlimAct k 0) ||| put 0 (spGet b.zlimTgt k 0)
  else 0

/-- The source of an access is the Rigger safety core. -/
def isSafety (src : RegSrc) : Bool := match src with | .safety => true | _ => false

/-- A post of the Rigger safety core completes (R244, Table 13.9). -/
def postVerdict (v : Word) (s : State) : State :=
  let s1 := s.modBstay (fun b => { b with verdFw := b.verdFw.set 2 v, verdPosted := true })
  { s1 with rigger := { s1.rigger with
      postPend := false, lastFrame := (s1.bstay.verdFw.getD 0 0).setWidth 24, postCnt := satInc 32 s1.rigger.postCnt } }

/-- A write of BSTAY_VERD_FW0 to FW2: the Rigger safety core only (R244). -/
def verdWrite (src : RegSrc) (k : Nat) (v : Word) (s : State) : State × BitVec 8 :=
  if !isSafety src then (s, stDenied)
  else if k = 2 then (postVerdict v s, stOk)
  else
    let s1 := s.modBstay (fun b => { b with verdFw := b.verdFw.set k v })
    ({ s1 with rigger := { s1.rigger with postPend := true } }, stOk)

/-- TRY_MAP holds no code above 4 (R257). -/
def tryMapOk (v : Word) : Bool := bits v 0 3 ≤ 4 && bits v 4 3 ≤ 4 && bits v 8 3 ≤ 4 && bits v 12 3 ≤ 4

/-- A write to BSTAY_CFG, BSTAY_SLP or BSTAY_TRY_MAP with the rights of a safety session or not (R257). -/
def bstayCfgWrite (sess : Bool) (off : Nat) (v : Word) (s : State) : State × BitVec 8 :=
  if !sess then (s, stDenied)
  else if off = 0x0004 then
    if bits v 0 4 = 0 ∨ bits v 8 5 = 0 then (s, stBadParam)
    else (s.modBstay (fun b => { b with cfg := v &&& 0xFFFF9F0F }), stOk)
  else if off = 0x0008 then (s.modBstay (fun b => { b with slp := v.setWidth 21 }), stOk)
  else if tryMapOk v then (s.modBstay (fun b => { b with tryMap := (v &&& 0x7777).setWidth 15 }), stOk)
  else (s, stBadParam)

/-- A write to the BSTAY window. -/
def bstayWrite (src : RegSrc) (sess : Bool) (off : Nat) (v : Word) (s : State) : State × BitVec 8 :=
  if off = 0x0004 ∨ off = 0x0008 ∨ off = 0x0060 then bstayCfgWrite sess off v s
  else if off = 0x0028 then
    (if bit v 0 then
      s.modBstay (fun b => { b with
        slpCnt := cleared (s.wasHit 10 0x20 16) b.slpCnt, sldCnt := cleared (s.wasHit 10 0x20 0) b.sldCnt
        steerBadCnt := cleared (s.wasHit 10 0x24 16) b.steerBadCnt
        verdLateCnt := cleared (s.wasHit 10 0x24 0) b.verdLateCnt })
     else s, stOk)
  else if off = 0x0050 ∨ off = 0x0054 ∨ off = 0x0058 then verdWrite src ((off - 0x50) / 4) v s
  else if off = 0x0804 then
    (if bit v 31 then
      s.modBstay (fun b => { b with arb := { b.arb with switchCnt := cleared (s.wasHit 10 0x0804 0) b.arb.switchCnt } })
     else s, stOk)
  else (s, stOk)

/-- BSTAY_CFG_WRITE (R257). -/
def execBstayCfgWrite (src : RegSrc) (off : BitVec 16) (v : Word) (s : State) : Host.Outcome State Fault Refusal :=
  done (writeAt 10 src off (fun o s =>
    if o = 0x0004 ∨ o = 0x0008 ∨ o = 0x0060 then bstayCfgWrite (srcSession src s) o v s else (s, stOk)) s)

/-- VERDICT_POST: the Rigger safety core writes BSTAY_VERD_FW2 (R244). -/
def execVerdictPost (v : Word) (s : State) : Host.Outcome State Fault Refusal :=
  done (writeRow 10 .safety (verdWrite .safety 2 v) s)

end Sys2Proof.Machine
end

