-- ==== Sys2Proof/Machine/Canvas.lean ====
section
/-! DEFINITION. Composition: formats, fetch, scaling, blending, sprites and the composed load
(05_layers_and_composition.md R141, R142, R148 to R157, R174). -/

namespace Sys2Proof.Machine

/-- Buffer `b` of the store (Table 05.12). -/
def State.buf (s : State) (b : Nat) : Buffer := s.store.bufs.getD b {}

/-- The state with buffer `b` changed. -/
def State.modBuf (s : State) (b : Nat) (f : Buffer → Buffer) : State :=
  { s with store := { s.store with bufs := modAt s.store.bufs b f } }

/-! ### Formats (Table 05.1) -/

/-- Bits of an element of the first plane (Table 05.1). -/
def elemBits (fmt : Nat) : Nat :=
  match fmt with
  | 1 => 10
  | 2 => 12
  | 3 => 16
  | 7 => 1
  | _ => 8

/-- The row stride in bytes (R141). -/
def stride (b w : Nat) : Nat := (w * b + 31) / 32 * 4

/-- The format has a second plane of 4:2:0 pairs (Table 05.1). -/
def isHalf (fmt : Nat) : Bool := fmt == 5 || fmt == 6

/-- The size of a buffer in bytes (R141, R455). -/
def bufSize (fmt w h : Nat) : Nat :=
  if fmt = 8 then w * h
  else stride (elemBits fmt) w * h + (if isHalf fmt then stride 16 (w / 2) * (h / 2) else 0)

/-- Pages of 64 KiB that a size takes (R138). -/
def pagesOf (size : Nat) : Nat := (size + 65535) / 65536

/-- The `b`-bit element `x` of the row of a plane that starts at byte `row` (R141). -/
def element (m : List Host.Cell) (row b x : Nat) : Nat :=
  (bytesNat (memRead 0 m (row + b * x / 8) 4) >>> (b * x % 8)) % 2 ^ b

/-- A fetched pixel: value, alpha and attribute (R142). -/
structure Px where
  /-- S, 0..65535 -/
  v : Nat
  /-- a_px, 0..255 -/
  a : Nat
  /-- attribute: exclude from neighbour fill -/
  attr : Bool
deriving DecidableEq, Repr

/-- The pixel that an uncorrectable store word gives (R142). -/
def badPx : Px := ⟨0, 0, false⟩

/-- Store words of 64 bits that meet an uncorrectable error: buffer and word number (R142). -/
abbrev BadWords := List (Nat × Nat)

/-- A word that holds a byte of `a` to `a + n - 1` of buffer `b` is bad. -/
def hitsBad (bad : BadWords) (b a n : Nat) : Bool := bad.any (fun p => p.1 == b && a / 8 ≤ p.2 && p.2 ≤ (a + n - 1) / 8)

/-- The value of an element in light units (Table 05.1). -/
def expand (fmt v fill : Nat) : Nat :=
  match fmt with
  | 1 => v * 64 + v / 16
  | 2 => v * 16 + v / 256
  | 3 => v
  | 4 => fill
  | 7 => fill
  | _ => v * 257

/-- The whole buffer serves only as alpha, so an OPAQUE layer does not fetch it (R152). -/
def alphaOnly (fmt : Nat) : Bool := fmt == 4 || fmt == 7

/-- The byte of buffer `u` in which the element of column `x` and row `y` of its first plane starts (R141). -/
def pixelByte (u : Buffer) (x y : Nat) : Nat := y * stride (elemBits u.format) u.w + elemBits u.format * x / 8

/-- The source pixel at column `x` and row `y` of buffer `b`, of a layer with OPAQUE or not (R142, R152, Table 05.1). -/
def fetch (bad : BadWords) (s : State) (b fill : Nat) (opq : Bool) (x y : Nat) : Px :=
  let u := s.buf b
  let n := elemBits u.format
  let row := y * stride n u.w
  let v := element u.bytes row n x
  if opq && alphaOnly u.format then ⟨fill, 255, false⟩
  else if hitsBad bad b (pixelByte u x y) ((n * x % 8 + n + 7) / 8) then badPx
  else if u.format = 5 then
    let p := stride 8 u.w * u.h + (y / 2) * stride 16 (u.w / 2) + 2 * (x / 2)
    if hitsBad bad b p 2 then badPx
    else ⟨v * 257, (memGet 0 u.bytes p).toNat, (memGet 0 u.bytes (p + 1)).getLsbD 0⟩
  else
    ⟨expand u.format v fill, if u.format = 4 then v else if u.format = 7 then 255 * v else 255, false⟩

/-! ### Fields of a descriptor (Tables 05.8 and 05.9) -/

/-- EN -/
def LayerDesc.en (d : LayerDesc) : Bool := bit d.ctrl 0
/-- SPRITE -/
def LayerDesc.sprite (d : LayerDesc) : Bool := bit d.ctrl 2
/-- FILTER -/
def LayerDesc.filter (d : LayerDesc) : Bool := bit d.ctrl 3
/-- HDEC -/
def LayerDesc.hdec (d : LayerDesc) : Nat := bits d.ctrl 4 2
/-- the pre-decimation factor P -/
def LayerDesc.pdec (d : LayerDesc) : Nat := if d.hdec = 1 then 2 else if d.hdec = 2 then 4 else 1
/-- MODE -/
def LayerDesc.mode (d : LayerDesc) : Nat := bits d.ctrl 8 3
/-- WB_SRC -/
def LayerDesc.wbSrc (d : LayerDesc) : Bool := bit d.ctrl 11
/-- GA -/
def LayerDesc.ga (d : LayerDesc) : Nat := bits d.ctrl 16 8
/-- OPAQUE -/
def LayerDesc.opq (d : LayerDesc) : Bool := bit d.ctrl 24
/-- GROUP -/
def LayerDesc.group (d : LayerDesc) : Nat := bits d.ctrl 25 3
/-- SRC_X -/
def LayerDesc.srcX (d : LayerDesc) : Nat := bits d.srcPos 0 13
/-- SRC_Y -/
def LayerDesc.srcY (d : LayerDesc) : Nat := bits d.srcPos 16 13
/-- SRC_W -/
def LayerDesc.srcW (d : LayerDesc) : Nat := bits d.srcSize 0 14
/-- SRC_H -/
def LayerDesc.srcH (d : LayerDesc) : Nat := bits d.srcSize 16 14
/-- DST_X -/
def LayerDesc.dstX (d : LayerDesc) : Int := signed 13 (bits d.dstPos 0 13)
/-- DST_Y -/
def LayerDesc.dstY (d : LayerDesc) : Int := signed 13 (bits d.dstPos 16 13)
/-- DST_W -/
def LayerDesc.dstW (d : LayerDesc) : Nat := bits d.dstSize 0 13
/-- DST_H -/
def LayerDesc.dstH (d : LayerDesc) : Nat := bits d.dstSize 16 13
/-- ACTION -/
def LayerDesc.action (d : LayerDesc) : Nat := d.actTo.toNat / 256
/-- TIMEOUT -/
def LayerDesc.timeout (d : LayerDesc) : Nat := d.actTo.toNat % 256

/-! ### Scaling (R149 to R151) -/

/-- A number clamped to `lo..hi`. -/
def clampTo (lo hi v : Int) : Nat := (max lo (min hi v)).toNat

/-- Decimated pixel `q` of source row `y` (R149). -/
def decimated (bad : BadWords) (s : State) (b : Nat) (d : LayerDesc) (q y : Nat) : Px :=
  let p := d.pdec
  let l := (List.range p).map (fun i => fetch bad s b d.fill.toNat d.opq (d.srcX + p * q + i) y)
  ⟨((l.map Px.v).sum + p / 2) / p, ((l.map Px.a).sum + p / 2) / p, l.any Px.attr⟩

/-- A 16.16 scale step (R150). -/
def scaleStep (src dst : Nat) : Int := ((src * 65536 + dst / 2) / dst : Nat)

/-- The first position of a row or column (R150). -/
def scalePos (i : Nat) (step : Int) : Int := i * step + step / 2 - 32768

/-- Two values weighted by the fraction `f` (R151). -/
def lerp (f p0 p1 : Nat) : Nat := ((65536 - f) * p0 + f * p1 + 32768) / 65536

/-- Source column `c` after decimation, clamped to the source rectangle (R151). -/
def LayerDesc.col (d : LayerDesc) (c : Int) : Nat := clampTo 0 ((d.srcW / d.pdec : Nat) - 1) c

/-- Source row `r`, clamped to the source rectangle (R151). -/
def LayerDesc.row (d : LayerDesc) (r : Int) : Nat := d.srcY + clampTo 0 ((d.srcH : Int) - 1) r

/-- The 16.16 source position of destination pixel (i, j) (R150). -/
def LayerDesc.srcPos16 (d : LayerDesc) (i j : Nat) : Int × Int :=
  (scalePos i (scaleStep (d.srcW / d.pdec) d.dstW), scalePos j (scaleStep d.srcH d.dstH))

/-- The scaled source pixel for destination pixel (i, j) of a layer that is not a sprite layer (R150, R151). -/
def scaled (bad : BadWords) (s : State) (b : Nat) (d : LayerDesc) (i j : Nat) : Px :=
  let (px, py) := d.srcPos16 i j
  let near := decimated bad s b d (d.col ((px + 32768) / 65536)) (d.row ((py + 32768) / 65536))
  if d.filter then
    let ix := px / 65536
    let iy := py / 65536
    let fx := (px % 65536).toNat
    let fy := (py % 65536).toNat
    let at_ (c r : Int) := decimated bad s b d (d.col c) (d.row r)
    let p00 := at_ ix iy
    let p10 := at_ (ix + 1) iy
    let p01 := at_ ix (iy + 1)
    let p11 := at_ (ix + 1) (iy + 1)
    ⟨lerp fy (lerp fx p00.v p10.v) (lerp fx p01.v p11.v), lerp fy (lerp fx p00.a p10.a) (lerp fx p01.a p11.a), near.attr⟩
  else near

/-! ### Sprites (R157, R455) -/

/-- Sprites the library in a buffer holds (R455). -/
def libCount (s : State) (b : Nat) : Nat := bits (bytesWord (memRead 0 (s.buf b).bytes 0 4)) 0 9

/-- Word `o` bytes into entry `k` of a library (R455). -/
def libWord (s : State) (b k o : Nat) : Word := bytesWord (memRead 0 (s.buf b).bytes (8 + 8 * k + o) 4)

/-- Width of sprite `k` (R455). -/
def spriteW (s : State) (b k : Nat) : Nat := bits (libWord s b k 4) 0 11
/-- Height of sprite `k` (R455). -/
def spriteH (s : State) (b k : Nat) : Nat := bits (libWord s b k 4) 16 11

/-- Bits of a pixel of sprite `k` (R455). -/
def spriteBits (s : State) (b k : Nat) : Nat := if bit (libWord s b k 4) 31 then 8 else 1

/-- The byte at which row `v` of sprite `k` starts (R141, R455). -/
def spriteRow (s : State) (b k v : Nat) : Nat := (libWord s b k 0).toNat + v * stride (spriteBits s b k) (spriteW s b k)

/-- The byte of buffer `b` that holds pixel (u, v) of sprite `k` (R141, R455). -/
def spriteByte (s : State) (b k u v : Nat) : Nat := spriteRow s b k v + spriteBits s b k * u / 8

/-- Alpha of pixel (u, v) of sprite `k` (R157, R455). -/
def spriteAlpha (s : State) (b k u v : Nat) : Nat :=
  let e := element (s.buf b).bytes (spriteRow s b k v) (spriteBits s b k) u
  if spriteBits s b k = 8 then e else 255 * e

/-- A placement's EN. -/
def Placement.en (p : Placement) : Bool := bit p.w0 15
/-- A placement's SPRITE. -/
def Placement.idx (p : Placement) : Nat := bits p.w0 0 8
/-- A placement's left column. -/
def Placement.x (p : Placement) : Int := signed 13 (bits p.w1 0 13)
/-- A placement's top row. -/
def Placement.y (p : Placement) : Int := signed 13 (bits p.w1 16 13)

/-- A position lies in a rectangle. -/
def inRect (x0 y0 : Int) (w h : Nat) (x y : Nat) : Bool := x0 ≤ x && (x : Int) < x0 + w && y0 ≤ y && (y : Int) < y0 + h

/-- The highest placement that reaches a scene position (R157). -/
def hitPlacement (s : State) (b : Nat) (ps : Sparse Placement) (x y : Nat) : Option Placement :=
  (ps.reverse.map (·.2)).find? (fun p => p.en && inRect p.x p.y (spriteW s b p.idx) (spriteH s b p.idx) x y)

/-- The byte of the library that a placement's pixel at a scene position is read from. -/
def Placement.byteAt (p : Placement) (s : State) (b x y : Nat) : Nat :=
  spriteByte s b p.idx ((x : Int) - p.x).toNat ((y : Int) - p.y).toNat

/-- The sprite layer's pixel at a scene position (R142, R157); sprite data serve only as alpha, so an OPAQUE layer reads none
(R152). DESIGN CHOICE (log entry 157): where no placement reaches, the layer leaves D unchanged whatever its MODE and
OPAQUE. -/
def spritePx (bad : BadWords) (s : State) (b : Nat) (opq : Bool) (ps : Sparse Placement) (x y : Nat) : Option Px :=
  (hitPlacement s b ps x y).map (fun p =>
    if !opq && hitsBad bad b (p.byteAt s b x y) 1 then badPx
    else ⟨bits p.w0 16 16, spriteAlpha s b p.idx ((x : Int) - p.x).toNat ((y : Int) - p.y).toNat, false⟩)

/-! ### Blending (R152 to R154) -/

/-- OVER (Table 05.2). -/
def blendOver (a v d : Nat) : Nat := (a * v + (255 - a) * d + 127) / 255

/-- A blend of Table 05.2. -/
def blend (mode a v d : Nat) : Nat :=
  match mode with
  | 0 => v
  | 1 => blendOver a v d
  | 2 => blendOver a ((v * d + 32767) / 65535) d
  | 3 => blendOver a (max v d) d
  | 4 => blendOver a (min v d) d
  | _ => min 65535 (d + (a * v + 127) / 255)

/-- A layer's pixel over the value and attribute below it (R152 to R154). -/
def blendPx (d : LayerDesc) (p : Px) (below : Nat × Bool) : Nat × Bool :=
  let a := ((if d.opq then 255 else p.a) * d.ga + 127) / 255
  (blend d.mode a p.v below.1,
   if d.mode = 0 ∨ (d.mode = 1 ∧ a = 255) then p.attr else if 0 < a then below.2 || p.attr else below.2)

/-- The layer is shown: enabled, not blanked, with a buffer (R60, R155). -/
def Layer.shown (l : Layer) : Bool := l.act.en && !l.blank && l.actBuf.isSome

/-- What a layer shows at a scene position (R148, R157). -/
def layerPx (bad : BadWords) (s : State) (l : Layer) (x y : Nat) : Option Px :=
  match l.actBuf with
  | none => none
  | some b =>
    if l.act.sprite then spritePx bad s b l.act.opq l.spr x y
    else if inRect l.act.dstX l.act.dstY l.act.dstW l.act.dstH x y then
      some (scaled bad s b l.act ((x : Int) - l.act.dstX).toNat ((y : Int) - l.act.dstY).toNat)
    else none

/-- The composed value and attribute of a canvas pixel in native mode (R153). -/
def composePx (bad : BadWords) (e : Engine) (s : State) (x y : Nat) : Nat × Bool :=
  e.comp.layers.foldl (fun acc l =>
    if l.shown then
      match layerPx bad s l x y with
      | some p => blendPx l.act p acc
      | none => acc
    else acc) (bits e.comp.ctrlSmp 0 16, false)

/-- The legacy buffer shown in layer 0 (R174, R500). -/
def legacyShown (s : State) : List Host.Cell := if s.legacy.showOne then s.legacy.buf1 else s.legacy.buf0

/-- The number by which bad words name the legacy buffer shown: the two legacy buffers are not in the STORE buffer table, whose
numbers end at 63 (R174). DESIGN CHOICE (log entry 178). -/
def legacyNo (s : State) : Nat := if s.legacy.showOne then 65 else 64

/-- The canvas (R142, R153, R174): in the compatibility modes a full-canvas Y8 layer in REPLACE. -/
def canvas (bad : BadWords) (e : Engine) (s : State) (x y : Nat) : Nat × Bool :=
  if s.compat then
    if hitsBad bad (legacyNo s) (1024 * y + x) 1 then (badPx.v, badPx.attr)
    else ((memGet 0 (legacyShown s) (1024 * y + x)).toNat * 257, false)
  else composePx bad e s x y

/-- The first store word that a layer fetches for a scene position, if any: buffer and 64-bit word (R142, R152). -/
def layerWord (s : State) (l : Layer) (x y : Nat) : Option (Nat × Nat) :=
  l.actBuf.bind (fun b =>
    if l.act.sprite then
      if l.act.opq then none else (hitPlacement s b l.spr x y).map (fun p => (b, p.byteAt s b x y / 8))
    else if inRect l.act.dstX l.act.dstY l.act.dstW l.act.dstH x y && !(l.act.opq && alphaOnly (s.buf b).format) then
      let p := l.act.srcPos16 ((x : Int) - l.act.dstX).toNat ((y : Int) - l.act.dstY).toNat
      let h : Int := if l.act.filter then 0 else 32768
      some (b, pixelByte (s.buf b) (l.act.srcX + l.act.pdec * l.act.col ((p.1 + h) / 65536)) (l.act.row ((p.2 + h) / 65536)) / 8)
    else none)

/-! ### Coverage and load (R155, R156) -/

/-- A layer as the load sees it. -/
structure LoadLayer where
  /-- descriptor -/
  desc : LayerDesc
  /-- it is shown -/
  on : Bool
  /-- its buffer -/
  buf : Nat
  /-- its placements -/
  spr : Sparse Placement
deriving DecidableEq, Repr

/-- Rectangle `x0..x0+w-1`, `y0..y0+h-1` clipped to the canvas holds every pixel of fetch segment 16y + j. -/
def holdsSeg (x0 y0 : Int) (w h y j : Nat) : Bool := x0 ≤ 64 * j && (64 * j + 64 : Int) ≤ x0 + w && y0 ≤ y && (y : Int) < y0 + h

/-- The same rectangle meets fetch segment 16y + j. -/
def meetsSeg (x0 y0 : Int) (w h y j : Nat) : Bool :=
  x0 < 64 * j + 64 && (64 * j : Int) < x0 + w && y0 ≤ y && (y : Int) < y0 + h

/-- A layer meets a fetch segment. -/
def LoadLayer.meets (l : LoadLayer) (s : State) (y j : Nat) : Bool :=
  if l.desc.sprite then
    l.spr.any (fun p => p.2.en && meetsSeg p.2.x p.2.y (spriteW s l.buf p.2.idx) (spriteH s l.buf p.2.idx) y j)
  else meetsSeg l.desc.dstX l.desc.dstY l.desc.dstW l.desc.dstH y j

/-- A layer covers a fetch segment (R155). -/
def LoadLayer.covers (l : LoadLayer) (y j : Nat) : Bool :=
  !l.desc.sprite && holdsSeg l.desc.dstX l.desc.dstY l.desc.dstW l.desc.dstH y j &&
    (l.desc.mode == 0 || (l.desc.mode == 1 && l.desc.ga == 255 && l.desc.opq))

/-- Layers fetched for a segment: those that meet it above the highest that covers it, with that one (R155). -/
def fetched (s : State) (ls : List LoadLayer) (y j : Nat) : Nat :=
  ls.foldl (fun n l => if l.covers y j then 1 else if l.meets s y j then n + 1 else n) 0

/-- The composed load (R156). -/
def loadOf (s : State) (ls : List LoadLayer) : Nat :=
  let on := ls.filter LoadLayer.on
  if on.isEmpty then 1048576
  else (List.range 1024).foldl (fun acc y =>
    (List.range 16).foldl (fun acc j => acc + 64 * max 1 (fetched s on y j)) acc) 0

/-- The layers as shown: LAST (R156). -/
def shownLayers (e : Engine) : List LoadLayer :=
  e.comp.layers.map (fun l => ⟨l.act, l.shown, l.actBuf.getD 0, l.spr⟩)

/-- The first store word that the engine fetches for a scene position: that of the lowest layer that is fetched there and
reads its buffer, in the compatibility modes that of the legacy buffer shown (R155, R174, log entry 31). -/
def sceneWord (e : Engine) (s : State) (x y : Nat) : Option (Nat × Nat) :=
  if s.compat then some (legacyNo s, (1024 * y + x) / 8)
  else
    let covers (l : Layer) : Bool := l.shown && (⟨l.act, true, 0, []⟩ : LoadLayer).covers y (x / 64)
    let above := e.comp.layers.foldl (fun (r : List Layer) l =>
      if covers l then [l] else if l.shown then r ++ [l] else r) []
    above.findSome? (fun l => layerWord s l x y)

/-- The layers with every pending arm and placement applied: ARMED (R156). -/
def armedLayers (e : Engine) : List LoadLayer :=
  e.comp.layers.map (fun l =>
    let spr := l.sprPend.foldl (fun m p => spSet m p.1 p.2) l.spr
    match l.arm with
    | some a => ⟨{ a.desc with ctrl := setField (setField a.desc.ctrl 0 1 (bits l.staged.ctrl 0 1)) 16 8 (bits l.staged.ctrl 16 8) },
        bit l.staged.ctrl 0, a.buf, spr⟩
    | none => ⟨l.act, l.shown, l.actBuf.getD 0, spr⟩)

/-- The load of a full-canvas layer in REPLACE (R174). -/
def fullLoad : Nat := 1048576

/-- LAST of an engine (R156). -/
def lastLoad (e : Engine) (s : State) : Nat := if s.compat then fullLoad else loadOf s (shownLayers e)

/-- ARMED of an engine (R156). -/
def armedLoad (e : Engine) (s : State) : Nat := if s.compat then fullLoad else loadOf s (armedLayers e)

end Sys2Proof.Machine
end

