-- ==== Sys2Proof/Machine/Records.lean ====
section
/-! DEFINITION. Reading external memory: bytes, the manifest, records and regions (17_external_memory.md R448 to
R455). An erased or unlisted byte reads 0xFF. -/

namespace Sys2Proof.Machine

/-- What an unlisted byte of external memory reads as (assumption 30). -/
def erased : Byte := 0xFF

/-- The device of a chip select. -/
def State.mdev (s : State) (cs1 : Bool) : MemDev := if cs1 then s.xmem.cs1 else s.xmem.cs0

/-- The state with the device of a chip select changed. -/
def State.modDev (s : State) (cs1 : Bool) (f : MemDev → MemDev) : State :=
  { s with xmem := { s.xmem with
      cs0 := if cs1 then s.xmem.cs0 else f s.xmem.cs0
      cs1 := if cs1 then f s.xmem.cs1 else s.xmem.cs1 } }

/-- `n` bytes of a device from logical address `a` up. -/
def devBytes (cs1 : Bool) (a n : Nat) (s : State) : List Byte := memRead erased (s.mdev cs1).bytes a n

/-- The number in `n` bytes from address `a` up, low byte first (R8). -/
def devNat (cs1 : Bool) (a n : Nat) (s : State) : Nat := bytesNat (devBytes cs1 a n s)

/-- The chip select has a device. -/
def devOn (cs1 : Bool) (s : State) : Bool := (s.mdev cs1).dtype != 0

/-- COUNT of the manifest copy at `a` (Table 17.2). -/
def manCount (a : Nat) (s : State) : Nat := devNat false (a + 6) 2 s

/-- The manifest copy at `a` is valid: MAGIC, COUNT and CRC-32C (R451). -/
def manValid (a : Nat) (s : State) : Bool :=
  let n := manCount a s
  devOn false s && devNat false a 4 s == 0x4D4E5053 && 1 ≤ n && n ≤ 253 &&
    crc32c (devBytes false a (32 + 16 * n) s) == devNat false (a + 32 + 16 * n) 4 s

/-- MSEQ of the manifest copy at `a` (Table 17.2). -/
def manSeq (a : Nat) (s : State) : Nat := devNat false (a + 8) 4 s

/-- Offset of the backup copy (R451). -/
def backupAt : Nat := 0x20000

/-- Sequence number `a` is above `b` modulo 2^32 (R451, R453). -/
def seqAbove (a b : Nat) : Bool := let d := (a + 2 ^ 32 - b) % 2 ^ 32; 0 < d && d < 2 ^ 31

/-- The manifest copy in use: 0 none, 1 primary, 2 backup (R451, MAN_USED). -/
def manChoice (s : State) : Nat :=
  if manValid 0 s then (if manValid backupAt s && seqAbove (manSeq backupAt s) (manSeq 0 s) then 2 else 1)
  else if manValid backupAt s then 2 else 0

/-- Entry `k` of the directory of the manifest copy at `a` (Table 17.3). -/
def manEntry (a k : Nat) (s : State) : DirEntry :=
  let p := a + 32 + 16 * k
  let f := devNat false (p + 2) 1 s
  { recId := devNat false p 2 s, region := f % 2 == 1, cs1 := f / 2 % 2 == 1
    offset := devNat false (p + 4) 4 s, length := devNat false (p + 8) 4 s, verified := false }

/-- The directory of the manifest copy at `a`. -/
def manDir (a : Nat) (s : State) : List DirEntry := (List.range (manCount a s)).map (fun k => manEntry a k s)

/-- The directory entry of a record (R452). -/
def dirFind (id : Nat) (s : State) : Option DirEntry := s.xmem.dir.find? (fun e => e.recId == id)

/-- PLEN of the record at `a` (Table 17.4). -/
def plenAt (cs1 : Bool) (a : Nat) (s : State) : Nat := devNat cs1 (a + 8) 4 s

/-- RSEQ of the record at `a` (Table 17.4). -/
def rseqAt (cs1 : Bool) (a : Nat) (s : State) : Nat := devNat cs1 (a + 12) 4 s

/-- The record at `a` with identifier `id` in `room` bytes is valid (R452). -/
def recOkAt (cs1 : Bool) (a id room : Nat) (s : State) : Bool :=
  let p := plenAt cs1 a s
  devOn cs1 s && devNat cs1 a 4 s == 0x524E5053 && devNat cs1 (a + 4) 2 s == id && p % 4 == 0 && 20 + p ≤ room &&
    crc32c (devBytes cs1 a (16 + p) s) == devNat cs1 (a + 16 + p) 4 s

/-- What stands at `a` as a record with identifier `id` fails by its CRC alone (R452, R489). -/
def recCrcBadAt (cs1 : Bool) (a id room : Nat) (s : State) : Bool :=
  let p := plenAt cs1 a s
  devOn cs1 s && devNat cs1 a 4 s == 0x524E5053 && devNat cs1 (a + 4) 2 s == id && p % 4 == 0 && 20 + p ≤ room &&
    crc32c (devBytes cs1 a (16 + p) s) != devNat cs1 (a + 16 + p) 4 s

/-- The valid records of a region, by address, found by scanning every multiple of 4 (R453). -/
def regionRecords (e : DirEntry) (s : State) : List Nat :=
  ((List.range (e.length / 4)).map (fun k => e.offset + 4 * k)).filter (fun a =>
    recOkAt e.cs1 a e.recId (e.offset + e.length - a) s)

/-- The region's record: the valid one with the highest RSEQ (R453). -/
def newestRecord (e : DirEntry) (s : State) : Option Nat :=
  (regionRecords e s).foldl (fun best a =>
    match best with
    | none => some a
    | some b => if seqAbove (rseqAt e.cs1 a s) (rseqAt e.cs1 b s) then some a else best) none

/-- The address of the valid record of an entry: its own, or the newest of its region (R452, R453). -/
def recAddr (e : DirEntry) (s : State) : Option Nat :=
  if e.region then newestRecord e s
  else if recOkAt e.cs1 e.offset e.recId e.length s then some e.offset else none

/-- `n` payload bytes from payload offset `o` of the record at `a`. -/
def payload (e : DirEntry) (a o n : Nat) (s : State) : List Byte := devBytes e.cs1 (a + 16 + o) n s

/-- The valid record with identifier `id`: its entry and address. -/
def findRecord (id : Nat) (s : State) : Option (DirEntry × Nat) :=
  match dirFind id s with
  | none => none
  | some e => (recAddr e s).map (fun a => (e, a))

/-- The manifest in use holds a region of the record type (Table 17.5). -/
def hasRegion (id : Nat) (s : State) : Bool := (dirFind id s).any (fun e => e.region)

/-- Background work for a region waits with XMEM, once, where the manifest in use holds the region; while MEM is off it waits
until the manifest is read again (R222, R468, R474, R475). -/
def queueWork (k : XKind) (id : Nat) (s : State) : State :=
  if (hasRegion id s || s.pwr.pstate == .s3 || vault s.pwr.pstate) && !s.xmem.queue.contains k then
    { s with xmem := { s.xmem with queue := s.xmem.queue ++ [k] } }
  else s

/-- A KEEP_MIRROR write waits (R474). -/
def queueMirror (s : State) : State := queueWork .mirror 0x7000 s

end Sys2Proof.Machine
end

