-- ==== Sys2Proof/Machine/Layers.lean ====
section
/-! DEFINITION. The layer store, layer commands, readiness and flip groups at the compose point, write-back, and the
composition and STORE registers (05_layers_and_composition.md; 11_command_reference.md Table 11.5). -/

namespace Sys2Proof.Machine

/-- Layer `n` of an engine. -/
def Engine.layer (x : Engine) (n : Nat) : Layer := x.comp.layers.getD n {}

/-- The engine with layer `n` changed. -/
def Engine.modLayer (x : Engine) (n : Nat) (f : Layer → Layer) : Engine :=
  { x with comp := { x.comp with layers := modAt x.comp.layers n f } }

/-- A map of layers as bits. -/
def layerMap (x : Engine) (f : Layer → Bool) : Nat :=
  (List.range 8).foldl (fun m n => if f (x.layer n) then m + 2 ^ n else m) 0

/-- The engine with its composition state changed. -/
def Engine.modComp (x : Engine) (f : Comp → Comp) : Engine := { x with comp := f x.comp }

/-- Both engines changed in the same clock (R143). -/
def State.modBoth (s : State) (f : Engine → Engine) : State := { s with engA := f s.engA, engB := f s.engB }

/-! ### The store (R137 to R139) -/

/-- Pages that buffers hold. -/
def pagesHeld (s : State) : Nat := (s.store.bufs.map Buffer.pages).sum

/-- PAGES_FREE: 160 pages, less the 32 of the legacy buffers in the compatibility modes (R137, R174). -/
def pagesFree (s : State) : Nat := (if s.compat then 128 else 160) - pagesHeld s

/-- Layers of an engine that show buffer `b` or have a pending arm on it. -/
def layerUsers (x : Engine) (b : Nat) : Nat :=
  (x.comp.layers.filter (fun l => l.actBuf == some b || (l.arm.map Arm.buf) == some b)).length

/-- The engine's composition state counts: it is ACTIVE or STANDBY, or it is the one events come from. DESIGN CHOICE (log
entry 183): R139 does not say whether the copy of a FAILED engine keeps a buffer in use; it does not. -/
def counts (e : Eng) (s : State) : Bool :=
  (s.eng e).health.role == .active || (s.eng e).health.role == .standby || e == composer s

/-- TARGET of ENG_WB_CTRL (Table 05.7). -/
def wbTargetCode (c : Comp) : Nat := bits c.wbCtrl 2 2

/-- Buffer `b` is a write-back target (R139, R165). -/
def wbUses (c : Comp) (b : Nat) : Bool := wbTargetCode c != 0 && (bits c.wbCtrl 8 8 == b || bits c.wbCtrl 16 8 == b)

/-- Buffer `b` is in use (R139). -/
def bufInUse (b : Nat) (s : State) : Bool :=
  (counts .fore s && 0 < layerUsers s.engA b) || (counts .main s && 0 < layerUsers s.engB b) ||
  wbUses (s.eng (composer s)).comp b || (s.buf b).sending

/-- EV_BUFFER_DONE, with the TAG of the LAYER_LOAD and its final status (R140, R325). -/
def bufferDone (b state : Nat) (st : BitVec 8) (s : State) : State :=
  queueTagged 0x0401 0 (s.buf b).tag st [put 8 state ||| put 0 b] s

/-- The final status of a load that ends INVALID. DESIGN CHOICE (log entry 150): the spec names none; CHECK_FAIL for a load
from the link, MEM_ERROR for one from a record. -/
def loadFailed (u : Buffer) : BitVec 8 := if u.source = 1 then stMemError else stCheckFail

/-- A buffer becomes INVALID: BUF_INVALID and EV_BUFFER_DONE (R140, Table 05.14). DESIGN CHOICE (log entry 184): BUF_INVALID
carries the buffer as its INDEX. -/
def bufInvalid (b : Nat) (s : State) : State :=
  bufferDone b 3 (loadFailed (s.buf b)) (raiseFault 4 2 b true false (s.modBuf b (fun u => { u with state := .invalid })))

/-- A buffer becomes COMPLETE (R140). -/
def bufComplete (b : Nat) (s : State) : State := bufferDone b 2 stOk (s.modBuf b (fun u => { u with state := .complete }))

/-- External-memory work for a buffer is dropped. -/
def dropLoads (b : Nat) (s : State) : State :=
  let isB (k : XKind) : Bool := match k with | .layerLoad c _ _ => c == b | .exitReload c _ _ => c == b | _ => false
  { s with xmem := { s.xmem with
      queue := s.xmem.queue.filter (fun k => !isB k)
      busy := match s.xmem.busy with | some k => if isB k then none else some k | none => none } }

/-- Layer commands are withheld in the compatibility modes (R174), and the PIX domain is off for them in S2 and
deeper (Table 05.4, Table 16.1). -/
def layerOp (f : State → State × OpRes) (s : State) : State × OpRes :=
  if s.compat then endWith stBadState s else if deep s.pwr.pstate then endWith stBlockOff s else f s

/-! ### LAYER_LOAD (R138, R139, R141, R455) -/

/-- SRC and FORMAT hold no reserved code (R321). -/
def loadCodesOk (w0 : Word) : Bool := bits w0 24 2 ≤ 1 && bits w0 16 4 ≤ 8

/-- Parameters of a load are acceptable (R141, Table 11.5). -/
def loadOk (ws : List Word) (s : State) : Bool :=
  let w0 := ws.getD 0 0
  let fmt := bits w0 16 4
  let w := bits (ws.getD 1 0) 0 14
  let h := bits (ws.getD 1 0) 16 14
  1 ≤ w && w ≤ 8192 && 1 ≤ h && h ≤ 8192 &&
  (!isHalf fmt || (w % 2 == 0 && h % 2 == 0)) &&
  (bits w0 24 2 == 0 ||
    match dirFind (bits (ws.getD 3 0) 0 16) s with
    | some e => !e.region && bufSize fmt w h + (ws.getD 4 0).toNat ≤ plenAt e.cs1 e.offset s
    | none => false)

/-- Layers that show buffer `b` show none: ACT_BUF reads 0xFF and they contribute nothing until they are armed again (R173). -/
def unshow (b : Nat) (s : State) : State :=
  s.modBoth (fun x => x.modComp (fun c => { c with
    layers := c.layers.map (fun l => if l.actBuf == some b then { l with actBuf := none } else l) }))

/-- A free of buffer `b`. -/
def freeBuf (b : Nat) (s : State) : State := unshow b (dropLoads b (s.modBuf b (fun _ => {})))

/-- A write-back buffer leaves the configuration: freed at once, or, while it is being sent, once its last word is sent
(R165, R168). -/
def releaseBuf (b : Nat) (s : State) : State :=
  if (s.buf b).sending then s.modBuf b (fun u => { u with freeDue := true }) else freeBuf b s

/-- The last word of a write-back buffer has been sent: a free that waited for it comes (R168). -/
def endSending (b : Nat) (s : State) : State :=
  if (s.buf b).freeDue then freeBuf b s else s.modBuf b (fun u => { u with sending := false })

/-- LAYER_LOAD (0x21): a load, or with FREE a free. -/
def opLayerLoad : OpFn := fun c ws => layerOp fun s =>
  let w0 := ws.getD 0 0
  let b := bits w0 0 6
  if !within w0 0x930F003F || !within (ws.getD 1 0) 0x3FFF3FFF || !within (ws.getD 3 0) 0xFFFF || !loadCodesOk w0 then
    endWith stBadParam s
  else if bit w0 31 then
    if bufInUse b s then endWith stBadState s else (freeBuf b s, .fin stOk [0])
  else if !loadOk ws s then endWith stBadParam s
  else if bufInUse b s then endWith stBadState s
  else
    let fmt := bits w0 16 4
    let w := bits (ws.getD 1 0) 0 14
    let h := bits (ws.getD 1 0) 16 14
    let size := bufSize fmt w h
    let pages := pagesOf size
    if pagesFree s + (s.buf b).pages < pages then endWith stNoSpace s
    else
      let fromRec := bits w0 24 2 == 1
      let id := bits (ws.getD 3 0) 0 16
      let off := (ws.getD 4 0).toNat
      let s1 := (dropLoads b s).modBuf b (fun _ => {
        state := .loading, format := fmt, w := w, h := h, pages := pages, size := size
        source := if fromRec then 1 else 0, tag := c.tag
        expect := if bit w0 28 then some (ws.getD 2 0) else none
        record := if fromRec then some id else none, recOff := off })
      let s2 := if fromRec then { s1 with xmem := { s1.xmem with queue := s1.xmem.queue ++ [.layerLoad b id off] } } else s1
      (s2, .fin stOk [put 0 pages])

/-- LAYER_LOAD (R138). -/
def execLayerLoad (c : CmdCtx) (ws : List Word) (s : State) : Host.Outcome State Fault Refusal :=
  done (submit opLayerLoad 0x21 c (stamp 31 1 0 ws) s)

/-- LAYER_FREE: LAYER_LOAD with FREE (R138). -/
def execLayerFree (c : CmdCtx) (ws : List Word) (s : State) : Host.Outcome State Fault Refusal :=
  done (submit opLayerLoad 0x21 c (stamp 31 1 1 ws) s)

/-! ### LAYER_DEFINE and the descriptor registers (R144, R175) -/

/-- The assigned bits of LYR_CTRL (Table 05.8). -/
def lyrCtrlMask : Word := 0x0FFF0F3D

/-- A write of LYR_CTRL is acceptable: no reserved code, and no new GROUP for a layer with a pending arm (R175). -/
def lyrCtrlOk (l : Layer) (v : Word) : Bool :=
  bits v 8 3 ≤ 5 && bits v 4 2 ≤ 2 && (l.arm.isNone || bits v 25 3 == l.staged.group)

/-- A source size is acceptable (R175). -/
def srcSizeOk (v : Word) : Bool := 1 ≤ bits v 0 14 && bits v 0 14 ≤ 8192 && 1 ≤ bits v 16 14 && bits v 16 14 ≤ 8192

/-- A destination size is acceptable (R175). -/
def dstSizeOk (v : Word) : Bool := 1 ≤ bits v 0 13 && 1 ≤ bits v 16 13

/-- The layer whose registers a command is checked against: that of the engine events come from. -/
def curLayer (n : Nat) (s : State) : Layer := (s.eng (composer s)).layer n

/-- The staged descriptor of a layer changes in both engines and a write is pending (R143, R144). -/
def stageLayer (n : Nat) (f : LayerDesc → LayerDesc) (s : State) : State :=
  s.modBoth (fun x => (x.modLayer n (fun l => { l with staged := f l.staged })).modComp (fun c => { c with pend := true }))

/-- LAYER_DEFINE (0x20). -/
def opLayerDefine : OpFn := fun _ ws => layerOp fun s =>
  let n := bits (ws.getD 0 0) 0 3
  let g (i : Nat) := ws.getD i 0
  if !within (g 0) 7 || !within (g 1) lyrCtrlMask || !within (g 2) 0x1FFF1FFF || !within (g 3) 0x3FFF3FFF ||
      !within (g 4) 0x1FFF1FFF || !within (g 5) 0x1FFF1FFF || !within (g 6) 0xFFFF || !within (g 7) 0xFFC00000 ||
      !lyrCtrlOk (curLayer n s) (g 1) || !srcSizeOk (g 3) || !dstSizeOk (g 5) || bits (g 7) 30 2 == 3 then
    endWith stBadParam s
  else
    endWith stOk (stageLayer n (fun _ => {
      ctrl := g 1, srcPos := g 2, srcSize := g 3, dstPos := g 4, dstSize := g 5, fill := (g 6).setWidth 16
      actTo := BitVec.ofNat 10 (bits (g 7) 22 10) }) s)

/-- LAYER_DEFINE (R144). -/
def execLayerDefine (c : CmdCtx) (ws : List Word) (s : State) : Host.Outcome State Fault Refusal :=
  done (submit opLayerDefine 0x20 c ws s)

/-! ### LAYER_ARM (R145, R146) -/

/-- The source rectangle, factor and scale limits of R145 for a layer that is not a sprite layer. -/
def armGeometryOk (d : LayerDesc) (u : Buffer) : Bool :=
  d.srcX + d.srcW ≤ u.w && d.srcY + d.srcH ≤ u.h && d.srcW % d.pdec == 0 && d.srcW / d.pdec ≤ 2048 &&
  d.srcW ≤ 4 * d.dstW && d.dstW ≤ 8 * d.srcW && d.srcH ≤ 4 * d.dstH && d.dstH ≤ 8 * d.srcH &&
  d.mode ≤ 5 && d.hdec ≤ 2 && d.action ≤ 2

/-- ARMED is recomputed when an arm is accepted (R156). -/
def noteArmed (s : State) : State :=
  let g (x : Engine) := x.modComp (fun c => { c with loadArmed := armedLoad x s })
  { s with engA := g s.engA, engB := g s.engB }

/-- Stroke period in ROW clocks by RATE code (R42). -/
def strokeClocks (rate : Nat) : Nat :=
  match rate with
  | 0 => 625000
  | 1 => 312500
  | 2 => 156250
  | _ => 1250000

/-- The composition window in ROW clocks by SCAN_CTRL (R420). -/
def windowClocks (s : State) : Nat :=
  if s.compat then strokeClocks 3
  else min (bits s.scan.ctrl 12 5 + 1) (bits s.scan.ctrl 4 5 + 1) * strokeClocks (bits s.scan.ctrl 0 2)

/-- The PIX clock of an operating point in units of 100 MHz (Table 15.5). -/
def pixOf (op : Nat) : Nat :=
  match op with
  | 0 => 6
  | 1 => 4
  | 2 => 3
  | _ => 2

/-- The armed load fits its composition window at operating point `op` (R420). -/
def loadFits (op : Nat) (s : State) : Bool :=
  6 * (s.eng (composer s)).comp.loadArmed ≤ 7 * pixOf op * windowClocks s

/-- LOAD_OVER after an accepted LAYER_ARM or SCAN_CTRL write (R420). -/
def noteLoad (s : State) : State := { s with clk := { s.clk with loadOver := !loadFits s.clk.opAct.toNat s } }

/-- LAYER_ARM (0x22). -/
def opLayerArm : OpFn := fun _ ws => layerOp fun s =>
  let w0 := ws.getD 0 0
  let b := bits w0 8 6
  let n := bits w0 0 3
  let d := (curLayer n s).staged
  let u := s.buf b
  if !within w0 0x81F13F07 || !within (ws.getD 1 0) 0xFFFF then endWith stBadParam s
  else if u.state == .free || u.state == .invalid || (u.format == 8) != d.sprite then endWith stBadState s
  else if !d.sprite && !armGeometryOk d u then endWith stBadParam s
  else
    let a : Arm := { desc := d, buf := b, useFence := bit w0 16, fence := bits w0 20 5
                     waitVal := (ws.getD 1 0).setWidth 16, held := bit w0 31 }
    endWith stOk (noteLoad (noteArmed (s.modBoth (fun x => x.modLayer n (fun l => { l with arm := some a })))))

/-- LAYER_ARM (R145). -/
def execLayerArm (c : CmdCtx) (ws : List Word) (s : State) : Host.Outcome State Fault Refusal :=
  done (submit opLayerArm 0x22 c ws s)

/-! ### FLIP, FENCE_SIGNAL and SPRITE_PLACE (R158, R159, R161) -/

/-- The flip group of a layer: that of its pending arm, or of the descriptor in effect. -/
def Layer.groupOf (l : Layer) : Nat := match l.arm with | some a => a.desc.group | none => l.act.group

/-- HOLD arms of the layers in the groups of a mask are released (R161). -/
def releaseMask (m : Nat) (s : State) : State :=
  s.modBoth (fun x => { x with comp := { x.comp with layers := x.comp.layers.map (fun l =>
    if (m >>> l.groupOf) % 2 = 1 then { l with arm := l.arm.map (fun a => { a with held := false }) } else l) } })

/-- FLIP (0x23). DESIGN CHOICE (log entry 147): R158 gives a pending placement no hold of its own, so its release by FLIP
needs no change of state; it applies at the next compose point at which R158 has it apply. -/
def opFlip : OpFn := fun _ ws => layerOp fun s =>
  if within (ws.getD 0 0) 0xFF then endWith stOk (releaseMask (bits (ws.getD 0 0) 0 8) s) else endWith stBadParam s

/-- FLIP (R161). -/
def execFlip (c : CmdCtx) (ws : List Word) (s : State) : Host.Outcome State Fault Refusal :=
  done (submit opFlip 0x23 c ws s)

/-- FENCE_SIGNAL (0x24). -/
def opFenceSignal : OpFn := fun _ ws => layerOp fun s =>
  let w := ws.getD 0 0
  if within w 0x001FFFFF then
    endWith stOk { s with store := { s.store with fences := modAt s.store.fences (bits w 16 5) (fun _ => w.setWidth 16) } }
  else endWith stBadParam s

/-- FENCE_SIGNAL (R159). -/
def execFenceSignal (c : CmdCtx) (ws : List Word) (s : State) : Host.Outcome State Fault Refusal :=
  done (submit opFenceSignal 0x24 c ws s)

/-- Pairs of words: the placements of SPRITE_PLACE. -/
def pairs : List Word → List (Word × Word)
  | a :: b :: rest => (a, b) :: pairs rest
  | _ => []

/-- The library that the placements of a layer name sprites of: the buffer of its pending arm, or the one it shows. -/
def libBuf (l : Layer) : Option Nat := match l.arm with | some a => some a.buf | none => l.actBuf

/-- The number of sprites that library holds. -/
def libSize (l : Layer) (s : State) : Nat := match libBuf l with | some b => libCount s b | none => 0

/-- A placement becomes pending in both engines (R143, R158). -/
def placeSprite (n m : Nat) (p : Placement) (s : State) : State :=
  s.modBoth (fun x => (x.modLayer n (fun l => { l with
    sprReg := spPut {} l.sprReg m p, sprPend := spSet l.sprPend m p })).modComp (fun c => { c with pend := true }))

/-- SPRITE_PLACE (0x25). DESIGN CHOICE (log entry 146): of the commands that R143 names beside register writes, those that
write a composition register set ENG_CMP_STATUS.PEND (LAYER_DEFINE, SPRITE_PLACE, WRITEBACK), and LAYER_ARM and FLIP do
not. -/
def opSpritePlace : OpFn := fun _ ws => layerOp fun s =>
  let w0 := ws.getD 0 0
  let n := bits w0 0 3
  let ps := pairs (ws.drop 1)
  let l := curLayer n s
  if !within w0 0x1F07 || bits w0 8 5 != ps.length % 32 || 32 < ps.length ||
      ps.any (fun p => !within p.1 0xFFFF9FFF || !within p.2 0x1FFF1FFF) then endWith stBadParam s
  else if !l.staged.sprite then endWith stBadState s
  else if ps.any (fun p => libSize l s ≤ bits p.1 0 8) then endWith stBadParam s
  else endWith stOk (noteArmed (ps.foldl (fun s p =>
    placeSprite n (bits p.1 8 5) ⟨p.1 &&& 0xFFFF80FF, p.2⟩ s) s))

/-- SPRITE_PLACE (R158). -/
def execSpritePlace (c : CmdCtx) (ws : List Word) (s : State) : Host.Outcome State Fault Refusal :=
  done (submit opSpritePlace 0x25 c ws s)

/-! ### WRITEBACK (R165) -/

/-- Both write-back buffers of the configuration in force. -/
def wbBufs (c : Comp) : List Nat := if wbTargetCode c = 0 then [] else [bits c.wbCtrl 8 8, bits c.wbCtrl 16 8]

/-- WRITEBACK (0x26): TARGET 0b00 stops write-back and frees both buffers. DESIGN CHOICE (log entry 148): one that names
another pair frees the pair configured before, as a stop does. DESIGN CHOICE (log entry 185): the buffers are LOADING from here
until a frame written into them is complete. -/
def opWriteback : OpFn := fun ctx ws => layerOp fun s =>
  let w := ws.getD 0 0
  let tgt := bits w 2 2
  let a := bits w 8 8
  let b := bits w 16 8
  let c := (s.eng (composer s)).comp
  let size := bufSize (if bit w 1 then 0 else 3) 1024 1024
  if !within w 0xFFFFFF0E || tgt == 3 || (tgt != 0 && (a == b || 64 ≤ a || 64 ≤ b)) then endWith stBadParam s
  else if tgt = 0 then
    let s1 := (wbBufs c).foldl (fun s b => releaseBuf b s) s
    endWith stOk (s1.modBoth (fun x => x.modComp (fun c => { c with
      wbCtrl := w, wbCur := none, wbTarget := none, wbDone := false, wbCount := 0, pend := true })))
  else if bufInUse a s || bufInUse b s then endWith stBadState s
  else if pagesFree s + (s.buf a).pages + (s.buf b).pages < 2 * pagesOf size then endWith stNoSpace s
  else
    let fresh : Buffer := { state := .loading, format := if bit w 1 then 0 else 3, w := 1024, h := 1024
                            pages := pagesOf size, size := size, source := 2 }
    let s1 := (wbBufs c).foldl (fun s b => releaseBuf b s) s
    let s2 := ((dropLoads b (dropLoads a s1)).modBuf a (fun _ => fresh)).modBuf b (fun _ => fresh)
    endWith stOk (s2.modBoth (fun x => x.modComp (fun c => { c with
      wbCtrl := w, wbCur := none, wbTarget := none, wbDone := false, wbCount := 0, wbPort := portNo ctx.port, pend := true })))

/-- WRITEBACK (R165). -/
def execWriteback (c : CmdCtx) (ws : List Word) (s : State) : Host.Outcome State Fault Refusal :=
  done (submit opWriteback 0x26 c ws s)

/-- WRITEBACK_STOP: TARGET 0b00 (R165). -/
def execWritebackStop (c : CmdCtx) (ws : List Word) (s : State) : Host.Outcome State Fault Refusal :=
  done (submit opWriteback 0x26 c (stamp 2 2 0 ws) s)

/-! ### Readiness, fences and groups at the compose point (R147, R158 to R164) -/

/-- Fence `k` is signalled for a wait value (R159). -/
def signalled (s : State) (k : Nat) (w : BitVec 16) : Bool := ((s.store.fences.getD k 0) - w).toNat < 32768

/-- The arm finds its fence signalled, or has none. -/
def fenceOk (s : State) (a : Arm) : Bool := !a.useFence || signalled s a.fence a.waitVal

/-- The arm waits for its fence alone (R162). -/
def fenceWaits (s : State) (a : Arm) : Bool := (s.buf a.buf).state == .complete && !a.held && !fenceOk s a

/-- The arm is ready (R160). -/
def armReady (s : State) (a : Arm) : Bool := (s.buf a.buf).state == .complete && !a.held && (fenceOk s a || a.forced)

/-- The layer is ready (R160). -/
def layerReady (s : State) (l : Layer) : Bool := match l.arm with | some a => armReady s a | none => true

/-- EV_ARM_CANCELLED (R164). -/
def cancelledEvent (e : Eng) (cause buf n : Nat) (s : State) : State :=
  if e = composer s then queueEvent (engBlk e * 256 + 3) 1 [put 16 cause ||| put 8 buf ||| put 0 n] s else s

/-- Layers `m` and `n` are the same, or of the same flip group. -/
def mates (x : Engine) (m n : Nat) : Bool :=
  m == n || ((x.layer n).groupOf != 0 && (x.layer m).groupOf == (x.layer n).groupOf)

/-- What layer `m` has pending is cancelled: its arm, and, with a flip group, its placements, which R158 treats as an arm.
DESIGN CHOICE (log entry 177): the placement registers keep what was written, and where placements alone are cancelled
EV_ARM_CANCELLED names the library that the layer shows. -/
def cancelOne (e : Eng) (m cause : Nat) (s : State) : State :=
  let l := (s.eng e).layer m
  let places := l.groupOf != 0 && !l.sprPend.isEmpty
  match l.arm, places with
  | none, false => s
  | a, _ =>
    cancelledEvent e cause ((a.map Arm.buf).getD (l.actBuf.getD 0)) m
      (s.modEng e (fun x => (x.modLayer m (fun l => { l with
        arm := none, sprPend := if places then [] else l.sprPend })).modComp (fun c => { c with moved := true })))

/-- The pending arms of the layers `own` are cancelled, with every pending arm of their flip groups (R158, R162, R164). DESIGN
CHOICE (log entry 177): a layer with a cause of its own has that cause in EV_ARM_CANCELLED, and every other one has cause
3. -/
def cancelArms (e : Eng) (own : List Nat) (cause : Nat) (s : State) : State :=
  ((List.range 8).filter (fun m => own.any (fun n => mates (s.eng e) m n))).foldl
    (fun s' m => cancelOne e m (if own.contains m then cause else 3) s') s

/-- The count of layer `n` reaches TIMEOUT at this compose point (R162, R163). -/
def timeoutDue (e : Eng) (n : Nat) (s : State) : Bool :=
  match ((s.eng e).layer n).arm with
  | some a => fenceWaits s a && !a.forced && a.desc.timeout != 0 && a.desc.timeout ≤ a.waitCnt + 1
  | none => false

/-- The layers of the flip group of layer `n`, or it alone, whose counts reach TIMEOUT at this compose point. -/
def dueMates (e : Eng) (n : Nat) (s : State) : List Nat :=
  (List.range 8).filter (fun m => mates (s.eng e) m n && timeoutDue e m s)

/-- ACTION of layer `n`'s pending arm. -/
def actionOf (x : Engine) (n : Nat) : Nat := ((x.layer n).arm.map (fun a => a.desc.action)).getD 0

/-- EV_FENCE_TIMEOUT of layer `n`, and FLIP_ANYWAY or BLANK_LAYER where its arm has it (R162, Table 05.3). DESIGN CHOICE (log
entry 186): a layer with BLANK_LAYER whose flip group still waits goes on showing its old content, and is blank from the move
of its group on. -/
def expireFence (e : Eng) (s : State) (n : Nat) : State :=
  match ((s.eng e).layer n).arm with
  | none => s
  | some a =>
    let s1 := if e = composer s then queueEvent (engBlk e * 256 + 2) 1 [put 8 a.fence ||| put 0 n] s else s
    if a.desc.action = 0 then s1
    else
      s1.modEng e (fun x => (x.modLayer n (fun l => { l with
        arm := some { a with forced := true, blanks := a.desc.action == 2 } })).modComp (fun c => { c with moved := true }))

/-- The fence timeouts of the layers `ns`, which fall in one evaluation, apply their ACTIONs (R162, Table 05.3). -/
def applyTimeouts (e : Eng) (ns : List Nat) (s : State) : State :=
  cancelArms e (ns.filter (fun n => actionOf (s.eng e) n == 0)) 1 (ns.foldl (expireFence e) s)

/-- The fence wait of layer `n` is counted at a compose point (R162). DESIGN CHOICE (log entry 187): the count stays at 255
where a wait goes on. -/
def waitFence (e : Eng) (s : State) (n : Nat) : State :=
  match ((s.eng e).layer n).arm with
  | some a =>
    if fenceWaits s a then
      s.modEng e (fun x => x.modLayer n (fun l => { l with arm := some { a with waitCnt := satInc 8 a.waitCnt } }))
    else s
  | none => s

/-- The fence waits of every layer at a compose point: the timeouts that fall there, and the counts (R162). -/
def waitFences (e : Eng) (s : State) : State :=
  (List.range 8).foldl (waitFence e) (applyTimeouts e ((List.range 8).filter (fun n => timeoutDue e n s)) s)

/-- Pending arms on INVALID buffers, and on buffers that have been freed, are cancelled (R164). -/
def cancelInvalid (e : Eng) (s : State) : State :=
  cancelArms e ((List.range 8).filter (fun n =>
    match ((s.eng e).layer n).arm with
    | some a => (s.buf a.buf).state == .invalid || (s.buf a.buf).state == .free
    | none => false)) 2 s

/-- Every layer of the flip group with a pending arm is ready (R161). -/
def groupReady (x : Engine) (s : State) (g : Nat) : Bool :=
  x.comp.layers.all (fun l => l.arm.isNone || l.groupOf != g || layerReady s l)

/-- The flip group of layer `n` lets it move: it is in none, or every member with a pending arm is ready (R61, R161). Its
placements then apply (R158). -/
def groupGoes (x : Engine) (s : State) (n : Nat) : Bool :=
  (x.layer n).groupOf == 0 || groupReady x s (x.layer n).groupOf

/-- Layer `n` may move to its pending arm (R61, R161). -/
def mayMove (x : Engine) (s : State) (n : Nat) : Bool := layerReady s (x.layer n) && groupGoes x s n

/-- A layer with its move to the pending arm (R147), the values that apply without an arm (R144), and its placements where
`place` (R158). -/
def moveLayer (s : State) (move place : Bool) (wb : Option Nat) (l : Layer) : Layer :=
  let l1 := match move, l.arm with
    | true, some a => { l with act := a.desc, actBuf := some a.buf, arm := none, blank := a.blanks }
    | _, _ => l
  let c := setField (setField l1.act.ctrl 0 1 (bits l.staged.ctrl 0 1)) 16 8 (bits l.staged.ctrl 16 8)
  let l2 := { l1 with act := { l1.act with ctrl := c, fill := l.staged.fill }, ready := layerReady s l }
  let l3 := if place then { l2 with spr := l2.sprPend.foldl (fun m p => spPut {} m p.1 p.2) l2.spr, sprPend := [] } else l2
  if l3.act.wbSrc then { l3 with actBuf := wb } else l3

/-- The layers of engine `e` at a compose point, and whether a content change of R169 was among them. -/
def composeLayers (e : Eng) (s : State) : State × Bool :=
  let s1 := waitFences e (cancelInvalid e s)
  let x := s1.eng e
  let moves := (List.range 8).map (fun n => mayMove x s1 n)
  let layers := (List.range 8).map (fun n =>
    moveLayer s1 (moves.getD n false) (groupGoes x s1 n) x.comp.wbCur (x.layer n))
  let s2 := s1.modEng e (fun x => x.modComp (fun c => { c with
    layers := layers, readyMap := layerMap { x with comp := { c with layers := layers } } Layer.ready
    ctrlSmp := c.ctrl, pend := false, moved := false }))
  let shown := (List.range 8).filter (fun n => moves.getD n false && (x.layer n).arm.isSome)
  let s3 := if e = composer s then
      shown.foldl (fun s n => queueEvent (engBlk e * 256 + 1) 0
        [put 8 ((((x.layer n).arm.map Arm.buf).getD 0)) ||| put 0 n] s) s2
    else s2
  let changed := !shown.isEmpty || x.comp.pend || x.comp.moved ||
    (List.range 8).any (fun n =>
      let l := x.layer n
      (groupGoes x s1 n && !l.sprPend.isEmpty) || (l.act.en && l.act.wbSrc))
  (s3, changed)

/-! ### Write-back frames (R165, R166, R168) -/

/-- The write-back buffer that is not current (R165). -/
def wbNext (c : Comp) : Nat := if c.wbCur = some (bits c.wbCtrl 8 8) then bits c.wbCtrl 16 8 else bits c.wbCtrl 8 8

/-- Write-back at the compose point of a frame that the active engine composes: the frame is due, skipped, or neither
(R165, R168). DESIGN CHOICE (log entry 188): PERIOD counts the frames composed, so that those of automatic Hold do not count;
and after S4 or S5 the pair of the restored configuration is FREE, so that a frame written into it makes a COMPLETE buffer
without pages. -/
def wbCompose (s : State) : State :=
  let c := (s.eng (composer s)).comp
  let period := bits c.wbCtrl 24 8
  if wbTargetCode c = 0 ∨ activeEng s = none then s
  else if (period = 0 ∧ c.wbDone) ∨ (period ≠ 0 ∧ c.wbCount ≠ 0) then
    s.modBoth (fun x => x.modComp (fun c => { c with wbCount := c.wbCount - 1, wbTarget := none }))
  else
    let b := wbNext c
    if (s.buf b).sending then
      ((s.hit 5 0x18 0).hit 6 0x18 0).modBoth (fun x => x.modComp (fun c => { c with
        skipCnt := satInc 8 c.skipCnt, wbCount := period - 1, wbTarget := none }))
    else
      (s.modBuf b (fun u => { u with state := .loading, fill := 0, crc := 0, bytes := [] })).modBoth
        (fun x => x.modComp (fun c => { c with wbTarget := some b, wbCount := period - 1, wbDone := true }))

/-- The bad store words of the array row that takes scene row `ys` (R142, R540). -/
def Job.badAt (j : Job) (ys : Nat) : BadWords := (j.badWords.filter (fun p => (j.sceneAt 0 p.1).2 == (ys : Int))).map (·.2)

/-- The canvas of the frame an engine composes, each row with its own bad words (R142, R153). -/
def frameCanvas (x : Engine) (s : State) (xs ys : Nat) : Nat × Bool := canvas (x.job.badAt ys) x s xs ys

/-- The bytes of the canvas in a write-back format (R165). -/
def wbBytes (y8 : Bool) (f : Nat → Nat → Nat × Bool) : List Byte :=
  (List.range 1048576).flatMap (fun k =>
    let v := (f (k % 1024) (k / 1024)).1
    if y8 then natBytes 1 (min 255 ((v + 128) / 257)) else natBytes 2 v)

/-- A complete write-back buffer is queued for the port that issued WRITEBACK, to be split into packets as it is sent
(R168, R297); the control SPI port returns packets in tunnel transactions only and sends none (assumption 32). -/
def wbSend (b : Nat) (bytes : List Byte) (s : State) : State :=
  let ps : List Packet := [{ ptype := .layerData, hw1 := put 24 b, payload := bytesWords bytes }]
  match (s.eng (composer s)).comp.wbPort with
  | 0 => { s with h0 := { s.h0 with layers := s.h0.layers ++ ps } }.modBuf b (fun u => { u with sending := true })
  | 1 => { s with h1 := { s.h1 with layers := s.h1.layers ++ ps } }.modBuf b (fun u => { u with sending := true })
  | _ => s

/-- The frame's composition ends: its write-back buffer is COMPLETE and current (R166). -/
def wbFinish (e : Eng) (s : State) : State :=
  let x := s.eng e
  match x.comp.wbTarget with
  | none => s
  | some b =>
    let bytes := wbBytes (bit x.comp.wbCtrl 1) (frameCanvas x s)
    let c := BitVec.ofNat 32 (crc32 bytes)
    let s1 := (readStore s).modBuf b (fun u => { u with
      state := .complete, fill := u.size, crc := c
      bytes := ((List.range bytes.length).zip bytes).filter (fun p => p.2 != 0) })
    let s2 := s1.modBoth (fun x => x.modComp (fun y => { y with wbCur := some b, wbTarget := none, wbCrc := c }))
    let s3 := queueEvent (engBlk e * 256 + 4) 0 [put 0 b, c] s2
    if wbTargetCode x.comp = 2 then wbSend b bytes s3 else s3

/-! ### Composition registers (Tables 05.5 to 05.10) -/

/-- LYR_STATUS.PSTATE (Table 05.9). -/
def armState (s : State) (l : Layer) : Nat :=
  match l.arm with
  | none => 0
  | some a =>
    if (s.buf a.buf).state != .complete then 1
    else if a.held then 3
    else if !fenceOk s a && !a.forced then 2
    else 0


/-- An optional buffer number as it reads: 0xFF none. -/
def bufNo (b : Option Nat) : Nat := b.getD 0xFF

/-- A read of a layer's registers (Tables 05.8 and 05.9); the fixed layers of the compatibility modes (R174). -/
def layerRead (x : Engine) (n o : Nat) (s : State) : Word :=
  let l := x.layer n
  let d := l.staged
  match o with
  | 0x00 => if s.compat then (if n = 0 then 0x00FF0001 else d.ctrl &&& ~~~ 1) else d.ctrl
  | 0x04 => d.srcPos
  | 0x08 => d.srcSize
  | 0x0C => d.dstPos
  | 0x10 => d.dstSize
  | 0x14 => put 0 d.fill.toNat
  | 0x18 => put 24 (bufNo l.actBuf) ||| put 16 (bufNo (l.arm.map Arm.buf)) ||| put 8 ((l.arm.map Arm.waitCnt).getD 0) |||
      put 2 (armState s l) ||| putb 1 l.blank ||| putb 0 l.ready
  | 0x1C => put 22 d.actTo.toNat ||| put 16 ((l.arm.map Arm.fence).getD 0) |||
      put 0 ((l.arm.map (fun a => a.waitVal.toNat)).getD 0)
  | _ => 0

/-- A read of the composition part of an engine window (Tables 05.5 to 05.10). -/
def cmpRead (e : Eng) (off : Nat) (s : State) : Word :=
  let x := s.eng e
  let c := x.comp
  if off = 0x0000 then (if s.compat then c.ctrl &&& ~~~ 0x10000 else c.ctrl)
  else if off = 0x0004 then
    put 24 c.holdCnt ||| put 16 c.readyMap ||| put 8 (layerMap x (fun l => l.arm.isSome)) |||
      putb 2 (wbTargetCode c != 0) ||| putb 1 c.pend ||| putb 0 c.hold
  else if off = 0x0008 then put 0 c.loadLast
  else if off = 0x000C then put 0 c.loadArmed
  else if off = 0x0010 then put 0 c.composeTime
  else if off = 0x0014 then c.wbCtrl
  else if off = 0x0018 then put 8 (bufNo c.wbCur) ||| put 0 c.skipCnt
  else if off = 0x001C then c.wbCrc
  else if 0x100 ≤ off ∧ off < 0x200 then layerRead x ((off - 0x100) / 0x20) (off % 0x20) s
  else if 0x1000 ≤ off ∧ off < 0x1800 then
    let p := spGet (x.layer ((off - 0x1000) / 0x100)).sprReg (off % 0x100 / 8) {}
    if off % 8 = 0 then p.w0 else p.w1
  else 0

/-- A write to a layer's registers (R144, R175). -/
def layerWrite (n o : Nat) (v : Word) (s : State) : State × BitVec 8 :=
  match o with
  | 0x00 =>
    if lyrCtrlOk (curLayer n s) v then (stageLayer n (fun d => { d with ctrl := v &&& lyrCtrlMask }) s, stOk)
    else (s, stBadParam)
  | 0x04 => (stageLayer n (fun d => { d with srcPos := v &&& 0x1FFF1FFF }) s, stOk)
  | 0x08 => if srcSizeOk v then (stageLayer n (fun d => { d with srcSize := v &&& 0x3FFF3FFF }) s, stOk) else (s, stBadParam)
  | 0x0C => (stageLayer n (fun d => { d with dstPos := v &&& 0x1FFF1FFF }) s, stOk)
  | 0x10 => if dstSizeOk v then (stageLayer n (fun d => { d with dstSize := v &&& 0x1FFF1FFF }) s, stOk) else (s, stBadParam)
  | 0x14 => (stageLayer n (fun d => { d with fill := v.setWidth 16 }) s, stOk)
  | 0x1C =>
    if bits v 30 2 = 3 then (s, stBadParam)
    else (stageLayer n (fun d => { d with actTo := BitVec.ofNat 10 (bits v 22 10) }) s, stOk)
  | _ => (s, stOk)

/-- Offset `off` holds a composition register (Tables 05.5 to 05.10). -/
def cmpAssigned (off : Nat) : Bool := off < 0x20 || (0x100 ≤ off && off < 0x200) || (0x1000 ≤ off && off < 0x1800)

/-- A write to the composition part of an engine window (R13, R143, R174, R175). -/
def cmpWrite (off : Nat) (v : Word) (s : State) : State × BitVec 8 :=
  if !cmpAssigned off then (s, stOk)
  else if s.compat then (s, stBadState)
  else if off = 0x0000 then
    if bits v 24 8 = 0 then (s, stBadParam)
    else (s.modBoth (fun x => x.modComp (fun c => { c with ctrl := v &&& 0xFF01FFFF, pend := true })), stOk)
  else if off = 0x0014 then (s, stBadState)
  else if off = 0x0018 then
    (if bit v 31 then
      { s with
        engA := s.engA.modComp (fun c => { c with skipCnt := cleared (s.wasHit 5 0x18 0) c.skipCnt })
        engB := s.engB.modComp (fun c => { c with skipCnt := cleared (s.wasHit 6 0x18 0) c.skipCnt }) }
     else s, stOk)
  else if 0x100 ≤ off ∧ off < 0x200 then layerWrite ((off - 0x100) / 0x20) (off % 0x20) v s
  else if 0x1000 ≤ off ∧ off < 0x1800 then
    let n := (off - 0x1000) / 0x100
    let m := off % 0x100 / 8
    let p := spGet (curLayer n s).sprReg m {}
    let q : Placement := if off % 8 = 0 then { p with w0 := v &&& 0xFFFF80FF } else { p with w1 := v &&& 0x1FFF1FFF }
    (placeSprite n m q s, stOk)
  else (s, stOk)

/-- The offsets of composition in an engine window. -/
def inCmp (off : Nat) : Bool := off < 0x8000

/-- COMPOSITION_REG_WRITE (R143). -/
def execCompositionRegWrite (src : RegSrc) (e : Eng) (off : BitVec 16) (v : Word) (s : State) :
    Host.Outcome State Fault Refusal :=
  done (writeAt (engBlk e) src off (fun o s => if inCmp o then cmpWrite o v (engAccess e s) else (s, stOk)) s)

/-! ### STORE registers (Tables 05.11 to 05.13) -/

/-- Codes of buffer states (Table 05.12). -/
def bufStateNo : BufState → Nat
  | .free => 0 | .loading => 1 | .complete => 2 | .invalid => 3

/-- A read of the STORE window. -/
def storeRead (off : Nat) (s : State) : Word :=
  if off = 0x0000 then put 16 (pagesFree s) ||| put 0 ((s.store.bufs.filter (fun u => u.state != .free)).length)
  else if off = 0x0004 then put 16 s.store.corr ||| put 0 s.store.uncorr
  else if off = 0x0008 then put 0 s.store.drop
  else if 0x100 ≤ off ∧ off < 0x500 then
    let b := (off - 0x100) / 0x10
    let u := s.buf b
    match off % 0x10 with
    | 0x0 => put 16 u.h ||| put 0 u.w
    | 0x4 => put 28 (bufStateNo u.state) ||| put 24 u.format ||| put 16 u.pages |||
        put 8 (layerUsers (s.eng (composer s)) b) ||| put 0 u.source
    | 0x8 => put 0 u.fill
    | _ => u.crc
  else if 0x800 ≤ off ∧ off < 0x880 then put 0 (s.store.fences.getD ((off - 0x800) / 4) 0).toNat
  else 0

/-- A write to the STORE window: CLR (Table 05.11). -/
def storeWrite (off : Nat) (v : Word) (s : State) : State × BitVec 8 :=
  (if off = 0x0008 ∧ bit v 31 then
    { s with store := { s.store with
        corr := cleared (s.wasHit 4 4 16) s.store.corr, uncorr := cleared (s.wasHit 4 4 0) s.store.uncorr
        drop := cleared (s.wasHit 4 8 0) s.store.drop } }
   else s, stOk)

end Sys2Proof.Machine
end

