-- ==== Sys2Proof/Machine/Arb.lean ====
section
/-! DEFINITION. Fore and Main: heartbeats, row signatures, mismatches, switch-over, self-test and resynchronisation, and
the health registers (06_fore_and_main_engines.md R177 to R205). -/

namespace Sys2Proof.Machine

/-- The state with the health record of an engine changed. -/
def State.modHealth (s : State) (e : Eng) (f : Health → Health) : State :=
  s.modEng e (fun x => { x with health := f x.health })

/-- The state with the arbitration record changed. -/
def State.modArb (s : State) (f : Arb → Arb) : State := s.modBstay (fun b => { b with arb := f b.arb })

/-- Both engines, Fore first. -/
def bothEngs : List Eng := [.fore, .main]

/-! ### Heartbeats (R183 to R185) -/

/-- Heartbeats of an engine are supervised: it is ACTIVE or STANDBY, in S0 or S1 (R183, R195). -/
def supervised (e : Eng) (s : State) : Bool := inRole e s && !deep s.pwr.pstate

/-- The force bit of ENG_HB_LOST suppresses the engine's tokens (Table 13.11). -/
def tokensForced (e : Eng) (s : State) : Bool := (s.win (engBlk e)).force.getLsbD 2

/-- HEARTBEAT_STROBE: each supervised engine is to answer (R183). -/
def execHeartbeatStrobe (s : State) : Host.Outcome State Fault Refusal :=
  done (bothEngs.foldl (fun s e => if supervised e s then s.modHealth e (fun h => { h with
      hbWaiting := true, hbHeard := h.hbHeard && h.hbMisses != 0 }) else s) s)

/-- HEARTBEAT_TOKEN: a token answers the strobe that waits, if its sequence number is the one after the previous
token's (R183); a token carries the ERR bit of its engine (R184). One that ENG_HB_LOST's force bit suppresses answers nothing
(Table 13.11). -/
def execHeartbeatToken (e : Eng) (seq : BitVec 8) (s : State) : Host.Outcome State Fault Refusal :=
  done (if supervised e s then
    let err := errLine e s
    let forced := tokensForced e s
    s.modHealth e (fun h =>
      let good := h.hbWaiting && (match h.hbPrev with | none => true | some p => seq == p + 1)
      if forced then { h with hbPrev := some seq, hbHeard := h.hbHeard || good }
      else { h with
        hbPrev := some seq, tokenErr := err
        hbWaiting := h.hbWaiting && !good, hbMisses := if good then 0 else h.hbMisses })
  else s)

/-- The end of the answer window for one engine: an unanswered strobe is counted, and the second in a row is a
heartbeat loss (R185). -/
def missStrobe (e : Eng) (s : State) : State :=
  if supervised e s && (s.eng e).health.hbWaiting then
    (s.modHealth e (fun h => { h with
      hbWaiting := false, hbMisses := h.hbMisses + 1, hbMissCnt := satInc 16 h.hbMissCnt })).hit (engBlk e) 0xA014 0
  else s

/-- This window ends in a heartbeat loss of the engine. -/
def hbLost (e : Eng) (s : State) : Bool := supervised e s && (s.eng e).health.hbWaiting && (s.eng e).health.hbMisses == 1

/-- The engine itself has answered neither strobe, whatever its force bit suppressed (R376, R377). -/
def realLoss (e : Eng) (s : State) : Bool := !(s.eng e).health.hbHeard

/-- HEARTBEAT_WINDOW_END: losses of both engines are known before arbitration acts (R185, R186). A forced loss carries
FLT_REAL too where it is real (R377). -/
def execHeartbeatWindowEnd (s : State) : Host.Outcome State Fault Refusal :=
  done (
    let lf := hbLost .fore s
    let lm := hbLost .main s
    let s1 := missStrobe .main (missStrobe .fore s)
    let s2 := if lf then raiseFault 5 2 0 (realLoss .fore s) (tokensForced .fore s) s1 else s1
    let s3 := if lm then raiseFault 6 2 0 (realLoss .main s) (tokensForced .main s) s2 else s2
    arbitrate lf lm s3)

/-- ENG_ERR_ASSERT: a check of the engine's internal memories (`src` 0 with an error, 2 without) or of its control
registers (`src` 1, with an error); arbitration acts on the error line when the evaluation ends (R184, R186). -/
def execEngErrAssert (e : Eng) (src : Fin 3) (s : State) : Host.Outcome State Fault Refusal :=
  done (if blockOff (engBlk e) s then s
    else if src = 1 then check (engBlk e) 1 0 true s
    else check (engBlk e) 0 0 (src == 0) s)

/-! ### Resynchronisation (R197 to R201) -/

/-- A step fails: one attempt is counted, and the third makes the engine PERM_FAILED, which composes nothing more (R178,
R197). -/
def restartResync (e : Eng) (s : State) : State :=
  let n := (s.eng e).health.attempts + 1
  let s1 := s.modEng e (fun x => { x with job := { x.job with active := false } })
  if 3 ≤ n then
    raiseFault (engBlk e) 6 0 true false
      (s1.modHealth e (fun h => { h with attempts := 3, role := .permFailed, step := 0, matchRun := 0 }))
  else startStep1 e (s1.modHealth e (fun h => { h with attempts := n, matchRun := 0, shadowed := 0 }))

/-- The engine has passed steps 1 and 2 in both lost (R200). -/
def passedBoth (e : Eng) (s : State) : Bool :=
  let h := (s.eng e).health
  estate s == 3 && h.role == .failed && h.step == 0 && h.testResult == 1

/-- Step 1 ends: every register of the engine outside its fault window and its health record, which Backstay keeps, is at
its reset value (R197, R366). It passes when heartbeat tokens restart, as `tokens` says and ENG_HB_LOST's force bit does not
suppress; otherwise it fails (Table 06.4, Table 13.11). -/
def engineResetDone (e : Eng) (tokens : Bool) (s : State) : State :=
  if (s.eng e).health.role = .failed ∧ (s.eng e).health.step = 1 ∧ s.pwr.pstate = .s0 then
    let s1 := (s.modEng e (fun x => { health := { x.health with resetErr := false, hbPrev := none } })).modWin (engBlk e)
      (fun w => { w with resetting := false })
    if tokens && !tokensForced e s then s1.modHealth e (fun h => { h with step := 2 }) else restartResync e s1
  else s

/-- ENGINE_BLOCK_RESET_DONE: step 1 ends, with or without heartbeat tokens (R197). -/
def execEngineBlockResetDone (r : ResetEnd) (s : State) : Host.Outcome State Fault Refusal :=
  done (engineResetDone r.eng r.tokens s)

/-- ENGINE_SELF_TEST_DONE: step 2 ends (R197, R200). -/
def execEngineSelfTestDone (e : Eng) (passed : Bool) (s : State) : Host.Outcome State Fault Refusal :=
  done (if (s.eng e).health.role = .failed ∧ (s.eng e).health.step = 2 ∧ s.pwr.pstate = .s0 then
    let s1 := s.modHealth e (fun h => { h with testResult := if passed then 1 else 2, testFrame := s.scan.frameCnt })
    if passed then
      if estate s1 = 3 then (s1.modHealth e (fun h => { h with step := 0 })).modArb (fun a => { a with bothRun := 0 })
      else s1.modHealth e (fun h => { h with step := 3 })
    else restartResync e (raiseFault (engBlk e) 5 0 true false s1)
  else s)

/-- What a resynchronising engine takes from the active one (Table 06.4 step 3, R133): descriptors, pending arms and
placements, the pipeline's registers and factors, the segment table, and the frame in progress. -/
def copyFrom (src dst : Engine) : Engine :=
  { dst with
    comp := src.comp
    lp := { dst.lp with
      reg := src.lp.reg, smp := src.lp.smp, pend := src.lp.pend, tgainValid := src.lp.tgainValid
      tcurveValid := src.lp.tcurveValid, iPred := src.lp.iPred, bPrev := src.lp.bPrev, bAct := src.lp.bAct
      bTgt := src.lp.bTgt, rGlobAct := src.lp.rGlobAct, rTileAct := src.lp.rTileAct, tcompAct := src.lp.tcompAct
      budgetLimit := src.lp.budgetLimit, deadUsed := src.lp.deadUsed
      freshStart := src.lp.freshStart, deepExit := src.lp.deepExit }
    job := { src.job with rows := 0, ended := false }
    segSig := src.segSig, codes := [], rowSig := [], newSig := [], dirty := src.job.marks }

/-- RESYNC_COPY_DONE: step 3 ends at a compose point (R197). -/
def execResyncCopyDone (e : Eng) (ok : Bool) (s : State) : Host.Outcome State Fault Refusal :=
  done (if (s.eng e).health.role = .failed ∧ (s.eng e).health.step = 3 ∧ s.pwr.pstate = .s0 then
    match activeEng s with
    | none => s
    | some a =>
      if ok then
        (s.modEng e (copyFrom (s.eng a))).modHealth e (fun h => { h with
          step := 4, shadowed := 0, matchRun := 0, frameBad := false, rowsEqual := 0 })
      else restartResync e s
  else s)

/-- Resynchronisation ends: the engine becomes STANDBY (R199). -/
def toStandby (e : Eng) (s : State) : State :=
  let tag := (s.eng e).health.runTag
  let s1 := markChange 10 (s.modHealth e (fun h => { h with role := .standby, step := 0, attempts := 0, runTag := 0 }))
  queueTagged (engBlk e * 256 + 7) 1 tag stOk [put 8 10 ||| put 0 (engNo e)] s1

/-- The return from both lost (R200): Fore ACTIVE, Main STANDBY, and one event from each engine's block. A recovery that
still waited is refused in its event, its case of R196 being over. Each event carries the TAG of the RETRY or RUN_TEST that
put its engine through the steps (R325). -/
def recovered (s : State) : State :=
  let fresh (r : Role) (h : Health) : Health := { h with role := r, step := 0, attempts := 0, matchRun := 0, runTag := 0 }
  let done_ (e : Eng) (s1 : State) : State :=
    queueTagged (engBlk e * 256 + 7) 1 (s.eng e).health.runTag stOk [put 8 11 ||| put 0 (engNo e)] s1
  let s1 := markChange 11 (((cancelSwitch s).modHealth .fore (fresh .active)).modHealth .main (fresh .standby))
  let s2 := (s1.hit 10 0x0804 0).modArb (fun a => { a with
    switchCnt := satInc 16 a.switchCnt, bothRun := 0, ownerMain := false })
  done_ .main (done_ .fore s2)

/-! ### Row signatures (R180, R181, R187, R198, R200) -/

/-- Who is compared with whom: ACTIVE with STANDBY, ACTIVE with a resynchronising engine, or both engines in both
lost. -/
inductive Pairing where
  | normal (a o : Eng)
  | resync (a o : Eng)
  | lost
deriving DecidableEq, Repr

/-- The comparison in force (Table 06.1, R198, R200). -/
def pairing (s : State) : Option Pairing :=
  match activeEng s with
  | some a =>
    let h := (s.eng (other a)).health
    if h.role = .standby then some (.normal a (other a))
    else if h.role = .failed ∧ h.step = 4 then some (.resync a (other a))
    else none
  | none => if passedBoth .fore s && passedBoth .main s then some .lost else none

/-- The engine whose signatures are checked against the other's, and the other. -/
def Pairing.sides : Pairing → Eng × Eng
  | .normal a o => (o, a)
  | .resync a o => (o, a)
  | .lost => (.main, .fore)

/-- A mismatch is decided now: as flagged, or as both lost (R187). -/
def decideMismatch (s : State) : State :=
  match activeEng s with
  | none => s.modArb (fun a => { a with undecided := false })
  | some a =>
    let fa := flagged a false s
    let fo := flagged (other a) false s
    if fa == fo then arbApply a true true 7 false false s
    else arbApply a fa fo (if fa then 5 else 6) false false s

/-- The first unequal row of a frame (R181, R187, R198, R200). -/
def mismatch (p : Pairing) (s : State) : State :=
  let y := p.sides.1
  let s1 := (s.hit (engBlk y) 0xA00C 0).modHealth y (fun h => { h with
    frameBad := true, matchRun := 0, mismatchCnt := satInc 16 h.mismatchCnt })
  match p with
  | .normal a o =>
    if flagged a false s1 || flagged o false s1 then decideMismatch s1
    else s1.modArb (fun r => { r with undecided := true, undecidedAt := if r.undecided then r.undecidedAt else s.ticks })
  | .resync _ o => restartResync o s1
  | .lost => restartResync .main (restartResync .fore (s1.modArb (fun r => { r with bothRun := 0 })))

/-- The last row of a frame compared equal, with no unequal one (R181, R198 to R200). DESIGN CHOICE (log entry 181): R204 does
not say which window counts frames while both engines are lost; a frame that matches is counted in none, and one that does not
in Main's. -/
def matched (p : Pairing) (s : State) : State :=
  let y := p.sides.1
  let count (s : State) := (s.hit (engBlk y) 0xA008 0).modHealth y (fun h => { h with
    matchRun := satInc 16 h.matchRun, matchTotal := satInc 32 h.matchTotal, lateLast := false })
  match p with
  | .normal _ _ => count s
  | .resync _ o =>
    let s1 := (count s).modHealth o (fun h => { h with shadowed := h.shadowed + 1 })
    if 17 ≤ (s1.eng o).health.shadowed then toStandby o s1 else s1
  | .lost =>
    let s1 := s.modArb (fun r => { r with bothRun := r.bothRun + 1 })
    if 16 ≤ s1.bstay.arb.bothRun then recovered s1 else s1

/-- Backstay compares the signatures of an array row when both have arrived; an injection in either engine's window
makes them compare unequal (R181, R189, Table 13.11), and is real as well where they differ by themselves (R376). -/
def compareRow (row : Nat) (s : State) : State :=
  match pairing s with
  | none => s
  | some p =>
    let (y, x) := p.sides
    if (s.eng x).rowSig.any (fun q => q.1 == row) && (s.eng y).rowSig.any (fun q => q.1 == row) then
      let uneq := spGet (s.eng x).rowSig row 0 != spGet (s.eng y).rowSig row 0
      let bad := fails (engBlk x) 3 false s || fails (engBlk y) 3 uneq s
      let s1 := check (engBlk y) 3 0 uneq
        (if (s.win (engBlk x)).inject.getLsbD 3 then check (engBlk x) 3 0 uneq s else s)
      if bad then (if (s1.eng y).health.frameBad then s1 else mismatch p s1)
      else
        let s2 := s1.modHealth y (fun h => { h with rowsEqual := h.rowsEqual + 1 })
        if (s2.eng y).health.rowsEqual = 1024 && !(s2.eng y).health.frameBad then matched p s2 else s2
    else s

/-- 16 µs have gone since the undecided mismatch (R187). -/
def undecidedDue (s : State) : Bool := s.bstay.arb.undecided && decide (s.bstay.arb.undecidedAt + 4000 ≤ s.ticks)

/-- MISMATCH_DECIDE_TIMEOUT: 16 µs after an undecided mismatch (R187). -/
def execMismatchDecideTimeout (s : State) : Host.Outcome State Fault Refusal :=
  done (if undecidedDue s then
    if s.pwr.pstate = .s0 then decideMismatch s
    else if s.pwr.pstate = .s1 then
      (cancelSwitch s).modArb (fun a => { a with
        undecided := false, s1Pend := true, s1Cause := if a.s1Pend then a.s1Cause else 7, s1FailA := true, s1FailB := true })
    else s.modArb (fun a => { a with undecided := false })
  else s)

/-- Late rows at a flip instant (R182): the standby has not delivered every row that the active engine has. A late frame
ends the run of matched frames (Table 06.6); in both lost, so does a frame whose rows have not all compared equal (R200). -/
def lateRows (s : State) : State :=
  match pairing s with
  | some (.normal a o) =>
    let h := (s.eng o).health
    if (s.eng a).job.active && !h.frameBad && (s.eng o).rowSig.length < (s.eng a).rowSig.length then
      let s1 := raiseFault (engBlk o) 4 0 true false
        ((s.hit (engBlk o) 0xA00C 16).modHealth o (fun h => { h with
          lateCnt := satInc 16 h.lateCnt, lateLast := true, matchRun := 0 }))
      if h.lateLast then standbyFails o 8 s1 else s1
    else if (s.eng a).job.active then s.modHealth o (fun h => { h with lateLast := false })
    else s
  | some (.resync a o) =>
    if (s.eng a).job.active && !(s.eng o).health.frameBad && (s.eng o).rowSig.length < (s.eng a).rowSig.length then
      restartResync o ((s.hit (engBlk o) 0xA00C 16).modHealth o (fun h => { h with lateCnt := satInc 16 h.lateCnt }))
    else s
  | some .lost =>
    if (s.engA.job.active || s.engB.job.active) && s.engB.health.rowsEqual != 1024 then s.modArb (fun r => { r with bothRun := 0 })
    else s
  | none => s

/-! ### Switch-over (R190 to R195) -/

/-- The dirty set of an incoming engine: segments whose recorded signature differs from its own codes, and the rule
marks of the frame (R190). -/
def incomingDirty (x : Engine) : List Nat :=
  setUnion x.job.marks ((x.newSig.filter (fun p => spGet x.segSig p.1 0 != p.2 || !(x.segSig.any (fun q => q.1 == p.1)))).map (·.1))

/-- SWITCHOVER_HANDOVER: the incoming engine has built its dirty set and gets the row bus; the overlap begins (R190,
R191). -/
def execSwitchoverHandover (s : State) : Host.Outcome State Fault Refusal :=
  done (if s.bstay.arb.handover && !s.bstay.arb.overlap then
    match activeEng s with
    | none => s
    | some a =>
      let s1 := s.modArb (fun r => { r with ownerMain := a == .main, overlap := true })
      s1.modEng a (fun x => { x with dirty := incomingDirty x, overlapFirst := [], overlapDue := false })
  else s)

/-- A switch-over ends: the incoming engine owns the row bus, the segments written in the overlap are dirty for it,
EV_ENGINE_SWITCH is raised and the outgoing engine starts at step 1 (R192, R193). -/
def endSwitchover (s : State) : State :=
  if s.bstay.arb.handover then
    match activeEng s with
    | none => s
    | some a =>
      let s1 := s.modArb (fun r => { r with handover := false, overlap := false, ownerMain := a == .main })
      let s2 := s1.modEng a (fun x => { x with dirty := setUnion x.dirty x.overlapFirst })
      let s3 := queueEvent 0x0A01 2 [put 8 s.bstay.arb.lastCause ||| put 4 (engNo a) ||| put 0 (engNo (other a))] s2
      startStep1 (other a) s3
  else s

/-- SWITCHOVER_OVERLAP_END: the outgoing drivers are off (R192, R193). -/
def execSwitchoverOverlapEnd (s : State) : Host.Outcome State Fault Refusal :=
  done (if s.bstay.arb.overlap then endSwitchover s else s)

/-- The decision latched in S1 is applied at the first stroke after the return to S0 (R195). -/
def applyS1 (s : State) : State :=
  let r := s.bstay.arb
  if r.s1Pend && s.pwr.pstate == .s0 then
    let s1 := s.modArb (fun r => { r with
      s1Pend := false, s1Cause := 0, s1FailA := false, s1FailB := false, s1HbA := false, s1HbB := false })
    match activeEng s1 with
    | none => s1
    | some a =>
      let fail (e : Eng) : Bool := match e with | .fore => r.s1FailA | .main => r.s1FailB
      let both := fail a && (fail (other a) || (s1.eng (other a)).health.role != .standby)
      let cause := if both && (r.s1Cause == 2 || r.s1Cause == 4) then r.s1Cause - 1
        else if both && (r.s1Cause == 5 || r.s1Cause == 6) then 7 else r.s1Cause
      arbApply a (fail a) (fail (other a)) cause r.s1HbA r.s1HbB s1
  else s

/-! ### ENGINE_SWITCH and ENGINE_HEALTH (R196, R197, R200, R201) -/

/-- The engine that a one-bit field names. -/
def engOf (b : Bool) : Eng := if b then .main else .fore

/-- ENGINE_SWITCH (0x90): a planned switch or a recovery. -/
def opEngineSwitch : OpFn := fun c ws s =>
  let w := ws.getD 0 0
  let m := bit w 0
  let h := (s.eng (engOf m)).health
  if !within w 1 then endWith stBadParam s
  else if s.pwr.pstate ≠ .s0 then endWith stBadState s
  else if estate s ≤ 1 ∧ h.role = .standby ∧ 16 ≤ h.matchRun then
    endWith stOk (s.modArb (fun a => { a with planned := a.planned ++ [(m, c.tag)] }))
  else if passedBoth (engOf m) s then
    endWith stOk (s.modArb (fun a => { a with recovery := a.recovery ++ [(m, c.tag)] }))
  else endWith stBadState s

/-- ENGINE_SWITCH (R196). -/
def execEngineSwitch (c : CmdCtx) (ws : List Word) (s : State) : Host.Outcome State Fault Refusal :=
  done (submit opEngineSwitch 0x90 c ws s)

/-- EV_ENGINE_SWITCH that ends a command under way, with its tag (R196, R325). -/
def switchEvent (m : Bool) (tag st : BitVec 8) (s : State) : State :=
  queueTagged 0x0A01 2 tag st [put 8 9 ||| put 4 (if m then 1 else 0) ||| put 0 (if m then 0 else 1)] s

/-- One accepted recovery takes effect: the named engine becomes ACTIVE (R196). -/
def recoverOne (s : State) (p : Bool × BitVec 8) : State :=
  let e := engOf p.1
  if passedBoth e s then
    let s1 := markChange 9 (s.modHealth e (fun h => { h with role := .active, step := 0, attempts := 0, runTag := 0 }))
    let s2 := (s1.hit 10 0x0804 0).modArb (fun a => { a with
      ownerMain := p.1, switchCnt := satInc 16 a.switchCnt, bothRun := 0 })
    let o := (s2.eng (other e)).health
    let s3 := if o.role = .failed ∧ o.step = 0 then startStep1 (other e) s2 else s2
    switchEvent p.1 p.2 stOk s3
  else switchEvent p.1 p.2 stBadState s

/-- The recoveries accepted earlier take effect at a compose point, in order (R196). -/
def applyRecovery (s : State) : State :=
  s.bstay.arb.recovery.foldl recoverOne (s.modArb (fun a => { a with recovery := [] }))

/-- One accepted planned switch takes effect (R196). A second one that names the engine made ACTIVE by the first completes
with nothing left to do. -/
def switchOne (s : State) (p : Bool × BitVec 8) : State :=
  let e := engOf p.1
  if (s.eng e).health.role = .standby ∧ (s.eng (other e)).health.role = .active then
    let s2 := (s.modHealth e (fun h => { h with role := .active })).modHealth (other e)
      (fun h => { h with role := .standby, matchRun := 0, lateLast := false })
    let s3 := ((markChange 9 s2).hit 10 0x0804 0).modArb (fun a => { a with
      ownerMain := p.1, switchCnt := satInc 16 a.switchCnt })
    switchEvent p.1 p.2 stOk s3
  else if (s.eng e).health.role = .active then switchEvent p.1 p.2 stOk s
  else switchEvent p.1 p.2 stBadState s

/-- The planned switches accepted earlier take effect at a flip instant that does not overrun, in order (R196), unless a
decision of arbitration still waits for its stroke, which prevails (R194, R195). -/
def applyPlanned (s : State) : State :=
  if s.bstay.arb.s1Pend then s
  else s.bstay.arb.planned.foldl switchOne (s.modArb (fun a => { a with planned := [] }))

/-- The health registers of an engine (Tables 06.5 and 06.6). -/
def hlthRead (e : Eng) (off : Nat) (s : State) : Word :=
  let h := (s.eng e).health
  if off = 0xA000 then
    put 12 h.testResult ||| put 10 h.attempts ||| put 7 h.step ||| putb 6 (errLine e s) ||| put 2 h.lastFail ||| put 0 (roleNo h.role)
  else if off = 0xA004 then put 0 h.matchRun
  else if off = 0xA008 then put 0 h.matchTotal
  else if off = 0xA00C then put 16 h.lateCnt ||| put 0 h.mismatchCnt
  else if off = 0xA010 then put 0 h.testFrame.toNat
  else if off = 0xA014 then put 0 h.hbMissCnt
  else 0

/-- A write to the health registers: CLR (Table 06.6). -/
def hlthWrite (e : Eng) (off : Nat) (v : Word) (s : State) : State × BitVec 8 :=
  (if off = 0xA014 ∧ bit v 31 then
    let b := engBlk e
    s.modHealth e (fun h => { h with
      matchTotal := cleared (s.wasHit b 0xA008 0) h.matchTotal, lateCnt := cleared (s.wasHit b 0xA00C 16) h.lateCnt
      mismatchCnt := cleared (s.wasHit b 0xA00C 0) h.mismatchCnt, hbMissCnt := cleared (s.wasHit b 0xA014 0) h.hbMissCnt })
  else s, stOk)

/-- The words of ENGINE_HEALTH READ (Table 11.9). -/
def healthWords (s : State) : List Word :=
  arbStatus s :: (bothEngs.flatMap (fun e => (List.range 6).map (fun k => hlthRead e (0xA000 + 4 * k) s)))

/-- The engine starts at step 1 at a head-end's request, with the tag for its EV_ENGINE_RESYNC (R197, R201, R325). -/
def runResync (e : Eng) (tag : BitVec 8) (s : State) : State :=
  startStep1 e (s.modHealth e (fun h => { h with
    role := .failed, step := 0, attempts := 0, matchRun := 0, shadowed := 0, hbWaiting := false, hbMisses := 0
    lateLast := false, frameBad := false, runTag := tag }))

/-- ENGINE_HEALTH (0x91): READ, BLOCK_OFF where a window that it reads is off (R314, R324); RUN_TEST and RETRY. -/
def opEngineHealth : OpFn := fun c ws s =>
  let w := ws.getD 0 0
  let e := engOf (bit w 8)
  if !within w 0x103 || bits w 0 2 == 3 then endWith stBadParam s
  else if bits w 0 2 = 0 then
    if blockOff 5 s || blockOff 6 s || blockOff 10 s then endWith stBlockOff s
    else
    let r := healthWords s
    ((if (activeEng s).isNone then (s.draw).2 else s), .fin stOk r)
  else if !inSession c s then endWith stDenied s
  else if bits w 0 2 = 1 then
    match activeEng s with
    | some a =>
      if (s.eng (other a)).health.role = .standby then endWith stOk (runResync (other a) c.tag s) else endWith stBadState s
    | none => endWith stBadState s
  else if (s.eng e).health.role = .permFailed then endWith stOk (runResync e c.tag s)
  else endWith stBadState s

/-- ENGINE_HEALTH_READ (R204). -/
def execEngineHealthRead (c : CmdCtx) (ws : List Word) (s : State) : Host.Outcome State Fault Refusal :=
  done (submit opEngineHealth 0x91 c (stamp 0 2 0 ws) s)

/-- ENGINE_HEALTH_RUN_TEST (R201). -/
def execEngineHealthRunTest (c : CmdCtx) (ws : List Word) (s : State) : Host.Outcome State Fault Refusal :=
  done (submit opEngineHealth 0x91 c (stamp 0 2 1 ws) s)

/-- ENGINE_HEALTH_RETRY (R197). -/
def execEngineHealthRetry (c : CmdCtx) (ws : List Word) (s : State) : Host.Outcome State Fault Refusal :=
  done (submit opEngineHealth 0x91 c (stamp 0 2 2 ws) s)

end Sys2Proof.Machine
end

