-- ==== Sys2Proof/Machine/Array.lean ====
section
/-! DEFINITION. The pixel array's electrical side: tile control and trims, over-current, VLED and headroom, the supply
request, and the ARRAY registers (03_pixel_array_and_drive.md R73 to R100). -/

namespace Sys2Proof.Machine

/-- The state with ARRAY changed. -/
def State.modArr (s : State) (f : Arr → Arr) : State := { s with arr := f s.arr }

/-- The state with DIAG changed. -/
def State.modDiag (s : State) (f : Diag → Diag) : State := { s with diag := f s.diag }

/-- The ARRAY domain is on (R95). -/
def arrayOn (s : State) : Bool := s.pwr.pstate == .s0 || s.pwr.pstate == .s1 || s.pwr.pstate == .s2

/-- Strokes emit and are diagnosed: S0 and S1 (Tables 03.7 and 07.9). -/
def lit (s : State) : Bool := s.pwr.pstate == .s0 || s.pwr.pstate == .s1

/-- Every tile number. -/
def allTiles : List Nat := List.range 256

/-! ### Current of a pixel and of a tile (R73, R83) -/

/-- I_FS × GTRIM × TTRIM in units of 1/131072 µA (R73, R74, Table 03.2). -/
def fullScale (range g u : Nat) : Nat := 5 * (range + 1) * (g + 128) * (u + 384)

/-- The full-on current of a tile is allowed (R83). -/
def currentAllowed (range g u : Nat) : Bool := fullScale range g u ≤ 3200000

/-- V_COMP in mV of a range (Table 03.2). -/
def vComp (range : Nat) : Nat := 150 + 50 * range

/-- The full scale of tile `t` with the range and trims in effect. -/
def tileScale (t : Nat) (s : State) : Nat :=
  fullScale (s.tile t).rangeAct.toNat s.arr.gtrimAct.toNat (s.tile t).ttrimAct.toNat

/-- The sink current of a pixel with code `x` in tile `t` while its comparator enables it, in units of 1/8257536 µA: c / 63 of
the full scale, and none where c or d is 0 (R73). -/
def sinkCurrent (t : Nat) (x : Code) (s : State) : Nat := if x.d = 0 then 0 else x.c.toNat * tileScale t s

/-- The sink of a pixel at node voltage `mv` was out of regulation in the stroke whose gap is in progress: below V_COMP of its
tile's range in that stroke, whatever the flip at the gap's start has made of it (R75, R86). -/
def outOfRegulation (t mv : Nat) (s : State) : Bool := mv < vComp (s.tile t).rangeShone.toNat

/-- A node voltage is above VLED − 0.4 V (R77). DESIGN CHOICE (log entry 159): VLED is the voltage measured last (R89). -/
def nodeHigh (mv : Nat) (s : State) : Bool := s.arr.vled < mv + 400

/-! ### Measurable pulses and folding (R208, R210) -/

/-- D_MIN at the stroke rate in effect (Table 07.3). -/
def dMin (s : State) : Nat :=
  match rateNow s with
  | 0 => 2
  | 1 => 3
  | 2 => 6
  | _ => 1

/-- The effective duty code `j` strokes after a fold stroke (R210). -/
def dEff (dmin : Nat) (j : Option Nat) (x : Code) : Nat :=
  let d := x.d.toNat
  match j with
  | none => d
  | some j =>
    if 0 < x.c.toNat ∧ 0 < d ∧ d < dmin then
      if j = 0 then dmin else if d + j ≤ dmin then d - 1 else d
    else d

/-- The pair that a live code emits with in the stroke in progress: its d_eff in place of d (R210). -/
def emitted (s : State) (x : Code) : Code := mkCode x.c.toNat (dEff (dMin s) s.diag.foldJ x)

/-- The sink currents of the tiles that emit in the stroke, all of their pixels together as in slot 0 (R44, R73, R210). -/
def tileSinks (s : State) : Sparse Nat :=
  s.arr.shone.foldl (fun m p => let t := tileOfPix p.1; spSet m t (spGet m t 0 + sinkCurrent t (emitted s p.2) s)) []

/-- The pixel's sink pulse qualifies for the latches in a stroke whose D_MIN is `dmin` (R77, R208, R210). -/
def qualifies (dmin : Nat) (s : State) (x : Code) : Bool :=
  0 < x.c.toNat && 0 < x.d.toNat && dmin ≤ dEff dmin s.diag.foldJ x

/-- Tiles with a pixel whose sink conducts for at least 3.0 µs (R91). -/
def sensedTiles (s : State) : List Nat :=
  (s.arr.live.filter (fun p => qualifies (dMin s) s p.2)).foldl (fun l p => setIns l (tileOfPix p.1)) []

/-! ### Parity of TILE_CTRL (R539) -/

/-- The parity check of a tile's TILE_CTRL: a failure sets TILE_STATUS.PARITY and raises TILE_PARITY. -/
def tileParity (t : Nat) (s : State) : State :=
  let bad := (s.tile t).parityBad
  let wrong := fails 8 1 bad s
  let s1 := check 8 1 t bad s
  if wrong then (s1.modTile t (fun x => { x with parity := true })).hit 8 (0x40 * t + 4) 4 else s1

/-! ### Tile and array control (R83, R86, R96) -/

/-- A write of TILE_CTRL: checked against the current limit, refused in the compatibility modes where it would change
RANGE or TTRIM; an accepted write stores fresh parity (R83, R86, R96, R539). -/
def tileCtrlWrite (t : Nat) (v : Word) (s : State) : State × BitVec 8 :=
  let s := tileParity t s
  let x := s.tile t
  let range := bits v 4 2
  let u := bits v 8 8
  if s.compat && (range != x.range.toNat || u != x.ttrim.toNat) then (s, stBadState)
  else if !currentAllowed range s.arr.gtrim.toNat u then (s, stBadParam)
  else (s.modTile t (fun x => { x with
    on := bit v 0, range := BitVec.ofNat 2 range, ttrim := BitVec.ofNat 8 u, parityBad := false }), stOk)

/-- GTRIM may take a value with every tile's range and trim (R83). -/
def gtrimAllowed (g : Nat) (s : State) : Bool := s.arr.tiles.all (fun x => currentAllowed x.range.toNat g x.ttrim.toNat)

/-- A write of ARRAY_CTRL (R83, R86, R96). -/
def arrayCtrlWrite (v : Word) (s : State) : State × BitVec 8 :=
  if s.compat then (s, stBadState)
  else if gtrimAllowed (bits v 0 8) s then (s.modArr (fun a => { a with gtrim := v.setWidth 8 }), stOk)
  else (s, stBadParam)

/-- TILE_CTRL_WRITE (R83, R86). -/
def execTileCtrlWrite (src : RegSrc) (t : Fin 256) (v : Word) (s : State) : Host.Outcome State Fault Refusal :=
  done (writeRow 8 src (tileCtrlWrite t v) s)

/-- ARRAY_CTRL_WRITE (R83, R86). -/
def execArrayCtrlWrite (src : RegSrc) (v : Word) (s : State) : Host.Outcome State Fault Refusal :=
  done (writeRow 8 src (arrayCtrlWrite v) s)

/-- A value of RANGE, TTRIM or GTRIM waits for its compose point (R86, R88). -/
def trimsPending (s : State) : Bool :=
  s.arr.gtrim != s.arr.gtrimSmp || s.arr.tiles.any (fun x => x.range != x.rangeSmp || x.ttrim != x.ttrimSmp)

/-- The compose point samples ranges and trims (R86, R87). -/
def sampleTrims (s : State) : State :=
  s.modArr (fun a => { a with
    gtrimSmp := a.gtrim
    tiles := a.tiles.map (fun x => { x with rangeSmp := x.range, ttrimSmp := x.ttrim }) })

/-- The flip instant makes the sampled ranges and trims effective (R86). -/
def applyTrims (s : State) : State :=
  s.modArr (fun a => { a with
    gtrimAct := a.gtrimSmp
    tiles := a.tiles.map (fun x => { x with rangeAct := x.rangeSmp, ttrimAct := x.ttrimSmp }) })

/-! ### Over-current (R84, R85) -/

/-- TILE_OC_TRIP: the filter has expired; the tile is off at once, and its fault source is raised in the next gap
(R84, Table 03.5). A switch stuck closed carries current too. -/
def execTileOcTrip (t : Fin 256) (s : State) : Host.Outcome State Fault Refusal :=
  done (if arrayOn s && ((s.tile t).swClosed || (s.tile t).swStuck) then
    ((s.modTile t (fun x => { x with ocTrip := true, ocPend := true, ocCnt := satInc 8 x.ocCnt })).hit 8 (0x40 * t + 4) 2).hit
      8 (0x40 * t + 0x14) 0
  else s)

/-! ### VLED (R89, R90) -/

/-- A measured voltage as a 13-bit register holds it. DESIGN CHOICE (log entry 154): one above the register's range reads as
its highest value. -/
def mv13 (v : Nat) : Nat := min 8191 v

/-- A measurement of VLED at the die and at the sense contacts, in mV (R89, R90). -/
def measureVled (die sense : Nat) (s : State) : State :=
  let live := decide (2000 < sense)
  let agree := decide (distance sense die ≤ 250)
  let v := if live && agree then sense else die
  let low := decide (v < 2900)
  let high := decide (4750 < v)
  let s0 := ((s.hitIf (live && !agree) 8 0x4004 5).hitIf (high && s.arr.vledWasHigh) 8 0x4004 4).hitIf low 8 0x4004 3
  let s1 := s0.modArr (fun a => { a with
    snsUsed := live && agree, snsFault := a.snsFault || (live && !agree)
    vled := mv13 v, vledDie := mv13 die, vledOk := !low && !high
    vledLow := a.vledLow || low, vledHigh := a.vledHigh || (high && a.vledWasHigh), vledWasHigh := high })
  let s2 := if low then raiseFault 8 2 0 true false s1 else s1
  let s3 := if high && s.arr.vledWasHigh then raiseFault 8 3 0 true false s2 else s2
  if live && !agree then raiseFault 8 5 0 true false s3 else s3

/-- The rails of the tiles in mV at slot 511; a tile that is not listed reads 0 (R90, Table 03.11). -/
def measureRails (rails : List Nat) (s : State) : State :=
  s.modArr (fun a => { a with tiles := a.tiles.zipIdx.map (fun p =>
    let r := rails.getD p.2 0
    { p.1 with rail := mv13 r, noSupply := p.1.swClosed && decide (r < 2500) }) })

/-- VLED_MEASURE: the measurement at slot 511, with the voltages at the die and at the sense contacts and the rails of
the tiles in mV (R89, R90). -/
def execVledMeasure (die sense : Nat) (rails : List Nat) (s : State) : Host.Outcome State Fault Refusal :=
  done (if arrayOn s then measureVled die sense (measureRails rails s) else s)

/-! ### The start of a gap (R45, R81, R91, R92, R539) -/

/-- CODE for a request (R92). -/
def vadjCode (req : Nat) : Nat := (3 * (req - 2800) + 1) / 2

/-- H_TARGET -/
def hTarget (s : State) : Nat := bits s.arr.vadjCfg 0 12
/-- STEP_UP -/
def stepUp (s : State) : Nat := bits s.arr.vadjCfg 12 8
/-- STEP_DN -/
def stepDn (s : State) : Nat := bits s.arr.vadjCfg 20 8
/-- VADJ_MIN -/
def vadjMin (s : State) : Nat := bits s.arr.vadjLim 0 13
/-- VADJ_MAX -/
def vadjMax (s : State) : Nat := bits s.arr.vadjLim 16 13
/-- H_LOW -/
def hLow (s : State) : Nat := bits s.arr.railCfg 0 12
/-- V_OFF -/
def vOff (s : State) : Nat := bits s.arr.railCfg 12 12

/-- The request is set, and the PWM starts at its CODE (R92). -/
def setReq (req : Nat) (s : State) : State :=
  s.modArr (fun a => { a with req := req, code := vadjCode req, codeNext := vadjCode req, codeDue := none })

/-- The request is updated in a gap; CODE follows later (R92, R93). -/
def nextCode (req : Nat) (s : State) : State := s.modArr (fun a => { a with req := req, codeNext := vadjCode req })

/-- A gap ends: the CODE computed in it waits for the first PWM period that follows (R93). DESIGN CHOICE (log entry 161): the
periods of 3,000 ROW clocks start at the multiples of 10 µs of the model's time. -/
def codeAfterGap (s : State) : State :=
  s.modArr (fun a => { a with codeDue := if a.codeNext = a.code then none else some ((s.ticks + 2499) / 2500 * 2500) })

/-- CODE takes its new value once its PWM period has started (R93). -/
def takeCode (s : State) : State :=
  match s.arr.codeDue with
  | some t => if t ≤ s.ticks then s.modArr (fun a => { a with code := a.codeNext, codeDue := none }) else s
  | none => s

/-- One update of the request for the minimum headroom `h` (R92). -/
def nextReq (h : Nat) (s : State) : Nat :=
  let r := if h < hTarget s then s.arr.req + min (hTarget s - h) (stepUp s) else s.arr.req - min (h - hTarget s) (stepDn s)
  max (vadjMin s) (min (vadjMax s) r)

/-- The minimum valid headroom with its tile (R92). DESIGN CHOICE (log entry 153): of several tiles at the minimum, HMIN_TILE
names the lowest index. -/
def minHead (s : State) : Option (Nat × Nat) :=
  (s.arr.tiles.zipIdx.filter (fun p => p.1.headValid)).foldl (fun best p =>
    match best with
    | none => some (p.1.headroom, p.2)
    | some b => if p.1.headroom < b.1 then some (p.1.headroom, p.2) else best) none

/-- Headroom is latched at the end of the active part: `heads` gives the measured tiles with their lowest node
voltage in mV (R91); what step 3 of Table 07.4 needs is noted with it. -/
def latchHeads (heads : List (Nat × Nat)) (s : State) : State :=
  let sensed := sensedTiles s
  let s1 := s.modArr (fun a => { a with tiles := a.tiles.zipIdx.map (fun p =>
    match heads.find? (fun h => h.1 == p.2) with
    | some h => if p.1.swClosed && sensed.contains p.2 then { p.1 with headroom := mv13 h.2, headValid := true }
        else { p.1 with headValid := false }
    | none => { p.1 with headValid := false }) })
  let s2 := s1.modDiag (fun d => { d with tiles := d.tiles.zipIdx.map (fun p =>
    let x := s1.tile p.2
    { p.1 with starved := x.headValid && decide (x.headroom < vComp x.rangeAct.toNat) }) })
  allTiles.foldl (fun s t =>
    let x := s.tile t
    if x.headValid && decide (x.headroom < hLow s) then
      raiseFault 8 4 t true false ((s.modTile t (fun x => { x with headLow := true })).hit 8 (0x40 * t + 4) 5)
    else s) s2

/-- The peak switch currents of the active part, in 0.1 mA, and their sum in mA, whose rounding the spec does not give
(log entry 40). `peaks` gives the tiles whose measurement is not the current that R73 gives their pixels; the rounding of that
current, and a value above the register's range, are DESIGN CHOICES (log entries 160 and 154). -/
def latchPeaks (peaks : List (Nat × Nat)) (s : State) : State :=
  let sinks := tileSinks s
  let nominal (t : Nat) (x : Tile) : Nat := if x.swClosed then spGet sinks t 0 / 825753600 else 0
  let s1 := s.modArr (fun a => { a with tiles := a.tiles.zipIdx.map (fun p =>
    { p.1 with current := min 4095 (((peaks.find? (fun h => h.1 == p.2)).map (·.2)).getD (nominal p.2 p.1)) }) })
  let sum := (s1.arr.tiles.map Tile.current).sum
  if sum % 10 = 0 then s1.modArr (fun a => { a with itotal := min 65535 (sum / 10) })
  else
    let (n, s2) := s1.draw
    s2.modArr (fun a => { a with itotal := min 65535 (sum / 10 + if Config.freeBit n then 1 else 0) })

/-- The parity check of every tile; `upset` names tiles whose stored parity has become wrong (R539). -/
def parityAll (upset : List Nat) (s : State) : State :=
  let s1 := upset.foldl (fun s t => s.modTile t (fun x => { x with parityBad := true })) s
  allTiles.foldl (fun s t => tileParity t s) s1

/-- Over-current trips since the last gap raise their source, the lowest tile first (Table 03.5, R100). -/
def raiseTrips (s : State) : State :=
  allTiles.foldl (fun s t =>
    if (s.tile t).ocPend then raiseFault 8 0 t true false (s.modTile t (fun x => { x with ocPend := false })) else s) s

/-- Tiles without a cause close their switches (R81). -/
def closeTiles (s : State) : State :=
  if lit s && s.bstay.beam != .dark then
    let open_ := allTiles.filter (fun t => !(s.tile t).swClosed && !tileCause s (s.tile t))
    open_.foldl (fun s t =>
      (s.modTile t (fun x => { x with swClosed := true, markDirty := true })).modDiagTile t (fun d => { d with exclNow := true })) s
  else s

/-- The supply request follows the headroom (R92). -/
def updateReq (s : State) : State :=
  match minHead s with
  | none => s.modArr (fun a => { a with hminValid := false })
  | some (h, t) => nextCode (nextReq h s) (s.modArr (fun a => { a with hminValid := true, hmin := h, hminTile := t }))

/-- The array's part of the start of a gap. -/
def gapArray (heads peaks : List (Nat × Nat)) (upset : List Nat) (s : State) : State :=
  let s1 := if lit s then latchPeaks peaks (latchHeads heads s) else s
  let s2 := raiseTrips (parityAll upset s1)
  closeTiles (if lit s then updateReq s2 else s2)

/-! ### The ARRAY window (Tables 03.9 to 03.16) -/

/-- TILE_CTRL as it reads. -/
def tileCtrl (x : Tile) : Word := put 8 x.ttrim.toNat ||| put 4 x.range.toNat ||| putb 0 x.on

/-- A range or trim of the tile is written, or sampled, and not yet in effect (R86). -/
def Tile.pend (x : Tile) : Bool :=
  x.range != x.rangeAct || x.ttrim != x.ttrimAct || x.rangeSmp != x.rangeAct || x.ttrimSmp != x.ttrimAct

/-- A global trim is written, or sampled, and not yet in effect (R86). -/
def Arr.gtrimPend (a : Arr) : Bool := a.gtrim != a.gtrimAct || a.gtrimSmp != a.gtrimAct

/-- TILE_STATUS (Table 03.10). -/
def tileStatus (x : Tile) : Word :=
  putb 7 x.pend ||| putb 6 x.headValid ||| putb 5 x.headLow ||| putb 4 x.parity |||
    putb 3 x.noSupply ||| putb 2 x.ocTrip ||| putb 1 (!x.swClosed) ||| putb 0 x.swClosed

/-- A map of 32 tiles as bits. -/
def tileMap (n : Nat) (f : Tile → Bool) (s : State) : Word :=
  (List.range 32).foldl (fun w b => w ||| putb b (f (s.tile (32 * n + b)))) 0


/-- A read of the ARRAY window; a read of TILE_CTRL checks its parity (R539). -/
def arrRead (off : Nat) (s : State) : State × Word :=
  let a := s.arr
  if off < 0x4000 then
    let t := off / 0x40
    let x := s.tile t
    match off % 0x40 with
    | 0x00 => (tileParity t s, tileCtrl x)
    | 0x04 => (s, tileStatus x)
    | 0x08 => (s, put 0 x.headroom)
    | 0x0C => (s, put 0 x.rail)
    | 0x10 => (s, put 0 x.current)
    | 0x14 => (s, put 0 x.ocCnt)
    | _ => (s, 0)
  else (s,
    if off = 0x4000 then put 0 a.gtrim.toNat
    else if off = 0x4004 then
      putb 7 a.gtrimPend ||| putb 6 a.snsUsed ||| putb 5 a.snsFault ||| putb 4 a.vledHigh ||| putb 3 a.vledLow |||
        putb 2 a.vledOk ||| putb 1 (adjDriven s) ||| putb 0 (a.tiles.any (fun x => !x.swClosed))
    else if off = 0x4008 then put 16 a.vledDie ||| put 0 a.vled
    else if off = 0x400C then putb 24 a.hminValid ||| put 16 a.hminTile ||| put 0 a.hmin
    else if off = 0x4010 then a.vadjCfg
    else if off = 0x4014 then a.vadjLim
    else if off = 0x4018 then put 16 a.code ||| put 0 a.req
    else if off = 0x401C then a.railCfg
    else if off = 0x4020 then put 0 a.itotal
    else if 0x4040 ≤ off ∧ off < 0x4060 then tileMap ((off - 0x4040) / 4) (fun x => !x.swClosed) s
    else if 0x4060 ≤ off ∧ off < 0x4080 then tileMap ((off - 0x4060) / 4) (fun x => x.ocTrip) s
    else 0)

/-- A write to the ARRAY window (R83, R85, R99). -/
def arrWrite (off : Nat) (v : Word) (s : State) : State × BitVec 8 :=
  if off < 0x4000 then
    let t := off / 0x40
    match off % 0x40 with
    | 0x00 => tileCtrlWrite t v s
    | 0x04 =>
      (s.modTile t (fun x => { x with
        headLow := rw1c (bit v 5) (s.wasHit 8 off 5) x.headLow, parity := rw1c (bit v 4) (s.wasHit 8 off 4) x.parity
        ocTrip := rw1c (bit v 2) (s.wasHit 8 off 2) x.ocTrip }), stOk)
    | 0x14 =>
      (if bit v 31 then s.modTile t (fun x => { x with ocCnt := cleared (s.wasHit 8 off 0) x.ocCnt }) else s, stOk)
    | _ => (s, stOk)
  else if off = 0x4000 then arrayCtrlWrite v s
  else if off = 0x4004 then
    (s.modArr (fun a => { a with
      snsFault := rw1c (bit v 5) (s.wasHit 8 0x4004 5) a.snsFault
      vledHigh := rw1c (bit v 4) (s.wasHit 8 0x4004 4) a.vledHigh
      vledLow := rw1c (bit v 3) (s.wasHit 8 0x4004 3) a.vledLow }), stOk)
  else if off = 0x4010 then
    if bits v 12 8 = 0 ∨ bits v 20 8 = 0 then (s, stBadParam)
    else (s.modArr (fun a => { a with vadjCfg := v &&& 0x0FFFFFFF }), stOk)
  else if off = 0x4014 then
    if bits v 0 13 < 3000 ∨ 4500 < bits v 16 13 ∨ bits v 16 13 < bits v 0 13 then (s, stBadParam)
    else (s.modArr (fun a => { a with vadjLim := v &&& 0x1FFF1FFF }), stOk)
  else if off = 0x401C then (s.modArr (fun a => { a with railCfg := v &&& 0x00FFFFFF }), stOk)
  else (s, stOk)

end Sys2Proof.Machine
end

