-- ==== Sys2Proof/Machine/Contacts.lean ====
section
/-! DEFINITION. Contacts outside the save: PRESENT_N during boot, TEST_N, and the test access port
(20_module_and_contacts.md, R518 to R520). The codes of EXTEST and SAMPLE/PRELOAD, the value that Capture-IR loads
and the boundary-scan layout are not in the spec (assumptions 20 and 21). -/

namespace Sys2Proof.Machine

/-- PRESENT_N_BOOT_BLANK: before READY every tile enters its safe state, without a save (R518). -/
def execPresentNBootBlank (s : State) : Host.Outcome State Fault Refusal :=
  done (if s.pwr.ready then s else { s with pwr := { s.pwr with present := false, presentBlank := true } })

/-- PRESENT_N_BOOT_RESTORE: PRESENT_N low for 100 ms ends the boot-time safe state (R518). -/
def execPresentNBootRestore (s : State) : Host.Outcome State Fault Refusal :=
  done (if s.pwr.presentBlank then { s with pwr := { s.pwr with present := true, presentBlank := false } } else s)

/-- TEST_N low is acted on: the beam Dark, and a boot before READY stopped at step 3, until a reset with TEST_N high (R519). -/
def holdTest (s : State) : State :=
  let s1 := reqDark s
  { s1 with
    mode := { s1.mode with testHeld := true }
    pwr := { s1.pwr with bootStopped := s1.pwr.bootStopped || !s1.pwr.ready } }

/-- TEST_N_LOW: every tile in its safe state, the beam Dark, and a boot before READY stopped at step 3, until a
reset with TEST_N high; a save in progress completes first (R519). -/
def execTestNLow (s : State) : Host.Outcome State Fault Refusal :=
  done (let s1 := { s with pins := { s.pins with testN := false } }
    if s.pwr.saving.isSome then s1 else holdTest s1)

/-- EXTEST is loaded: the beam is Dark until a reset, and each loading makes a SYSTEM entry with cause 0x0D (R520). -/
def loadExtest (s : State) : State :=
  let s1 := reqDark (systemEntry 0x0D s)
  { s1 with mode := { s1.mode with extestHeld := true } }

/-- EXTEST_LOAD: the instruction EXTEST takes effect at Update-IR (R520). -/
def execExtestLoad (s : State) : Host.Outcome State Fault Refusal :=
  done (if tapOn s then loadExtest { s with tap := { s.tap with ir := 0 } } else s)

/-- The next state of the controller of IEEE 1149.1 (R520). -/
def tapNext (st : TapState) (tms : Bool) : TapState :=
  match st with
  | .reset => if tms then .reset else .idle
  | .idle => if tms then .selDr else .idle
  | .selDr => if tms then .selIr else .capDr
  | .capDr => if tms then .ex1Dr else .shDr
  | .shDr => if tms then .ex1Dr else .shDr
  | .ex1Dr => if tms then .upDr else .paDr
  | .paDr => if tms then .ex2Dr else .paDr
  | .ex2Dr => if tms then .upDr else .shDr
  | .upDr => if tms then .selDr else .idle
  | .selIr => if tms then .reset else .capIr
  | .capIr => if tms then .ex1Ir else .shIr
  | .shIr => if tms then .ex1Ir else .shIr
  | .ex1Ir => if tms then .upIr else .paIr
  | .paIr => if tms then .ex2Ir else .paIr
  | .ex2Ir => if tms then .upIr else .shIr
  | .upIr => if tms then .selDr else .idle

/-- The boundary-scan register is selected: EXTEST or SAMPLE/PRELOAD; every other code is BYPASS (R520). -/
def tapScan (ir : BitVec 4) : Bool := ir == 0 || ir == 1

/-- The number of boundary-scan cells: one for each digital signal contact of Table 20.4 that R520 covers. -/
def bsrLen : Nat := 31

/-- What Capture-DR loads: a 0 for BYPASS; for the boundary-scan register the contacts' levels, whose places in the
register the spec does not give (free values). -/
def tapCapture (ctr : Nat) (ir : BitVec 4) : List Bool :=
  if tapScan ir then (List.range bsrLen).map (fun i => Config.freeBit (ctr + i)) else [false]

/-- What the registers do at a rising edge of TCK in the controller state reached so far. -/
def tapShift (tdi : Bool) (s : State) : State :=
  match s.tap.st with
  | .capDr => { s with
      tap := { s.tap with dr := tapCapture s.freeCtr s.tap.ir }
      freeCtr := s.freeCtr + (if tapScan s.tap.ir then bsrLen else 0) }
  | .shDr => { s with tap := { s.tap with dr := s.tap.dr.drop 1 ++ [tdi] } }
  | .capIr => { s with tap := { s.tap with irShift := 1 } }
  | .shIr => { s with tap := { s.tap with irShift := (s.tap.irShift >>> 1) ||| (if tdi then 8 else 0) } }
  | _ => s

/-- The controller's next state with its update actions and TDO: BYPASS is selected by test-logic reset (R520). -/
def tapEnter (st : TapState) (s : State) : State :=
  let t := s.tap
  let tdo := match st with
    | .shDr => some (t.dr.headD false)
    | .shIr => some (t.irShift.getLsbD 0)
    | _ => none
  let t1 : Tap := { t with
    st := st, tdo := tdo
    ir := if st = .reset then 0xF else if st = .upIr then t.irShift else t.ir
    bsr := if st = .upDr ∧ tapScan t.ir then t.dr else t.bsr }
  let s1 := { s with tap := t1 }
  if st = .upIr ∧ t.irShift = 0 then loadExtest s1 else s1

/-- TAP_TCK_EDGE: one rising edge of TCK with the levels of TMS and TDI; five in a row with TMS high reset the
port (R520). -/
def execTapTckEdge (tms tdi : Bool) (s : State) : Host.Outcome State Fault Refusal :=
  done (if tapOn s then
    let s1 := tapShift tdi s
    let n := if tms then min 5 (s1.tap.tmsHigh + 1) else 0
    let st := if n = 5 then TapState.reset else tapNext s1.tap.st tms
    tapEnter st { s1 with tap := { s1.tap with tmsHigh := n } }
  else s)

end Sys2Proof.Machine
end

