-- ==== Sys2Proof/Machine/Time.lean ====
section
/-! DEFINITION. Time: domain counters and their eras, TIME packets, the servo, the working clock, stroke phase, timed
pulses, capture, FLIP_AT and the TIME registers (12_time.md R337 to R360, R542). -/

namespace Sys2Proof.Machine

/-- The state with TIME changed. -/
def State.modTime (s : State) (f : Time → Time) : State := { s with time := f s.time }

/-- Domain Dk; `k` is true for D1. -/
def State.dom (s : State) (k : Bool) : Domain := if k then s.time.d1 else s.time.d0

/-- The state with domain Dk changed. -/
def State.modDom (s : State) (k : Bool) (f : Domain → Domain) : State :=
  s.modTime (fun t => if k then { t with d1 := f t.d1 } else { t with d0 := f t.d0 })

/-- A domain's number. -/
def domNo (k : Bool) : Nat := if k then 1 else 0

/-- The TIME clock runs: S0, S1 and S2 (Table 12.4). -/
def timeOn (s : State) : Bool := arrayOn s && !s.pwr.inReset

/-- 2^80: the range of an extended time in 2^-32 ns. -/
def extMod : Nat := 2 ^ 80

/-- One second in 2^-32 ns. -/
def oneSecond : Int := 1000000000 * 2 ^ 32

/-! ### Counters and eras (R337, R338, R542) -/

/-- ERA_LOST of a wrap whose tick is over with no write of ERA in it (R338). -/
def settleLost (k : Bool) (s : State) : State :=
  if (s.dom k).lostDue then
    raiseFault 3 0 (domNo k) true false (((s.hit 3 4 10).modDom k (fun d => { d with lostDue := false })).modTime (fun t => { t with
      eraLost := true }))
  else s

/-- NS of a domain wraps at model time `at_`: WRAP_PEND and EV_TIME_WRAP; ERA_LOST is due where WRAP_PEND was still 1 and ERA
has not been written in the same tick (R338). -/
def nsWrapped (k : Bool) (at_ : Nat) (s0 : State) : State :=
  let s := if (s0.dom k).wrapAt = some at_ then s0 else settleLost k s0
  queueEvent 0x0301 0 [put 0 (domNo k)] (s.modDom k (fun d => { d with
    wrapPend := true, wrapAt := some at_, lostDue := d.wrapPend && d.eraAt != some at_ }))

/-- Ticks from now to the `j`-th next wrap of a domain's NS. -/
def wrapTicks (d : Domain) (j : Nat) : Nat :=
  (j * 2 ^ 64 - (d.ns.toNat * 2 ^ 32 + d.frac.toNat) + d.inc.toNat - 1) / d.inc.toNat

/-- The time that `n` ticks of the TIME clock last, in ticks of 4 ns: in a coast the clock runs at 20 % to 30 % of nominal, a
free value in that range (R410, R413). -/
def span (n : Nat) (s : State) : Nat :=
  if s.clk.coast then n * (10 + (Config.freeWord s.freeCtr).toNat % 6) / 3 else n

/-- A domain's counter advances by `n` ticks of INC (R337); WRAP_PEND and its event come at each wrap, in its own tick
(R338). -/
def advanceDom (k : Bool) (n : Nat) (s : State) : State :=
  let d := s.dom k
  let v := d.ns.toNat * 2 ^ 32 + d.frac.toNat + n * d.inc.toNat
  let s1 := s.modDom k (fun d => { d with ns := BitVec.ofNat 32 (v / 2 ^ 32), frac := BitVec.ofNat 32 v })
  (List.range (v / 2 ^ 64)).foldl (fun s1 j => nsWrapped k (s.ticks + span (wrapTicks d (j + 1)) s) s1) s1

/-- WK_OFS after `n` ticks (R347). -/
def slewOfs (n : Nat) (o : Int) : Int := toward o 0 (n * 1717986)

/-- `n` ticks of a pulse output: how far working time has run since its rise, steps apart (R353). -/
def runPulse (n : Nat) (s : State) (p : Pulse) : Pulse :=
  { p with high := p.high + (n * (selDomain s).inc.toNat : Nat) + (slewOfs n s.time.wkOfs - s.time.wkOfs) }

/-- `n` ticks of the TIME clock: both counters, WK_OFS towards 0 and the pulse outputs (R337, R347, R353); CODE follows the
PWM period (R93). The model's elapsed time always moves. -/
def advance (n : Nat) (s : State) : State :=
  let s1 :=
    if timeOn s then
      (advanceDom true n (advanceDom false n s)).modTime (fun t => { t with
        wkOfs := slewOfs n t.wkOfs, p0 := runPulse n s t.p0, p1 := runPulse n s t.p1 })
    else s
  takeCode { s1 with ticks := s.ticks + span n s, freeCtr := s.freeCtr + if s.clk.coast then 1 else 0 }

/-- A tick is over: its ERA_LOST is due (R338). -/
def endTick (s : State) : State := settleLost true (settleLost false s)

/-- `n` ticks, of which the last begins a new clock (R12, R70). -/
def tick (n : Nat) (s : State) : State :=
  match n with
  | 0 => s
  | m + 1 => advance 1 (newClock (endTick (advance m (endTick s))))

/-- Ticks until NS of a domain wraps. -/
def ticksToWrap (d : Domain) : Nat := wrapTicks d 1

/-- NS_WRAP: the ticks that end in the wrap of a domain's NS (R338). -/
def execNsWrap (d1 : Bool) (s : State) : Host.Outcome State Fault Refusal :=
  done (if timeOn s then tick (ticksToWrap (s.dom d1)) s else s)

/-! ### The working clock (R347, R348) -/

/-- A difference of extended times as a signed number. -/
def extDiff (a b : Int) : Int :=
  let d := (a - b) % (extMod : Int)
  if d < 2 ^ 79 then d else d - extMod

/-- WK_SYNC becomes 1 when the selected domain is LOCKED (R348). -/
def noteSync (s : State) : State :=
  if (selDomain s).dstate = .locked then s.modTime (fun t => { t with wkSync := true }) else s

/-- A step of the selected domain from `before` is absorbed into WK_OFS, or W follows it (R348). -/
def absorbStep (k : Bool) (before : Nat) (s : State) : State :=
  if s.time.selAct != k then s
  else if !s.time.wkSync then s.modTime (fun t => { t with wkOfs := 0 })
  else
    let o := s.time.wkOfs + extDiff before (extFrac (selDomain s))
    if oneSecond < o.natAbs then
      raiseFault 3 3 (domNo k) true false (s.modTime (fun t => { t with wkOfs := 0 }))
    else s.modTime (fun t => { t with wkOfs := o })

/-- A step of a domain's extended time by `delta` in 2^-32 ns. A forward crossing of the wrap of NS counts as a wrap; a
backward one clears WRAP_PEND, or else writes ERA - 1. A step of more than one period of NS moves ERA by the further
periods (R542, assumption 41). -/
def stepDomain (k : Bool) (delta : Int) (s : State) : State :=
  let d := s.dom k
  let before := extFrac d
  let v : Int := (d.ns.toNat * 2 ^ 32 + d.frac.toNat : Nat) + delta
  let n := v / 2 ^ 64
  let low := (v % 2 ^ 64).toNat
  let s1 := s.modDom k (fun d => { d with ns := BitVec.ofNat 32 (low / 2 ^ 32), frac := BitVec.ofNat 32 low, acc := 0 })
  let s2 :=
    if 0 < n then nsWrapped k s.ticks (s1.modDom k (fun d => { d with era := BitVec.ofInt 16 (d.era.toNat + (n - 1)) }))
    else if n < 0 then
      s1.modDom k (fun d =>
        if d.wrapPend then { d with wrapPend := false, era := BitVec.ofInt 16 (d.era.toNat + (n + 1)) }
        else { d with era := BitVec.ofInt 16 (d.era.toNat + n) })
    else s1
  absorbStep k before s2

/-- A step moves a domain that is not UNSYNC to ACQUIRE (Table 12.3, R346). -/
def stepState (k : Bool) (s : State) : State :=
  s.modDom k (fun d => { d with dstate := if d.dstate = .unsync then .unsync else .acquire })

/-- A write of ERA: WRAP_PEND is cleared, except by a write in the tick of the wrap, which also averts ERA_LOST (R338). Where
it moves the extended time of the selected domain, the change is absorbed (R348). -/
def writeEra (k : Bool) (v : BitVec 16) (s : State) : State :=
  let before := extFrac (s.dom k)
  let s1 := s.modDom k (fun d => { d with
    era := v, eraAt := some s.ticks, lostDue := false, wrapPend := d.wrapPend && d.wrapAt == some s.ticks })
  if extFrac (s1.dom k) = before then s1 else absorbStep k before s1

/-- ERA_WRITE (R338). -/
def execEraWrite (src : RegSrc) (d1 : Bool) (v : Word) (s : State) : Host.Outcome State Fault Refusal :=
  done (writeRow 3 src (fun s => (writeEra d1 (v.setWidth 16) s, stOk)) s)

/-! ### Selection of the domain (R349) -/

/-- SEL -/
def selCode (s : State) : Nat := bits s.time.ctrl 0 2

/-- The domain that SEL asks for: D1 if true. -/
def wantedDomain (s : State) : Bool :=
  match selCode s with
  | 0 => false
  | 1 => true
  | _ => if s.time.d0.dstate = .locked then false else if s.time.d1.dstate = .locked then true else s.time.selAct

/-- The selection at a compose point, step 4 of R36 (R348, R349). -/
def selectDomain (s : State) : State :=
  let k := wantedDomain s
  if k = s.time.selAct then noteSync (s.modTime (fun t => { t with disagreed := false }))
  else
    let gap := extDiff (workFrac s) (extFrac (s.dom k))
    if oneSecond < gap.natAbs then
      if s.time.disagreed then s
      else raiseFault 3 2 (domNo k) true false (s.modTime (fun t => { t with disagreed := true }))
    else
      noteSync (s.modTime (fun t => { t with selAct := k, disagreed := false, wkOfs := if t.wkSync then gap else 0 }))

/-! ### TIME packets (R339 to R342) -/

/-- The number of a port. -/
def hportNo : HPort → Nat
  | .p0 => 0
  | .p1 => 1

/-- D1_PORT -/
def d1Port (s : State) : HPort := if bit s.time.ctrl 4 then .p1 else .p0

/-- Port `p` serves domain `k`: it is the domain's port, facing a head-end or a leader (R339, R341). -/
def portServes (p : HPort) (k : Bool) (s : State) : Bool :=
  (if k then d1Port s == p else p == .p0) && ((s.hport p).role == .headEnd || (s.hport p).role == .follower)

/-- 2^56: the range of a timestamp in 1/256 ns. -/
def stampMod : Nat := 2 ^ 56

/-- The counter that stamps of domain `k` on port `p` use, in 1/256 ns (R341). -/
def stampBase (p : HPort) (k : Bool) (s : State) : Nat :=
  (if portServes p k s then extFrac (s.dom k) else workFrac s) / 2 ^ 24

/-- The receive stamp of a packet whose core header is detected now (R341). -/
def rxStamp (p : HPort) (k : Bool) (s : State) : Int :=
  ((stampBase p k s : Int) - (s.time.rxLat.getD (hportNo p) 0).toNat) % stampMod

/-- The transmit stamp of a packet whose core header enters the serialiser now (R341). -/
def txStamp (p : HPort) (k : Bool) (s : State) : Int :=
  ((stampBase p k s : Int) + (s.time.txLat.getD (hportNo p) 0).toNat) % stampMod

/-- A difference of timestamps as a signed number. -/
def stampDiff (a b : Int) : Int :=
  let d := (a - b) % (stampMod : Int)
  if d < 2 ^ 55 then d else d - stampMod

/-- A timestamp as two words (R340). -/
def stampWords (v : Int) : List Word :=
  let n := (v % stampMod).toNat
  [put 0 (n / 256), put 16 (n / 2 ^ 40) ||| put 0 (n % 256)]

/-- The timestamp in two words (R340). -/
def wordsStamp (w0 w1 : Word) : Int := ((bits w1 16 16 * 2 ^ 32 + w0.toNat) * 256 + bits w1 0 8 : Nat)

/-- MSG of a TIME packet. -/
def Packet.msg (k : Packet) : Nat := bits k.hw1 28 4
/-- DOMAIN of a TIME packet. -/
def Packet.domain (k : Packet) : Bool := bit k.hw1 24
/-- MSEQ of a TIME packet. -/
def Packet.mseq (k : Packet) : BitVec 16 := k.hw1.setWidth 16

/-- Header word 1 of a TIME packet (R340). -/
def timeHw1 (msg : Nat) (k : Bool) (mseq : BitVec 16) : Word := put 28 msg ||| putb 24 k ||| put 0 mseq.toNat

/-- A TIME packet to be sent on channel 14 (R340). -/
def timePacket (msg : Nat) (k : Bool) (mseq : BitVec 16) (ws : List Word) : Packet :=
  { ptype := .time, ch := 14, hw1 := timeHw1 msg k mseq, payload := ws }

/-- Payload words of a message (Table 12.1). -/
def msgLen (msg : Nat) : Nat :=
  match msg with
  | 0 => 3
  | 1 => 0
  | 2 => 4
  | _ => 3

/-- A received TIME packet is one that its port and domain use (R339, R340, Table 12.1): a leader's H1 takes
PDELAY_REQ, a follower's H0 FLIP_NOTICE. Only an ACTIVE port receives one. -/
def timePacketOk (p : HPort) (k : Packet) (s : State) : Bool :=
  k.msg ≤ 3 && k.payload.length == msgLen k.msg &&
  (if k.msg = 3 then p == .p0 && s.h0.role == .follower && !k.domain
   else portServes p k.domain s || (k.msg == 1 && p == .p1 && s.h1.role == .leader))

/-- A TIME packet is discarded and counted (R339, R340). -/
def timeBad (s : State) : State := (s.hit 3 0x18 16).modTime (fun t => { t with timeBadCnt := satInc 16 t.timeBadCnt })

/-- The oldest received packet of a port that satisfies `f`, and the state without it. -/
def takeRx (p : HPort) (f : Packet → Bool) (s : State) : Option (Packet × State) :=
  match (s.hport p).rxq.find? f with
  | none => none
  | some k => some (k, s.modPort p (fun h => { h with rxq := dropFirst f h.rxq }))

/-- The packet is a TIME message `m`. -/
def isTime (m : Nat) (k : Packet) : Bool := k.ptype == .time && k.msg == m

/-- A TIME packet of message `m` is taken and acted on, while the TIME clock runs (Table 12.4). -/
def onTime (p : HPort) (m : Nat) (f : Packet → State → State) (s : State) : State :=
  if timeOn s then
    match takeRx p (isTime m) s with
    | none => s
    | some (k, s1) => f k s1
  else s

/-- The TIME packets that wait on the ports are dropped (Table 12.4). -/
def dropTime (s : State) : State :=
  let f (h : Port) : Port := { h with rxq := h.rxq.filter (fun k => k.ptype != .time), times := [] }
  { s with h0 := f s.h0, h1 := f s.h1 }

/-- A packet queued among the TIME packets of a port. -/
def sendTime (p : HPort) (k : Packet) (s : State) : State := s.modPort p (fun h => { h with times := h.times ++ [k] })

/-- What departure makes of a TIME packet: the origin of a SYNC or t3 of a PDELAY_RESP is inserted, and t1 of a
PDELAY_REQ is kept (R341, R342). -/
def departTime (p : HPort) (k : Packet) (s : State) : State × Packet :=
  let t := txStamp p k.domain s
  if k.msg = 0 then (s, { k with payload := stampWords t ++ k.payload.drop 2 })
  else if k.msg = 2 then (s, { k with payload := k.payload.take 2 ++ stampWords t })
  else if k.msg = 1 then (s.modDom k.domain (fun d => { d with pdSeq := some k.mseq, pdT1 := t, pdAt := s.ticks }), k)
  else (s, k)

/-- PDELAY_REQ_RECEIVE: answered on the same port (R340, Table 12.1). -/
def execPdelayReqReceive (p : HPort) (s : State) : Host.Outcome State Fault Refusal :=
  done (onTime p 1 (fun k s => sendTime p (timePacket 2 k.domain k.mseq (stampWords k.stamp ++ [0, 0])) s) s)

/-- PDELAY_REQ_SEND: a request for each domain that an ACTIVE port serves (R340, Table 12.1). -/
def execPdelayReqSend (p : HPort) (s : State) : Host.Outcome State Fault Refusal :=
  done (if (s.hport p).state == .active && timeOn s then
    [false, true].foldl (fun s k =>
      if portServes p k s then
        (sendTime p (timePacket 1 k (s.hport p).pdNext []) s).modPort p (fun h => { h with pdNext := h.pdNext + 1 })
      else s) s
  else s)

/-- The mean path delay from a matching response within 10 ms (R342). -/
def takeResp (k : Packet) (s : State) : State :=
  let d := s.dom k.domain
  if d.pdSeq == some k.mseq && s.ticks ≤ d.pdAt + 2500000 then
    let g (i : Nat) := k.payload.getD i 0
    let t2 := wordsStamp (g 0) (g 1)
    let t3 := wordsStamp (g 2) (g 3)
    let mpd := (stampDiff k.stamp d.pdT1 - stampDiff t3 t2 + 1) / 2
    s.modDom k.domain (fun d => { d with mpd := mpd, mpdValid := true, pdSeq := none })
  else s

/-- PDELAY_RESP_RECEIVE (R342). -/
def execPdelayRespReceive (p : HPort) (s : State) : Host.Outcome State Fault Refusal := done (onTime p 2 takeResp s)

/-- LEADER_SYNC_SEND: a SYNC for D0 with working time as origin, inserted at departure (R352). -/
def execLeaderSyncSend (s : State) : Host.Outcome State Fault Refusal :=
  done (if s.h1.role == .leader && s.h1.state == .active && timeOn s then
    (sendTime .p1 (timePacket 0 false s.time.syncSeq [0, 0, 0]) s).modTime (fun t => { t with syncSeq := t.syncSeq + 1 })
  else s)

/-! ### Offset and servo (R343 to R345) -/

/-- The servo of a domain is software (R346, R358). -/
def softServo (k : Bool) (s : State) : Bool := s.compat || bit s.time.ctrl (if k then 9 else 8)

/-- LOCK_NS in 1/256 ns. -/
def lockLimit (s : State) : Nat := bits s.time.syncCfg 0 16 * 256

/-- A number clamped to `-m..m`. -/
def clampAbs (m : Nat) (v : Int) : Int := max (-m) (min m v)

/-- One pass of the PI loop (R345). -/
def piLoop (offset : Int) (d : Domain) : Domain :=
  let acc := clampAbs (2 ^ 40) (d.acc + offset)
  let adj := offset * 2 ^ 24 / 2 ^ d.kp.toNat + acc * 2 ^ 24 / 2 ^ d.ki.toNat
  { d with acc := acc, inc := BitVec.ofInt 36 (4 * 2 ^ 32 - clampAbs 3435973 adj) }

/-- The state and lock count of a domain after a used SYNC (Table 12.3, R344). -/
def nextDState (near far : Bool) (d : Domain) : Domain :=
  match d.dstate with
  | .unsync => { d with dstate := .acquire, lockCnt := 0 }
  | .acquire =>
    if near && !far then
      if 8 ≤ d.lockCnt + 1 then { d with dstate := .locked, lockCnt := 0 } else { d with lockCnt := d.lockCnt + 1 }
    else { d with lockCnt := 0 }
  | .locked => if far then { d with dstate := .acquire } else d
  | .holdover => if near then { d with dstate := .locked } else { d with dstate := .acquire }

/-- A used SYNC with its offset: states, and with a hardware servo the step or the PI loop (R344, R345). -/
def useSync (k : Bool) (offset : Int) (s : State) : State :=
  let near := decide (offset.natAbs ≤ lockLimit s)
  let far := decide (256000000 < offset.natAbs)
  let was := (s.dom k).dstate
  let s1 := s.modDom k (fun d => nextDState near far { d with syncAt := some s.ticks })
  let entered := was != .acquire && (s1.dom k).dstate == .acquire
  let s2 :=
    if softServo k s1 then s1
    else if entered || far then stepDomain k (-(offset * 2 ^ 24)) s1
    else s1.modDom k (piLoop offset)
  noteSync s2

/-- A SYNC: counted, and used where the path delay is known (R343). -/
def takeSync (p : HPort) (k : Packet) (s : State) : State :=
  let d := s.dom k.domain
  let s1 := s.modDom k.domain (fun d => { d with syncRx := satInc 32 d.syncRx })
  if d.mpdValid then
    let g (i : Nat) := k.payload.getD i 0
    let asym := signed 32 (s.time.asym.getD (hportNo p) 0).toNat
    let offset := stampDiff k.stamp (wordsStamp (g 0) (g 1) + signed 32 (g 2).toNat + d.mpd + asym)
    useSync k.domain offset (s1.modDom k.domain (fun d => { d with offset := max (-(2 ^ 31)) (min (2 ^ 31 - 1) offset) }))
  else s1

/-- SYNC_RECEIVE (R343 to R345, R348). -/
def execSyncReceive (p : HPort) (s : State) : Host.Outcome State Fault Refusal := done (onTime p 0 (takeSync p) s)

/-- SYNC_TO milliseconds have gone since the last used SYNC of a domain, and none that could be used has arrived
(R16, R344). -/
def syncDue (k : Bool) (s : State) : Bool :=
  let d := s.dom k
  let waits (h : Port) : Bool := h.rxq.any (fun x => isTime 0 x && x.domain == k)
  (match d.syncAt with
   | some t => decide (t + bits s.time.syncCfg 16 16 * 250000 ≤ s.ticks)
   | none => true) && !(d.mpdValid && (waits s.h0 || waits s.h1))

/-- SYNC_TIMEOUT: a LOCKED domain enters HOLDOVER and SYNC_LOST is raised (R344). -/
def execSyncTimeout (d1 : Bool) (s : State) : Host.Outcome State Fault Refusal :=
  done (if timeOn s && (s.dom d1).dstate == .locked && syncDue d1 s then
    raiseFault 3 1 (domNo d1) true false (s.modDom d1 (fun d => { d with dstate := .holdover }))
  else s)

/-! ### Time commands (R346, R353, R355, Table 11.8) -/

/-- The TIME block is on for a command (R314, R324). -/
def timeOp (f : State → State × OpRes) (s : State) : State × OpRes :=
  if blockOff 3 s then endWith stBlockOff s else f s

/-- TIME_SET (0x50) (R346, R348, R358). -/
def opTimeSet : OpFn := fun _ ws => timeOp fun s =>
  let w0 := ws.getD 0 0
  let w3 := ws.getD 3 0
  let k := bit w0 0
  if !within w0 1 || !within w3 0xFFFF then endWith stBadParam s
  else if !softServo k s then endWith stBadState s
  else
    let before := extFrac (s.dom k)
    let s1 := s.modDom k (fun d => { d with
      ns := ws.getD 1 0, frac := ws.getD 2 0, era := w3.setWidth 16, wrapPend := false, acc := 0 })
    let s2 := absorbStep k before (stepState k s1)
    endWith stOk (if s2.compat && s2.time.selAct == k then s2.modTime (fun t => { t with wkSync := true }) else s2)

/-- A time command: on a command port, or, in plain compatibility mode, where no port takes commands, issued by the Rigger
service core, which gets the status (R358). -/
def submitTime (op : OpFn) (code : Nat) (c : CmdCtx) (ws : List Word) (s : State) : State :=
  if s.mode.ifMode = .compat then
    if srcOn .service s then
      match op c ws s with
      | (s1, .fin st _) => { s1 with lastStatus := st }
      | (s1, .started) => s1
    else s
  else submit op code c ws s

/-- TIME_SET (R346, R358). -/
def execTimeSet (c : CmdCtx) (ws : List Word) (s : State) : Host.Outcome State Fault Refusal :=
  done (submitTime opTimeSet 0x50 c ws s)

/-- INC lies within 4.0 ns ± 500 ppm (R346). -/
def incOk (inc : Nat) : Bool := distance inc (4 * 2 ^ 32) * 1000000 ≤ 500 * (4 * 2 ^ 32)

/-- TIME_ADJUST (0x51): OFFSET and INC (R346). -/
def opTimeAdjust : OpFn := fun _ ws => timeOp fun s =>
  let w0 := ws.getD 0 0
  let k := bit w0 0
  let inc := (ws.getD 1 0).toNat * 2 ^ 32 + (ws.getD 2 0).toNat
  if !within w0 0x301 || 2 ≤ bits w0 8 2 || (bits w0 8 2 == 0 && ws.getD 2 0 != 0) then endWith stBadParam s
  else if !softServo k s then endWith stBadState s
  else if bits w0 8 2 = 0 then
    endWith stOk (stepState k (stepDomain k (signed 32 (ws.getD 1 0).toNat * 2 ^ 32) s))
  else if incOk inc then endWith stOk (s.modDom k (fun d => { d with inc := BitVec.ofNat 36 inc }))
  else endWith stBadParam s

/-- TIME_ADJUST_OFFSET (R346, R358, R542). -/
def execTimeAdjustOffset (c : CmdCtx) (ws : List Word) (s : State) : Host.Outcome State Fault Refusal :=
  done (submitTime opTimeAdjust 0x51 c (stamp 8 2 0 ws) s)

/-- TIME_ADJUST_INC (R346, R358). -/
def execTimeAdjustInc (c : CmdCtx) (ws : List Word) (s : State) : Host.Outcome State Fault Refusal :=
  done (submitTime opTimeAdjust 0x51 c (stamp 8 2 1 ws) s)

/-- A 48-bit time from its words. -/
def time48 (ns era : Word) : BitVec 48 := BitVec.ofNat 48 (bits era 0 16 * 2 ^ 32 + ns.toNat)

/-- The distance of a 48-bit time after working time, signed; 2^47 ns is ahead (R353, R355). -/
def ahead (t : Nat) (s : State) : Int :=
  let d : Nat := (t + 2 ^ 48 - workNs s) % 2 ^ 48
  if d ≤ 2 ^ 47 then (d : Int) else (d : Int) - 2 ^ 48

/-- Pulse output `o`. -/
def State.pulse (s : State) (o : Bool) : Pulse := if o then s.time.p1 else s.time.p0

/-- The state with a pulse output changed. -/
def State.modPulse (s : State) (o : Bool) (f : Pulse → Pulse) : State :=
  s.modTime (fun t => if o then { t with p1 := f t.p1 } else { t with p0 := f t.p0 })

/-- The settings of R353 are refused: START is not later than W, or by more than 2^47 ns. -/
def pulseBad (mode : Nat) (start : BitVec 48) (period width : Nat) (s : State) : Bool :=
  ahead start.toNat s ≤ 0 || width < 8 || (mode == 2 && (period < 100 || period < width + 8))

/-- PULSE_SET (0x52). A setting that arrives while the output is high waits for the falling edge; off acts at once
(R353). -/
def opPulseSet : OpFn := fun _ ws => timeOp fun s =>
  let w0 := ws.getD 0 0
  let o := bit w0 0
  let mode := bits w0 8 2
  let start := time48 (ws.getD 1 0) (ws.getD 2 0)
  let period := ws.getD 3 0
  let width := ws.getD 4 0
  if !within w0 0x301 || mode == 3 || !within (ws.getD 2 0) 0xFFFF then endWith stBadParam s
  else if mode = 0 then
    endWith stOk (s.modPulse o (fun _ => { start := start, period := period, width := width }))
  else if pulseBad mode start period.toNat width.toNat s then endWith stBadParam s
  else if (s.pulse o).level then endWith stOk (s.modPulse o (fun p => { p with waiting := some (mode, start, period, width) }))
  else endWith stOk (s.modPulse o (fun _ => { mode := mode, start := start, period := period, width := width }))

/-- PULSE_SET_ONE_SHOT (R353). -/
def execPulseSetOneShot (c : CmdCtx) (ws : List Word) (s : State) : Host.Outcome State Fault Refusal :=
  done (submit opPulseSet 0x52 c (stamp 8 2 1 ws) s)

/-- PULSE_SET_PERIODIC (R353). -/
def execPulseSetPeriodic (c : CmdCtx) (ws : List Word) (s : State) : Host.Outcome State Fault Refusal :=
  done (submit opPulseSet 0x52 c (stamp 8 2 2 ws) s)

/-- PULSE_SET_OFF (R353). -/
def execPulseSetOff (c : CmdCtx) (ws : List Word) (s : State) : Host.Outcome State Fault Refusal :=
  done (submit opPulseSet 0x52 c (stamp 8 2 0 ws) s)

/-- The scheduled rise of the next pulse (R353). -/
def riseAt (p : Pulse) : Nat := p.start.toNat + p.k * p.period.toNat

/-- TPULSE_RISE: the next scheduled rise, once working time has reached it (R353). -/
def execTpulseRise (out1 : Bool) (s : State) : Host.Outcome State Fault Refusal :=
  done (
    let p := s.pulse out1
    if timeOn s && !p.level && (p.mode == 2 || (p.mode == 1 && p.k == 0)) && ahead (riseAt p) s ≤ 0 then
      s.modPulse out1 (fun p => { p with level := true, high := 0 })
    else s)

/-- TPULSE_FALL: WIDTH_NS after the rise; a one-shot queues EV_TPULSE_DONE, and a waiting setting takes effect (R353). -/
def execTpulseFall (out1 : Bool) (s : State) : Host.Outcome State Fault Refusal :=
  done (
    let p := s.pulse out1
    if timeOn s && p.level && (p.width.toNat : Int) * 2 ^ 32 ≤ p.high then
      let s1 := s.modPulse out1 (fun p =>
        match p.waiting with
        | some (m, st, pe, w) => { mode := m, start := st, period := pe, width := w }
        | none => { p with level := false, k := p.k + 1 })
      if p.mode = 1 then queueEvent 0x0303 0 [put 0 (domNo out1)] s1 else s1
    else s)

/-- TCAPT_EDGE: a capture of working time, or a missed edge within 1 µs of the last captured one (R354). -/
def execTcaptEdge (s : State) : Host.Outcome State Fault Refusal :=
  done (if timeOn s && bit s.time.ctrl 17 then
    let w := workNs s
    let soon := match s.time.tcaptLast with | none => false | some l => decide (s.ticks < l + 250)
    if soon then (s.hit 3 0x18 8).modTime (fun t => { t with tcaptMiss := satInc 8 t.tcaptMiss })
    else
      queueEvent 0x0302 0 [put 0 w, put 0 (w / 2 ^ 32)]
        (s.modTime (fun t => { t with tcapt := BitVec.ofNat 48 w, tcaptLast := some s.ticks }))
  else s)

/-! ### Frame timing in working time (R47, R50, R350, R352, R355) -/

/-- N_f in effect (R47, R67). -/
def nfNow (s : State) : Nat := if s.compat then 1 else s.scan.nfAct.toNat + 1

/-- LEAD in effect, limited to N_f (R50). -/
def leadNow (s : State) : Nat := if s.compat then 1 else min (s.scan.leadAct.toNat + 1) (nfNow s)

/-- P3, the stroke period in 1/3 ns (R350). -/
def p3 (s : State) : Nat :=
  match rateNow s with
  | 0 => 6250000
  | 1 => 3125000
  | 2 => 1562500
  | _ => 12500000

/-- The strokes of a gapless stretch before a forced full gap (R64). -/
def deferLimit : Nat := 2048

/-- The `n`-th stroke after the present one is gapless, unless a switch test or dark probe asks for a full gap: gapless is in
effect, and it is not the stroke that R64 forces (R63, R64). -/
def gaplessIn (n : Nat) (s : State) : Bool :=
  let c := s.scan
  let d := if c.inGap then c.deferCnt else if c.strokeGapless then c.deferCnt + 1 else 0
  c.gaplessAct && !gaplessOff s.bstay.beam s.bstay.cls s && d + n - 1 != deferLimit

/-- The gap start of the `n`-th stroke after the present one, in 1/3 ns of working time, at nominal lengths (R42, R43). -/
def gapIn (n : Nat) (s : State) : Nat :=
  3 * s.scan.strokeAt + s.scan.strokeP3 + (n - 1) * p3 s + 10 * activePart (rateNow s) (gaplessIn n s)

/-- The next flip instant in 1/3 ns of working time: the one that a FLIP_NOTICE has named (R352), or the gap start of the
frame's last stroke at nominal lengths (R42, R43, R47). -/
def nextFlip3 (s : State) : Nat :=
  match s.time.notice with
  | some (t, _) => 3 * t.toNat
  | none =>
    if nfNow s ≤ s.scan.strokeInFrame then 3 * s.scan.strokeAt + 10 * activePart (rateNow s) s.scan.strokeGapless
    else gapIn (nfNow s - s.scan.strokeInFrame) s

/-- The compose point of the frame that ends at the next flip instant has passed (R50). -/
def composePassed (s : State) : Bool :=
  let at_ := nfNow s - leadNow s
  at_ < s.scan.strokeInFrame || (s.scan.strokeInFrame == at_ && s.scan.inGap)

/-- The distance of a 48-bit time after an instant in 1/3 ns, in 1/3 ns and signed. -/
def after3 (t i3 : Nat) : Int :=
  let m : Int := 3 * 2 ^ 48
  let d := ((3 * t : Nat) - (i3 : Int)) % m
  if d < m / 2 then d else d - m

/-- FLIP_AT (0x53) (R355). -/
def opFlipAt : OpFn := fun _ ws => timeOp fun s =>
  let w1 := ws.getD 1 0
  let t := time48 (ws.getD 0 0) w1
  if !within w1 0xFFFF || 2 ^ 32 < ahead t.toNat s then endWith stBadParam s
  else if !s.time.wkSync || after3 t.toNat s.scan.lastFlip3 ≤ 0 || (composePassed s && after3 t.toNat (nextFlip3 s) ≤ 0) then
    endWith stBadState s
  else endWith stOk (s.modTime (fun x => { x with flipAt := t, flipAtPend := true }))

/-- FLIP_AT (R355). -/
def execFlipAt (c : CmdCtx) (ws : List Word) (s : State) : Host.Outcome State Fault Refusal :=
  done (submit opFlipAt 0x53 c ws s)

/-- The flip instant of the frame composed at a compose point made now, in 1/3 ns of working time: the one that a FLIP_NOTICE
has named, or the gap start LEAD strokes on (R50, R352). -/
def composedFlip3 (s : State) : Nat :=
  match s.time.notice with
  | some (t, _) => 3 * t.toNat
  | none => gapIn (leadNow s) s

/-- The release of FLIP_AT at its compose point: as FLIP with mask 0xFF (R161, R355). -/
def releaseFlipAt (s : State) : State :=
  if s.time.flipAtPend && decide (after3 s.time.flipAt.toNat (composedFlip3 s) ≤ 0) then
    releaseMask 0xFF (s.modTime (fun t => { t with flipAtPend := false }))
  else s

/-- A leader's FLIP_NOTICE at a compose point (R352). -/
def sendNotice (s : State) : State :=
  if s.h1.role == .leader && s.h1.state == .active then
    let t : Int := composedFlip3 s * 256 / 3
    (sendTime .p1 (timePacket 3 false s.time.noticeSeq (stampWords t ++ [put 0 s.scan.frameCnt.toNat])) s).modTime
      (fun x => { x with noticeSeq := x.noticeSeq + 1 })
  else s

/-- A FLIP_NOTICE: a named instant within 1 µs of a flip instant of the follower changes nothing; another becomes its next
flip instant, with FLIP_ALIGN; a late one is counted (R352). -/
def takeNotice (k : Packet) (s : State) : State :=
  let t := (wordsStamp (k.payload.getD 0 0) (k.payload.getD 1 0) / 256).toNat
  let frame := (nfNow s * p3 s : Nat)
  let x := (after3 t (nextFlip3 s)) % (frame : Int)
  if ahead t s < 0 then (s.hit 3 0x18 0).modTime (fun y => { y with noticeLateCnt := satInc 8 y.noticeLateCnt })
  else if x ≤ 3000 ∨ (frame : Int) - 3000 ≤ x then s
  else
    raiseFault 3 5 0 true false (s.modTime (fun y => { y with
      notice := some (BitVec.ofNat 48 t, (k.payload.getD 2 0).setWidth 24) }))

/-- FLIP_NOTICE_RECEIVE (R352). -/
def execFlipNoticeReceive (p : HPort) (s : State) : Host.Outcome State Fault Refusal :=
  done (onTime p 3 takeNotice s)

/-! ### Stroke phase (R350, R351, R413) -/

/-- The signed distance of working time from the nearest lattice point in whole nanoseconds, positive when late; thirds
are dropped towards 0 (R350, assumption 42). -/
def phaseError (s : State) : Int :=
  let p : Int := p3 s
  let x := (3 * (workNs s : Int) - s.time.phase.toNat) % p
  let x := if p < 2 * x then x - p else x
  if x < 0 then -(-x / 3) else x / 3

/-- The time that a slip inserts, to the next lattice point, for a phase error `e` in ns (R351). -/
def slipTime (e : Int) (s : State) : Nat := if 0 < e then p3 s / 3 - e.natAbs else e.natAbs

/-- The phase step of a stroke start (R350, R351). -/
def phaseStep (s : State) : State :=
  if bit s.time.ctrl 16 then
    let e := phaseError s
    let a := e.natAbs
    let slip := decide (10000 < a)
    let good := if a ≤ 50 then s.time.phaseGood + 1 else 0
    let n : Int := if slip then 0 else (min 32 ((3 * a + 5) / 10) : Nat)
    let s1 := (s.hitIf slip 3 0x14 16).modTime (fun t => { t with
      phaseErr := max (-32768) (min 32767 e), phaseGood := min 16 good
      slipCnt := if slip then satInc 16 t.slipCnt else t.slipCnt })
    let s2 := { s1 with scan := { s1.scan with
      gapTrim := if 0 < e then -n else n
      slipNs := if slip then slipTime e s else 0
      phaseLock := !s.clk.onFb && !slip && a ≤ 200 && (s.scan.phaseLock || 16 ≤ good) } }
    if slip then raiseFault 3 4 0 true false s2 else s2
  else { s.modTime (fun t => { t with phaseGood := 0 }) with
    scan := { s.scan with phaseLock := false, gapTrim := 0, slipNs := 0 } }

/-! ### The TIME window (R356, R358, R359, Tables 12.5 to 12.9) -/

/-- Codes of the domain states (Table 12.3). -/
def dstateNo : DState → Nat
  | .unsync => 0 | .acquire => 1 | .locked => 2 | .holdover => 3

/-- A read of a domain's registers; a read of NS takes the snapshot (R356). -/
def domRead (k : Bool) (o : Nat) (s : State) : State × Word :=
  let d := s.dom k
  match o with
  | 0x00 => (s.modDom k (fun d => { d with fracSnap := d.frac, eraSnap := BitVec.ofNat 16 (eraEff d) }), d.ns)
  | 0x04 => (s, d.fracSnap)
  | 0x08 => (s, put 16 d.eraSnap.toNat ||| put 0 d.era.toNat)
  | 0x0C => (s, put 0 (d.inc.toNat / 2 ^ 32))
  | 0x10 => (s, put 0 d.inc.toNat)
  | 0x14 => (s, put 0 (unsigned 32 d.offset))
  | 0x18 => (s, putb 31 d.mpdValid ||| put 0 (unsigned 31 d.mpd))
  | 0x1C => (s, put 8 d.ki.toNat ||| put 0 d.kp.toNat)
  | 0x20 => (s, d.epoch)
  | 0x24 => (s, put 0 d.syncRx)
  | _ => (s, 0)

/-- TIME_CTRL as it reads: in the compatibility modes both servos are software (R358). -/
def timeCtrlRead (s : State) : Word := if s.compat then s.time.ctrl ||| 0x300 else s.time.ctrl

/-- A read of WK_NS takes the snapshot of the working clock (R356). -/
def wkNsRead (s : State) : State × Word :=
  (s.modTime (fun t => { t with wkFracSnap := BitVec.ofNat 32 (workFrac s), wkEraSnap := BitVec.ofNat 16 (wkEra s) }), ns32 s)

/-- A read of a pulse output's registers (Table 12.9). -/
def pulseRead (p : Pulse) (o : Nat) : Word :=
  match o with
  | 0x00 => putb 8 p.level ||| put 0 p.mode
  | 0x04 => put 0 p.start.toNat
  | 0x08 => put 0 (p.start.toNat / 2 ^ 32)
  | 0x0C => p.period
  | 0x10 => p.width
  | _ => 0

/-- A read of the TIME window. -/
def timeRead (off : Nat) (s : State) : State × Word :=
  let t := s.time
  if off = 0x0000 then (s, timeCtrlRead s)
  else if off = 0x0004 then
    (s, putb 11 t.flipAtPend ||| putb 10 t.eraLost ||| putb 9 t.d1.wrapPend ||| putb 8 t.d0.wrapPend |||
      put 6 (dstateNo t.d1.dstate) ||| put 4 (dstateNo t.d0.dstate) ||| putb 3 (t.wkOfs != 0) ||| putb 2 t.wkSync |||
      putb 0 t.selAct)
  else if off = 0x0008 then (s, t.syncCfg)
  else if off = 0x000C then (s, t.intCfg)
  else if off = 0x0010 then (s, put 0 t.phase.toNat)
  else if off = 0x0014 then (s, put 16 t.slipCnt ||| put 0 (unsigned 16 t.phaseErr))
  else if off = 0x0018 then (s, put 16 t.timeBadCnt ||| put 8 t.tcaptMiss ||| put 0 t.noticeLateCnt)
  else if 0x0100 ≤ off ∧ off < 0x0180 then domRead false (off - 0x100) s
  else if 0x0180 ≤ off ∧ off < 0x0200 then domRead true (off - 0x180) s
  else if off = 0x0200 then wkNsRead s
  else if off = 0x0204 then (s, t.wkFracSnap)
  else if off = 0x0208 then (s, put 0 t.wkEraSnap.toNat)
  else if off = 0x020C then (s, put 0 (unsigned 64 t.wkOfs / 2 ^ 32))
  else if off = 0x0210 then (s, put 0 (unsigned 64 t.wkOfs % 2 ^ 32))
  else if 0x0300 ≤ off ∧ off < 0x0320 then
    let p := (off - 0x300) / 0x10
    match off % 0x10 with
    | 0x0 => (s, put 0 (t.txLat.getD p 0).toNat)
    | 0x4 => (s, put 0 (t.rxLat.getD p 0).toNat)
    | 0x8 => (s, t.asym.getD p 0)
    | _ => (s, 0)
  else if 0x0400 ≤ off ∧ off < 0x0420 then (s, pulseRead t.p0 (off - 0x400))
  else if 0x0420 ≤ off ∧ off < 0x0440 then (s, pulseRead t.p1 (off - 0x420))
  else if off = 0x0440 then (s, put 0 t.tcapt.toNat)
  else if off = 0x0444 then (s, put 0 (t.tcapt.toNat / 2 ^ 32))
  else if off = 0x0460 then (s, put 0 t.flipAt.toNat)
  else if off = 0x0464 then (s, put 0 (t.flipAt.toNat / 2 ^ 32))
  else (s, 0)

/-- A write to a domain's registers (R338, R359). -/
def domWrite (k : Bool) (o : Nat) (v : Word) (s : State) : State × BitVec 8 :=
  match o with
  | 0x08 => (writeEra k (v.setWidth 16) s, stOk)
  | 0x1C =>
    let kp := bits v 0 6
    let ki := bits v 8 6
    if kp < 8 ∨ 48 < kp ∨ ki < 8 ∨ 48 < ki then (s, stBadParam)
    else (s.modDom k (fun d => { d with kp := BitVec.ofNat 6 kp, ki := BitVec.ofNat 6 ki }), stOk)
  | 0x20 => (s.modDom k (fun d => { d with epoch := v }), stOk)
  | _ => (s, stOk)

/-- A write to the TIME window (R358, R359). -/
def timeWrite (off : Nat) (v : Word) (s : State) : State × BitVec 8 :=
  if off = 0x0000 then
    if bits v 0 2 = 3 then (s, stBadParam)
    else if s.compat && bits v 8 2 != 3 then (s, stBadState)
    else
      ({ s.modTime (fun t => { t with ctrl := v &&& 0x00030313 }) with
          scan := { s.scan with phaseLock := s.scan.phaseLock && bit v 16 } }, stOk)
  else if off = 0x0004 then
    (s.modTime (fun t => { t with eraLost := rw1c (bit v 10) (s.wasHit 3 4 10) t.eraLost }), stOk)
  else if off = 0x0008 then
    if bits v 0 16 = 0 ∨ bits v 16 16 < 10 then (s, stBadParam) else (s.modTime (fun t => { t with syncCfg := v }), stOk)
  else if off = 0x000C then
    if bits v 0 16 = 0 then (s, stBadParam) else (s.modTime (fun t => { t with intCfg := v }), stOk)
  else if off = 0x0010 then (s.modTime (fun t => { t with phase := v.setWidth 24 }), stOk)
  else if off = 0x001C then
    (if bit v 31 then s.modTime (fun t => { t with
        slipCnt := cleared (s.wasHit 3 0x14 16) t.slipCnt, timeBadCnt := cleared (s.wasHit 3 0x18 16) t.timeBadCnt
        tcaptMiss := cleared (s.wasHit 3 0x18 8) t.tcaptMiss
        noticeLateCnt := cleared (s.wasHit 3 0x18 0) t.noticeLateCnt })
     else s, stOk)
  else if 0x0100 ≤ off ∧ off < 0x0180 then domWrite false (off - 0x100) v s
  else if 0x0180 ≤ off ∧ off < 0x0200 then domWrite true (off - 0x180) v s
  else if 0x0300 ≤ off ∧ off < 0x0320 then
    let p := (off - 0x300) / 0x10
    match off % 0x10 with
    | 0x0 => (s.modTime (fun t => { t with txLat := modAt t.txLat p (fun _ => v.setWidth 20) }), stOk)
    | 0x4 => (s.modTime (fun t => { t with rxLat := modAt t.rxLat p (fun _ => v.setWidth 20) }), stOk)
    | 0x8 => (s.modTime (fun t => { t with asym := modAt t.asym p (fun _ => v) }), stOk)
    | _ => (s, stOk)
  else (s, stOk)

/-- TIME_NS_READ: a read of a NS register or of WK_NS, with its snapshot (R356). -/
def execTimeNsRead (src : RegSrc) (off : BitVec 16) (s : State) : Host.Outcome State Fault Refusal :=
  done (readRow 3 src (fun s =>
    if off = 0x0100 ∨ off = 0x0180 ∨ off = 0x0200 then timeRead off.toNat s else (s, 0)) s)

/-- The latencies of Table 12.2 for a lane rate code. -/
def tableLat (rate : BitVec 2) : BitVec 20 × BitVec 20 :=
  match rate.toNat with
  | 0 => (34816, 67584)
  | 1 => (18432, 34816)
  | 2 => (10240, 18432)
  | _ => (6144, 10240)

/-- TX_LAT and RX_LAT at an entry of a port to ACTIVE (R341). -/
def loadLat (p : HPort) (s : State) : State :=
  let l := tableLat (s.hport p).rate
  s.modTime (fun t => { t with
    txLat := modAt t.txLat (hportNo p) (fun _ => l.1), rxLat := modAt t.rxLat (hportNo p) (fun _ => l.2) })

end Sys2Proof.Machine
end

