-- ==== Sys2Proof/Machine/Link.lean ====
section
/-! DEFINITION. The Halyard link below the packet: port states, training, lane lock, lane loss and rejoin, and the
HLY register window (09_halyard_link.md). -/

namespace Sys2Proof.Machine

/-! ### Fields of HLY_CTRL (Table 09.7) and lanes -/

/-- RATES. -/
def ctlRates (w : Word) : Nat := bits w 20 4
/-- BLIND_RATE. -/
def ctlBlindRate (w : Word) : BitVec 2 := BitVec.ofNat 2 (bits w 16 2)
/-- BLIND_LANES. -/
def ctlBlindLanes (w : Word) : BitVec 2 := BitVec.ofNat 2 (bits w 12 2)

/-- HLY_CTRL as it reads: START, BLIND_RATE and BLIND_LANES are fixed in compatibility mode (R283). -/
def hlyCtrl (p : HPort) (s : State) : Word :=
  let w := (s.hport p).ctrl
  if s.compat then setField (setField (setField w 4 1 1) 16 2 1) 12 2 1 else w

/-- Receive lane `n` of a port. -/
def Port.rx (h : Port) (n : Nat) : RxLane := if n = 0 then h.rx0 else h.rx1

/-- The port with receive lane `n` changed. -/
def Port.modRx (h : Port) (n : Nat) (f : RxLane → RxLane) : Port :=
  if n = 0 then { h with rx0 := f h.rx0 } else { h with rx1 := f h.rx1 }

/-- The port with both receive lanes changed. -/
def Port.modRxs (h : Port) (f : RxLane → RxLane) : Port := { h with rx0 := f h.rx0, rx1 := f h.rx1 }

/-- Receive lanes that are locked, as a mask: LOCK and RX_OK. -/
def Port.lockMask (h : Port) : Nat := (if h.rx0.locked then 1 else 0) + (if h.rx1.locked then 2 else 0)

/-- The LSTATE this port sends: its receive lanes that are lost (R274). -/
def Port.lstate (h : Port) : Nat := (if h.rx0.lost then 1 else 0) + (if h.rx1.lost then 2 else 0)

/-- A lane that searches for lock: its polarity and its losses are kept (R265, R279). -/
def unlockLane (x : RxLane) : RxLane :=
  { x with locked := false, found := 0, badRun := 0, badMarkers := 0, goodRun := 0, anchored := false
           deskewed := false, words := [] }

/-- A lane at the start of a new step: no signal yet; a lane lost four times stays lost (R279). -/
def stepLane (x : RxLane) : RxLane := { unlockLane x with signal := false, mi := false, lost := 4 ≤ x.losses }

/-- The transmit lanes with the scrambler set and the positions at 0 (R260, R262); the count of markers goes on, and
TRAIN packets of an earlier state are dropped. -/
def resetTx (h : Port) : Port :=
  { h with
    rxq := h.rxq.filter (fun k => k.ptype != .train)
    tx0 := { mseq := h.tx0.mseq }, tx1 := { mseq := h.tx1.mseq }, txMi := false, miHold := false }

/-! ### The received line (R259 to R261) -/

/-- What a run of line bits has given so far: the lane's line, the bits of the unfinished lane word with its value and
whether all of them are valid, the whole words in order, and the stuffing violations. -/
structure LineIn where
  /-- the lane's line -/
  line : RxLine
  /-- bits of the unfinished word -/
  n : Nat := 0
  /-- their value, most significant bit first -/
  acc : Nat := 0
  /-- all of them are valid -/
  ok : Bool := true
  /-- whole words with all bits valid, oldest first -/
  words : List Word := []
  /-- stuffing violations -/
  errs : Nat := 0
deriving DecidableEq, Repr

/-- A descrambled bit joins the unfinished word; the first bit of a word is its most significant one (R8, R260). -/
def LineIn.push (a : LineIn) (b valid : Bool) : LineIn :=
  let acc := 2 * a.acc + if b then 1 else 0
  let ok := a.ok && valid
  if a.n = 31 then { a with n := 0, acc := 0, ok := true, words := if ok then a.words ++ [BitVec.ofNat 32 acc] else a.words }
  else { a with n := a.n + 1, acc := acc, ok := ok }

/-- One line bit: the bit after a run of 24 is removed, and is a violation where it goes on with the run (R261); any other
is descrambled, the first 58 being invalid (R260). -/
def LineIn.take (a : LineIn) (l : Bool) : LineIn :=
  let x := a.line
  if x.run = 24 then
    { a with line := { x with lastBit := l, run := 1 }, errs := if l = x.lastBit then a.errs + 1 else a.errs }
  else
    let b := l ^^ x.scr.getLsbD 18 ^^ x.scr.getLsbD 57
    { a with line := { scr := (x.scr <<< 1) ||| (if l then 1 else 0), got := min 58 (x.got + 1), lastBit := l
                       run := if x.run ≠ 0 ∧ l = x.lastBit then x.run + 1 else 1 } }.push b (x.got == 58)

/-- The lane words that line bits carry, word lock given (Table 09.1 from step 5 back to step 3). -/
def takeLine (x : RxLine) (bits : List Bool) : LineIn := bits.foldl LineIn.take { line := x }

/-- The receive lane record that physical lane `l` feeds (R265, SWAP). -/
def laneIx (h : Port) (l : Nat) : Nat := if h.swap then 1 - l else l

/-- Line bits arrive on physical lane `l`: a signal is there, acquired anew where there was none, and violations are counted
(R260, R261). The second component is the lane words, as they came. -/
def hear (p : HPort) (l : Nat) (bits : List Bool) (s : State) : State × List Word :=
  let n := laneIx (s.hport p) l
  let x := (s.hport p).rx n
  let r := takeLine (if x.signal then x.line else {}) bits
  ((s.hitIf (r.errs != 0) (portBlk p) 0x18 0).modPort p (fun h => { (h.modRx n (fun x => { x with
    signal := true, line := r.line })) with stuffErrCnt := satAdd 16 h.stuffErrCnt r.errs }), r.words)

/-! ### Entering a state (Table 09.3) -/

/-- Replies owed on a port that leaves ACTIVE are discarded, and a session on it ends (R303, R308). -/
def leaveActive (p : HPort) (s : State) : State :=
  let s1 := s.modPort p (fun h => { h with replies := [] })
  if (s1.cmd.sessOpen || s1.cmd.proving) && s1.cmd.sessPort == cmdPort p then endSession 2 s1 else s1

/-- The port leaves ACTIVE, or BLIND, where it is there. -/
def quit (p : HPort) (s : State) : State :=
  if (s.hport p).state == .active || (s.hport p).state == .blind then leaveActive p s else s

/-- OFF (R267, R282): the LINK domain is off, its fault window is lost and the transmitters float (R385). -/
def enterOff (p : HPort) (s : State) : State :=
  (loseWindows [portBlk p] (quit p s)).modPort p (fun h => { h with
    state := .off, rx0 := {}, rx1 := {}, tx0 := {}, tx1 := {}, locked := false, ack := false, trains := 0
    sync := false, rxWords := [], retrainPend := false, peerLstate := 0, beacons := 0, beaconOff := false
    fromFurled := false, role := .off, rate := 0, txLanes := 0, txWant := 0, rxLanes := 0, loopTimed := false
    enteredAt := s.ticks })

/-- BLIND (R271): the packet stream at the BLIND_RATE and on the BLIND_LANES that the last entry to DETECT took,
delineation in HUNT (R284, R287). The role stays until bring-up completes (R26). -/
def enterBlind (p : HPort) (s : State) : State :=
  s.modPort p (fun h =>
    let r := ctlBlindRate h.ctrlAct
    let m := ctlBlindLanes h.ctrlAct
    { (resetTx h) with
      state := .blind, rate := r, txLanes := m, txWant := m, rxLanes := m, agreedTx := m, stepRate := r, tryRate := r
      rx0 := {}, rx1 := {}, peerLstate := 0, sync := false, rxWords := [], enteredAt := s.ticks })

/-- DETECT (R543, R284): HLY_CTRL takes effect and, but for a `quiet` port, the first beacon begins. A return from BASE,
NEGOTIATE or STEP is counted (Table 09.9). -/
def detectEntry (quiet : Bool) (p : HPort) (s : State) : State :=
  let was := (s.hport p).state
  let failed := was == .base || was == .negotiate || was == .step
  ((quit p s).hitIf failed (portBlk p) 0x10 16).modPort p (fun h => { (resetTx h) with
    state := .detect, ctrlAct := hlyCtrl p s, rate := 0, txLanes := 3, txWant := 3, rxLanes := 0
    rx0 := {}, rx1 := {}, swap := false, locked := false, ack := false, trains := 0, sync := false, rxWords := []
    lockedSent := false, ackSent := false, loopTimed := false
    peerLstate := 0, upFrom := s.ticks, retrainPend := false, fromFurled := false
    beaconOff := quiet, beacons := if quiet then 0 else 1, beaconAt := s.ticks, enteredAt := s.ticks
    trainFailCnt := if failed then satInc 16 h.trainFailCnt else h.trainFailCnt })

/-- START takes the port on to BLIND (Table 09.3); a port that is to lead, and one that follows, always negotiates (R27). -/
def startsBlind (p : HPort) (s : State) : Bool :=
  bit (s.hport p).ctrlAct 4 && !(p == .p1 && s.h1.cfgRole == .leader) && (s.hport p).role != .follower

/-- DETECT and, with START, BLIND (Table 09.3); in S2 and S3 the port stays in DETECT without beacon (R280). -/
def enterDetect (p : HPort) (s : State) : State :=
  let quiet := (s.hport p).beaconOff || deep s.pwr.pstate
  let s1 := detectEntry quiet p s
  if !quiet && startsBlind p s1 then enterBlind p s1 else s1

/-- BASE (Table 09.3). -/
def enterBase (p : HPort) (s : State) : State :=
  s.modPort p (fun h => { (resetTx h) with
    state := .base, rate := 0, txLanes := 3, txWant := 3, rx0 := {}, rx1 := {}
    trains := 0, locked := false, ack := false, lockedSent := false, ackSent := false, sync := false, rxWords := []
    enteredAt := s.ticks })

/-- STEP at rate `r` (Table 09.3). -/
def enterStep (p : HPort) (r : BitVec 2) (s : State) : State :=
  s.modPort p (fun h => { ((resetTx h).modRxs stepLane) with
    state := .step, rate := r, tryRate := r, txLanes := h.agreedTx, txWant := h.agreedTx, trains := 0, locked := false
    ack := false, lockedSent := false, ackSent := false, sync := false, rxWords := [], peerLstate := 0
    loopTimed := false, enteredAt := s.ticks })

/-- Microseconds from the last entry to DETECT or exit from FURLED, saturating (UP_TIME, Table 09.9). -/
def upTimeOf (from_ now : Nat) : Nat := min 65535 ((now - from_) / 250)

/-- A link event queued for a destination among the ports that are ACTIVE, and for the control SPI port (R272, R312). -/
def pushLink (toH0 toH1 : Bool) (code sev : Nat) (w : Word) (s : State) : State :=
  let a := toH0 && evToH0 s && s.h0.state == .active
  let b := toH1 && evToH1 s && s.h1.state == .active
  if evOn s then
    let e := mkEvent code sev [w] s
    let n := (if a && evFull s.h0.events then 1 else 0) + (if b && evFull s.h1.events then 1 else 0)
      + (if evFull s.spi.events then 1 else 0)
    { s.hitIf (n != 0) 0 0x10 0 with
      h0 := { s.h0 with events := if a then evPush s.h0.events e else s.h0.events }
      h1 := { s.h1 with events := if b then evPush s.h1.events e else s.h1.events }
      spi := { s.spi with events := evPush s.spi.events e }
      cmd := { s.cmd with evLost := satAdd 16 s.cmd.evLost n, lostNow := s.cmd.lostNow + n } }
  else s

/-- The role that the peer's announcement gives a port (Table 09.5); none where they do not pair. -/
def pairRole (p : HPort) (cfg : PRole) (ann : BitVec 2) : Option PRole :=
  match p with
  | .p0 => if ann = 0 then some .headEnd else if ann = 1 then some .follower else none
  | .p1 =>
    if cfg = .headEnd ∧ ann = 0 then some .headEnd
    else if cfg = .leader ∧ ann = 2 then some .leader
    else none

/-- What a port announces (Table 09.5). -/
def announce (p : HPort) (cfg : PRole) : Nat :=
  match p with
  | .p0 => 2
  | .p1 => if cfg = .leader then 1 else 2

/-- The port returns to DETECT for RETRAIN (R273); a port that is OFF, in SLACK or FURLED stays there (Table 09.3). -/
def retrainNow (p : HPort) (s : State) : State :=
  match (s.hport p).state with
  | .off | .slack | .furled => s.modPort p (fun h => { h with retrainPend := false })
  | _ => enterDetect p s

/-- A changed H1 role takes H1 to DETECT, or to OFF for role OFF (R282); a follower's H1 stays OFF (R28). -/
def changeRole (q : PRole) (s : State) : State :=
  let r := if s.h0.role = .follower then .off else q
  let s1 := s.modPort .p1 (fun h => { h with cfgRole := r, roleChange := none })
  if r = .off then enterOff .p1 s1 else enterDetect .p1 s1

/-- Once no reply is owed on a port, be it sent or discarded, a RETRAIN or a change of the H1 role that waited for it takes
place (R273, R282). -/
def afterReplies (p : CmdPort) (s : State) : State :=
  if owed p s != [] || (p == .spi && s.spi.out != []) then s
  else
    let s1 := match p with
      | .h0 => if s.h0.retrainPend then retrainNow .p0 s else s
      | .h1 => if s.h1.retrainPend then retrainNow .p1 s else s
      | .spi => s
    match s1.h1.roleChange with
    | some (q, r) => if q = p then changeRole r s1 else s1
    | none => s1

/-- The link of an ACTIVE port is down (R272): EV_LINK_DOWN on every other ACTIVE port, and STEP at the current rate. -/
def linkDown (p : HPort) (s : State) : State :=
  let s1 := raiseFault (portBlk p) 1 0 true false s
  let s2 := pushLink (p != .p0) (p != .p1) (portBlk p * 256 + 1) 2 (put 0 4) s1
  let s3 := ((quit p s2).hit (portBlk p) 0x14 16).modPort p (fun h => { h with
    linkDownCnt := satInc 16 h.linkDownCnt, upOwed := true })
  afterReplies (cmdPort p) (enterStep p (s3.hport p).rate s3)

/-- The link of an ACTIVE port is down when no receive lane is locked, or the far end reports every transmit lane in
use lost (R272). -/
def linkIsDown (h : Port) : Bool :=
  h.lockMask == 0 || (h.agreedTx != 0 && h.peerLstate &&& h.agreedTx == h.agreedTx)

/-- ACTIVE from STEP or BLIND (R270, R271, R272, R281, R293, R294): the role is the one agreed, sequence numbers start anew
unless the bring-up began in FURLED, and EV_LINK_UP is sent where the link had been down. A follower's H1 goes OFF (R28). A
link that is down at once is reported so. -/
def enterActive (p : HPort) (s : State) : State :=
  let h := s.hport p
  let blind := h.state == .blind
  let role := if blind then .headEnd else h.agreedRole
  let down := !blind && h.rate < h.stepRate
  let s1 := (s.hitIf down (portBlk p) 4 11).modPort p (fun h => { h with
    state := .active, role := role
    txLanes := if blind then h.txLanes else h.agreedTx
    txWant := if blind then h.txLanes else h.agreedTx
    rxLanes := if blind then h.rxLanes else BitVec.ofNat 2 h.lockMask
    upTime := upTimeOf h.upFrom s.ticks
    expect := if h.fromFurled then h.expect else []
    ownSeq := if h.fromFurled then h.ownSeq else []
    rstSent := if h.fromFurled then h.rstSent else []
    fromFurled := false, sync := false, rxWords := [], upOwed := false, stepDown := h.stepDown || down
    enteredAt := s.ticks })
  let s2 := loadLat p s1
  let s3 := if down then raiseFault (portBlk p) 2 0 true false s2 else s2
  let s4 := if role == .follower && p == .p0 then enterOff .p1 s3 else s3
  let g := s4.hport p
  let s5 := if h.upOwed then
      pushLink true true (portBlk p * 256 + 2) 0 (put 8 (proleNo g.role) ||| put 4 g.txLanes.toNat ||| put 0 g.rate.toNat) s4
    else s4
  if linkIsDown g then linkDown p s5 else s5

/-! ### Lane lock (R265, R266) -/

/-- Both lanes that are locked are deskewed (R265, R268). -/
def aligned (h : Port) : Bool := (!h.rx0.locked || h.rx0.deskewed) && (!h.rx1.locked || h.rx1.deskewed)

/-- LOCKED as a port sends it in BASE and STEP (R268). -/
def setLocked (h : Port) : Port :=
  let ok := (h.rx0.locked || !h.rx0.signal) && (h.rx1.locked || !h.rx1.signal) && (h.rx0.locked || h.rx1.locked)
  { h with locked := ok && aligned h && h.trains == 16 }

/-- The loss of receive lane `n` while the other stays locked (R274, R279). -/
def laneLost (p : HPort) (n : Nat) (s : State) : State :=
  let s1 := (s.hit (portBlk p) 0x14 (if n = 0 then 0 else 8)).modPort p (fun h => { (h.modRx n (fun x => { x with
    lost := true, losses := x.losses + 1 })) with
    lane0Lost := if n = 0 then satInc 8 h.lane0Lost else h.lane0Lost
    lane1Lost := if n = 0 then h.lane1Lost else satInc 8 h.lane1Lost })
  let s2 := queueEvent (portBlk p * 256 + 3) 1 [put 0 n] (raiseFault (portBlk p) 0 n true false s1)
  if ((s2.hport p).rx n).losses = 4 then raiseFault (portBlk p) 4 n true false s2 else s2

/-- The other lane is lost, and the far end's STRIPE still names it: the re-striping is not complete (R274, R277). -/
def restriping (n : Nat) (h : Port) : Bool := (h.rx (1 - n)).lost && h.rxLanes.getLsbD (1 - n)

/-- Receive lane `n` loses lock (R266, R277). A transmitter timed by lane 0 loses its reference with it (R412). -/
def loseLock (p : HPort) (n : Nat) (s : State) : State :=
  let s1 := s.modPort p (fun h => { (h.modRx n unlockLane) with loopTimed := h.loopTimed && n != 0 })
  let h := s1.hport p
  if h.state == .active then
    if linkIsDown h || restriping n h then linkDown p s1 else laneLost p n s1
  else s1.modPort p setLocked

/-- An LCW is valid (R263). -/
def lcwValid (w : Word) : Bool := (bits w 24 8 == 0x5A || bits w 24 8 == 0xA5) && crc8Ok w

/-- A valid LCW is an alignment marker (Table 09.2). -/
def isMarker (w : Word) : Bool := bits w 24 8 == 0xA5

/-- LCW positions between markers: 8 for 256 words, 128 for 4096 (R262). -/
def markerEvery (x : RxLane) : Nat := if x.mi then 128 else 8

/-- A marker at model time `now` gives the lane its positions (R262, R265). -/
def anchor (now : Nat) (w : Word) (x : RxLane) : RxLane :=
  { x with anchored := true, sinceMarker := 0, mseq := BitVec.ofNat 8 (bits w 8 8) + 1, badMarkers := 0, markAt := now
           markPos := x.pos }

/-- A searching lane takes a lane word at an LCW position: eight valid LCWs in a row, then a valid marker (R265). -/
def searchLane (now : Nat) (valid : Bool) (w : Word) (x : RxLane) : RxLane :=
  if !valid then { x with found := 0 }
  else
    let x := if isMarker w then x else { x with mi := bit w 15 }
    if x.found = 8 ∧ isMarker w then { anchor now w x with locked := true, badRun := 0, goodRun := 0 }
    else { x with found := min 8 (x.found + 1) }

/-- A locked lane takes a valid LCW: the marker's position and count are judged against the lane's own (R262, R266).
The second component is a wrong marker. -/
def followLane (now : Nat) (w : Word) (x : RxLane) : RxLane × Bool :=
  let at_ := x.sinceMarker + 1 == markerEvery x
  let x1 : RxLane := { x with
    badRun := 0, goodRun := min 1024 (x.goodRun + 1)
    sinceMarker := if at_ then 0 else x.sinceMarker + 1
    mseq := if at_ then x.mseq + 1 else x.mseq }
  if isMarker w then
    if !x.anchored then (anchor now w x1, false)
    else if at_ && x.mseq == BitVec.ofNat 8 (bits w 8 8) then
      ({ x1 with badMarkers := 0, markAt := now, markPos := x.pos }, false)
    else ({ x1 with badMarkers := x.badMarkers + 1 }, true)
  else ({ x1 with mi := bit w 15 }, false)

/-- Eight lane words at the port's rate, in 4 ns ticks (R265). -/
def skewTicks (h : Port) : Nat := 64 >>> h.rate.toNat

/-- The lane that came later by more than the port absorbs is left unlocked; it is lost where it was in use (R265, R274). -/
def dropLane (p : HPort) (n : Nat) (s : State) : State :=
  if ((s.hport p).rx n).deskewed then loseLock p n s else s.modPort p (fun h => setLocked (h.modRx n unlockLane))

/-- The position of a lane's oldest waiting word, or else of its next one. -/
def nextPos (x : RxLane) : Nat := ((x.words.head?).map (·.1)).getD x.pos

/-- A lane's positions counted so that its last good marker ends at `t`; words before position 0 are dropped. -/
def renumber (t : Nat) (x : RxLane) : RxLane :=
  { x with
    pos := x.pos - x.markPos + t, markPos := t
    words := x.words.filterMap (fun e => if x.markPos ≤ e.1 + t then some (e.1 + t - x.markPos, e.2) else none) }

/-- Both lanes have met the marker of one count: their positions are counted alike, by the lane that was deskewed before, so
that the words of one lane position meet (R265). -/
def alignLanes (h : Port) : Port :=
  let h1 := if h.rx0.deskewed || !h.rx1.deskewed then h.modRx 1 (renumber h.rx0.markPos) else h.modRx 0 (renumber h.rx1.markPos)
  let h2 := h1.modRxs (fun x => { x with deskewed := true })
  if h.rx0.deskewed || h.rx1.deskewed then h2 else { h2 with rxPos := max (nextPos h2.rx0) (nextPos h2.rx1) }

/-- Both lanes are deskewed. -/
def bothAligned (p : HPort) (s : State) : State := s.modPort p (fun h => setLocked (alignLanes h))

/-- A lane alone needs no deskew; its words are taken from now on. -/
def aloneLane (n : Nat) (h : Port) : Port :=
  { (h.modRx n (fun x => { x with deskewed := true })) with
    rxPos := if (h.rx n).deskewed then h.rxPos else nextPos (h.rx n) }

/-- Lane `n` has met a good marker: by marker count, its skew to a locked other lane is known once both have met the same
count (R265). -/
def deskew (p : HPort) (n : Nat) (s : State) : State :=
  let h := s.hport p
  let x := h.rx n
  let y := h.rx (1 - n)
  if !y.locked || !y.anchored then s.modPort p (fun h => setLocked (aloneLane n h))
  else if x.deskewed && y.deskewed then (if x.mseq = y.mseq then bothAligned p s else s)
  else if x.mseq = y.mseq then
    if skewTicks h < x.markAt - y.markAt then dropLane p n s else bothAligned p s
  else if x.mseq = y.mseq + 1 then s
  else if (y.mseq - x.mseq).toNat < 128 then dropLane p n s
  else dropLane p (1 - n) s

/-- A locked lane meets an invalid LCW: its own count of positions goes on (R266). -/
def missLane (x : RxLane) : RxLane :=
  let at_ := x.sinceMarker + 1 == markerEvery x
  { x with
    badRun := x.badRun + 1, goodRun := 0
    sinceMarker := if at_ then 0 else x.sinceMarker + 1
    mseq := if at_ then x.mseq + 1 else x.mseq }

/-- What the LSTATE of a valid LCW asks for: a STRIPE without a lane the far end lost, and both again when the bit clears
(R274, R278). -/
def heedLcw (w : Word) (h : Port) : Port :=
  let ls : BitVec 2 := BitVec.ofNat 2 (bits w 20 2)
  let left := h.agreedTx &&& ~~~ ls
  { h with
    peerLstate := ls
    txWant := if left = 0 then h.txWant else left
    miHold := h.miHold && ls &&& h.agreedTx != 0 }

/-- A lane word joins those of its lane that wait to be put together. -/
def pushRx (u : RxUnit) (x : RxLane) : RxLane := { x with words := x.words ++ [(x.pos, u)], pos := x.pos + 1 }

/-- A valid LCW as it bears on the packet stream: the STRIPE it names (R264); the reserved value 0 names none. -/
def lcwUnit (w : Word) : RxUnit :=
  .lcw (if bits w 18 2 = 0 then none else some (BitVec.ofNat 2 (bits w 18 2)))

/-- A rejoin of lane `n` takes effect (R278, R279). -/
def tryRejoin (p : HPort) (n : Nat) (s : State) : State :=
  let h := s.hport p
  let x := h.rx n
  if h.state == .active && x.lost && x.locked && x.deskewed && x.goodRun == 1024 && bit h.ctrl 2 && x.losses < 4 then
    queueEvent (portBlk p * 256 + 4) 0 [put 0 n] ((s.hit (portBlk p) 0x1C 16).modPort p (fun h =>
      { (h.modRx n (fun x => { x with lost := false })) with rejoinCnt := satInc 16 h.rejoinCnt }))
  else s

/-- Every lane of BLIND_LANES is locked, and deskewed (R265, R271). -/
def blindLocked (h : Port) : Bool :=
  let m := ctlBlindLanes h.ctrlAct
  BitVec.ofNat 2 h.lockMask &&& m == m && m != 0 && aligned h

/-- A port in BLIND whose lanes are locked becomes ACTIVE (R271). -/
def blindUp (p : HPort) (s : State) : State :=
  if (s.hport p).state == .blind && blindLocked (s.hport p) then enterActive p s else s

/-- The port takes LCWs: its receivers run (Table 09.3). -/
def lanesOn (h : Port) : Bool :=
  match h.state with
  | .base | .negotiate | .step | .active | .blind => true
  | _ => false

/-- The port's link runs in the present power state: its LINK domain is on and the module is not held in reset
(Table 09.6). -/
def linkOn (p : HPort) (s : State) : Bool := !s.pwr.inReset && !deep s.pwr.pstate && !blockOff (portBlk p) s

/-- A locked lane takes a valid LCW (R265, R266, R274, R278). -/
def takeGood (p : HPort) (n : Nat) (w : Word) (s : State) : State :=
  let r := followLane s.ticks w (pushRx (lcwUnit w) ((s.hport p).rx n))
  let s1 := (s.hitIf r.2 (portBlk p) 0x1C 0).modPort p (fun h => heedLcw w { (h.modRx n (fun _ => r.1)) with
    markerErrCnt := if r.2 then satInc 16 h.markerErrCnt else h.markerErrCnt })
  if 2 ≤ r.1.badMarkers then loseLock p n s1
  else if (s1.hport p).state == .active && linkIsDown (s1.hport p) then linkDown p s1
  else tryRejoin p n (blindUp p (if isMarker w && !r.2 then deskew p n s1 else s1))

/-- A locked lane meets an invalid LCW (R266). -/
def takeBad (p : HPort) (n : Nat) (s : State) : State :=
  let s1 := s.modPort p (fun h => h.modRx n (fun x => missLane (pushRx (.lcw none) x)))
  if 4 ≤ ((s1.hport p).rx n).badRun then loseLock p n s1 else s1

/-- A searching lane takes a word: an inverted pair is turned, and lanes that arrive exchanged are exchanged (R265). -/
def takeSearch (p : HPort) (l : Nat) (raw : Word) (s : State) : State :=
  let n := laneIx (s.hport p) l
  let x := (s.hport p).rx n
  let w := if x.inverted then ~~~ raw else raw
  let turn := !lcwValid w && lcwValid (~~~ w)
  let w := if turn then ~~~ w else w
  let s1 := s.modPort p (fun h => h.modRx n (fun x => { x with
    inverted := if turn then !x.inverted else x.inverted, found := if turn then 0 else x.found }))
  let other := lcwValid w && bits w 22 2 == 1 - n
  let s2 := if other then s1.modPort p (fun h => { h with swap := !h.swap, rx0 := h.rx1, rx1 := h.rx0 }) else s1
  let n := laneIx (s2.hport p) l
  let s3 := s2.modPort p (fun h => setLocked ((h.modRx n (searchLane s.ticks (lcwValid w) w))))
  blindUp p (if ((s3.hport p).rx n).locked then deskew p n s3 else s3)

/-- A lane word at an LCW position on physical lane `l` (R263, R266). -/
def takeLcw (p : HPort) (l : Nat) (raw : Word) (s : State) : State :=
  let n := laneIx (s.hport p) l
  let x := (s.hport p).rx n
  if x.locked then
    let w := if x.inverted then ~~~ raw else raw
    if lcwValid w then takeGood p n w s
    else takeBad p n (crcFail 0 ((s.hit (portBlk p) 0x18 16).modPort p (fun h => { h with lcwErrCnt := satInc 16 h.lcwErrCnt })))
  else takeSearch p l raw s

/-- The receivers of a port run: in compatibility mode, lane 0 of H0 also in S2 (R283). -/
def hearing (p : HPort) (l : Nat) (s : State) : Bool :=
  !s.pwr.inReset && !blockOff (portBlk p) s && lanesOn (s.hport p) && (if s.compat then p == .p0 && l == 0 else linkOn p s)


/-- LOSS_OF_SIGNAL on a locked lane (R266). -/
def execLossOfSignal (p : HPort) (lane : Fin 2) (s : State) : Host.Outcome State Fault Refusal :=
  done (if linkOn p s && lanesOn (s.hport p) then
    let n := laneIx (s.hport p) lane.val
    let was := ((s.hport p).rx n).locked
    let s1 := s.modPort p (fun h => h.modRx n (fun x => { x with signal := false }))
    if was then loseLock p n s1 else s1.modPort p setLocked
  else s)

/-! ### Bring-up (R267 to R271) -/

/-- SIGNAL_DETECT: a far-end signal for 2.0 µs moves a port in DETECT to BASE (R543). -/
def execSignalDetect (p : HPort) (s : State) : Host.Outcome State Fault Refusal :=
  done (if linkOn p s && (s.hport p).state == .detect then enterBase p s else s)

/-- DETECT_BEACON: a further beacon in DETECT; none in S2 and S3 (R543, R280). -/
def execDetectBeacon (p : HPort) (s : State) : Host.Outcome State Fault Refusal :=
  done (if linkOn p s && (s.hport p).state == .detect && !(s.hport p).beaconOff then
    s.modPort p (fun h => { h with beacons := satInc 16 h.beacons, beaconAt := s.ticks })
  else s)

/-- A port leaves OFF where it has a role: H0 always, H1 with a role other than OFF (R267). -/
def leavesOff (p : HPort) (s : State) : Bool :=
  (s.hport p).state == .off && (match p with | .p0 => true | .p1 => s.h1.cfgRole != .off)

/-- Step 9 of a boot: a port with a role leaves OFF (R267, Table 17.7). -/
def bootPort (p : HPort) (s : State) : State := if leavesOff p s then enterDetect p s else s

/-- A port may leave OFF after a boot: a change of role or an exit from S4 or S5, in S0 (R267). -/
def mayLeaveOff (p : HPort) (s : State) : Bool :=
  s.pwr.ready && !s.pwr.inReset && s.pwr.pstate == .s0 && leavesOff p s

/-- PORT_LEAVE_OFF: DETECT, or BLIND with START (R267). -/
def execPortLeaveOff (p : HPort) (s : State) : Host.Outcome State Fault Refusal :=
  done (if mayLeaveOff p s then enterDetect p s else s)

/-- The step rate: the highest rate set in both RATES fields (R269). -/
def commonRate (a b : Nat) : Option (BitVec 2) :=
  if a.testBit 3 && b.testBit 3 then some 3 else if a.testBit 2 && b.testBit 2 then some 2
  else if a.testBit 1 && b.testBit 1 then some 1 else if a.testBit 0 && b.testBit 0 then some 0 else none

/-- NEGOTIATE (R269): a mismatch or no lane, found on a TRAIN packet; or, with ACK sent and received, STEP (Table 09.3). -/
def negotiate (p : HPort) (s : State) : State :=
  let h := s.hport p
  let rate := commonRate (ctlRates h.ctrlAct) (bits h.peerW0 20 4)
  let lanes : BitVec 2 := BitVec.ofNat 2 (bits h.peerW0 16 2)
  match rate, pairRole p h.cfgRole h.peerAnn with
  | some r, some role =>
    if lanes = 0 then enterDetect p s
    else if h.ackSent && bit h.peerW0 12 then
      enterStep p r (s.modPort p (fun h => { h with stepRate := r, agreedTx := lanes, agreedRole := role }))
    else s
  | _, _ => enterDetect p (raiseFault (portBlk p) 3 0 true false ((s.hit (portBlk p) 4 17).modPort p (fun h => { h with
      roleErr := true })))

/-- BASE with LOCKED sent and received goes to NEGOTIATE (Table 09.3). -/
def toNegotiate (p : HPort) (s : State) : State :=
  let h := s.hport p
  if h.locked && h.lockedSent && bit h.peerW0 13 then
    s.modPort p (fun h => { h with state := .negotiate, ack := false, ackSent := false, enteredAt := s.ticks })
  else s

/-- A TRAIN packet as the port stands has gone out: what it said counts as sent, and may be the last that BASE or NEGOTIATE
waited for, TRAIN packets having come in the state (Table 09.3). -/
def trainSent (p : HPort) (s : State) : State :=
  let s1 := s.modPort p (fun h => { h with lockedSent := h.lockedSent || h.locked, ackSent := h.ackSent || h.ack })
  let h := s1.hport p
  match h.state with
  | .base => if h.trains = 0 then s1 else toNegotiate p s1
  | .negotiate => if h.ack && bit h.peerW0 12 then negotiate p s1 else s1
  | _ => s1

/-- A TRAIN packet with words `w0` and `w1` (R268 to R270). -/
def takeTrain (p : HPort) (w0 w1 : Word) (s : State) : State :=
  let s1 := s.modPort p (fun h => setLocked { h with
    ack := h.ack || w0 == h.peerW0, peerW0 := w0, peerW1 := w1, peerAnn := BitVec.ofNat 2 (bits w0 14 2)
    trains := min 16 (h.trains + 1) })
  let h := s1.hport p
  match h.state with
  | .base => toNegotiate p s1
  | .negotiate => negotiate p s1
  | .step => if bit w0 13 then enterActive p s1 else s1
  | _ => s1

/-- TRAIN_RECEIVE: the oldest TRAIN packet received is acted on (R268). -/
def execTrainReceive (p : HPort) (s : State) : Host.Outcome State Fault Refusal :=
  done (match takeRx p (fun k => k.ptype == .train) s with
  | none => s
  | some (k, s1) => takeTrain p (k.payload.getD 0 0) (k.payload.getD 1 0) s1)

/-- The timeout of a bring-up state in ticks, from the entry to it: 1 ms in NEGOTIATE, 2 ms in BASE, STEP and BLIND
(Table 09.3). -/
def bringupTicks (x : PortState) : Nat := if x = .negotiate then ticksPerMs else 2 * ticksPerMs

/-- The timeout of the port's state has gone (R267). -/
def bringupDue (h : Port) (s : State) : Bool := decide (h.enteredAt + bringupTicks h.state ≤ s.ticks)

/-- BRINGUP_TIMEOUT: BASE and NEGOTIATE return to DETECT, STEP goes down one rate or returns to DETECT, BLIND is entered
again (Table 09.3, R270). A change of state in the same evaluation counts before the time-out (R16). -/
def execBringupTimeout (p : HPort) (s : State) : Host.Outcome State Fault Refusal :=
  done (if linkOn p s && bringupDue (s.hport p) s then
    let h := s.hport p
    match h.state with
    | .base | .negotiate => enterDetect p s
    | .step =>
      if h.tryRate = 0 then enterDetect p s
      else enterStep p (h.tryRate - 1) ((s.hit (portBlk p) 0x10 0).modPort p (fun h => { h with
        stepDownCnt := satInc 16 h.stepDownCnt }))
    | .blind => if s.compat then s else enterBlind p s
    | _ => s
  else s)

/-! ### HLY registers (Tables 09.7 to 09.9 and 10.12) -/

/-- STATE (Table 09.3). -/
def portStateNo : PortState → Nat
  | .off => 0 | .detect => 1 | .base => 2 | .negotiate => 3 | .step => 4 | .active => 5 | .blind => 6
  | .slack => 7 | .furled => 8

/-- HLY_STATUS (Table 09.8). -/
def hlyStatus (h : Port) : Word :=
  put 28 (portStateNo h.state) ||| put 26 h.rate.toNat ||| put 24 h.txLanes.toNat ||| put 22 h.rxLanes.toNat |||
  put 20 (proleNo h.role) ||| put 18 h.peerAnn.toNat ||| putb 17 h.roleErr ||| putb 16 h.swap |||
  putb 15 h.rx1.inverted ||| putb 14 h.rx0.inverted ||| put 12 h.lockMask ||| putb 11 h.stepDown

/-- A read of a HLY window (Tables 09.7 to 09.9, 10.12). -/
def hlyRead (p : HPort) (off : Nat) (s : State) : Word :=
  let h := s.hport p
  match off with
  | 0x0000 => hlyCtrl p s
  | 0x0004 => hlyStatus h
  | 0x0008 => h.peerW0
  | 0x000C => h.peerW1
  | 0x0010 => put 16 h.trainFailCnt ||| put 0 h.stepDownCnt
  | 0x0014 => put 16 h.linkDownCnt ||| put 8 h.lane1Lost ||| put 0 h.lane0Lost
  | 0x0018 => put 16 h.lcwErrCnt ||| put 0 h.stuffErrCnt
  | 0x001C => put 16 h.rejoinCnt ||| put 0 h.markerErrCnt
  | 0x0024 => put 0 h.upTime
  | 0x0100 => put 0 h.rxPkt
  | 0x0104 => put 0 h.txPkt
  | 0x0108 => put 16 h.hecErrCnt ||| put 0 h.badLengthCnt
  | 0x010C => put 16 h.crcErrCnt ||| put 0 h.badTypeCnt
  | 0x0110 => put 16 h.seqGapCnt ||| put 0 h.seqOldCnt
  | 0x0114 => put 16 h.fwdDropCnt ||| put 0 h.busyCnt
  | 0x0118 => putb 0 h.sync
  | _ => 0

/-- RETRAIN written by `src`: through the same port it waits for the reply (R273). -/
def doRetrain (src : RegSrc) (p : HPort) (s : State) : State :=
  if src = .port (cmdPort p) then s.modPort p (fun h => { h with retrainPend := true }) else retrainNow p s

/-- A write to HLY_CTRL (R271, R283, R284). -/
def ctrlWrite (src : RegSrc) (p : HPort) (v : Word) (s : State) : State × BitVec 8 :=
  let h := s.hport p
  if s.compat then (s, stBadState)
  else if ctlRates v = 0 ∨ !(ctlRates v).testBit (ctlBlindRate v).toNat ∨ ctlBlindLanes v = 0 then (s, stBadParam)
  else if bit v 4 && (h.role == .leader || h.role == .follower || h.cfgRole == .leader) then (s, stBadState)
  else
    let s1 := s.modPort p (fun h => { h with ctrl := v &&& 0x00F33014 })
    (if bit v 1 then doRetrain src p s1 else s1, stOk)

/-- A write to a HLY window (Tables 09.7 to 09.9, 10.12). -/
def hlyWrite (src : RegSrc) (p : HPort) (off : Nat) (v : Word) (s : State) : State × BitVec 8 :=
  let hit (o n : Nat) : Bool := s.wasHit (portBlk p) o n
  match off with
  | 0x0000 => ctrlWrite src p v s
  | 0x0004 => (s.modPort p (fun h => { h with
      roleErr := rw1c (bit v 17) (hit 4 17) h.roleErr, stepDown := rw1c (bit v 11) (hit 4 11) h.stepDown }), stOk)
  | 0x0020 =>
    (if bit v 31 then s.modPort p (fun h => { h with
        trainFailCnt := cleared (hit 0x10 16) h.trainFailCnt, stepDownCnt := cleared (hit 0x10 0) h.stepDownCnt
        linkDownCnt := cleared (hit 0x14 16) h.linkDownCnt, lane0Lost := cleared (hit 0x14 0) h.lane0Lost
        lane1Lost := cleared (hit 0x14 8) h.lane1Lost, lcwErrCnt := cleared (hit 0x18 16) h.lcwErrCnt
        stuffErrCnt := cleared (hit 0x18 0) h.stuffErrCnt, rejoinCnt := cleared (hit 0x1C 16) h.rejoinCnt
        markerErrCnt := cleared (hit 0x1C 0) h.markerErrCnt })
     else s, stOk)
  | 0x011C =>
    (if bit v 31 then s.modPort p (fun h => { h with
        rxPkt := cleared (hit 0x100 0) h.rxPkt, txPkt := cleared (hit 0x104 0) h.txPkt
        hecErrCnt := cleared (hit 0x108 16) h.hecErrCnt, badLengthCnt := cleared (hit 0x108 0) h.badLengthCnt
        crcErrCnt := cleared (hit 0x10C 16) h.crcErrCnt, badTypeCnt := cleared (hit 0x10C 0) h.badTypeCnt
        seqGapCnt := cleared (hit 0x110 16) h.seqGapCnt, seqOldCnt := cleared (hit 0x110 0) h.seqOldCnt
        fwdDropCnt := cleared (hit 0x114 16) h.fwdDropCnt, busyCnt := cleared (hit 0x114 0) h.busyCnt })
     else s, stOk)
  | _ => (s, stOk)

/-- HLY_CTRL_WRITE (R284). -/
def execHlyCtrlWrite (src : RegSrc) (p : HPort) (v : Word) (s : State) : Host.Outcome State Fault Refusal :=
  done (afterReplies (cmdPort p) (writeRow (portBlk p) src (ctrlWrite src p v) s))

/-- RETRAIN: HLY_CTRL as it stands, with RETRAIN set (R273). -/
def execRetrain (src : RegSrc) (p : HPort) (s : State) : Host.Outcome State Fault Refusal :=
  done (afterReplies (cmdPort p) (writeRow (portBlk p) src (fun s => ctrlWrite src p ((s.hport p).ctrl ||| 2) s) s))

end Sys2Proof.Machine
end

