-- ==== Sys2Proof/Machine/Video.lean ====
section
/-! DEFINITION. Legacy video: row cells, the two buffers and the return stream (19_legacy_mode.md R498 to R501). -/

namespace Sys2Proof.Machine

/-- The state with the legacy registers changed. -/
def State.modLegacy (s : State) (f : Legacy → Legacy) : State := { s with legacy := f s.legacy }

/-- The state with the row-cell receiver changed. -/
def State.modRx (s : State) (f : RowRx → RowRx) : State := s.modLegacy (fun l => { l with rx := f l.rx })

/-- Bit `k` of FAULT is set by a legacy event (Table 19.4). -/
def legacyFault (k : Nat) (s : State) : State := setLegacy (BitVec.ofNat 14 (1 <<< k)) 0 0 s

/-- A word of the return stream (R501). -/
def returnWord (kind count : Nat) : Word := withCrc8 (put 24 0x3A ||| put 22 kind ||| put 8 (count % 16384))

/-- A word of the return stream falls due: in the compatibility modes, in S0 and S1 (R501). -/
def sendReturn (kind count : Nat) (s : State) : State :=
  if s.compat && (s.pwr.pstate == .s0 || s.pwr.pstate == .s1) then
    s.modLegacy (fun l => { l with returns := l.returns ++ [returnWord kind count] })
  else s

/-- The STROKE word of a stroke start (R501). -/
def strokeReturn (s : State) : State := sendReturn 0 s.scan.strokeCnt.toNat s

/-- The DISCARD word of a discard or drop (R501). -/
def discardReturn (s : State) : State := sendReturn 2 (s.legacy.verr + s.legacy.vdrop) s

/-- The swap at a compose point: a pending buffer becomes the shown one (R174, R500, R501). -/
def legacySwap (s : State) : State :=
  if s.compat && s.legacy.pending then
    let s1 := s.modLegacy (fun l => { l with showOne := !l.showOne, pending := false, frames := l.frames + 1 })
    sendReturn 1 s1.legacy.frames.toNat s1
  else s

/-- The frame in progress is discarded (R499). -/
def discardFrame (s : State) : State :=
  if s.legacy.rx.inFrame then
    discardReturn (legacyFault 6 (({ s with base := { s.base with verr := s.base.verr + 1 } }.modRx
      (fun r => { r with inFrame := false })).modLegacy (fun l => { l with verr := satInc 16 l.verr })))
  else s

/-- The 1,024 pixel bytes of a row are stored in the buffer that is not shown (R500). -/
def storeRow (row : Nat) (px : List Byte) (s : State) : State :=
  s.modLegacy (fun l =>
    if l.showOne then { l with buf0 := memWrite 0 l.buf0 (1024 * row) px } else { l with buf1 := memWrite 0 l.buf1 (1024 * row) px })

/-- VID_LOCK after a cell whose trailer matched or failed (R499). -/
def lockCell (good : Bool) (s : State) : State :=
  let r := s.legacy.rx
  if good then s.modRx (fun r => { r with goodRun := min 2 (r.goodRun + 1), badRun := 0, vidLock := r.vidLock || 1 ≤ r.goodRun })
  else
    let lost := r.vidLock && 4 ≤ r.badRun + 1
    let s1 := s.modRx (fun r => { r with goodRun := 0, badRun := min 4 (r.badRun + 1), vidLock := r.vidLock && !lost })
    if lost then legacyFault 6 s1 else s1

/-- The word is the header of a row cell (R499). -/
def isHeader (w : Word) : Bool := bits w 24 8 == 0xC5 && crc8Ok w

/-- A row of the frame in progress is stored; row 1023 completes the frame (R499, R500). -/
def takeRow (row : Nat) (px : List Byte) (s : State) : State :=
  let s1 := (storeRow row px s).modRx (fun r => { r with inFrame := true, lastRow := row, ignoring := false })
  if row = 1023 then (s1.modRx (fun r => { r with inFrame := false })).modLegacy (fun l => { l with pending := true }) else s1

/-- A cell with its trailer's result (R499, R500). -/
def takeCell (row : Nat) (px : List Byte) (good : Bool) (s0 : State) : State :=
  let s := lockCell good s0
  let r := s.legacy.rx
  if !good then discardFrame (crcFail 2 s)
  else if row = 0 then
    if s.legacy.pending then
      if r.ignoring then s
      else
        discardReturn (legacyFault 6 (({ s with base := { s.base with vdrop := s.base.vdrop + 1 } }.modRx
          (fun r => { r with ignoring := true })).modLegacy (fun l => { l with vdrop := satInc 16 l.vdrop })))
    else takeRow 0 px (discardFrame s)
  else if !r.inFrame then s
  else if row = r.lastRow + 1 then takeRow row px s
  else discardFrame s

/-- The words of a cell wait until it is whole (R499). -/
def keepWords (ws : List Word) (s : State) : State := s.modPort .p0 (fun h => { h with rxWords := ws })

/-- The 257 words after header `w` are taken as the cell (R499, Table 19.5). -/
def cellWords (w : Word) (rest : List Word) (s : State) : State :=
  let px := wordsBytes (rest.take 256)
  takeCell (bits w 8 10) px (crc32 px == (rest.getD 256 0).toNat) s

/-- The receiver hunts word by word for a header and takes the 257 words after it (R499). -/
def huntCells : Nat → List Word → State → State
  | 0, _, s => s
  | _, [], s => s
  | n + 1, w :: rest, s =>
    if isHeader w then
      let s1 := s.modRx (fun r => { r with headAt := s.ticks })
      if rest.length < 257 then keepWords (w :: rest) s1 else huntCells n (rest.drop 257) (cellWords w rest s1)
    else huntCells n rest s

/-- Words arrive at the row-cell receiver: first those that a cell in progress lacks (R499, R500). -/
def takeWords (ws : List Word) (s : State) : State :=
  match s.h0.rxWords with
  | [] => huntCells ws.length ws s
  | w :: part =>
    let l := part ++ ws
    if l.length < 257 then keepWords (w :: l) s
    else huntCells l.length (l.drop 257) (cellWords w l (keepWords [] s))

/-- Legacy video is received: compatibility modes, S0 to S2, with the lane up (R283). -/
def videoOn (s : State) : Bool :=
  s.compat && !s.pwr.inReset && (s.pwr.pstate == .s0 || s.pwr.pstate == .s1 || s.pwr.pstate == .s2) &&
    (s.h0.state == .active || s.h0.state == .blind)

/-- VID_LOCK is 1 and 10 ms have gone since the last header (R499). -/
def videoDue (s : State) : Bool := s.legacy.rx.vidLock && decide (s.legacy.rx.headAt + 2500000 ≤ s.ticks)

/-- VIDEO_LOCK_TIMEOUT: 10 ms without a header; one in the same evaluation counts (R16, R499). -/
def execVideoLockTimeout (s : State) : Host.Outcome State Fault Refusal :=
  done (if s.compat && videoDue s then
    legacyFault 6 (s.modRx (fun r => { r with vidLock := false, goodRun := 0 }))
  else s)

end Sys2Proof.Machine
end

