-- ==== Sys2Proof/Machine/Packets.lean ====
section
/-! DEFINITION. Packets: delineation and the checks of received packets, sequence numbers, the choice and the line form
of outgoing packets, write-back and layer data, and forwarding (10_packets_and_commands.md; R259 to R264, R140). -/

namespace Sys2Proof.Machine

/-! ### Packet words (Table 10.1) -/

/-- TYPE codes (Table 10.2). -/
def ptypeNo : PType → Nat
  | .idle => 0 | .train => 1 | .cmd => 2 | .reply => 3 | .event => 4 | .layerData => 5 | .time => 6 | .forward => 7

/-- The type with a code; reserved codes have none (Table 10.2). -/
def ptypeOf : Nat → Option PType
  | 0 => some .idle | 1 => some .train | 2 => some .cmd | 3 => some .reply | 4 => some .event | 5 => some .layerData
  | 6 => some .time | 7 => some .forward | _ => none

/-- The types counted in SEQ (Table 10.2). -/
def countedType (t : PType) : Bool := match t with | .idle | .train => false | _ => true

/-- HEC over PLI[15:0], most significant bit first (R286). -/
def hec (pli : Nat) : Nat := crc16 [BitVec.ofNat 8 (pli / 256), BitVec.ofNat 8 pli]

/-- The core header with a PLI (R286). -/
def coreHeader (pli : Nat) : Word := put 16 pli ||| put 0 (hec pli)

/-- A core header is valid (R286). -/
def headerOk (w : Word) : Bool := bits w 0 16 == hec (bits w 16 16)

/-- PLI lies in 3..1027 (R286). -/
def pliOk (w : Word) : Bool := 3 ≤ bits w 16 16 && bits w 16 16 ≤ 1027

/-- The trailer over header words and payload (R289). -/
def trailerOf (ws : List Word) : Word := BitVec.ofNat 32 (crc32 (wordsBytes ws))

/-- Header word 0 (Table 10.1). -/
def headerWord0 (k : Packet) : Word :=
  put 28 (ptypeNo k.ptype) ||| put 24 k.ch.toNat ||| put 16 k.flags.toNat ||| put 0 k.seq.toNat

/-- A packet from header word 0 to its trailer. -/
def bodyWords (k : Packet) : List Word :=
  let b := headerWord0 k :: k.hw1 :: k.payload
  b ++ [trailerOf b]

/-- A whole packet from core header to trailer (Table 10.1). -/
def packetWords (k : Packet) : List Word :=
  let b := bodyWords k
  coreHeader b.length :: b

/-! ### Receiving (R287 to R293) -/

/-- Sequence class of a counted packet (Table 10.5). -/
inductive SeqClass where
  | inOrder | gap | old
deriving DecidableEq, Repr

/-- The class of SEQ against the expected value E, none while undefined (Table 10.5). -/
def seqClass (e : Option (BitVec 16)) (rst : Bool) (seq : BitVec 16) : SeqClass :=
  match e with
  | none => .inOrder
  | some e =>
    let d := (seq - e).toNat
    if rst || d == 0 then .inOrder else if d ≤ 32767 then .gap else .old

/-- The expected value of a channel. -/
def expected (m : Sparse (BitVec 16)) (ch : Nat) : Option (BitVec 16) := (m.find? (fun p => p.1 == ch)).map (·.2)

/-- The channels a type may use (Table 10.2). -/
def channelOk (t : PType) (ch : Nat) : Bool :=
  match t with
  | .idle | .train => ch == 0
  | .cmd | .reply | .layerData => ch ≤ 12
  | .event => ch == 15
  | .time => ch == 14
  | .forward => ch == 13

/-- This module leads a follower on H1 (R29). -/
def leads (s : State) : Bool := s.h1.role == .leader

/-- The port faces a follower: it is the H1 of a leader (R29). -/
def facesFollower (p : HPort) (s : State) : Bool := p == .p1 && leads s

/-- The types the table allows a port to receive in its direction (Table 10.2). -/
def directionOk (p : HPort) (t : PType) (s : State) : Bool :=
  match t with
  | .idle | .train | .layerData | .time => true
  | .cmd => !facesFollower p s
  | .reply | .event => facesFollower p s
  | .forward => p == .p0 && leads s

/-- A packet refused by its type or channel (R290). -/
def badType (p : HPort) (s : State) : State :=
  (s.hit (portBlk p) 0x10C 0).modPort p (fun h => { h with badTypeCnt := satInc 16 h.badTypeCnt })

/-- A packet is accepted and waits for its own step. -/
def accept (p : HPort) (k : Packet) (s : State) : State := s.modPort p (fun h => { h with rxq := h.rxq ++ [k] })

/-- A TIME packet with its receive stamp: used for a domain of its port, or counted (R339, R341). -/
def acceptTime (p : HPort) (k : Packet) (s : State) : State :=
  let t := match (s.hport p).hdrStamp with
    | some (a, b) => if k.domain then b else a
    | none => rxStamp p k.domain s
  if timePacketOk p k s then accept p { k with stamp := t } s else timeBad s

/-- The sequence check of a counted packet (Table 10.5). -/
def sequence (p : HPort) (k : Packet) (s : State) : State :=
  let h := s.hport p
  let c := seqClass (expected h.expect k.ch.toNat) (k.flags.getLsbD 7) k.seq
  if c = .old then (s.hit (portBlk p) 0x110 0).modPort p (fun h => { h with seqOldCnt := satInc 16 h.seqOldCnt })
  else
    let isGap := c == .gap
    let s0 := (s.hitIf isGap (portBlk p) 0x110 16).hitIf (!(isGap && k.ptype == .cmd)) (portBlk p) 0x100 0
    let s1 := s0.modPort p (fun h => { h with
      expect := spSet h.expect k.ch.toNat (k.seq + 1)
      seqGapCnt := if isGap then satInc 16 h.seqGapCnt else h.seqGapCnt
      rxPkt := if isGap && k.ptype == .cmd then h.rxPkt else satInc 32 h.rxPkt })
    if k.ptype = .time then acceptTime p k s1 else accept p { k with gap := isGap } s1

/-- A packet with a good trailer, on a port that is not the H1 of a leader, or of a type the leader itself takes. -/
def takePacket (p : HPort) (t : PType) (b : List Word) (s : State) : State :=
  let h0 := b.getD 0 0
  let ch := bits h0 24 4
  let active := (s.hport p).state == .active
  if !channelOk t ch || !directionOk p t s || (t == .train && active) then badType p s
  else if !active && t != .train then s
  else if t = .idle then s
  else
    let k : Packet := { ptype := t, ch := BitVec.ofNat 4 ch, flags := BitVec.ofNat 8 (bits h0 16 8)
                        seq := h0.setWidth 16, hw1 := b.getD 1 0, payload := (b.drop 2).take (b.length - 3) }
    if t = .train then accept p k s else sequence p k s

/-- A packet body from header word 0 to its trailer (R289, R290, R310). The leader passes on a follower's packets, TIME
and fill apart, with nothing checked but their type. -/
def receiveBody (p : HPort) (b : List Word) (s : State) : State :=
  let t := ptypeOf (bits (b.getD 0 0) 28 4)
  let fill := t == some .idle || t == some .train
  if facesFollower p s && (s.hport p).state == .active && !fill && t != some .time then
    match t with
    | some t =>
      if channelOk t (bits (b.getD 0 0) 24 4) && directionOk p t s then
        accept p { ptype := .forward, ch := 13, payload := b }
          ((s.hit (portBlk p) 0x100 0).modPort p (fun h => { h with rxPkt := satInc 32 h.rxPkt }))
      else badType p s
    | none => badType p s
  else if trailerOf (b.take (b.length - 1)) != b.getD (b.length - 1) 0 then
    let fwd := t == some .forward && p == .p0 && leads s
    let s1 := crcFail 2 (((s.hit (portBlk p) 0x10C 16).hitIf fwd (portBlk p) 0x114 16).modPort p (fun h => { h with
      crcErrCnt := satInc 16 h.crcErrCnt, fwdDropCnt := if fwd then satInc 16 h.fwdDropCnt else h.fwdDropCnt }))
    let buf := bits (b.getD 1 0) 24 8
    if t == some .layerData && (s1.buf buf).state == .loading && (s1.buf buf).source == 0 && !facesFollower p s then bufInvalid buf s1
    else s1
  else
    match t with
    | some t => takePacket p t b s
    | none => badType p s

/-- The receive stamps of a packet whose core header is detected now, but for one that waits already (R341). -/
def stampHeader (p : HPort) (s : State) : State :=
  s.modPort p (fun h => { h with hdrStamp := some (h.hdrStamp.getD (rxStamp p false s, rxStamp p true s)) })

/-- No packet waits. -/
def dropHeader (p : HPort) (s : State) : State := s.modPort p (fun h => { h with hdrStamp := none })

/-- Delineation of packet-stream words (R287, R288); those of a packet that has not come whole wait in `rxWords`. -/
def delineate (p : HPort) : Nat → List Word → State → State
  | 0, _, s => s
  | _, [], s => s
  | n + 1, w :: rest, s =>
    if headerOk w && pliOk w then
      let pli := bits w 16 16
      let s1 := s.modPort p (fun h => { h with sync := true })
      if rest.length < pli then stampHeader p (s1.modPort p (fun h => { h with rxWords := w :: rest }))
      else delineate p n (rest.drop pli) (dropHeader p (receiveBody p (rest.take pli) s1))
    else if (s.hport p).sync then
      let s1 := if headerOk w then
          (s.hit (portBlk p) 0x108 0).modPort p (fun h => { h with badLengthCnt := satInc 16 h.badLengthCnt })
        else crcFail 1 ((s.hit (portBlk p) 0x108 16).modPort p (fun h => { h with hecErrCnt := satInc 16 h.hecErrCnt }))
      delineate p n rest (s1.modPort p (fun h => { h with sync := false }))
    else delineate p n rest s

/-- The port receives a packet stream. -/
def streamOn (p : HPort) (s : State) : Bool :=
  let h := s.hport p
  linkOn p s && !s.compat && lanesOn h && (h.state == .active || h.lockMask != 0)

/-- Line bits of packet-stream words on physical lane `l`: the words, turned where the pair is inverted, wait on the lane if it
is locked (R265). -/
def hearWords (p : HPort) (l : Nat) (bits : List Bool) (s : State) : State :=
  let r := hear p l bits s
  r.1.modPort p (fun h => h.modRx (laneIx h l) (fun x =>
    if x.locked then r.2.foldl (fun x w => pushRx (.word (if x.inverted then ~~~ w else w)) x) x else x))

/-- The lane's words are part of the packet stream: it is locked and deskewed (R265). -/
def laneUsable (x : RxLane) : Bool := x.locked && x.deskewed

/-- What a laneUsable lane holds at lane position `t`. -/
def unitAt (t : Nat) (x : RxLane) : Option RxUnit :=
  if laneUsable x then (x.words.head?).bind (fun e => if e.1 = t then some e.2 else none) else none

/-- Lane `n` is still to bring its word of position `t`, which the one the other lane has there needs: a word where STRIPE
names lane `n`, or an LCW that may overrule the other's (R264, R266). -/
def awaits (n t : Nat) (u : RxUnit) (h : Port) : Bool :=
  laneUsable (h.rx n) && (h.rx n).words.isEmpty && decide ((h.rx n).pos ≤ t) &&
    (match u with
     | .word _ => h.rxLanes == 0 || h.rxLanes.getLsbD n
     | .lcw v => n == 0 || v.isNone)

/-- The lane position that is put together next; none where no lane is laneUsable. -/
def nextAt (h : Port) : Option Nat :=
  match laneUsable h.rx0, laneUsable h.rx1 with
  | true, true => some (max h.rxPos (min (nextPos h.rx0) (nextPos h.rx1)))
  | true, false => some (max h.rxPos (nextPos h.rx0))
  | false, true => some (max h.rxPos (nextPos h.rx1))
  | false, false => none

/-- The packet-stream words of one lane position: those of the lanes that STRIPE names, lane 0's first (R264). -/
def unitWords (stripe : BitVec 2) (a b : Option RxUnit) : List Word :=
  let f (n : Nat) (u : Option RxUnit) : List Word :=
    match u with
    | some (.word w) => if stripe = 0 ∨ stripe.getLsbD n then [w] else []
    | _ => []
  f 0 a ++ f 1 b

/-- STRIPE after one lane position: that of a valid LCW there, lane 0's before lane 1's (R264, R266). -/
def stripeAfter (stripe : BitVec 2) (a b : Option RxUnit) : BitVec 2 :=
  match a, b with
  | some (.lcw (some m)), _ => m
  | _, some (.lcw (some m)) => m
  | _, _ => stripe

/-- The packet stream put together from the laneUsable lanes, lane position by lane position (R264, R265); `n` bounds the
positions. -/
def destripe : Nat → Port → List Word × Port
  | 0, h => ([], h)
  | n + 1, h0 =>
    let h := h0.modRxs (fun x => if laneUsable x then { x with words := x.words.dropWhile (fun e => e.1 < h0.rxPos) } else x)
    match nextAt h with
    | none => ([], h)
    | some t =>
      let a := unitAt t h.rx0
      let b := unitAt t h.rx1
      if (a.isNone && b.isNone) || a.any (fun u => b.isNone && awaits 1 t u h) || b.any (fun u => a.isNone && awaits 0 t u h) then
        ([], h)
      else
        let r := destripe n { h with rxPos := t + 1, rxLanes := stripeAfter h.rxLanes a b }
        (unitWords h.rxLanes a b ++ r.1, r.2)

/-- The packet-stream words that what the lanes hold adds to those of an unfinished packet. -/
def gather (p : HPort) (s : State) : List Word × State :=
  let h := s.hport p
  let r := destripe (h.rx0.words.length + h.rx1.words.length + 1) h
  (h.rxWords ++ r.1, s.modPort p (fun _ => { r.2 with
    rxWords := [], hdrStamp := if h.rxWords.isEmpty then none else h.hdrStamp }))

/-- The packet-stream words that line bits of both physical lanes add to those of an unfinished packet (R259). -/
def arrive (p : HPort) (line : LaneBits) (s : State) : List Word × State :=
  gather p (hearWords p 1 line.lane1 (hearWords p 0 line.lane0 s))

/-- PACKET_RECEIVE: line bits that carry packet-stream words on the two lanes (R259 to R261, R264, R287 to R293). -/
def execPacketReceive (p : HPort) (line : LaneBits) (s : State) : Host.Outcome State Fault Refusal :=
  done (if streamOn p s then
    let r := arrive p line s
    delineate p r.1.length r.1 r.2
  else s)

/-- LCWs may let words that wait go on into the packet stream (R264). -/
def releaseWords (p : HPort) (s : State) : State :=
  if streamOn p s then
    let r := gather p s
    delineate p r.1.length r.1 r.2
  else s

/-- LCW_RECEIVE: the line bits of one lane, on physical lane `lane`, that carry the lane words at LCW positions (R259 to R261,
R266), after those of other lane words, `lead`, which only unstuffing and descrambling use. Compatibility mode uses no LCWs;
its violations are counted (R283). -/
def execLcwReceive (p : HPort) (lane : Fin 2) (lead line : List Bool) (s : State) : Host.Outcome State Fault Refusal :=
  done (if hearing p lane.val s then
    let r := hear p lane.val line (hear p lane.val lead s).1
    if s.compat then r.1 else releaseWords p (r.2.foldl (fun s w => takeLcw p lane.val w s) r.1)
  else s)

/-! ### LAYER_DATA (R140) -/

/-- CRC-32 of a message continued by more bytes. -/
def crc32More (c : Word) (bs : List Byte) : Word :=
  BitVec.ofNat 32 (crcOut crc32P (bs.foldl (crcByte crc32P) (reflect ((c ^^^ 0xFFFFFFFF).toNat) 32)))

/-- A LAYER_DATA packet for buffer `b` at byte offset `off` (R140). -/
def storeLayer (b off : Nat) (bs : List Byte) (s : State) : State :=
  let u := s.buf b
  if 64 ≤ b ∨ u.state ≠ .loading ∨ u.source ≠ 0 then
    { s.hit 4 8 0 with store := { s.store with drop := satInc 16 s.store.drop } }
  else if off ≠ u.fill ∨ u.size < off + bs.length then bufInvalid b s
  else
    let s1 := s.modBuf b (fun u => { u with
      fill := u.fill + bs.length, crc := crc32More u.crc bs, bytes := memWrite 0 u.bytes off bs })
    let v := s1.buf b
    if v.fill < v.size then s1
    else
      match v.expect with
      | none => bufComplete b s1
      | some c => if c = v.crc then bufComplete b s1 else bufInvalid b (crcFail 2 s1)

/-- LAYER_DATA_RECEIVE: the oldest LAYER_DATA packet received is stored (R140). -/
def execLayerDataReceive (p : HPort) (s : State) : Host.Outcome State Fault Refusal :=
  done (match takeRx p (fun k => k.ptype == .layerData) s with
  | none => s
  | some (k, s1) => storeLayer (bits k.hw1 24 8) (4 * bits k.hw1 0 24) (wordsBytes k.payload) s1)

/-! ### Forwarding (R309, R310) -/

/-- A FORWARD's inner packet may be passed on (R309). -/
def innerOk (ws : List Word) : Bool :=
  let h0 := ws.getD 0 0
  3 ≤ ws.length && bits h0 28 4 != 6 && bits h0 28 4 != 7 && bits h0 24 4 < 13

/-- FORWARD_RECEIVE: the inner packet goes to H1, or is discarded and counted (R309). -/
def execForwardReceive (s : State) : Host.Outcome State Fault Refusal :=
  done (match takeRx .p0 (fun k => k.ptype == .forward) s with
  | none => s
  | some (k, s1) =>
    if leads s1 && s1.h1.state == .active && innerOk k.payload then
      { s1 with h1 := { s1.h1 with inner := s1.h1.inner ++ [k.payload] } }
    else { s1.hit 1 0x114 16 with h0 := { s1.h0 with fwdDropCnt := satInc 16 s1.h0.fwdDropCnt } })

/-- FOLLOWER_PACKET_WRAP: the oldest packet of the follower becomes a FORWARD on H0 (R310). -/
def execFollowerPacketWrap (s : State) : Host.Outcome State Fault Refusal :=
  done (match takeRx .p1 (fun k => k.ptype == .forward) s with
  | none => s
  | some (k, s1) => { s1 with h0 := { s1.h0 with forwards := s1.h0.forwards ++ [k] } })

/-! ### The line (R259 to R264) -/

/-- One line bit through the scrambler 1 + x^19 + x^58 (R260). -/
def scramble (t : TxLane) (b : Bool) : TxLane × Bool :=
  let l := b ^^ t.scr.getLsbD 18 ^^ t.scr.getLsbD 57
  ({ t with scr := (t.scr <<< 1) ||| (if l then 1 else 0) }, l)

/-- A line bit with stuffing after 24 alike (R261); `line` is kept newest first. -/
def stuff (t : TxLane) (l : Bool) : TxLane :=
  let n := if t.run ≠ 0 ∧ l = t.lastBit then t.run + 1 else 1
  if n = 24 then { t with line := (!l) :: l :: t.line, lastBit := !l, run := 1 }
  else { t with line := l :: t.line, lastBit := l, run := n }

/-- A lane word onto the line, most significant bit first (R259). -/
def putLine (t : TxLane) (w : Word) : TxLane :=
  (List.range 32).foldl (fun t i => let r := scramble t (w.getLsbD (31 - i)); stuff r.1 r.2) t

/-- The LCW at a lane position is a marker: every 256 or 4096 words (R262). -/
def markerAt (t : TxLane) (h : Port) : Bool :=
  let m := if h.txMi then 4096 else 256
  t.pos % m == m - 1

/-- STRIPE of the LCWs at a position: a lane that is to go is left out in any of them, a lane that comes back is named in a
marker first (R274, R278). -/
def stripeAt (mark : Bool) (h : Port) : BitVec 2 :=
  if h.txLanes &&& h.txWant = h.txLanes ∧ !mark then h.txLanes else h.txWant

/-- The LCW of lane `n` (R262, R263, Table 09.2). -/
def lcwAt (n : Nat) (mark : Bool) (t : TxLane) (h : Port) : Word :=
  let common := put 22 n ||| put 20 h.lstate ||| put 18 (stripeAt mark h).toNat
  if mark then withCrc8 (put 24 0xA5 ||| common ||| put 8 t.mseq.toNat)
  else withCrc8 (put 24 0x5A ||| common ||| put 16 h.pm ||| putb 15 h.txMi)

/-- Transmit lane `n`. -/
def Port.tx (h : Port) (n : Nat) : TxLane := if n = 0 then h.tx0 else h.tx1

/-- The port with transmit lane `n` changed. -/
def Port.setTx (h : Port) (n : Nat) (t : TxLane) : Port := if n = 0 then { h with tx0 := t } else { h with tx1 := t }

/-- A packet-stream word on lane `n`. -/
def putLane (n : Nat) (w : Word) (h : Port) : Port :=
  let t := putLine (h.tx n) w
  h.setTx n { t with pos := t.pos + 1 }

/-- The LCW of lane `n` on the line; MSEQ counts the markers (R262). -/
def putLcw (n : Nat) (mark : Bool) (h : Port) : Port :=
  let t := putLine (h.tx n) (lcwAt n mark (h.tx n) h)
  h.setTx n { t with pos := t.pos + 1, mseq := if mark then t.mseq + 1 else t.mseq }

/-- The lanes a port drives: those agreed or in use; one the far end lost stays driven (R278). -/
def laneSends (h : Port) : BitVec 2 := h.agreedTx ||| h.txLanes

/-- The lane a packet-stream word goes to: round-robin over the lanes in use (R264). -/
def nextLane (h : Port) : Nat :=
  if h.txLanes = 1 then 0 else if h.txLanes = 2 then 1 else if h.tx0.pos ≤ h.tx1.pos then 0 else 1

/-- LCWs on every driven lane where the stream stands at an LCW position (R262): a change of STRIPE applies after them (R264),
and the change to markers every 4096 words at the first position with p mod 4096 = 4095 in ACTIVE (R262, R281). -/
def putLcws (h : Port) : Port :=
  let t := h.tx (nextLane h)
  if t.pos % 32 = 31 then
    let mark := markerAt t h
    let h1 := if (laneSends h).getLsbD 0 then putLcw 0 mark h else h
    let h2 := if (laneSends h).getLsbD 1 then putLcw 1 mark h1 else h1
    { h2 with
      txLanes := stripeAt mark h
      txMi := h.txMi || (t.pos % 4096 == 4095 && h.state == .active && !h.miHold)
      pmSent := if h.pm ≠ 0 ∧ !mark then h.pmSent + 1 else h.pmSent }
  else h

/-- The words of an IDLE packet, which a lost lane keeps sending (R278, R290). -/
def idleWords : List Word := packetWords {}

/-- A packet-stream word onto its lane; a driven lane that STRIPE leaves out carries IDLE words (R278). -/
def putWord (h : Port) (w : Word) : Port :=
  let n := nextLane h
  let h1 := putLane n w h
  let o := 1 - n
  if (laneSends h1).getLsbD o && !h1.txLanes.getLsbD o then putLane o (idleWords.getD ((h1.tx o).pos % 4) 0) h1 else h1

/-- A packet-stream word, after the LCWs that stand at its position. -/
def putStream (h : Port) (w : Word) : Port := putWord (putLcws h) w

/-- Fill of IDLE words until 8 status LCWs with PM set have gone; `n` bounds the words. -/
def putPm : Nat → Port → Port
  | 0, h => h
  | n + 1, h =>
    let h1 := putLcws h
    if 8 ≤ h1.pmSent then h1 else putPm n (putWord h1 (idleWords.getD (n % 4) 0))

/-- The entry to SLACK (1) or FURLED (2) announced: 8 status LCWs with PM set, and then nothing (R280). -/
def sendPm (code : Nat) (h : Port) : Port :=
  let h1 := putPm 640 { h with pm := code, pmSent := 0, tx0 := { h.tx0 with line := [] }, tx1 := { h.tx1 with line := [] } }
  { h1 with pm := 0, tx0 := { h1.tx0 with line := h1.tx0.line.reverse }, tx1 := { h1.tx1 with line := h1.tx1.line.reverse } }

/-- A packet onto the line: the lanes' `line` is what this packet put there, in line order (R259). -/
def putPacket (ws : List Word) (h : Port) : Port :=
  let h1 := ws.foldl putStream { h with tx0 := { h.tx0 with line := [] }, tx1 := { h.tx1 with line := [] } }
  { h1 with
    tx0 := { h1.tx0 with line := h1.tx0.line.reverse }, tx1 := { h1.tx1 with line := h1.tx1.line.reverse }
    lastSent := ws }

/-! ### Sending (R296, R297) -/

/-- Packet cap C (Table 10.6); 117 on a follower's H0 (R297). -/
def capOf (p : HPort) (h : Port) : Nat :=
  if p == .p0 && h.role == .follower then 117
  else
    let lanes := if h.txLanes = 3 then 2 else 1
    min 1028 (lanes * 2 ^ h.rate.toNat * 3875 / 32)

/-- A counted packet takes the port's count of its channel, with SEQ_RST in the channel's first (R294). -/
def number (k : Packet) (own : Sparse (BitVec 16)) (sent : List Nat) : Packet × Sparse (BitVec 16) × List Nat :=
  let ch := k.ch.toNat
  let n := spGet own ch 0
  ({ k with seq := n, flags := if sent.contains ch then k.flags else k.flags ||| 0x80 }, spSet own ch (n + 1), setIns sent ch)

/-- A counted packet leaves a port (R294, Table 10.12). -/
def sendCounted (p : HPort) (k : Packet) (s : State) : State :=
  (s.hit (portBlk p) 0x104 0).modPort p (fun h =>
    let (k1, own, sent) := number k h.ownSeq h.rstSent
    putPacket (packetWords k1) { h with ownSeq := own, rstSent := sent, txPkt := satInc 32 h.txPkt })

/-- TRAIN as a port sends it (Table 09.4). -/
def trainPacket (p : HPort) (h : Port) : Packet :=
  { ptype := .train
    payload := [put 24 (portStateNo h.state) ||| put 20 (ctlRates h.ctrlAct) ||| put 16 h.lockMask |||
        put 14 (announce p h.cfgRole) ||| putb 13 h.locked ||| putb 12 h.ack ||| put 0 1,
      put 16 0x5024] }

/-- A slow-path command whose EV_CMD_DONE has left the queue of its port is no longer pending (R300). -/
def releaseSlow (p : CmdPort) (e : Event) (s : State) : State :=
  if e.done then
    { s with cmd := { s.cmd with slow := dropFirst (fun x => x.port == p && x.tag == e.tag && x.finished) s.cmd.slow } }
  else s

/-- The EVENT packet of an event (R292, Table 10.4). -/
def eventPacket (e : Event) (lost : Bool) : Packet :=
  { ptype := .event, ch := 15, flags := if lost then 0x20 else 0
    hw1 := put 16 e.code.toNat ||| put 8 e.tag.toNat ||| put 0 e.status.toNat, payload := e.words }

/-- The next part of a LAYER_DATA transfer, at most C words long, and what is left of it (R168, R297). -/
def splitLayer (cap : Nat) (k : Packet) : Packet × Option Packet :=
  let n := cap - 4
  if k.payload.length ≤ n then (k, none)
  else ({ k with payload := k.payload.take n },
    some { k with payload := k.payload.drop n, hw1 := setField k.hw1 0 24 (bits k.hw1 0 24 + n) })

/-- A reply begins `start` ns after the last trailer bit of its command: measured, and late after 8.0 µs (R301, R302). -/
def measureReply (start : Nat) (s : State) : State :=
  let s1 := { s with cmd := { s.cmd with replyMax := max s.cmd.replyMax (min 65535 (start / 10)) } }
  if 8000 < start then raiseFault 0 3 0 true false s1 else s1

/-- The next packet of an ACTIVE port, by the order of R296. -/
def sendNext (p : HPort) (start : Nat) (s : State) : State :=
  let h := s.hport p
  match h.replies with
  | k :: rest =>
    afterReplies (cmdPort p) (sendCounted p k (measureReply start (s.modPort p (fun h => { h with replies := rest }))))
  | [] =>
  match h.times with
  | k :: rest =>
    let (s1, k1) := departTime p k (s.modPort p (fun h => { h with times := rest }))
    sendCounted p k1 s1
  | [] =>
  match (if facesFollower p s then [] else h.events.q) with
  | e :: rest =>
    let s1 := s.modPort p (fun h => { h with events := { q := rest, lost := false } })
    sendCounted p (eventPacket e h.events.lost) (releaseSlow (cmdPort p) e s1)
  | [] =>
  match h.forwards with
  | k :: rest => sendCounted p k (s.modPort p (fun h => { h with forwards := rest }))
  | [] =>
  match h.inner with
  | ws :: rest =>
    let fill := decide (bits (ws.getD 0 0) 28 4 ≤ 1)
    (s.hitIf (!fill) (portBlk p) 0x104 0).modPort p (fun h =>
      putPacket (coreHeader ws.length :: ws) { h with inner := rest, txPkt := if fill then h.txPkt else satInc 32 h.txPkt })
  | [] =>
  match h.layers with
  | k :: rest =>
    let (k1, left) := splitLayer (capOf p h) k
    let s1 := sendCounted p k1 ((readStore s).modPort p (fun h => { h with layers := left.toList ++ rest }))
    if left.isNone then endSending (bits k.hw1 24 8) s1 else s1
  | [] => s.modPort p (putPacket idleWords)

/-- A word of the return stream on lane 0, scrambled and stuffed (R283). -/
def putReturn (w : Word) (h : Port) : Port :=
  let h1 := putLane 0 w { h with tx0 := { h.tx0 with line := [] } }
  { h1 with tx0 := { h1.tx0 with line := h1.tx0.line.reverse }, lastSent := [w] }

/-- ROW_CELL_RECEIVE: the line bits of H0 receive lane 0 in the compatibility modes, which carry row cells (R283, R498 to
R500). -/
def execRowCellReceive (line : List Bool) (s : State) : Host.Outcome State Fault Refusal :=
  done (if videoOn s then
    let r := hear .p0 0 line s
    takeWords r.2 r.1
  else s)

/-- The return stream of legacy video: a due word, or 0 (R501). -/
def sendLegacy (s : State) : State :=
  match s.legacy.returns with
  | [] => s.modPort .p0 (putReturn 0)
  | w :: rest => (s.modLegacy (fun l => { l with returns := rest })).modPort .p0 (putReturn w)

/-- A TRAIN packet goes out (R268, Table 09.3). -/
def sendTrain (p : HPort) (s : State) : State :=
  trainSent p (s.modPort p (fun h => putPacket (packetWords (trainPacket p h)) h))

/-- PACKET_SEND: the next packet of the port's stream (R296); TRAIN during bring-up, in DETECT for the 20 µs of a beacon and in
STEP after 10 µs of electrical idle (R268, R543, Table 09.3); IDLE in BLIND, and the return stream in compatibility mode
(R501). -/
def execPacketSend (p : HPort) (start : Nat) (s : State) : Host.Outcome State Fault Refusal :=
  done (if linkOn p s then
    if s.compat then (if p == .p0 && (s.hport p).state == .blind then sendLegacy s else s)
    else
      match (s.hport p).state with
      | .detect =>
        if !(s.hport p).beaconOff && (s.hport p).beacons != 0 && decide (s.ticks < (s.hport p).beaconAt + 5000) then sendTrain p s
        else s
      | .base | .negotiate => sendTrain p s
      | .step => if s.ticks < (s.hport p).enteredAt + 2500 then s else sendTrain p s
      | .blind => s.modPort p (putPacket idleWords)
      | .active => sendNext p start s
      | _ => s
  else s)

end Sys2Proof.Machine
end

