-- ==== Sys2Proof/Machine/Dvfs.lean ====
section
/-! DEFINITION. DVFS: operating points and their sequence (15_clocks.md R419 to R422). -/

namespace Sys2Proof.Machine

/-- The state with CLK changed. -/
def State.modClk (s : State) (f : Clk → Clk) : State := { s with clk := f s.clk }

/-- VPIX of an operating point in mV (Table 15.5). -/
def vpixOf (op : Nat) : Nat :=
  match op with
  | 0 => 900
  | 1 => 800
  | 2 => 760
  | _ => 720

/-- The sequence ends and DVFS_SET completes (R421, R422). -/
def dvfsEnd (st : BitVec 8) (s : State) : State :=
  finishStarted 0x61 st [] (s.modClk (fun c => { c with dvfsStep := 0, dvfsBusy := false }))

/-- DVFS_SET (0x61): the load check, then the sequence up (VPIX first) or down (divider first) (R420, R421). -/
def opDvfsSet : OpFn := fun _ ws s =>
  let w := ws.getD 0 0
  let op := bits w 0 2
  if !within w 3 then endWith stBadParam s
  else if !loadFits op s then endWith stBadState s
  else if op = s.clk.opAct.toNat then endWith stOk (s.modClk (fun c => { c with opTgt := BitVec.ofNat 2 op }))
  else
    let step := if op < s.clk.opAct.toNat then 1 else 3
    (s.modClk (fun c => { c with opTgt := BitVec.ofNat 2 op, dvfsBusy := true, dvfsStep := step }), .started)

/-- DVFS_SET (R420, R421). -/
def execDvfsSet (c : CmdCtx) (ws : List Word) (s : State) : Host.Outcome State Fault Refusal :=
  done (submit opDvfsSet 0x61 c ws s)

/-- DVFS_RAMP_END: the ramp of VPIX in progress ends (R421, R422). -/
def execDvfsRampEnd (s : State) : Host.Outcome State Fault Refusal :=
  done (if s.clk.coast then s
    else if s.clk.dvfsStep = 1 then
      s.modClk (fun c => { c with vpix := vpixOf c.opTgt.toNat, dvfsStep := 2, settleFrom := s.ticks })
    else if s.clk.dvfsStep = 4 then dvfsEnd stOk (s.modClk (fun c => { c with vpix := vpixOf c.opAct.toNat }))
    else if s.clk.dvfsStep = 5 then dvfsEnd stTimeout (s.modClk (fun c => { c with vpix := vpixOf c.opAct.toNat }))
    else s)

/-- DVFS_SETTLED: the divider changes at the next compose point (R421). -/
def execDvfsSettled (s : State) : Host.Outcome State Fault Refusal :=
  done (if !s.clk.coast && s.clk.dvfsStep == 2 then s.modClk (fun c => { c with dvfsStep := 3 }) else s)

/-- SETTLE_TO microseconds have gone since the end of the VPIX ramp (R422). -/
def settleDue (s : State) : Bool := decide (s.clk.settleFrom + s.clk.settleTo.toNat * 250 ≤ s.ticks)

/-- DVFS_SETTLE_TIMEOUT: VPIX ramps back and DVFS_FAIL is raised (R422). -/
def execDvfsSettleTimeout (s : State) : Host.Outcome State Fault Refusal :=
  done (if !s.clk.coast && s.clk.dvfsStep == 2 && settleDue s then
    raiseFault 14 7 0 true false (s.modClk (fun c => { c with dvfsStep := 5 }))
  else s)

/-- The divider changes at a compose point where it is due and no coast runs; LOAD_OVER speaks of the new operating point
(R421, R422, Table 15.8). -/
def dvfsCompose (s : State) : State :=
  if s.clk.dvfsStep = 3 ∧ s.clk.coast = false then
    let up := s.clk.opTgt.toNat < s.clk.opAct.toNat
    let s1 := noteLoad (s.modClk (fun c => { c with opAct := c.opTgt }))
    if up then dvfsEnd stOk s1 else s1.modClk (fun c => { c with dvfsStep := 4 })
  else s

end Sys2Proof.Machine
end

