-- ==== Sys2Proof/Machine/Clk.lean ====
section
/-! DEFINITION. Clock sources, the clock monitor, coasting and relocking, loop timing, the gating tree and the CLK window
(15_clocks.md). DVFS stands in Dvfs.lean. -/

namespace Sys2Proof.Machine

/-! ### The monitor (R409, Table 15.7) -/

/-- The monitor check of a clock runs in the present power state (Table 15.7), and while the sources start on an exit from S3,
S4 or S5, in stages 2 to 5 (R423, R432); LINKCLK is there only while its port is ACTIVE (Table 15.1). -/
def monitorOn (c : MonClk) (s : State) : Bool :=
  !s.pwr.inReset &&
  (match c with
   | .linkclk0 => s.h0.state == .active
   | .linkclk1 => s.h1.state == .active
   | _ => true) &&
  (match s.pwr.pstate with
   | .s0 | .s1 | .s2 => true
   | .s3 => c == .fbosc || c == .lposc || 2 ≤ s.pwr.wakeStage
   | _ => c == .lposc || 2 ≤ s.pwr.wakeStage)

/-- The bit of FAILED, which is the fault source, of a monitored clock (Table 15.9). -/
def monSource : MonClk → Nat
  | .refosc => 0 | .linkclk0 => 1 | .linkclk1 => 1 | .fbosc => 2 | .row _ => 3 | .plla => 4 | .pllb => 5 | .lposc => 6

/-- FAILED with a source's bit set or cleared (Table 15.8). -/
def markFailed (n : Nat) (v : Bool) (s : State) : State :=
  let m : BitVec 7 := BitVec.ofNat 7 (1 <<< n)
  s.modClk (fun c => { c with failed := if v then c.failed ||| m else c.failed &&& ~~~ m })

/-- A monitored clock is tripped, or good again; bit 1 of FAILED shows the LINKCLK of either port (R409). -/
def markClock (c : MonClk) (v : Bool) (s : State) : State :=
  match c with
  | .linkclk0 => markFailed 1 (v || s.clk.linkBad1) (s.modClk (fun c => { c with linkBad0 := v }))
  | .linkclk1 => markFailed 1 (v || s.clk.linkBad0) (s.modClk (fun c => { c with linkBad1 := v }))
  | .row stopped => markFailed 3 v (s.modClk (fun c => { c with rowStop := v && (stopped || c.rowStop) }))
  | c => markFailed (monSource c) v s

/-- The length of the coast under way so far, in 0.1 µs (Table 15.8). -/
def coastLength (s : State) : Nat := min 65535 ((s.ticks - s.clk.coastFrom) / 25)

/-- PLL_A and PLL_B coast (R410): each coast is counted. -/
def startCoast (s : State) : State :=
  (s.hitIf (!s.clk.coast) 14 0x0204 16).modClk (fun c => { c with
    coast := true, lockA := false, lockB := false, failsA := 0, failsB := 0
    coastFrom := if c.coast then c.coastFrom else s.ticks
    coastCnt := if c.coast then c.coastCnt else satInc 16 c.coastCnt })

/-- The PLLs coast and take FBOSC once it is ready (R410, R411). -/
def coastToFb (s : State) : State :=
  (startCoast s).modClk (fun c => { c with
    toFb := true, relocking := c.fbReady && c.fbGood, waitFb := !(c.fbReady && c.fbGood) })

/-- The PLLs are referenced to FBOSC and do not coast towards the source that SEL names (R416). -/
def onFbosc (s : State) : Bool := s.clk.onFb && !(s.clk.coast && !s.clk.toFb)

/-- The source selected by SEL tripped: a coast where the PLLs are on it, or relock to it (R410, R416). -/
def selTripped (sel : Nat) (s : State) : State :=
  if s.clk.sel.toNat = sel && !onFbosc s then coastToFb s else s

/-- REFOSC trips (R410, R412): a port that is ACTIVE with receive lane 0 unlocked goes down. -/
def refTrip (s : State) : State :=
  let s1 := selTripped 0 (s.modClk (fun c => { c with refOk := false }))
  [HPort.p0, HPort.p1].foldl (fun s p =>
    if (s.hport p).state == .active && !(s.hport p).rx0.locked then linkDown p s else s) s1

/-- FBOSC trips: every tile is blanked and the beam is Dark, whatever FLT_REACT holds (R414). PLLs that are on FBOSC
lose their reference and coast. -/
def fbTrip (s : State) : State :=
  let s1 := reqDark (s.modClk (fun c => { c with fbGood := false, fbReady := false }))
  if onFbosc s1 || s1.clk.toFb then coastToFb s1 else s1

/-- LINKCLK of a port is good (Table 15.1). -/
def linkGood (p : HPort) (s : State) : Bool :=
  (s.hport p).state == .active && (match p with | .p0 => s.clk.linkOk0 | .p1 => s.clk.linkOk1)

/-- The source that a value of SEL names is good (R416). -/
def selGood (n : Nat) (s : State) : Bool := if n = 0 then s.clk.refOk else if n = 1 then linkGood .p0 s else linkGood .p1 s

/-- The source of the PLLs, or the one that they coast towards, is good (R410, R411). -/
def sourceGood (s : State) : Bool :=
  if (if s.clk.coast then s.clk.toFb else s.clk.onFb) then s.clk.fbReady && s.clk.fbGood else selGood s.clk.sel.toNat s

/-- A PLL's lock detector trips: while its source is good it relocks to the same source (R410, R411). -/
def pllTrip (b : Bool) (s : State) : State :=
  let good := sourceGood s
  s.modClk (fun c => { c with
    lockA := c.lockA && b, lockB := c.lockB && !b, relocking := c.relocking || good
    toFb := if c.coast then c.toFb else c.onFb })

/-- What the trip of a clock does beside its fault (R410 to R414). -/
def tripEffect (c : MonClk) (s : State) : State :=
  match c with
  | .refosc => refTrip s
  | .linkclk0 => selTripped 1 (s.modClk (fun c => { c with linkOk0 := false }))
  | .linkclk1 => selTripped 2 (s.modClk (fun c => { c with linkOk1 := false }))
  | .fbosc => fbTrip s
  | .lposc => s
  | .plla => pllTrip false s
  | .pllb => pllTrip true s
  | .row _ => s

/-- INDEX of a clock fault: the port of LINKCLK, else 0. -/
def monIndex (c : MonClk) : Nat := if c = .linkclk1 then 1 else 0

/-- A coast lasts longer than 25 µs (R415). -/
def coastLong (s : State) : Bool := s.clk.coast && decide (s.clk.coastFrom + 6250 < s.ticks)

/-- The report of a trip: that of ROW is none in a coast, unless the coast is longer than 25 µs (R409, R415). -/
def reportTrip (c : MonClk) (s : State) : State :=
  match c with
  | .row _ => if !s.clk.coast || coastLong s then ownCheck 14 3 0 s else s
  | c => ownCheck 14 (monSource c) (monIndex c) s

/-- A trip: its fault, its bit of FAILED and its effect (R409). -/
def trip (c : MonClk) (s : State) : State := tripEffect c (markClock c true (reportTrip c s))

/-- CLK_MONITOR_TRIP (R409). -/
def execClkMonitorTrip (c : MonClk) (s : State) : Host.Outcome State Fault Refusal :=
  done (if monitorOn c s then trip c s else s)

/-- A clock's window count is back within tolerance (R409). LINKCLK is there only while its port is ACTIVE (Table 15.1). The
millisecond of R414 begins where FBOSC had tripped. -/
def clockGood (c : MonClk) (s : State) : State :=
  match c with
  | .refosc => s.modClk (fun c => { c with refOk := true, refFrom := if c.refOk then c.refFrom else s.ticks })
  | .linkclk0 => if s.h0.state == .active then s.modClk (fun c => { c with linkOk0 := true }) else s
  | .linkclk1 => if s.h1.state == .active then s.modClk (fun c => { c with linkOk1 := true }) else s
  | .fbosc => s.modClk (fun c => { c with fbGood := true, fbFrom := if c.fbGood then c.fbFrom else some s.ticks })
  | .lposc | .plla | .pllb | .row _ => s

/-- CLK_MONITOR_GOOD (R409). -/
def execClkMonitorGood (c : MonClk) (s : State) : Host.Outcome State Fault Refusal :=
  done (if monitorOn c s then clockGood c (markClock c false s) else s)

/-- The windows of `len` ticks that end between two model times. -/
def windowsIn (len a b : Nat) : Nat := b / len - a / len

/-- `k` forced checks of a source, with its real condition (R377); past 65,535 of them FLT_COUNT stands. -/
def forcedChecks (b n idx : Nat) (cond : Bool) (k : Nat) (s : State) : State :=
  if (s.win b).force.getLsbD n then (List.range (min k 65535)).foldl (fun s _ => raiseFault b n idx cond true s) s else s

/-- The forced checks of the clock monitor's windows and of the supervisors' samples since model time `from_`: each check is
one setting, with FLT_REAL where its real condition holds (R377, Table 13.11). DESIGN CHOICE (log entry 200): a sample of a
supervisor's filter comes once in the length of the filter, 10 µs, and 2 µs for the regulators. -/
def windowChecks (from_ : Nat) (s : State) : State :=
  let w := windowsIn 500 from_ s.ticks
  let v := windowsIn 2500 from_ s.ticks
  let one (c : MonClk) (cond : Bool) (s : State) : State :=
    if monitorOn c s then forcedChecks 14 (monSource c) (monIndex c) cond w s else s
  let s1 := one .refosc (s.clk.failed.getLsbD 0) s
  let s2 := one .linkclk1 s.clk.linkBad1 (one .linkclk0 s.clk.linkBad0 s1)
  let s3 := one .fbosc (s.clk.failed.getLsbD 2) s2
  let s4 := one (.row false) ((s.clk.failed.getLsbD 3 && !s.clk.coast) || coastLong s) s3
  if s.pwr.porHeld then s4
  else forcedChecks 15 2 0 s.pwr.vregBad w (forcedChecks 15 1 0 s.pwr.ov v (forcedChecks 15 0 0 s.pwr.low v s4))

/-- TIME_TICK: `n` ticks of the TIME clock (R337), with the forced checks of the monitor windows and supervisor samples that
end in them. -/
def execTimeTick (n : Nat) (s : State) : Host.Outcome State Fault Refusal := done (windowChecks s.ticks (tick n s))

/-! ### PLLs (R410, R411, R416) -/

/-- PLL_UNLOCK of PLL_A, or of PLL_B where `b` (R410). -/
def execPllUnlock (b : Bool) (s : State) : Host.Outcome State Fault Refusal :=
  done (if monitorOn .plla s then trip (if b then .pllb else .plla) s else s)

/-- PLL_RELOCK_DONE: the PLLs are locked and a coast ends (R410). -/
def execPllRelockDone (s : State) : Host.Outcome State Fault Refusal :=
  done (if s.clk.relocking && monitorOn .plla s then
    let s1 := if s.clk.coast then
        s.modClk (fun c => { c with coast := false, onFb := c.toFb, lastCoast := coastLength s })
      else s
    markFailed 4 false (markFailed 5 false (s1.modClk (fun c => { c with
      relocking := false, waitFb := false, toFb := false, lockA := true, lockB := true, failsA := 0, failsB := 0 })))
  else s)

/-- PLL_RELOCK_TIMEOUT: after three failed relocks a PLL coasts and proceeds as for a source trip (R410). -/
def execPllRelockTimeout (b : Bool) (s : State) : Host.Outcome State Fault Refusal :=
  done (if s.clk.relocking && monitorOn .plla s then
    let n := (if b then s.clk.failsB else s.clk.failsA) + 1
    if 3 ≤ n then coastToFb s
    else s.modClk (fun c => { c with failsA := if b then c.failsA else n, failsB := if b then n else c.failsB })
  else s)

/-- FBOSC is ready: a PLL that waits for it takes it (R407, R411). -/
def fbNowReady (s : State) : State :=
  s.modClk (fun c => { c with fbReady := true, relocking := c.relocking || c.waitFb, waitFb := false })

/-- FBOSC_READY: a PLL that waits for FBOSC takes it (R407, R411). -/
def execFboscReady (s : State) : Host.Outcome State Fault Refusal :=
  done (if monitorOn .fbosc s then fbNowReady s else s)

/-- FBOSC_FAIL: the trip of FBOSC (R414). -/
def execFboscFail (s : State) : Host.Outcome State Fault Refusal :=
  done (if monitorOn .fbosc s then
    if s.clk.failed.getLsbD 2 then fbTrip s else trip .fbosc s
  else s)

/-- ROW_MON: ROW tripped outside a coast, or a coast lasts longer than 25 µs; in a shorter one nothing is raised (R415). That
ROW has stopped comes with the trip of its monitor, CLK_MONITOR_TRIP. -/
def execRowMon (s : State) : Host.Outcome State Fault Refusal :=
  done (if monitorOn (.row false) s && (!s.clk.coast || coastLong s) then trip (.row false) s else s)

/-! ### Loop timing (R412) -/

/-- PHY_LOOP_TIMING: an ACTIVE port with receive lane 0 locked, once REFOSC has tripped (R412). -/
def execPhyLoopTiming (p : HPort) (s : State) : Host.Outcome State Fault Refusal :=
  done (if (s.hport p).state == .active && (s.hport p).rx0.locked && !s.clk.refOk then
    s.modPort p (fun h => { h with loopTimed := true })
  else s)

/-- PHY_LOOP_RETURN: REFOSC has been good for 1 ms (R412). -/
def execPhyLoopReturn (p : HPort) (s : State) : Host.Outcome State Fault Refusal :=
  done (if s.clk.refOk && decide (s.clk.refFrom + ticksPerMs ≤ s.ticks) then s.modPort p (fun h => { h with loopTimed := false })
    else s)

/-- PHY PLL n is locked: REFOSC is good, its port is on and not loop timed, in S0 to S2 (Tables 15.2 and 15.7). -/
def phyLock (p : HPort) (s : State) : Bool :=
  s.clk.refOk && (s.hport p).state != .off && !(s.hport p).loopTimed && s.pwr.pstate != .s3 && !vault s.pwr.pstate

/-! ### Clocks that stop with a power state (Table 15.7) -/

/-- The clocks that S3 and deeper states stop: REFOSC and the PLLs. A coast ends there, and checks that are no longer made show
nothing tripped. -/
def stopClocks (s : State) : State :=
  s.modClk (fun c => { c with
    refOk := false, linkOk0 := false, linkOk1 := false, lockA := false, lockB := false, coast := false, waitFb := false
    relocking := false, toFb := false, failsA := 0, failsB := 0, linkBad0 := false, linkBad1 := false, rowStop := false
    failed := c.failed &&& 0x44, lastCoast := if c.coast then coastLength s else c.lastCoast })

/-- The clocks of S4 and S5, where FBOSC is off too. -/
def sleepClocks (s : State) : State :=
  (stopClocks s).modClk (fun c => { c with fbReady := false, failed := c.failed &&& 0x40 })

/-! ### Registers (Table 15.8) -/

/-- A write of SEL (R416). -/
def selWrite (v : Word) (s : State) : State × BitVec 8 :=
  let n := bits v 0 2
  if n = 3 then (s, stBadParam)
  else if !selGood n s then (s, stBadState)
  else
    ((startCoast s).modClk (fun c => { c with
      sel := BitVec.ofNat 2 n, toFb := false, waitFb := false, relocking := true }), stOk)

/-- The LINK domain of a port is off: its role is OFF, or a save has switched it off (R282, Table 16.8). DESIGN CHOICE (log
entry 197): before READY no port counts as off, so that CLK_GATE_STATUS reads 0 at reset as Table 15.8 has it. -/
def linkOff (p : HPort) (s : State) : Bool := s.pwr.saving.isSome || (s.pwr.ready && (s.hport p).state == .off)

/-- The stopped clocks, whatever the cause (CLK_GATE_STATUS), for a value of CLK_GATE (Tables 15.4, 15.7, 16.1 and 16.8). -/
def gateStatus (g : BitVec 6) (s : State) : Word :=
  let p := s.pwr.pstate
  let v := vault p
  let s3 := p == .s3 || v
  let pix := p != .s0 || g.getLsbD 5 || s.pwr.saving.isSome
  putb 0 (pix || g.getLsbD 0 || holdStops s) ||| putb 1 (pix || g.getLsbD 1 || holdStops s) ||| putb 2 (v || g.getLsbD 2) |||
  putb 3 (s3 || g.getLsbD 3) ||| putb 4 (s3 || g.getLsbD 4 || linkOff .p1 s) ||| putb 5 pix ||| putb 6 pix |||
  putb 7 v ||| putb 8 s3 ||| putb 9 s3 ||| putb 10 s3 ||| putb 11 (s3 || linkOff .p0 s)

/-- The condition of Table 15.4 under which a gate may stop its clock. -/
def mayStop (n : Nat) (g : BitVec 6) (s : State) : Bool :=
  if n = 0 then s.engA.health.role == .permFailed
  else if n = 1 then s.engB.health.role == .permFailed
  else if n = 2 then s.crcu.units.all (fun u => !u.active)
  else if n = 3 then s.pwr.ready && s.xmem.queue == [] && s.xmem.busy == none && s.xmem.suspended == none
  else if n = 4 then s.h1.cfgRole == .off
  else s.pwr.pstate != .s0 && bit (gateStatus g s) 0 && bit (gateStatus g s) 1

/-- A write of CLK_GATE (R417, R424). -/
def gateWrite (v : Word) (s : State) : State × BitVec 8 :=
  let g : BitVec 6 := v.setWidth 6
  let rising := g &&& ~~~ s.clk.gate
  if s.mode.ifMode = .compat then (s, stBadState)
  else if (List.range 6).all (fun n => !rising.getLsbD n || mayStop n g s) then
    (s.modClk (fun c => { c with gate := g }), stOk)
  else (s, stBadState)

/-- A read of the CLK window. -/
def clkRead (off : Nat) (s : State) : Word :=
  let c := s.clk
  match off with
  | 0x0000 =>
    putb 7 c.fbReady ||| putb 6 c.refOk ||| putb 5 (linkGood (if c.sel = 2 then .p1 else .p0) s) ||| putb 4 c.onFb |||
      put 0 c.sel.toNat
  | 0x0100 =>
    putb 6 s.h1.loopTimed ||| putb 5 s.h0.loopTimed ||| putb 4 c.coast ||| putb 3 (phyLock .p1 s) ||| putb 2 (phyLock .p0 s) |||
      putb 1 c.lockB ||| putb 0 c.lockA
  | 0x0200 => put 0 c.failed.toNat
  | 0x0204 => put 16 c.coastCnt ||| put 0 c.lastCoast
  | 0x0300 => put 0 c.gate.toNat
  | 0x0304 => gateStatus c.gate s
  | 0x0400 =>
    put 16 c.vpix ||| putb 6 c.loadOver ||| putb 5 c.dvfsBusy ||| put 2 c.opTgt.toNat ||| put 0 c.opAct.toNat
  | 0x0404 => put 0 c.settleTo.toNat
  | _ => 0

/-- A write to the CLK window (R416, R417, R425). -/
def clkWrite (off : Nat) (v : Word) (s : State) : State × BitVec 8 :=
  match off with
  | 0x0000 => selWrite v s
  | 0x0208 => (if bit v 31 then s.modClk (fun c => { c with coastCnt := cleared (s.wasHit 14 0x0204 16) c.coastCnt }) else s, stOk)
  | 0x0300 => gateWrite v s
  | 0x0404 =>
    if 10 ≤ bits v 0 10 && bits v 0 10 ≤ 1000 then (s.modClk (fun c => { c with settleTo := v.setWidth 10 }), stOk)
    else (s, stBadParam)
  | _ => (s, stOk)

/-- CLK_SEL_WRITE (R416). -/
def execClkSelWrite (src : RegSrc) (v : Word) (s : State) : Host.Outcome State Fault Refusal :=
  done (writeRow 14 src (selWrite v) s)

/-- CLK_GATE_WRITE (R417). -/
def execClkGateWrite (src : RegSrc) (v : Word) (s : State) : Host.Outcome State Fault Refusal :=
  done (writeRow 14 src (gateWrite v) s)

end Sys2Proof.Machine
end

