-- ==== Sys2Proof/Machine/Crcu.lean ====
section
/-! DEFINITION. The check-value units CRCU0 to CRCU3 and the known-answer tests of the fixed checkers
(18_check_value_units.md, R478 to R490). A unit takes its queued bytes as soon as it can (assumption 12). -/

namespace Sys2Proof.Machine

/-- Unit `u`. -/
def State.crcUnit (s : State) (u : Nat) : CrcUnit := s.crcu.units.getD u {}

/-- The state with unit `u` changed. -/
def State.modUnit (s : State) (u : Nat) (f : CrcUnit → CrcUnit) : State :=
  { s with crcu := { s.crcu with units := modAt s.crcu.units u f } }

/-- The CRC that a unit is set up for (R478). -/
def unitP (u : CrcUnit) : CrcP := ⟨u.width, u.poly.toNat, u.init.toNat, u.refin, u.refout, u.xorout.toNat⟩

/-- ceil(WIDTH / 8): the bytes of the check value (Table 18.2). -/
def checkLen (u : CrcUnit) : Nat := (u.width + 7) / 8

/-- The unit can process a byte: it is active, has room for the output, and a CHECK has not reached its end
(R484, R485). A CHECK whose LEN is too small ends at its first byte. -/
def canTake (u : CrcUnit) : Bool :=
  u.active && (u.mode == 0 || u.outFifo.length < 64) &&
  (u.mode != 2 || (if u.len.toNat < checkLen u then u.count == 0 else u.count.toNat < u.len.toNat))

/-- The unit takes one byte (R481, Table 18.2); the bits of RUN at and above WIDTH stay as they were written (R483). -/
def takeByte (u : CrcUnit) (b : Byte) : CrcUnit :=
  let run := BitVec.ofNat 64 (crcByte (unitP u) (u.run.toNat % 2 ^ u.width) b) ||| ((u.run >>> u.width) <<< u.width)
  let n := u.count + 1
  if u.mode == 0 then { u with run := run, count := n }
  else if u.mode == 1 then { u with run := run, count := n, outFifo := u.outFifo ++ [b] }
  else if u.count.toNat + checkLen u < u.len.toNat then { u with run := run, count := n, outFifo := u.outFifo ++ [b] }
  else { u with count := n, strip := u.strip ++ [b] }

/-- The first queued byte and the FIFO without it. -/
def popByte : List (List Byte) → Option (Byte × List (List Byte))
  | [] => none
  | [] :: rest => popByte rest
  | [b] :: rest => some (b, rest)
  | (b :: bs) :: rest => some (b, bs :: rest)

/-- The unit takes queued bytes while it can, at most `n` of them. -/
def pump : Nat → CrcUnit → CrcUnit
  | 0, u => u
  | n + 1, u =>
    match popByte u.inFifo with
    | none => u
    | some (b, rest) => if canTake u then pump n { takeByte u b with inFifo := rest } else u

/-- Output bytes filled up to whole words with zeros (R484). -/
def padOut (l : List Byte) : List Byte := l ++ List.replicate ((4 - l.length % 4) % 4) 0

/-- The value of RESULT for the running value (R478). -/
def unitResult (u : CrcUnit) : Nat := crcOut (unitP u) (u.run.toNat % 2 ^ u.width)

/-- The check value as bytes in the order of ORDER (R484). -/
def checkBytes (u : CrcUnit) (v : Nat) : List Byte :=
  if u.order then (natBytes (checkLen u) v).reverse else natBytes (checkLen u) v

/-- The unit completes: RESULT, DONE, idle (R481); APPEND puts the check value out; a CHECK sets MATCH or MISMATCH,
and SHORT where it ended before LEN or LEN was too small (R485). -/
def complete (u : CrcUnit) : CrcUnit :=
  let v := unitResult u
  let out := if u.mode == 1 then u.outFifo ++ checkBytes u v else u.outFifo
  let short := u.mode == 2 && (u.len.toNat < checkLen u || u.count.toNat < u.len.toNat)
  let good := u.mode == 2 && !short && u.strip == checkBytes u v
  { u with
    result := BitVec.ofNat 64 v, done := true, active := false, finishing := false, inFifo := []
    outFifo := padOut out
    isMatch := good, mismatch := u.mode == 2 && !good, short := short }

/-- A FINISH that waits takes effect once every queued byte has been processed (R481), with room for what it puts
out (R484). -/
def tryFinish (u : CrcUnit) : CrcUnit :=
  if u.finishing && u.inFifo.isEmpty && (u.mode != 1 || (padOut (u.outFifo ++ checkBytes u 0)).length ≤ 64)
  then complete u else u

/-- The unit runs on: queued bytes, then a FINISH that waits. A CHECK at its end completes by itself. -/
def runUnit (u : CrcUnit) : CrcUnit := tryFinish (pump (u.inFifo.flatten.length) u)

/-- START loads INIT and clears COUNT, the FIFOs, DONE, MATCH and MISMATCH (R481). DEDUCED (log entry 171): SHORT, which the
rule does not name, stays until the unit next completes. -/
def startUnit (u : CrcUnit) : CrcUnit :=
  { u with
    run := u.init, count := 0, inFifo := [], outFifo := [], strip := [], done := false, isMatch := false, mismatch := false
    finishing := false, active := true }

/-- The fields of CRCU_CTRL stored (Table 18.3). -/
def storeCtrl (u : CrcUnit) (v : Word) : CrcUnit :=
  { u with
    nbytes := BitVec.ofNat 2 (bits v 20 2), mode := BitVec.ofNat 2 (bits v 16 2), order := bit v 10, refin := bit v 9
    refout := bit v 8, width := bits v 0 7 }

/-- A write would store a WIDTH or MODE that does not exist (R483). -/
def ctrlBad (v : Word) : Bool := bits v 0 7 == 0 || 64 < bits v 0 7 || bits v 16 2 == 3

/-- The fields other than NBYTES are the stored ones (R483). -/
def ctrlSame (u : CrcUnit) (v : Word) : Bool :=
  bits v 0 7 == u.width && bit v 9 == u.refin && bit v 8 == u.refout && bits v 16 2 == u.mode.toNat && bit v 10 == u.order

/-- CRCU0 and CRCU1 belong to the Rigger cores (R480). -/
def unitDenied (src : RegSrc) (u : Nat) : Bool :=
  match src with
  | .port _ => u < 2
  | _ => false

/-- A write of CRCU_CTRL (R481, R483). -/
def crcuCtrl (u : Nat) (v : Word) (s : State) : State × BitVec 8 :=
  let x := s.crcUnit u
  if bit v 31 then
    if ctrlBad v then (s, stBadParam)
    else (s.modUnit u (fun x => let y := startUnit (storeCtrl x v); if bit v 30 then complete y else y), stOk)
  else if bit v 30 then
    (s.modUnit u (fun x => if x.active then runUnit { x with finishing := true } else x), stOk)
  else if ctrlBad v then (s, stBadParam)
  else if x.active then
    if ctrlSame x v then (s.modUnit u (fun x => { x with nbytes := BitVec.ofNat 2 (bits v 20 2) }), stOk) else (s, stBadState)
  else (s.modUnit u (fun x => storeCtrl x v), stOk)

/-- A write of DATA_IN (R482). -/
def crcuDataIn (u : Nat) (v : Word) (s : State) : State × BitVec 8 :=
  let x := s.crcUnit u
  if !x.active then (s, stBadState)
  else if 16 ≤ x.inFifo.length then (s, stNoSpace)
  else (s.modUnit u (fun x => runUnit { x with inFifo := x.inFifo ++ [(wordBytes v).take (x.nbytes.toNat + 1)] }), stOk)

/-- A read of DATA_OUT: the oldest output word, or 0 with UNDERRUN (R484). -/
def crcuDataOut (u : Nat) (s : State) : State × Word :=
  let x := s.crcUnit u
  if x.outFifo.length < 4 then ((s.modUnit u (fun x => { x with underrun := true })).hit 11 (0x40 * u + 4) 5, 0)
  else (s.modUnit u (fun x => runUnit { x with outFifo := x.outFifo.drop 4 }), bytesWord (x.outFifo.take 4))

/-- A read of RUN_LO latches RUN_HI and COUNT (R486). -/
def crcuRunRead (u : Nat) (s : State) : State × Word :=
  let x := s.crcUnit u
  (s.modUnit u (fun x => { x with runHiSnap := (x.run >>> 32).setWidth 32, countSnap := x.count }), x.run.setWidth 32)

/-- A write of RUN_HI is staged (R486). -/
def crcuRunHi (u : Nat) (v : Word) (s : State) : State × BitVec 8 :=
  if (s.crcUnit u).inFifo.isEmpty then (s.modUnit u (fun x => { x with runHiStage := v }), stOk) else (s, stBadState)

/-- A write of RUN_LO loads both halves (R486). -/
def crcuRunLo (u : Nat) (v : Word) (s : State) : State × BitVec 8 :=
  if (s.crcUnit u).inFifo.isEmpty then
    (s.modUnit u (fun x => { x with run := (x.runHiStage.setWidth 64 <<< 32) ||| v.setWidth 64 }), stOk)
  else (s, stBadState)

/-- The low or high half of a 64-bit register replaced. -/
def half64 (hi : Bool) (r : BitVec 64) (v : Word) : BitVec 64 :=
  if hi then (v.setWidth 64 <<< 32) ||| (r &&& 0xFFFFFFFF) else (r &&& 0xFFFFFFFF00000000) ||| v.setWidth 64

/-- POLY, INIT, XOROUT and LEN are written only while the unit is idle (R483). -/
def crcuConf (u : Nat) (f : CrcUnit → CrcUnit) (s : State) : State × BitVec 8 :=
  if (s.crcUnit u).active then (s, stBadState) else (s.modUnit u f, stOk)

/-- The known-answer tests of the four fixed checkers (R487, R490); `bad` names the checkers whose own result is
wrong. A failure clears the PASS bit and raises KAT_FAIL with the catalogue number. -/
def katRun (bad : BitVec 4) (s : State) : State :=
  [0, 1, 2, 3].foldl (fun s n =>
    let c := bad.getLsbD n
    let ok := !fails 11 0 c s
    let s1 := check 11 0 n c s
    let m := BitVec.ofNat 4 (1 <<< n)
    { s1 with crcu := { s1.crcu with pass := if ok then s1.crcu.pass ||| m else s1.crcu.pass &&& ~~~ m } }) s

/-- CRCU_STATUS of a unit (Table 18.3). -/
def unitStatus (x : CrcUnit) : Word :=
  put 16 x.inFifo.length ||| put 8 (x.outFifo.length / 4) ||| putb 5 x.underrun ||| putb 4 x.short ||| putb 3 x.mismatch
    ||| putb 2 x.isMatch ||| putb 1 x.done ||| putb 0 x.active

/-- CRCU_CTRL as read (Table 18.3). -/
def unitCtrl (x : CrcUnit) : Word :=
  put 20 x.nbytes.toNat ||| put 16 x.mode.toNat ||| putb 10 x.order ||| putb 9 x.refin ||| putb 8 x.refout ||| put 0 x.width

/-- A read of the CRCU window (Tables 18.3 and 18.4). -/
def crcuRead (off : Nat) (s : State) : State × Word :=
  if off < 0x100 then
    let u := off / 0x40
    let x := s.crcUnit u
    match off % 0x40 with
    | 0x00 => (s, unitCtrl x)
    | 0x04 => (s, unitStatus x)
    | 0x08 => (s, x.poly.setWidth 32)
    | 0x0C => (s, (x.poly >>> 32).setWidth 32)
    | 0x10 => (s, x.init.setWidth 32)
    | 0x14 => (s, (x.init >>> 32).setWidth 32)
    | 0x18 => (s, x.xorout.setWidth 32)
    | 0x1C => (s, (x.xorout >>> 32).setWidth 32)
    | 0x20 => crcuRunRead u s
    | 0x24 => (s, x.runHiSnap)
    | 0x28 => (s, x.result.setWidth 32)
    | 0x2C => (s, (x.result >>> 32).setWidth 32)
    | 0x34 => crcuDataOut u s
    | 0x38 => (s, x.len.setWidth 32)
    | 0x3C => (s, x.countSnap)
    | _ => (s, 0)
  else if off = 0x100 then (s, s.crcu.pass.setWidth 32)
  else if off = 0x104 ∨ off = 0x108 ∨ off = 0x10C ∨ off = 0x110 then
    (s, BitVec.ofNat 32 (s.crcu.fails.getD ((off - 0x104) / 4) 0))
  else (s, 0)

/-- A write to the CRCU window (Tables 18.3 and 18.4). -/
def crcuWrite (src : RegSrc) (off : Nat) (v : Word) (s : State) : State × BitVec 8 :=
  if off < 0x100 then
    let u := off / 0x40
    if unitDenied src u then (s, stDenied)
    else
      match off % 0x40 with
      | 0x00 => crcuCtrl u v s
      | 0x04 => (s.modUnit u (fun x => { x with
          underrun := rw1c (bit v 5) (s.wasHit 11 off 5) x.underrun }), stOk)
      | 0x08 => crcuConf u (fun x => { x with poly := half64 false x.poly v }) s
      | 0x0C => crcuConf u (fun x => { x with poly := half64 true x.poly v }) s
      | 0x10 => crcuConf u (fun x => { x with init := half64 false x.init v }) s
      | 0x14 => crcuConf u (fun x => { x with init := half64 true x.init v }) s
      | 0x18 => crcuConf u (fun x => { x with xorout := half64 false x.xorout v }) s
      | 0x1C => crcuConf u (fun x => { x with xorout := half64 true x.xorout v }) s
      | 0x20 => crcuRunLo u v s
      | 0x24 => crcuRunHi u v s
      | 0x30 => crcuDataIn u v s
      | 0x38 => crcuConf u (fun x => { x with len := v.setWidth 24 }) s
      | _ => (s, stOk)
  else if off = 0x100 then (if bit v 31 then katRun 0 s else s, stOk)
  else if off = 0x118 then
    (if bit v 31 then
      { s with crcu := { s.crcu with fails := s.crcu.fails.zipIdx.map (fun p => cleared (s.wasHit 11 (0x104 + 4 * p.2) 0) p.1) } }
     else s, stOk)
  else (s, stOk)

/-! ### The rows -/

/-- A write to a register of unit `u` by a row. -/
def unitRow (src : RegSrc) (u : Nat) (f : State → State × BitVec 8) (s : State) : State :=
  writeRow 11 src (fun s => if unitDenied src u then (s, stDenied) else f s) s

/-- CRCU_START: CRCU_CTRL with START = 1 and FINISH = 0 (R481). -/
def execCrcuStart (src : RegSrc) (u : Fin 4) (v : Word) (s : State) : Host.Outcome State Fault Refusal :=
  done (unitRow src u (crcuCtrl u (setField v 30 2 2)) s)

/-- CRCU_FINISH: CRCU_CTRL with FINISH = 1 and START = 0 (R481). -/
def execCrcuFinish (src : RegSrc) (u : Fin 4) (v : Word) (s : State) : Host.Outcome State Fault Refusal :=
  done (unitRow src u (crcuCtrl u (setField v 30 2 1)) s)

/-- CRCU_START_FINISH: CRCU_CTRL with both START and FINISH (R481). -/
def execCrcuStartFinish (src : RegSrc) (u : Fin 4) (v : Word) (s : State) : Host.Outcome State Fault Refusal :=
  done (unitRow src u (crcuCtrl u (setField v 30 2 3)) s)

/-- CRCU_CTRL_NBYTES: CRCU_CTRL with neither START nor FINISH (R483). -/
def execCrcuCtrlNbytes (src : RegSrc) (u : Fin 4) (v : Word) (s : State) : Host.Outcome State Fault Refusal :=
  done (unitRow src u (crcuCtrl u (setField v 30 2 0)) s)

/-- CRCU_DATA_IN (R482). -/
def execCrcuDataIn (src : RegSrc) (u : Fin 4) (v : Word) (s : State) : Host.Outcome State Fault Refusal :=
  done (unitRow src u (crcuDataIn u v) s)

/-- CRCU_DATA_OUT_READ (R484). -/
def execCrcuDataOutRead (src : RegSrc) (u : Fin 4) (s : State) : Host.Outcome State Fault Refusal :=
  done (readRow 11 src (crcuDataOut u) s)

/-- CRCU_RUN_READ (R486). -/
def execCrcuRunRead (src : RegSrc) (u : Fin 4) (s : State) : Host.Outcome State Fault Refusal :=
  done (readRow 11 src (crcuRunRead u) s)

/-- CRCU_RUN_WRITE: RUN_HI staged, then RUN_LO loading both halves (R486). -/
def execCrcuRunWrite (src : RegSrc) (u : Fin 4) (hi lo : Word) (s : State) : Host.Outcome State Fault Refusal :=
  done (unitRow src u (crcuRunLo u lo) (unitRow src u (crcuRunHi u hi) s))

/-- CRCU_CHECK_DONE: a CHECK whose COUNT has reached LEN, or whose LEN is too small and that has had its first
byte, completes by itself (R485). -/
def execCrcuCheckDone (u : Fin 4) (s : State) : Host.Outcome State Fault Refusal :=
  done (if blockOff 11 s then s else
    s.modUnit u (fun x =>
      if x.active && x.mode == 2 && (x.count.toNat == x.len.toNat && checkLen x ≤ x.len.toNat
        || x.len.toNat < checkLen x && x.count != 0)
      then complete x else x))

/-- CRCU_KAT_RUN: the known-answer tests, at a write of CRCU_KAT.RUN, at boot or at an exit (R487). -/
def execCrcuKatRun (bad : BitVec 4) (s : State) : Host.Outcome State Fault Refusal :=
  done (if blockOff 11 s then s else katRun bad s)

end Sys2Proof.Machine
end

