-- ==== Sys2Proof/Machine/Diag.lean ====
section
/-! DEFINITION. Pixel and tile diagnostics: captures, sweeps, classification, the dead map, switch tests, probes, bridge
checks and DIAG_RUN (07_pixel_diagnostics.md R206 to R228). -/

namespace Sys2Proof.Machine

/-! ### DIAG_CTRL in effect (Table 07.10) -/

/-- CLASSIFY_EN in effect. -/
def classifyOn (s : State) : Bool := bit s.diag.ctrlAct 0
/-- FOLD_EN in effect. -/
def foldOn (s : State) : Bool := bit s.diag.ctrlAct 1
/-- DPROBE_EN in effect. -/
def dprobeOn (s : State) : Bool := bit s.diag.ctrlAct 2
/-- SWTEST_EN in effect. -/
def swtestOn (s : State) : Bool := bit s.diag.ctrlAct 3
/-- HEAL in effect. -/
def healOn (s : State) : Bool := bit s.diag.ctrlAct 4
/-- TILE_BAD_N in effect. -/
def tileBadN (s : State) : Nat := bits s.diag.ctrlAct 16 5
/-- W in strokes (R209). -/
def foldWindow (s : State) : Nat := 64 * 2 ^ bits s.diag.ctrlAct 8 2

/-- DIAG's record of a tile. -/
def State.dtile (s : State) (t : Nat) : DiagTile := s.diag.tiles.getD t {}

/-! ### Completion of DIAG_RUN (R224, R325) -/

/-- The DIAG_RUN in progress ends with EV_DIAG_DONE. -/
def diagDone (result : Nat) (s : State) : State :=
  let d := s.diag
  let s1 := s.modDiag (fun d => { d with runBusy := false })
  queueTagged 0x0903 0 (BitVec.ofNat 8 d.runTag) stOk [put 16 result ||| put 8 d.runTile ||| put 0 d.runOp] s1

/-! ### Full-gap strokes that diagnosis asks for (R215) -/

/-- A retest, a suspect test or a bridge stroke is pending (R215). -/
def gapWanted (s : State) : Bool :=
  0 < s.diag.bridgeLeft || s.diag.tiles.any (fun d => d.retest || d.suspectTest)

/-- The stroke in progress has a full gap, and its gap has started. -/
def inFullGap (s : State) : Bool := lit s && s.scan.inGap && !s.scan.strokeGapless

/-- DIAG's part of the start of a gap: a bridge stroke is one of the next four full-gap strokes (R216). -/
def gapDiag (s : State) : State :=
  if lit s && !s.scan.strokeGapless && 0 < s.diag.bridgeLeft then
    s.modDiag (fun d => { d with bridgePhase := if d.bridgeLeft % 2 = 0 then 1 else 2, bridgeLeft := d.bridgeLeft - 1 })
  else s

/-! ### Switch tests (R213, R214) -/

/-- The tile to be tested: the lowest with a retest or suspect test pending, otherwise the one at SW_PTR; and whether
it is the latter. -/
def testChoice (s : State) : Nat × Bool :=
  match allTiles.find? (fun t => (s.dtile t).retest || (s.dtile t).suspectTest) with
  | some t => (t, false)
  | none => (s.diag.swPtr, true)

/-- The test of a tile that is not in its safe state, with the rail at or above V_OFF or not: a first failure pends a retest,
a failed retest declares the switch faulty (R214). -/
def switchOutcome (t : Nat) (failed : Bool) (s : State) : State :=
  if !failed then s.modDiagTile t (fun d => { d with retest := false })
  else if (s.dtile t).retest then
    raiseFault 9 2 t true false ((s.modDiagTile t (fun d => { d with retest := false })).modTile t (fun x => { x with swFail := true }))
  else s.modDiagTile t (fun d => { d with retest := true })

/-- The stuck check of a tile whose switch is open: a rail at or above V_OFF is a switch stuck closed (R214). -/
def stuckOutcome (t : Nat) (failed : Bool) (s : State) : State :=
  if failed then raiseFault 9 3 t true false (s.modTile t (fun x => { x with swStuck := true, swFail := true })) else s

/-- The outcome of a test of tile `t` with the rail at or above V_OFF (`failed`) (R214). -/
def testOutcome (t : Nat) (failed : Bool) (s : State) : State :=
  let s1 := s.modDiagTile t (fun d => { d with suspectTest := false })
  if (s.tile t).swClosed then switchOutcome t failed s1
  else stuckOutcome t failed (s1.modDiagTile t (fun d => { d with retest := false }))

/-- The result of DIAG_RUN SWTEST where this test decides it (R224): a first failure waits for the retest. -/
def testResult (t : Nat) (failed : Bool) (s : State) : Option Nat :=
  if s.diag.runBusy && s.diag.runOp == 1 && s.diag.runTile == t then
    if failed && (s.tile t).swClosed && !(s.dtile t).retest then none else some (if failed then 1 else 0)
  else none

/-- SWITCH_TEST: the rail of the tested tile at 1.7 µs, in mV (R213, R214). -/
def execSwitchTest (rail : Nat) (s : State) : Host.Outcome State Fault Refusal :=
  done (if inFullGap s && swtestOn s && s.diag.bridgePhase == 0 && s.diag.testTile.isNone then
    let (t, ptr) := testChoice s
    let failed := decide (vOff s ≤ rail)
    let s1 := (testOutcome t failed s).modDiag (fun d => { d with
      testTile := some t, testAtPtr := ptr })
    match testResult t failed s with
    | some r => diagDone r s1
    | none => s1
  else s)

/-! ### Dark probes and bridge strokes (R212, R216) -/

/-- A pixel is dark: its live c or d is 0 (R212). -/
def isDark (s : State) (k : Nat) : Bool :=
  let x := spGet s.arr.live k { c := 0, d := 0 }
  x.c == 0 || x.d == 0

/-- The 4,096 pixels of a tile. -/
def pixelsOfTile (t : Nat) : List Nat :=
  (List.range 4096).map (fun i => 1024 * (64 * (t / 16) + i / 64) + 64 * (t % 16) + i % 64)

/-- x + y of a pixel is even. -/
def evenPixel (k : Nat) : Bool := (k / 1024 + k % 1024) % 2 == 0

/-- The tiles of the probe group (R212): the tile tested in this stroke is left out. -/
def probeTiles (s : State) : List Nat :=
  let col := (s.diag.swPtr + 8) % 16
  ((List.range 16).map (fun r => 16 * r + col)).filter (fun t => (s.tile t).swClosed && s.diag.testTile != some t)

/-- The pixels probed in this gap. -/
def probePixels (s : State) : List Nat :=
  if s.diag.bridgePhase ≠ 0 then
    (allTiles.filter (fun t => (s.tile t).swClosed)).flatMap (fun t =>
      (pixelsOfTile t).filter (fun k => evenPixel k == (s.diag.bridgePhase == 1)))
  else if dprobeOn s then (probeTiles s).flatMap (fun t => (pixelsOfTile t).filter (isDark s))
  else []

/-- The regulation latch is set by a sample: of a sink below V_COMP, or of a probe source out of regulation (R75, R77,
Table 07.1). -/
def regSet (probe : Bool) (n : NodeSample) (s : State) : Bool :=
  if probe then n.probeLost else outOfRegulation (tileOfPix n.pixel) n.mv s

/-- The latches that are set among sampled pixels, by a probe or by the sinks; a sampled pixel that `nodes` does not list has
both clear (R77). -/
def setLatches (probe : Bool) (nodes : List NodeSample) (sampled : List Nat) (s : State) : State :=
  let on := nodes.filter (fun n => sampled.contains n.pixel)
  s.modArr (fun a => { a with
    regLatch := setUnion a.regLatch ((on.filter (fun n => regSet probe n s)).map NodeSample.pixel)
    nodeLatch := setUnion a.nodeLatch ((on.filter (fun n => nodeHigh n.mv s)).map NodeSample.pixel) })

/-- DARK_PROBE: the probe sources turn off at 5.0 µs and the latches of the probed pixels are sampled (R77, R212,
R216). -/
def execDarkProbe (nodes : List NodeSample) (s : State) : Host.Outcome State Fault Refusal :=
  done (if inFullGap s then
    let ps := probePixels s
    setLatches true nodes ps (s.modDiag (fun d => { d with probed := ps }))
  else s)

/-! ### Captures (R206, R207) -/

/-- The pixels whose sink pulse was sampled in the stroke: by the codes that emitted in it (R77, R206). -/
def litPixels (s : State) : List Nat := (s.arr.shone.filter (fun p => qualifies s.arr.shoneMin s p.2)).map (·.1)

/-- The pixels sampled at 5.0 µs of a bridge stroke: every pixel of the tiles that are not safe (R216). -/
def bridgePixels (s : State) : List Nat := (allTiles.filter (fun t => (s.tile t).swClosed)).flatMap pixelsOfTile

/-- The capture code of a sampled pixel (Table 07.1). -/
def captureCode (s : State) (k : Nat) : BitVec 2 :=
  if s.arr.nodeLatch.contains k then 3 else if s.arr.regLatch.contains k then 2 else 1

/-- The end of a bridge check's last sweep (R216, R224). -/
def bridgeDone (s : State) : State :=
  if s.diag.captLast then
    let s1 := s.modDiag (fun d => { d with bridgeSweeps := [], captLast := false, captPhase := 0 })
    if s.diag.runBusy && s.diag.runOp == 0 then diagDone (min 255 s.diag.runFound.length) s1 else s1
  else s

/-- The unread part of a sweep is lost: it is not classified, and where it was the last of a bridge check the check is over
(R207, R224, Table 07.4, step 1). -/
def loseSweep (s : State) : State :=
  bridgeDone (raiseFault 9 6 0 true false ((s.modDiag (fun d => { d with sweepLostCnt := satInc 16 d.sweepLostCnt })).hit 9 0x14 16))

/-- CAPTURE: every tile's capture store takes the results of the stroke; the unread part of a sweep still in progress
is lost (R206, R207). `nodes` gives the samples of sink pulses, or in a bridge stroke the bridge sample. -/
def execCapture (nodes : List NodeSample) (s : State) : Host.Outcome State Fault Refusal :=
  done (if lit s && s.scan.inGap then
    let s1 := if s.diag.sweeping then loseSweep s else s
    let bridge := s1.diag.bridgePhase != 0
    let own := if bridge then bridgePixels s1 else litPixels s1
    let s2 := setLatches bridge nodes own s1
    let sampled := setUnion own s2.diag.probed
    s2.modDiag (fun d => { d with
      capture := sampled.map (fun k => (k, captureCode s2 k))
      sweeping := true, captWasFold := d.foldIsWindow, captVledOk := s2.arr.vledOk
      captPhase := d.bridgePhase, captLast := d.bridgePhase != 0 && d.bridgeLeft == 0 })
  else s)

/-! ### Classification (R217 to R220) -/

/-- The tile takes part in the sweep's classification (Table 07.4, step 2). -/
def tileIn (s : State) (t : Nat) : Bool := !(s.dtile t).exclCapt

/-- Codes of the sweep that count as NONE are dropped (Table 07.4, steps 2 and 3). -/
def sweepCodes (s : State) : Sparse (BitVec 2) :=
  s.diag.capture.filter (fun p =>
    let t := tileOfPix p.1
    tileIn s t && !((s.dtile t).starved && p.2 == 2) && p.2 != 0)

/-- A pixel is probed in a bridge phase: x + y even in phase 1 (A), odd in phase 2 (B) (R216). -/
def bridgeProbed (phase k : Nat) : Bool := evenPixel k == (phase == 1)

/-- The codes classified pixel by pixel: in a bridge stroke those of the probed pixels only. -/
def pixelCodes (s : State) : Sparse (BitVec 2) :=
  if s.diag.captPhase = 0 then sweepCodes s else (sweepCodes s).filter (fun p => bridgeProbed s.diag.captPhase p.1)

/-- The sweeps of the bridge check with the one in hand (R216). -/
def bridgeTables (s : State) : List (Nat × Sparse (BitVec 2)) :=
  if s.diag.captPhase = 0 then [] else s.diag.bridgeSweeps ++ [(s.diag.captPhase, sweepCodes s)]

/-- The sweep in hand is kept for the check (R216). -/
def noteBridge (s : State) : State :=
  if s.diag.captPhase = 0 then s else s.modDiag (fun d => { d with bridgeSweeps := bridgeTables s })

/-- A pixel has shown PASS in both phases in which it is probed (R216). -/
def bothPass (ts : List (Nat × Sparse (BitVec 2))) (k : Nat) : Bool :=
  (ts.filter (fun t => bridgeProbed t.1 k && spGet t.2 k 0 == 1)).length == 2

/-- The phases in which an unprobed pixel showed a code other than NODE (R216). -/
def flagCount (ts : List (Nat × Sparse (BitVec 2))) (k : Nat) : Nat :=
  (ts.filter (fun t => !bridgeProbed t.1 k && spGet t.2 k 0 != 0 && spGet t.2 k 0 != 3)).length

/-- Bridge flags that count, known at the check's last sweep (R216). -/
def bridgeFlags (s : State) : List Nat :=
  let ts := bridgeTables s
  if s.diag.captLast then
    (ts.foldl (fun l t => setUnion l ((t.2.filter (fun p => !bridgeProbed t.1 p.1 && p.2 != 3)).map (·.1))) []).filter (bothPass ts)
  else []

/-- Pixels declared SHORT by the bridge check (R216). -/
def bridgeShorts (s : State) : List Nat :=
  (bridgeFlags s).filter (fun k => flagCount (bridgeTables s) k == 2 && spGet s.diag.deadMap k 0 == 0)

/-- The pixels that count as flags (Table 07.4, step 4). -/
def flagPixels (s : State) : List Nat :=
  setUnion (((pixelCodes s).filter (fun p => (p.2 == 2 || p.2 == 3) && spGet s.diag.deadMap p.1 0 == 0)).map (·.1)) (bridgeFlags s)

/-- Flags of each tile. -/
def flagsOf (flags : List Nat) (t : Nat) : Nat := (flags.filter (fun k => tileOfPix k == t)).length

/-- A suspect tile (Table 07.4, step 6; R218). -/
def suspectTile (n : Nat) (s : State) (t : Nat) : State :=
  let run := satInc 8 (s.dtile t).suspectRun
  let s1 := s.modDiagTile t (fun d => { d with suspect := true, suspectRun := run, suspectTest := true, flagsLast := n })
  let s2 := raiseFault 9 1 t true false ((s1.modDiag (fun d => { d with suspectCnt := satInc 16 d.suspectCnt })).hit 9 0x10 16)
  if tileBadN s ≠ 0 ∧ tileBadN s ≤ run ∧ (s.tile t).tileBad = false then
    raiseFault 9 4 t true false (s2.modTile t (fun x => { x with tileBad := true }))
  else s2

/-- What a sweep changes for pixels: candidates, declarations and heals. -/
structure Sweep where
  /-- candidates -/
  cand : Sparse (BitVec 2)
  /-- pixels declared OPEN or SHORT, in sweep order -/
  declared : List (Nat × BitVec 2)
  /-- dead pixels whose last result was PASS -/
  healOne : List Nat
  /-- dead pixels removed from the map (HEAL) -/
  healed : List Nat
  /-- a candidate was created -/
  created : Bool

/-- One pixel of Table 07.5; a pixel of the dead map keeps its entry unless HEAL removes it (R217). -/
def sweepPixel (s : State) (w : Sweep) (p : Nat × BitVec 2) : Sweep :=
  let k := p.1
  let v := p.2
  if spGet s.diag.deadMap k 0 ≠ 0 then
    if v = 1 then
      if healOn s && w.healOne.contains k then { w with healOne := setDel w.healOne k, healed := w.healed ++ [k] }
      else { w with healOne := setIns w.healOne k }
    else { w with healOne := setDel w.healOne k }
  else
    let c := spGet w.cand k 0
    if v = 1 then { w with cand := spDel w.cand k }
    else
      -- REG (2) makes CAND_OPEN (1), NODE (3) makes CAND_SHORT (2)
      let mine : BitVec 2 := if v = 2 then 1 else 2
      if c = mine then { w with cand := spDel w.cand k, declared := w.declared ++ [(k, mine)] }
      else { w with cand := spSet w.cand k mine, created := true }

/-- A 16-bit half of a tile's counts in Keep (Table 17.11): OPEN at 0, SHORT at 2. -/
def tileCount (t : Nat) (short : Bool) (s : State) : Nat :=
  bytesNat (memRead 0 s.keep.bytes (0x100 + 4 * t + if short then 2 else 0) 2)

/-- A per-tile count in Keep rises by one, saturating (R220), and the KEEP_MIRROR record is to be written (R474). -/
def bumpTileCount (t : Nat) (short : Bool) (s : State) : State :=
  queueMirror { s with keep := { s.keep with
      bytes := memWrite 0 s.keep.bytes (0x100 + 4 * t + if short then 2 else 0) (natBytes 2 (satInc 16 (tileCount t short s))) } }

/-- MAP_DIRTY is set, and a DEADMAP write is queued where the manifest in use has its region (R222). -/
def dirtyMap (s : State) : State :=
  queueWork .deadmap 0x5000 { s.modDiag (fun d => { d with mapDirty := true }) with
    xmem := { s.xmem with declaredSince := true } }

/-- The legacy summaries of a declaration (R502, R506). -/
def legacyPixel (t : Nat) (short : Bool) (s : State) : State :=
  if s.compat then
    { s with legacy := { s.legacy with
        fault := s.legacy.fault ||| (if short then 2 else 1)
        tflt := modAt s.legacy.tflt (t / 8) (fun r => r ||| BitVec.ofNat 16 ((if short then 2 else 1) <<< (2 * (t % 8)))) } }
  else s

/-- One pixel is declared (R220). -/
def declarePixel (s : State) (p : Nat × BitVec 2) : State :=
  let t := tileOfPix p.1
  let short := p.2 == 2
  let s1 := s.modDiag (fun d => { d with deadMap := spSet d.deadMap p.1 p.2, cand := spDel d.cand p.1, healOne := setDel d.healOne p.1 })
  let s2 := { s1 with xmem := { s1.xmem with declared := s1.xmem.declared ++ [p] } }
  legacyPixel t short (bumpTileCount t short s2)

/-- The first of a list of declared pixels in order of increasing y, then x. -/
def firstPixel (l : List (Nat × BitVec 2)) : Nat × BitVec 2 :=
  l.foldl (fun b p => if p.1 < b.1 then p else b) (l.headD (0, 0))

/-- The declarations of a sweep (R220). -/
def declareAll (l : List (Nat × BitVec 2)) (s : State) : State :=
  if l.isEmpty then s
  else
    let s1 := dirtyMap (l.foldl declarePixel s)
    let (k, v) := firstPixel l
    queueEvent 0x0901 0 [put 0 l.length, put 30 v.toNat ||| put 16 (k / 1024) ||| put 0 (k % 1024)]
      (raiseFault 9 0 0 true false s1)

/-- HEAL takes pixels out of the dead map (R217). -/
def healAll (l : List Nat) (s : State) : State :=
  if l.isEmpty then s
  else dirtyMap (s.modDiag (fun d => { d with deadMap := d.deadMap.filter (fun p => !l.contains p.1) }))

/-- Tiles that a bridge check in progress found (R224). -/
def noteFound (ts : List Nat) (s : State) : State :=
  if s.diag.captPhase ≠ 0 then s.modDiag (fun d => { d with runFound := setUnion d.runFound ts }) else s

/-- Steps 6 and 7 of Table 07.4. -/
def classifyTiles (flags : List Nat) (s : State) : State :=
  let over_ (t : Nat) : Bool := tileIn s t && decide (64 < flagsOf flags t)
  let suspects := allTiles.filter over_
  let s1 := suspects.foldl (fun s t => suspectTile (flagsOf flags t) s t) s
  let clean := allTiles.filter (fun t => tileIn s t && !over_ t)
  let s2 := clean.foldl (fun s t => s.modDiagTile t (fun d => { d with suspectRun := 0, suspect := false, flagsLast := flagsOf flags t })) s1
  let w0 : Sweep := ⟨s.diag.cand, [], s.diag.healOne, [], false⟩
  let w := ((pixelCodes s).filter (fun p => !suspects.contains (tileOfPix p.1))).foldl (sweepPixel s) w0
  let shorts := (bridgeShorts s).filter (fun k => !suspects.contains (tileOfPix k) && !(w.declared.any (fun p => p.1 == k)))
  let all := w.declared ++ shorts.map (fun k => (k, (2 : BitVec 2)))
  let s3 := s2.modDiag (fun d => { d with
    cand := w.cand, healOne := w.healOne, confirmPend := d.confirmPend || (d.captWasFold && w.created) })
  let s4 := noteFound (setUnion suspects (all.filterMap (fun p => if p.2 = 2 then some (tileOfPix p.1) else none))) s3
  healAll w.healed (declareAll all s4)

/-- Table 07.4: one completed sweep. -/
def classify (s : State) : State :=
  if !s.diag.captVledOk then s
  else
    let skips := (allTiles.filter (fun t => tileIn s t && (s.dtile t).starved)).length
    let s1 := (s.modDiag (fun d => { d with headSkipCnt := satAdd 16 d.headSkipCnt skips })).hitIf (skips != 0) 9 0x14 0
    let flags := flagPixels s1
    let many := (allTiles.filter (fun t => tileIn s1 t && decide (64 < flagsOf flags t))).length
    if 8 < many then
      queueEvent 0x0902 2 [put 0 many] (raiseFault 9 5 0 true false
        (((s1.modDiag (fun d => { d with supply := true, supplyCnt := satInc 16 d.supplyCnt })).hit 9 0x04 7).hit 9 0x10 0))
    else noteBridge (classifyTiles flags s1)

/-- READBACK_SWEEP_DONE: a readback sweep completes and is classified (R217). -/
def execReadbackSweepDone (s : State) : Host.Outcome State Fault Refusal :=
  done (if lit s && s.diag.sweeping then
    let s1 := s.modDiag (fun d => { d with sweeping := false })
    bridgeDone (if classifyOn s1 then classify s1 else s1)
  else s)

/-! ### DIAG at a stroke start (R77, R209, R210, R227) -/

/-- DIAG's part of a stroke start: writes of DIAG_CTRL apply, latches clear, safe tiles are noted, and a fold stroke is
chosen where the stroke is the first of a frame (`first`). -/
def strokeDiag (first : Bool) (s : State) : State :=
  let s1 := s.modArr (fun a => { a with regLatch := [], nodeLatch := [] })
  let s2 := s1.modDiag (fun d => { d with
    ctrlAct := d.ctrl, testTile := none, testAtPtr := false, probed := [], bridgePhase := 0
    swPtr := if d.testAtPtr then (d.swPtr + 1) % 256 else d.swPtr
    tiles := d.tiles.zipIdx.map (fun p =>
      let closed := (s1.tile p.2).swClosed
      let ended := p.1.exclNow || !closed
      { p.1 with exclCapt := ended || p.1.exclPrev, exclPrev := ended, exclNow := !closed }) })
  let due := s2.diag.foldDue || s2.scan.strokeCnt.toNat % foldWindow s2 == 0
  if first then
    if foldOn s2 && lit s2 && (due || s2.diag.confirmPend) then
      s2.modDiag (fun d => { d with foldDue := false, confirmPend := false, foldIsWindow := due, foldJ := some 0 })
    else s2.modDiag (fun d => { d with foldDue := false, foldIsWindow := false, foldJ := none })
  else s2.modDiag (fun d => { d with foldDue := due, foldIsWindow := false, foldJ := d.foldJ.map (· + 1) })

/-! ### DIAG_RUN and DIAG_MAP_READ (R224, R221) -/

/-- The pixels of a rectangle, both corners in. -/
def inBox (x0 y0 x1 y1 k : Nat) : Bool :=
  let x := k % 1024
  let y := k / 1024
  x0 ≤ x && x ≤ x1 && y0 ≤ y && y ≤ y1

/-- SW_FAIL, SW_STUCK or TILE_BAD of tile `t` has been set in the present clock (R219). -/
def declaredNow (t : Nat) (s : State) : Bool :=
  let x := s.tile t
  let b := s.base.arr.tiles.getD t {}
  (x.swFail && !b.swFail) || (x.swStuck && !b.swStuck) || (x.tileBad && !b.tileBad)

/-- DIAG_RUN (0x40). -/
def opDiagRun : OpFn := fun c ws s =>
  let w := ws.getD 0 0
  let w1 := ws.getD 1 0
  let w2 := ws.getD 2 0
  let op := bits w 0 2
  let t := bits w 8 8
  let x0 := bits w1 0 10
  let y0 := bits w1 16 10
  let x1 := bits w2 0 10
  let y1 := bits w2 16 10
  if blockOff 9 s then endWith stBlockOff s
  else if !within w 0xFF03 || !within w1 0x03FF03FF || !within w2 0x03FF03FF || x1 < x0 || y1 < y0 ||
      (op != 3 && (w1 != 0 || w2 != 0)) then endWith stBadParam s
  else if !lit s then endWith stBadState s
  else if s.diag.runBusy then endWith stBusy s
  else if op = 2 ∧ declaredNow t s then endWith stBadState s
  else
    let s1 := s.modDiag (fun d => { d with runBusy := true, runOp := op, runTile := t, runTag := c.tag.toNat, runFound := [] })
    match op with
    | 0 => endWith stOk (s1.modDiag (fun d => { d with
        bridgeLeft := 4, bridgeSweeps := [] }))
    | 1 => endWith stOk (s1.modDiagTile t (fun d => { d with suspectTest := true }))
    | 2 => endWith stOk (diagDone 0 ((s1.modTile t (fun x => { x with swFail := false, swStuck := false, tileBad := false })).modDiagTile t
        (fun d => { d with suspectRun := 0 })))
    | _ => endWith stOk (diagDone 0 (dirtyMap (s1.modDiag (fun d => { d with
        deadMap := d.deadMap.filter (fun p => !inBox x0 y0 x1 y1 p.1)
        cand := d.cand.filter (fun p => !inBox x0 y0 x1 y1 p.1)
        healOne := d.healOne.filter (fun k => !inBox x0 y0 x1 y1 k) }))))

/-- DIAG_RUN_BRIDGE (R224). -/
def execDiagRunBridge (c : CmdCtx) (ws : List Word) (s : State) : Host.Outcome State Fault Refusal :=
  done (submit opDiagRun 0x40 c (stamp 0 2 0 ws) s)

/-- DIAG_RUN_SWTEST (R224). -/
def execDiagRunSwtest (c : CmdCtx) (ws : List Word) (s : State) : Host.Outcome State Fault Refusal :=
  done (submit opDiagRun 0x40 c (stamp 0 2 1 ws) s)

/-- DIAG_RUN_CLEAR_TILE (R219, R224). -/
def execDiagRunClearTile (c : CmdCtx) (ws : List Word) (s : State) : Host.Outcome State Fault Refusal :=
  done (submit opDiagRun 0x40 c (stamp 0 2 2 ws) s)

/-- DIAG_RUN_CLEAR_MAP (R224). -/
def execDiagRunClearMap (c : CmdCtx) (ws : List Word) (s : State) : Host.Outcome State Fault Refusal :=
  done (submit opDiagRun 0x40 c (stamp 0 2 3 ws) s)

/-- The dead-map entry of a pixel: OPEN and SHORT stand in the map, GOOD everywhere else (R221). -/
def deadEntry (s : State) (k : Nat) : Nat := (spGet s.diag.deadMap k 0).toNat

/-- The words of DIAG_MAP_READ for an array row (Table 11.7). -/
def mapRow (y : Nat) (s : State) : List Word :=
  let entries := (List.range 1024).map (fun x => deadEntry s (1024 * y + x))
  (put 16 y ||| put 0 (entries.filter (· != 0)).length) ::
    (List.range 64).map (fun i => (List.range 16).foldl (fun w j => w ||| put (2 * j) (entries.getD (16 * i + j) 0)) 0)

/-- DIAG_MAP_READ (0x41). -/
def opDiagMapRead : OpFn := fun _ ws s =>
  if blockOff 9 s then endWith stBlockOff s
  else if within (ws.getD 0 0) 0x3FF then (s, .fin stOk (mapRow (bits (ws.getD 0 0) 0 10) s)) else endWith stBadParam s

/-- DIAG_MAP_READ (R221). -/
def execDiagMapRead (c : CmdCtx) (ws : List Word) (s : State) : Host.Outcome State Fault Refusal :=
  done (submit opDiagMapRead 0x41 c ws s)

/-! ### The DIAG window (Tables 07.10 to 07.13) -/

/-- A write of DIAG_CTRL (R227). -/
def diagCtrlWrite (sess : Bool) (v : Word) (s : State) : State × BitVec 8 :=
  if bits v 8 2 = 3 then (s, stBadParam)
  else if !sess && s.diag.ctrl &&& 0xF &&& ~~~ v != 0 then (s, stDenied)
  else (s.modDiag (fun d => { d with ctrl := v &&& 0x001F031F }), stOk)

/-- DIAG_CTRL_WRITE (R227). -/
def execDiagCtrlWrite (src : RegSrc) (v : Word) (s : State) : Host.Outcome State Fault Refusal :=
  done (writeRow 9 src (diagCtrlWrite (srcSession src s) v) s)

/-- A read of the DIAG window. -/
def diagRead (off : Nat) (s : State) : Word :=
  let d := s.diag
  if off = 0x0000 then d.ctrl
  else if off = 0x0004 then
    putb 16 d.confirmPend ||| put 8 d.swPtr ||| putb 7 d.supply ||| putb 6 d.runBusy ||| putb 5 d.mapDirty |||
      putb 4 d.mapValid ||| put 0 (dMin s)
  else if off = 0x0008 then put 0 (d.deadMap.filter (fun p => p.2 == 1)).length
  else if off = 0x000C then put 0 (d.deadMap.filter (fun p => p.2 != 1)).length
  else if off = 0x0010 then put 16 d.suspectCnt ||| put 0 d.supplyCnt
  else if off = 0x0014 then put 16 d.sweepLostCnt ||| put 0 d.headSkipCnt
  else if 0x0100 ≤ off ∧ off < 0x0500 then
    let t := (off - 0x100) / 4
    let x := s.tile t
    let r := s.dtile t
    putb 31 x.tileBad ||| putb 30 x.swFail ||| putb 29 x.swStuck ||| putb 28 r.retest ||| putb 27 r.suspect |||
      put 16 r.suspectRun ||| put 0 r.flagsLast
  else if 0x0500 ≤ off ∧ off < 0x0900 then
    let t := (off - 0x500) / 4
    put 16 (tileCount t true s) ||| put 0 (tileCount t false s)
  else 0

/-- A write to the DIAG window. -/
def diagWrite (sess : Bool) (off : Nat) (v : Word) (s : State) : State × BitVec 8 :=
  if off = 0x0000 then diagCtrlWrite sess v s
  else if off = 0x0004 then (s.modDiag (fun d => { d with supply := rw1c (bit v 7) (s.wasHit 9 0x04 7) d.supply }), stOk)
  else if off = 0x0018 then
    (if bit v 31 then
      s.modDiag (fun d => { d with
        suspectCnt := cleared (s.wasHit 9 0x10 16) d.suspectCnt, supplyCnt := cleared (s.wasHit 9 0x10 0) d.supplyCnt
        sweepLostCnt := cleared (s.wasHit 9 0x14 16) d.sweepLostCnt
        headSkipCnt := cleared (s.wasHit 9 0x14 0) d.headSkipCnt })
     else s, stOk)
  else (s, stOk)

end Sys2Proof.Machine
end

