-- ==== Sys2Proof/Machine/Frame.lean ====
section
/-! DEFINITION. The stroke sequencer, the compose point, composition row by row, row writes, the flip and the SCAN
registers (02_stroke_and_frame.md R42 to R70; 05_layers_and_composition.md R169 to R171, R540). -/

namespace Sys2Proof.Machine

/-- The state with SCAN changed. -/
def State.modScan (s : State) (f : Scan → Scan) : State := { s with scan := f s.scan }

/-- Strokes run: S0, S1 and S2 (Table 02.5). -/
def strokesRun (s : State) : Bool := arrayOn s && !s.pwr.inReset


/-! ### Which engines compose (Table 06.1, R200) -/

/-- The engine composes at compose points in S0 outside automatic Hold: ACTIVE, STANDBY, in step 4 of its
resynchronisation, or, in both lost, past its self-test. After S4 and S5 none composes until the store is restored
(R38, R173), nor during a save, which powers PIX off (Table 16.8). -/
def mayCompose (e : Eng) (s : State) : Bool :=
  s.pwr.pstate == .s0 && !s.pwr.restoring && s.pwr.saving.isNone &&
  (inRole e s || ((s.eng e).health.role == .failed && (s.eng e).health.step == 4) || passedBoth e s)

/-- The engines that compose, Fore first. -/
def composers (s : State) : List Eng := bothEngs.filter (fun e => mayCompose e s)

/-- The engine that owns the row bus. -/
def busOwner (s : State) : Eng := engOf s.bstay.arb.ownerMain

/-! ### The start of a stroke (R42, R63, R64, R68, R215) -/

/-- The stroke period in ROW clocks (R42). -/
def strokePeriod (s : State) : Nat := strokeClocks (rateNow s)

/-- The duty counter that the sequencer broadcasts: k during slot k, 1023 throughout the gap; the slots count from the stroke
start, in an active part of the stroke period less the gap, in ROW clocks (R43, R44). -/
def dutyCounter (s : State) : Nat :=
  let c := s.scan
  if c.inGap then 1023
  else
    let active := strokePeriod s - if c.strokeGapless then 300 else 2400
    -- ROW clocks since the stroke start, of 10/3 ns each; slot k begins at floor (k × A / 1023)
    let t := (s.ticks - c.strokeTick) * 12 / 10
    ((List.range 1023).filter (fun k => k * active / 1023 ≤ t)).length - 1

/-- Pixel `k` emits: the duty counter is below its live duty code, or below d_eff in a fold stroke and those that follow it in
its frame, in S0 to S2, while strokes run (R44, R210). -/
def emits (k : Nat) (s : State) : Bool :=
  strokesRun s && decide (dutyCounter s < (emitted s (spGet s.arr.live k ⟨0, 0⟩)).d.toNat)

/-- The segments of the overlap go ahead from the stroke that follows it (R192). -/
def overlapStroke (s : State) : State :=
  match activeEng s with
  | some a =>
    if s.bstay.arb.overlap then s
    else s.modEng a (fun x => { x with overlapDue := !x.overlapFirst.isEmpty })
  | none => s

/-- STROKE_START (R42): counts, fold, phase step, and what waits for a stroke: a forced change of gapless to off among it
(R63). -/
def strokeStart (s : State) : State :=
  let first := s.scan.strokeInFrame == 0
  let act := s.scan.gaplessAct && !gaplessOff s.bstay.beam s.bstay.cls s
  let forced := act && (deferLimit ≤ s.scan.deferCnt || gapWanted s)
  let s1 := s.modScan (fun c => { c with
    strokeCnt := c.strokeCnt + 1, strokeInFrame := min 32 (c.strokeInFrame + 1), inGap := false, gaplessAct := act
    strokeForced := forced, strokeGapless := act && !forced, strokeAt := workNs s, strokeTick := s.ticks, slipNs := 0
    strokeP3 := p3 s })
  let s2 := (strokeDiag first (codeAfterGap s1)).modBstay (fun b => { b with steerAge := satInc 16 b.steerAge })
  strokeReturn (overlapStroke (applyS1 (phaseStep s2)))

/-- STROKE_START (R42, R68). -/
def execStrokeStart (s : State) : Host.Outcome State Fault Refusal := done (if strokesRun s then strokeStart s else s)

/-! ### The compose point: beam, class, gapless, domain (R36, R50, R251) -/

/-- A pending NORMAL takes effect, or is cancelled where a condition of R251 now holds. -/
def takeNormal (s : State) : State :=
  if s.bstay.normalPend then
    if normalRefused s then s.modBstay (fun b => { b with normalPend := false })
    else
      force ((s.modBstay (fun b => { b with normalPend := false, beam := .normal, tryCause := 0, tryOwns := false })).modScan
        (fun c => { c with allDirtyNext := true }))
  else s

/-- The class, then GAPLESS, are sampled (R36 step 3, R63, R230). -/
def takeClass (s : State) : State :=
  let s1 := s.modBstay (fun b => { b with cls := b.clsPend.getD b.cls, clsPend := none })
  let s2 := force s1
  s2.modScan (fun c => { c with gaplessSmp := bit c.ctrl 20 && !gaplessOff s2.bstay.beam s2.bstay.cls s2 })

/-- The orientation is sampled (R69). -/
def takeFlips (s : State) : State := s.modScan (fun c => { c with flipH := bit c.ctrl 24, flipV := bit c.ctrl 25 })

/-- The sampled orientation or the vertical aim differs from what it was (R246). -/
def geomMoved (a b : State) : Bool :=
  a.scan.flipH != b.scan.flipH || a.scan.flipV != b.scan.flipV || a.bstay.aimVAct != b.bstay.aimVAct

/-- Backstay's part with the Trysail image: the load of R248 and the currents of R246. `s0` is the state at the start of
the compose point. -/
def composeTryImage (s0 s : State) : State :=
  let s1 := if namedImg s.bstay.tryMapAct s.bstay.cls = namedImg s0.bstay.tryMapAct s0.bstay.cls then s else loadTry s
  if geomMoved s0 s || budgetNow s0 != budgetNow s then computeTry s1 else s1

/-! ### The compose point: what the engines sample (R103, R120, R169) -/

/-- Tiles in their safe state. -/
def safeTiles (s : State) : List Nat := allTiles.filter (fun t => !(s.tile t).swClosed)

/-- The dead pixels of an engine's next frame, apart from those of the calibration map (R120). -/
def deadPixels (e : Eng) (s : State) : List Nat :=
  let map_ := s.diag.deadMap.map (·.1)
  if bit (s.eng e).lp.smp.ctrl 9 && !s.compat then setUnion map_ ((safeTiles s).flatMap pixelsOfTile) else map_

/-- DEAD_USED: those with the pixels whose EXCLUDE flag is 1 (R120, Table 04.9). -/
def deadCount (e : Eng) (dead : List Nat) (s : State) : Nat :=
  let ex := if calOn (s.eng e) s then
      (s.store.calib.filter (fun p => p.2.getLsbD 0 && !dead.contains p.1)).length
    else 0
  dead.length + ex

/-- The segments of tiles that have closed since the last compose point that marked them (R81). -/
def closedSegs (s : State) : List Nat := (allTiles.filter (fun t => (s.tile t).markDirty)).flatMap segsOfTile

/-- The orientation or effective aim differs from the last composed frame's (R54, R169). -/
def viewMoved (s : State) : Bool :=
  let j := (s.eng (composer s)).job
  j.flipH != s.scan.flipH || j.flipV != s.scan.flipV || j.aimV != s.bstay.aimVAct || j.aimH != s.bstay.aimHAct

/-- A resynchronisation is in progress (R169). -/
def resyncing (s : State) : Bool :=
  bothEngs.any (fun e => (s.eng e).health.role == .failed && (s.eng e).health.step != 0)

/-- A content change of R169 other than those of the layers. `pend` says that pending register writes or trims were
sampled. -/
def contentMoved (pend : Bool) (s : State) : Bool :=
  let e := composer s
  let x := s.eng e
  pend || deadPixels e s != x.job.dead || safeTiles s != x.job.safe || s.arr.tiles.any Tile.markDirty || viewMoved s ||
  bstaySlewing s.bstay || slewing e s || x.lp.factorMoved || s.scan.allDirtyNext || resyncing s

/-! ### Automatic Hold (R170, R171) -/

/-- HOLD_EN in effect (R170, R174). -/
def holdEn (s : State) : Bool := bit (s.eng (composer s)).comp.ctrlSmp 16 && !s.compat

/-- HOLD and HOLD_CNT after a compose point in S0 with or without a content change, and EV_HOLD (R170, R171). Outside
beam state Normal no content change is looked for, and the engines compose. -/
def holdStep (changed : Bool) (s : State) : State :=
  let c := (s.eng (composer s)).comp
  let on := holdEn s && s.bstay.beam == .normal
  let cnt := if on && !changed then satInc 8 c.holdCnt else 0
  let hold := on && !changed && decide (bits c.ctrlSmp 24 8 ≤ cnt)
  let s1 := s.modBoth (fun x => x.modComp (fun c => { c with holdCnt := cnt, hold := hold }))
  if hold != c.hold then queueEvent (engBlk (composer s) * 256 + 5) 0 [putb 0 hold] s1 else s1

/-! ### The frame that starts at a compose point (R54, R55, R81, R236) -/

/-- The segments that rules mark dirty in the frame that starts (R190). -/
def frameMarks (s : State) : List Nat :=
  if s.scan.allDirtyNext || viewMoved s || s.bstay.profileMoved then allSegs
  else setUnion (setUnion (rowSegs s.scan.fullRow) s.bstay.clampSegs) (closedSegs s)

/-- The frame of engine `e` starts, with rule marks `marks` (R103, R540). -/
def startJob (marks : List Nat) (s : State) (e : Eng) : State :=
  let s1 := slewFactors e s
  let dead := deadPixels e s1
  let n := deadCount e dead s1
  s1.modEng e (fun x => { x with
    job := { x.job with
      active := true, ended := false, rows := 0, flipH := s.scan.flipH, flipV := s.scan.flipV
      aimV := s.bstay.aimVAct, aimH := s.bstay.aimHAct, gapless := s.scan.gaplessSmp
      dead := dead, safe := safeTiles s, marks := marks, badWords := [], badCal := [] }
    lp := { x.lp with deadUsed := n }
    health := { x.health with frameBad := false, rowsEqual := 0 }
    codes := [], rowSig := [], newSig := [], dirty := marks, overlapFirst := [], overlapDue := false })

/-- What one frame consumes of the marks: the row of R55, the clamps, the closes and the all-dirty mark. -/
def consumeMarks (s : State) : State :=
  let s1 := s.modScan (fun c => { c with fullRow := (c.fullRow + 1) % 1024, allDirtyNext := false })
  { (s1.modBstay (fun b => { b with clampSegs := [], profileMoved := false })) with
    arr := { s1.arr with tiles := s1.arr.tiles.map (fun t => { t with markDirty := false }) } }

/-- The compose-point checks of an engine that composes: its control registers and its internal memories
(Table 13.11). -/
def engineChecks (s : State) (e : Eng) : State := check (engBlk e) 0 0 false (check (engBlk e) 1 0 false s)

/-- The layers of every engine that composes, and whether those of the one events come from changed (R147, R169). -/
def allLayers (s : State) : State × Bool :=
  (composers s).foldl (fun r e =>
    let q := composeLayers e r.1
    (q.1, r.2 || (q.2 && e == composer r.1))) (s, false)

/-- The light pipelines sample and form B_TGT (R103, R116, R117). -/
def samplePipes (s : State) : State := bothEngs.foldl (fun s e => formTarget e (sampleLp e s)) s

/-- The engines' part of a compose point in S0. `pend` says that pending pipeline registers or trims were sampled. -/
def composeEngines (pend : Bool) (s : State) : State :=
  let (s1, layers) := if s.compat then (s, false) else allLayers s
  let s2 := noteArmed (holdStep (layers || contentMoved pend s1) s1)
  if (s2.eng (composer s2)).comp.hold || (composers s2).isEmpty then bothEngs.foldl (fun s e => judgeFactors e s) s2
  else
    let marks := frameMarks s2
    wbCompose ((composers s2).foldl (startJob marks) s2)

/-- C of GCUR is sampled in the compatibility modes (R495, R497). -/
def takeLegacy (s : State) : State :=
  if s.compat then legacySwap (s.modLegacy (fun l => { l with cSmp := l.c })) else s

/-- The compose point in S0 and S1; `bad` is a parity error of the profile or the level table (R50). -/
def composeLit (bad : Bool) (s0 : State) : State :=
  let s := if s0.pwr.pstate = .s0 then
      let t := (composers s0).foldl engineChecks s0
      applyRecovery (takeNormal (arbitrate false false t))
    else s0
  let s := takeFlips (selectDomain (takeClass s))
  let pend := s.engA.lp.pend || s.engB.lp.pend || trimsPending s
  let s := samplePipes (bstayCompose bad s0.bstay s)
  let s := releaseFlipAt (composeTryImage s0 s)
  let geom := geomMoved s0 s
  let row := s.scan.fullRow
  let closed := closedSegs s
  let s :=
    if s.pwr.pstate = .s0 then
      composeEngines pend (takeLegacy (sampleTrims s))
    else bothEngs.foldl (fun s e => judgeFactors e s) s
  let s := sendNotice (tryCompose geom row closed s)
  if s.bstay.tryOwns || s.engA.job.active || s.engB.job.active then consumeMarks s else s

/-- The compose point (R50): the frame boundary of the module. In S2 only the time domain and the operating point are
evaluated. -/
def composePoint (bad : Bool) (s : State) : State :=
  if s.pwr.pstate = .s0 ∨ s.pwr.pstate = .s1 then dvfsCompose (composeLit bad s)
  else if s.pwr.pstate = .s2 then dvfsCompose (selectDomain s)
  else s

/-! ### The start of a gap (R45, R64, R50) -/

/-- The gap's length is counted: a gapless stroke, a forced full gap, or a full gap (R64). The codes that emitted are those
live at its start, with the RANGE and RATE in effect in the stroke (R48, R77, R86). -/
def countGap (s : State) : State :=
  ((s.modArr (fun a => { a with
    shone := a.live, shoneMin := dMin s, tiles := a.tiles.map (fun t => { t with rangeShone := t.rangeAct }) })).hitIf
      s.scan.strokeForced 7 0x20 0).modScan (fun c =>
    let c := { c with inGap := true, gapTick := s.ticks }
    if c.strokeForced then { c with forcedGap := true, forcedCnt := satInc 16 c.forcedCnt, deferCnt := 0 }
    else if c.strokeGapless then { c with forcedGap := false, deferCnt := satInc 12 c.deferCnt }
    else { c with forcedGap := false, deferCnt := 0 })

/-- GAP_START (R45): headroom, parity, trips, closes and the supply request; where it is a compose point that is no flip
instant, the compose point with it. `heads` and `peaks` are measured on the tiles, `upset` names tiles whose control
parity has become wrong, and `bad` is a parity error found by the compose point. -/
def execGapStart (heads peaks : List (Nat × Nat)) (upset : List Nat) (bad : Bool) (s : State) :
    Host.Outcome State Fault Refusal :=
  done (if strokesRun s && !s.scan.inGap && s.scan.strokeInFrame != 0 then
    let s1 := gapDiag (gapArray heads peaks upset (countGap s))
    if leadNow s1 < nfNow s1 && s1.scan.strokeInFrame == nfNow s1 - leadNow s1 then composePoint bad s1 else s1
  else s)

/-! ### The flip instant (R48, R49, R57, R59, R68, R188) -/

/-- The start of this gap is a flip instant: that of the frame's last stroke, or the instant a leader has named
(R47, R352). -/
def flipDue (s : State) : Bool :=
  s.scan.inGap &&
  (match s.time.notice with
   | none => s.scan.strokeInFrame == nfNow s
   | some n => ahead n.1.toNat s ≤ 1000)

/-- The dirty segments of the frame that the flip waits for: those of the engine that owns the row bus, or, with a
switch-over under way, those of the incoming engine, with what the overlap adds (R49, R59, R190, R192). -/
def flipDirty (s : State) : List Nat :=
  if s.bstay.arb.handover then
    match activeEng s with
    | none => []
    | some a =>
      let x := s.eng a
      if s.bstay.arb.overlap then setUnion x.dirty x.overlapFirst else incomingDirty x
  else (s.eng (busOwner s)).dirty

/-- A flip is pending: the writer that owns the row bus, or with a switch-over under way the incoming engine, has written
every dirty segment of its frame, no undecided mismatch withholds it, and the store is restored after S4 or S5 (R38, R49,
R59, R188). -/
def flipPending (s : State) : Bool :=
  if s.bstay.arb.undecided || s.pwr.restoring then false
  else if s.bstay.tryOwns then s.bstay.tryDirty.isEmpty
  else
    let x := s.eng (if s.bstay.arb.handover then composer s else busOwner s)
    s.pwr.pstate == .s0 && x.job.active && x.job.rows == 1024 && (flipDirty s).isEmpty && estate s != 3

/-- The engines compose the frame, or would have: a notice has put the flip instant before the compose point, outside
automatic Hold (R30, R352). -/
def composing (s : State) : Bool :=
  (s.eng (composer s)).job.active ||
    (s.time.notice.isSome && !composePassed s && mayCompose (composer s) s && !(s.eng (composer s)).comp.hold)

/-- The frame overruns (R57). -/
def overruns (s : State) : Bool :=
  s.pwr.pstate == .s0 && s.bstay.beam == .normal && !s.bstay.tryOwns && composing s && !flipPending s

/-- Dirty segments of the frame left unwritten: those of the row writer, and the segments of rows not yet complete; all of
them where the frame has not begun (R57). -/
def segsLeft (s : State) : Nat :=
  let x := s.eng (busOwner s)
  if !x.job.active then 16384
  else (setUnion x.dirty ((List.range (16 * (1024 - x.job.rows))).map (fun k => 16 * x.job.rows + k))).length

/-- The frame's writes are recorded (Table 02.8). DESIGN CHOICE (log entry 144): in a frame without a segment write the
margin runs from the last write of an earlier frame. -/
def recordWrites (over_ : Bool) (s : State) : State :=
  s.modScan (fun c => { c with
    segsLast := min 0x7FFF c.segsWritten.length
    rowsLast := (c.segsWritten.foldl (fun l g => setIns l (g / 16)) []).length
    writeMargin := if over_ then 0 else min 65535 ((s.ticks - c.lastWrite) / 250)
    segsWritten := [] })

/-- Every pixel's next codes are copied to its live codes (R48). -/
def copyNext (s : State) : State := s.modArr (fun a => { a with live := a.next })

/-- The overrun of a frame: no flip, the frame abandoned, the event, and every segment dirty in the next frame (R57,
R166). -/
def overrun (s : State) : State :=
  let left := segsLeft s
  let s1 := ((wbAbort s).modScan (fun c => { c with overrunCnt := satInc 16 c.overrunCnt, allDirtyNext := true })).hit 7 0x10 0
  queueEvent 0x0701 1 [put 0 s.scan.frameCnt.toNat, put 0 (min 0x7FFF left)] s1

/-- Composition of the frame is over for both engines. A frame of the engines that did not flip leaves every segment
dirty for the next one (R57). -/
def endJobs (flipped : Bool) (s : State) : State :=
  let was := s.engA.job.active || s.engB.job.active
  let f (x : Engine) : Engine := { x with job := { x.job with active := false }, dirty := [], overlapFirst := [], overlapDue := false }
  (s.modBoth f).modScan (fun c => { c with allDirtyNext := c.allDirtyNext || (was && (!flipped || s.bstay.tryOwns)) })

/-- The predictions of the frames composed in full (R114, R117). DESIGN CHOICE (log entry 179): where an engine has not
composed its frame in full at a flip instant that is no overrun (a late standby, or any engine in beam state Trysail), R117
names no case; its I_PRED and B_PREV stay as they were. -/
def predictAll (s : State) : State :=
  bothEngs.foldl (fun s e => if (s.eng e).job.active && (s.eng e).job.rows == 1024 then recordPrediction e s else s) s

/-- Ranges and trims become effective; in beam state Trysail pending ones are sampled here too. Where they change, I_TRY
is computed (R86, R88, R246). -/
def flipTrims (s : State) : State :=
  let s1 := if s.pwr.pstate = .s0 ∧ s.bstay.beam = .trysail then sampleTrims s else s
  let s2 := applyTrims s1
  if s2.arr.gtrimAct != s.arr.gtrimAct || s2.arr.tiles.map (fun t => (t.rangeAct, t.ttrimAct)) != s.arr.tiles.map (fun t => (t.rangeAct, t.ttrimAct))
  then computeTry s2 else s2

/-- RATE, NF, LEAD and the sampled GAPLESS take effect (R63, R69). -/
def takeScan (s : State) : State :=
  s.modScan (fun c => { c with
    rateAct := c.ctrl.setWidth 2, nfAct := BitVec.ofNat 5 (bits c.ctrl 4 5), leadAct := BitVec.ofNat 5 (bits c.ctrl 12 5)
    gaplessAct := c.gaplessSmp
    frameCnt := c.frameCnt + 1, strokeInFrame := 0 })

/-- The flip instant (R49). -/
def flipFrame (s0 : State) : State :=
  let pending := flipPending s0
  let over_ := overruns s0
  let s := lateRows s0
  let s := if over_ then s else predictAll s
  let s := recordWrites over_ s
  let s := if pending then copyNext s else s
  let s := if lit s then clampFlip s else s
  let s := if over_ then overrun s else s
  let s := endJobs pending s
  let s := if over_ then s else applyPlanned s
  let s := (flipTrims (takeScan s)).modTime (fun t => { t with notice := none })
  s.modScan (fun c => { c with lastFlip3 := 3 * workNs s })

/-- A flip instant, and the compose point that falls on it with LEAD = N_f (R50). -/
def flip (bad : Bool) (s : State) : State :=
  let u := flipFrame s
  if leadNow u = nfNow u then composePoint bad u else u

/-- A compose point is due in this evaluation: at the start of the coming gap, or, where LEAD equals NF, at the flip instant
of the present one (R50). -/
def composeDue (s : State) : Bool :=
  strokesRun s &&
  (if leadNow s = nfNow s then flipDue s
   else !s.scan.inGap && s.scan.strokeInFrame != 0 && s.scan.strokeInFrame == nfNow s - leadNow s)

/-- FENCE_TIMEOUT: the expiry of a layer's fence wait, in the evaluation of the compose point at which the count
reaches TIMEOUT, with the expiries of its flip group in the same evaluation (R162). -/
def execFenceTimeout (e : Eng) (layer : Fin 8) (s : State) : Host.Outcome State Fault Refusal :=
  done (if composeDue s && mayCompose e s && !s.compat && timeoutDue e layer s then applyTimeouts e (dueMates e layer s) s else s)

/-- FLIP_INSTANT (R49, R68). -/
def execFlipInstant (bad : Bool) (s : State) : Host.Outcome State Fault Refusal :=
  done (if strokesRun s && flipDue s then flip bad s else s)

/-! ### Composition row by row (R142, R180, R540) -/

/-- The engine composes rows: its role has it compose (Table 06.1), its frame has started and its PIX clock runs. -/
def rowsRun (e : Eng) (s : State) : Bool :=
  mayCompose e s && (s.eng e).job.active && (s.eng e).job.rows < 1024 && !blockOff (engBlk e) s

/-- The first store word that the engine fetches for an array row, where it fetches any: the word an injected error of the
store hits (log entry 31). -/
def rowWord (e : Engine) (row : Nat) (s : State) : Option (Nat × Nat) :=
  (List.range 1024).findSome? (fun x =>
    let p := e.job.sceneAt x row
    if onCanvas p then sceneWord e s p.1.toNat p.2.toNat else none)

/-- Both engines fetch the same store word in the same clock, so an error injected into the store meets the first of
them to complete a row, and the same word of the other (Table 13.11). The word's true check bits are checked in the same
clock: `bad` says whether it is bad itself (R376). -/
def takeStoreInj (e : Eng) (row : Nat) (bad : List (Nat × Nat)) (s : State) : State :=
  let o := (s.eng (other e)).job
  if (s.win 4).inject.getLsbD 0 && !(o.active && decide (row < o.rows)) then
    match rowWord (s.eng e) row s with
    | none => s
    | some w =>
      let s1 := check 4 0 0 (bad.contains w) { s.hit 4 4 0 with store := { s.store with uncorr := satInc 16 s.store.uncorr } }
      s1.modBoth (fun x => { x with job := { x.job with badWords := x.job.badWords ++ [(row, w)] } })
  else s

/-- A corrected error of the store: repaired, counted and reported (R142, R361). -/
def storeCorr (real : Bool) (s : State) : State :=
  check 4 1 0 real { s.hit 4 4 16 with store := { s.store with corr := satInc 16 s.store.corr } }

/-- Errors of the store in the fetches of a row, each its own report (R361): `bad` words, less the one that an injection has
reported, and `corr` corrected ones after an injected one (R142). -/
def storeErrors (e : Eng) (row : Nat) (bad : List (Nat × Nat)) (corr : Nat) (s : State) : State :=
  let new := bad.filter (fun w => !(s.eng e).job.badWords.contains (row, w))
  let s1 := new.foldl (fun s w =>
    (raiseFault 4 0 0 true false { s.hit 4 4 0 with store := { s.store with uncorr := satInc 16 s.store.uncorr } }).modEng e
      (fun x => { x with job := { x.job with badWords := x.job.badWords ++ [(row, w)] } })) s
  let injC := (s1.win 4).inject.getLsbD 1 && (rowWord (s1.eng e) row s1).isSome
  let s2 := if injC then storeCorr false s1 else s1
  (List.range corr).foldl (fun s _ => storeCorr true s) s2

/-- Row `row` reads the calibration word of pixel `k`: one of its own, or, where neighbour fill is on, of the rows beside it
(R106, R121). -/
def readsCal (e : Engine) (row k : Nat) (s : State) : Bool :=
  decide (k < 1048576) && (k / 1024 == row || (fillOn e s && (k / 1024 == row + 1 || k / 1024 + 1 == row)))

/-- One uncorrectable calibration word: counted and reported, and its pixel takes G = 1024 and flags 0 for the frame (R107,
R361). -/
def calError (e : Eng) (real : Bool) (s : State) (k : Nat) : State :=
  (check (engBlk e) 16 0 real ((s.hit (engBlk e) 0x8004 7).hit (engBlk e) 0x8024 0)).modEng e (fun x => { x with
    lp := { x.lp with calEcc := true, calEccCnt := satInc 16 x.lp.calEccCnt }
    job := { x.job with badCal := x.job.badCal ++ [k] } })

/-- Uncorrectable errors of calibration words that a row reads, after an injected one in its first word (R107). DESIGN CHOICE
(log entry 180): a word is read first by the row before its own where neighbour fill is on, and `bad` names it there, so that
every row of the frame sees the pixel as R107 has it. -/
def calErrors (e : Eng) (row : Nat) (bad : List Nat) (s : State) : State :=
  if calOn (s.eng e) s then
    let inj := fails (engBlk e) 16 false s
    let s1 := if inj then calError e (bad.contains (1024 * row)) s (1024 * row) else s
    (setUnion [] (bad.filter (fun k => readsCal (s1.eng e) row k s && !(s1.eng e).job.badCal.contains k))).foldl (calError e true) s1
  else s

/-- The codes of an array row, with upset code words (R101, R180). -/
def rowCodes (e : Eng) (row : Nat) (upset : List (Fin 1024 × BitVec 16)) (s : State) : List Code :=
  let x := s.eng e
  (List.range 1024).map (fun i =>
    let c := codeAt (frameCanvas x s) x s x.job.badCal i row
    upset.foldl (fun c p => if p.1.val = i then wordCode (codeWord c ^^^ p.2) else c) c)

/-- The codes of one segment out of a row's. -/
def segCodes (cs : List Code) (j : Nat) : List Code := (cs.drop (64 * j)).take 64

/-- The sums of c × d of a row's tiles are added to those of the frame (R114). -/
def addSums (row : Nat) (cs : List Code) (m : Sparse Nat) : Sparse Nat :=
  (List.range 16).foldl (fun m j =>
    let t := 16 * (row / 64) + j
    let v := (segCodes cs j).foldl (fun a c => a + c.c.toNat * c.d.toNat) 0
    if v = 0 then m else spSet m t (spGet m t 0 + v)) m

/-- The code words of a row that its signature covers: an array pixel that receives no scene pixel contributes 0x0000
(R180). -/
def signed_ (j : Job) (row : Nat) (cs : List Code) : List Code :=
  cs.zipIdx.map (fun p => if onCanvas (j.sceneAt p.2 row) then p.1 else ⟨0, 0⟩)

/-- The row's codes reach the row writer: its signature, the signatures of its segments, and the segments whose codes
differ from those last written (R53, R180). -/
def takeCodes (row : Nat) (cs : List Code) (x : Engine) : Engine :=
  let sigs := (List.range 16).map (fun j => (16 * row + j, codesSig (segCodes cs j)))
  let moved := (sigs.filter (fun p => spGet x.segSig p.1 0 != p.2 || !(x.segSig.any (fun q => q.1 == p.1)))).map (·.1)
  { x with
    codes := spPutAll (⟨0, 0⟩ : Code) x.codes (cs.zipIdx.map (fun p => (1024 * row + p.2, p.1)))
    rowSig := spSet x.rowSig row (codesSig (signed_ x.job row cs))
    newSig := sigs.foldl (fun m p => spSet m p.1 p.2) x.newSig
    dirty := setUnion x.dirty moved
    lp := { x.lp with sumCd := addSums row cs x.lp.sumCd }
    job := { x.job with rows := row + 1 } }

/-- ROW_COMPLETE (R180, R181, R540): the engine completes its next array row, reading its internal memories as it does (Table
13.11). `upset` gives code words changed by errors of the engine, `calBad` pixels whose calibration word is bad, `storeBad` store words that are bad and `corr` corrected
errors. -/
def execRowComplete (e : Eng) (upset : List (Fin 1024 × BitVec 16)) (calBad : List Nat) (storeBad : List (Nat × Nat))
    (corr : Nat) (s : State) : Host.Outcome State Fault Refusal :=
  done (if rowsRun e s then
    let row := (s.eng e).job.rows
    let s0 := check (engBlk e) 0 0 false s
    let s1 := calErrors e row calBad (storeErrors e row storeBad corr (takeStoreInj e row storeBad s0))
    compareRow row (s1.modEng e (takeCodes row (rowCodes e row upset s1)))
  else s)

/-- The composition time of a load in whole microseconds: load / (4 f_PIX) at the operating point in use (R156). DESIGN
CHOICE (log entry 151): `up` says whether a fraction of a microsecond counts as one. -/
def composeMicros (up : Bool) (load : Nat) (s : State) : Nat :=
  let q := 400 * pixOf s.clk.opAct.toNat
  load / q + if up && load % q != 0 then 1 else 0

/-- COMPOSITION_END (R156, R166): every row of the frame is complete; the load and time are recorded, `up` being the
rounding of the time, and the write-back buffer completes. -/
def execCompositionEnd (e : Eng) (up : Bool) (s : State) : Host.Outcome State Fault Refusal :=
  done (if s.pwr.pstate == .s0 && (s.eng e).job.active && (s.eng e).job.rows == 1024 && !(s.eng e).job.ended then
    let load := lastLoad (s.eng e) s
    let s1 := s.modEng e (fun x => { (x.modComp (fun c => { c with
      composeTime := min 65535 (composeMicros up load s), loadLast := load })) with job := { x.job with ended := true } })
    if e = composer s1 ∧ s1.compat = false then wbFinish e s1 else s1
  else s)

/-! ### Row writes (R24, R53, R56, R190, R192, R234) -/

/-- The engine's row writer may write: it owns the row bus, or the switch-over overlap is in progress (Table 06.1), and the
row bus is open (R56). An outgoing engine, FAILED since the decision, drives until the grant (Table 06.3). -/
def mayWrite (e : Eng) (s : State) : Bool :=
  s.pwr.pstate == .s0 && !s.bstay.tryOwns && estate s != 3 && !(s.win (engBlk e)).resetting && !busClosed s &&
  (busOwner s == e || s.bstay.arb.overlap)

/-- The segments of an overlap wait for the stroke that follows it, in which they go ahead of every other one (R192). In the
overlap itself both engines may write (Table 06.3). -/
def writeTurn (overlap : Bool) (x : Engine) (g : Nat) : Bool :=
  overlap || x.overlapFirst.isEmpty || x.overlapFirst.contains g == x.overlapDue

/-- The codes of segment `g` after the SLP check, with the number of clamps (R234). -/
def checkedSeg (x : Engine) (b : Bstay) (g : Nat) : List Code × Nat :=
  let y := g / 16
  let px := (List.range 64).map (fun u =>
    let k := 1024 * y + 64 * (g % 16) + u
    slpPixel b (sceneOf x.job.flipH x.job.flipV x.job.aimV x.job.aimH (k % 1024) y) (spGet x.codes k ⟨0, 0⟩))
  (px.map (·.1), (px.filter (·.2)).length)

/-- The segment is written by engine `e`: both tables take the signature of the codes put on the bus, and each writer
that shadows the other, the incoming one of a switch-over among them, drops it from its dirty set (R53, R190). -/
def noteSeg (e : Eng) (g : Nat) (s : State) : State :=
  let sig := spGet (s.eng e).newSig g 0
  let own (x : Engine) : Engine := { x with
    segSig := spSet x.segSig g sig, dirty := setDel x.dirty g, overlapFirst := setDel x.overlapFirst g }
  let h := (s.eng (other e)).health
  let follows := h.role == .standby || (h.role == .failed && h.step == 4) || (s.bstay.arb.handover && h.role == .active)
  let s1 := s.modEng e own
  let s2 := if follows then
      s1.modEng (other e) (fun x => { x with segSig := spSet x.segSig g sig, dirty := setDel x.dirty g })
    else s1
  if s.bstay.arb.overlap then
    match activeEng s with
    | some a => s2.modEng a (fun x => { x with segSig := spSet x.segSig g sig, overlapFirst := setIns x.overlapFirst g })
    | none => s2
  else s2

/-- SEGMENT_WRITE (R53): the row writer of an engine writes a dirty segment of a complete row through Backstay. A write
cut short by a closure is repeated (R56); `bad` is a parity error of the profile (R541). -/
def execSegmentWrite (e : Eng) (seg : Fin 16384) (cut bad : Bool) (s : State) : Host.Outcome State Fault Refusal :=
  done (
    let g := seg.val
    let x := s.eng e
    if mayWrite e s && x.job.active && x.dirty.contains g && g / 16 < x.job.rows && writeTurn s.bstay.arb.overlap x g && !cut then
      let s1 := profileParity bad s
      let (cs, n) := checkedSeg x s1.bstay g
      let s2 := noteSeg e g (noteWrite g (latchSeg g cs s1))
      s2.modBstay (fun b => { b with
        clampNow := b.clampNow + n, clampNowEng := b.clampNowEng + n
        clampSegs := if n = 0 then b.clampSegs else setIns b.clampSegs g })
    else s)

/-! ### The SCAN window (Tables 02.6 to 02.8) -/

/-- A write of SCAN_CTRL (R67, R69, Table 02.7): a refused write sets CFG_ERR. DESIGN CHOICE (log entry 145): a direct write
with GAPLESS = 1 is refused wherever Table 01.7 forces gapless off (R34, R65), whether it would set the bit or keep it; one
that clears the bit is accepted. -/
def scanCtrlWrite (v : Word) (s : State) : State × BitVec 8 :=
  let refused (st : BitVec 8) : State × BitVec 8 := ((s.modScan (fun c => { c with cfgErr := true })).hit 7 4 3, st)
  let rate := bits v 0 2
  if s.compat then refused stBadState
  else if rate = 3 ∨ bits v 4 5 + 1 < 2 * 2 ^ rate then refused stBadParam
  else if bit v 20 && gaplessOff s.bstay.beam s.bstay.cls s then refused stBadState
  else (noteLoad (s.modScan (fun c => { c with ctrl := v &&& 0x0311F1F3 })), stOk)

/-- SCAN_CTRL_WRITE (R69). -/
def execScanCtrlWrite (src : RegSrc) (v : Word) (s : State) : Host.Outcome State Fault Refusal :=
  done (writeRow 7 src (scanCtrlWrite v) s)

/-- A read of the SCAN window. -/
def scanRead (off : Nat) (s : State) : Word :=
  let c := s.scan
  if off = 0x0000 then (if s.compat then (c.ctrl &&& 0x03000000) ||| 3 else c.ctrl)
  else if off = 0x0004 then
    put 4 c.deferCnt ||| putb 3 c.cfgErr ||| putb 2 c.forcedGap ||| putb 1 c.gaplessAct |||
      putb 0 (c.phaseLock && !s.clk.onFb)
  else if off = 0x0008 then c.strokeCnt
  else if off = 0x000C then put 0 c.frameCnt.toNat
  else if off = 0x0010 then put 0 c.overrunCnt
  else if off = 0x0014 then put 16 c.rowsLast ||| put 0 c.segsLast
  else if off = 0x0018 then put 0 c.writeMargin
  else if off = 0x0020 then put 0 c.forcedCnt
  else 0

/-- A write to the SCAN window. -/
def scanWrite (off : Nat) (v : Word) (s : State) : State × BitVec 8 :=
  if off = 0x0000 then scanCtrlWrite v s
  else if off = 0x0004 then (s.modScan (fun c => { c with cfgErr := rw1c (bit v 3) (s.wasHit 7 4 3) c.cfgErr }), stOk)
  else if off = 0x001C then
    (s.modScan (fun c => { c with
      forcedCnt := if bit v 1 then cleared (s.wasHit 7 0x20 0) c.forcedCnt else c.forcedCnt
      overrunCnt := if bit v 0 then cleared (s.wasHit 7 0x10 0) c.overrunCnt else c.overrunCnt }), stOk)
  else (s, stOk)

end Sys2Proof.Machine
end

