-- ==== Sys2Proof/Machine/Therm.lean ====
section
/-! DEFINITION. Temperature sensing: readings, broken sensors, levels and reefing targets, and the THERM registers
(14_thermal.md R391 to R406). Temperatures are in 1/16 degree. -/

namespace Sys2Proof.Machine

/-- The state with THERM changed. -/
def State.modTherm (s : State) (f : Therm → Therm) : State := { s with therm := f s.therm }

/-- The three groups, with the codes of EV_THERMAL. -/
inductive TGroup where
  | tile | die | sink
deriving DecidableEq, Repr

/-- GROUP of EV_THERMAL (Table 11.10). -/
def tgroupNo : TGroup → Nat
  | .tile => 0 | .die => 1 | .sink => 2

/-- A threshold by which a reading is judged: level 0 WARN, 1 THROTTLE, 2 SHUTDOWN of a group, as it stood when the present
clock began (R395, Table 14.7). -/
def thr (g : TGroup) (l : Nat) (s : State) : Int := s.base.therm.thr.getD (3 * tgroupNo g + l) 0

/-- HYST, as it stood when the present clock began (R395). -/
def hystNow (s : State) : Int := s.base.therm.hyst.toNat

/-! ### Sensors (R393) -/

/-- A sensor whose own reading counts. -/
def Sensor.ok (x : Sensor) : Bool := !x.broken && x.last.isSome

/-- A sensor that a substitute stands in for: broken, or failing without a good reading so far. -/
def Sensor.bad (x : Sensor) : Bool := x.broken || (x.last.isNone && 0 < x.fails)

/-- A sensor that has been read since reset or an exit from S4 or S5 (R403). -/
def Sensor.seen (x : Sensor) : Bool := x.last.isSome || 0 < x.fails || x.broken

/-- A reading converts and lies in range. -/
def goodReading (lo hi : Int) (r : Option Int) : Option Int :=
  match r with
  | some v => if lo ≤ v ∧ v ≤ hi then some v else none
  | none => none

/-- A value as a signed 13-bit register holds it. -/
def reg13 (v : Int) : Int := max (-4095) (min 4095 v)

/-- A reading taken by a sensor with range `lo` to `hi` (R393). -/
def takeReading (lo hi : Int) (r : Option Int) (x : Sensor) : Sensor :=
  let shown := match r with | some v => reg13 v | none => x.shown
  match goodReading lo hi r with
  | some v =>
    let good := if x.broken then x.good + 1 else 0
    { x with shown := shown, last := some v, fails := 0, broken := x.broken && decide (good < 100), good := if good < 100 then good else 0 }
  | none => { x with shown := shown, fails := x.fails + 1, good := 0, broken := x.broken || 1 ≤ x.fails }

/-- The reading declares the sensor broken (R393). -/
def declares (a b : Sensor) : Bool := !a.broken && b.broken

/-! ### Levels (R394 to R398) -/

/-- A level after a reading with value `v` (R394). -/
def levelAt (set_ : Bool) (thr_ hyst v : Int) : Bool := if thr_ ≤ v then true else if v < thr_ - hyst then false else set_

/-- The sensor's levels after a reading. -/
def Sensor.judge (g : TGroup) (s : State) (x : Sensor) : Sensor :=
  { x with
    warn := levelAt x.warn (thr g 0 s) (hystNow s) x.used
    throttle := levelAt x.throttle (thr g 1 s) (hystNow s) x.used
    shutdown := levelAt x.shutdown (thr g 2 s) (hystNow s) x.used }

/-- The highest set level: 0 none, 1 WARN, 2 THROTTLE, 3 SHUTDOWN. -/
def Sensor.level (x : Sensor) : Nat := if x.shutdown then 3 else if x.throttle then 2 else if x.warn then 1 else 0

/-- A WARN level that sets sets FAULT.TEMP in the compatibility modes (Table 19.4). -/
def legacyWarn (level : Nat) (after : Bool) (s : State) : State :=
  if s.compat && after && level == 1 then setLegacy 0x10 0 0 s else s

/-- EV_THERMAL for one level that has changed (R396). -/
def thermEvent (g : TGroup) (level idx : Nat) (before after : Bool) (s : State) : State :=
  if before = after then s
  else legacyWarn level after <| queueEvent 0x1001 1 [put 16 idx ||| putb 8 after ||| put 4 level ||| put 0 (tgroupNo g)] s

/-- The fault source of a THROTTLE (1) or SHUTDOWN (2) level of a group (Table 14.8). -/
def thermSrc (g : TGroup) (l : Nat) : Nat := 2 * tgroupNo g + (l - 1)

/-- The report of a level's source: when the level sets, and at the first reading after a clear (R398). -/
def reportLevel (g : TGroup) (l idx : Nat) (before after : Bool) (s : State) : State :=
  if after && (!before || !((s.win 16).idx.contains (thermSrc g l, idx))) then raiseFault 16 (thermSrc g l) idx true false s
  else s

/-- Events and sources of a reading that took the sensor's record from `a` to `b` (R396, R398). -/
def reportSensor (g : TGroup) (idx : Nat) (a b : Sensor) (s : State) : State :=
  let s1 := thermEvent g 3 idx a.shutdown b.shutdown (thermEvent g 2 idx a.throttle b.throttle (thermEvent g 1 idx a.warn b.warn s))
  reportLevel g 2 idx a.shutdown b.shutdown (reportLevel g 1 idx a.throttle b.throttle s1)

/-! ### Values (R392, R393, R400) -/

/-- The junction estimate of a tile for its sensor value, VLED in mV and mean current in µA (R392). -/
def junction (theta tsens : Int) (vled iAvg : Nat) : Int :=
  let p := (vled * iAvg + 500000) / 1000000
  tsens + (theta * p + 500) / 1000

/-- The up to 8 tiles around a tile. -/
def around (t : Nat) : List Nat :=
  (List.range 256).filter (fun u =>
    u != t && u / 16 ≤ t / 16 + 1 && t / 16 ≤ u / 16 + 1 && u % 16 ≤ t % 16 + 1 && t % 16 ≤ u % 16 + 1)

/-- The highest of a list of values, where there is one. -/
def highest : List Int → Option Int
  | [] => none
  | a :: rest => match highest rest with | none => some a | some b => some (max a b)

/-- The substitute of a tile sensor (Table 14.2). -/
def tileSubstitute (t : Nat) (s : State) : Int :=
  match highest (((around t).map (fun u => s.therm.tiles.getD u {})).filter Sensor.ok |>.map Sensor.used) with
  | some m => m + 240
  | none => thr .tile 2 s

/-- The value used for a tile after a reading (R392, R393). -/
def tileValue (t iAvg : Nat) (x : Sensor) (s : State) : Int :=
  match x.ok, x.last with
  | true, some v => junction s.therm.theta.toNat v s.arr.vled iAvg
  | _, _ => tileSubstitute t s

/-- The good readings of the die sensors. -/
def dieGood (s : State) : List Int := s.therm.dies.filterMap (fun x => if x.ok then x.last else none)

/-- The value in place of DIE where no die sensor is valid (Table 14.2). -/
def dieLost (s : State) : Int := min (thr .die 1 s + 160) (thr .die 2 s - 1)

/-- The substitute of a die sensor (Table 14.2). -/
def dieSubstitute (s : State) : Int := match highest (dieGood s) with | some m => m + 240 | none => dieLost s

/-- DIE_VALUE after a DIE reading (R400): the highest valid reading, or the substitute where no die sensor is valid (Tables 14.1
and 14.2). -/
def dieValue (s : State) : Int := (highest (dieGood s)).getD (dieLost s)

/-- A die sensor has been read. -/
def dieSeen (s : State) : Bool := s.therm.dies.any Sensor.seen

/-- The SINK value in place of a broken NTC (Table 14.2). -/
def sinkSubstitute (s : State) : Int := min (thr .sink 1 s + 160) (thr .sink 2 s - 1)

/-! ### Reefing (R399 to R401) -/

/-- REEF_EN -/
def reefEn (s : State) : Bool := bit s.therm.ctrl 16
/-- REEF_K -/
def reefK (s : State) : Nat := bits s.therm.ctrl 0 16

/-- The reefing value for a temperature against a threshold (R399). -/
def reefAt (t th : Int) (s : State) : Nat :=
  let f : Int := if t ≤ th ∨ reefEn s = false then 65536 else 65536 - (reefK s * (t - th) + 8) / 16
  (max (s.therm.floor.toNat : Int) f).toNat

/-- The published target for a computed value (R401). -/
def publish (tgt comp : Nat) (s : State) : Nat :=
  if 656 ≤ (tgt - comp) + (comp - tgt) || comp == 65536 || comp == s.therm.floor.toNat then comp else tgt

/-- The computed global value (R400). -/
def globComp (s : State) : Nat :=
  min (if dieSeen s then reefAt s.therm.dieVal (thr .die 1 s) s else reefAt (thr .die 1 s) (thr .die 1 s) s)
    (if s.therm.ntc.seen then reefAt s.therm.ntc.used (thr .sink 1 s) s else reefAt (thr .sink 1 s) (thr .sink 1 s) s)

/-- R_DIE_SINK and R_GLOB_TGT after a DIE or SINK reading in S0 to S2 (R400, R401, Table 14.4). -/
def publishGlob (s : State) : State :=
  if s.pwr.pstate == .s3 then s
  else
    let c := globComp s
    s.modTherm (fun t => { t with rDieSink := c, globTgt := publish t.globTgt c s })

/-! ### Readings (R391, R402) -/

/-- A tile sensor's reading, with the mean current of its switch in µA: substitution, junction estimate, levels with the
tile's safe state, target (R391 to R397, R400). -/
def readTile (t : Nat) (r : Option Int) (iAvg : Nat) (s : State) : State :=
  let a := s.therm.tiles.getD t {}
  let b0 := takeReading (-880) 3200 r a
  let s1 := s.modTherm (fun h => { h with tiles := h.tiles.set t b0 })
  let b := ({ b0 with used := reg13 (tileValue t iAvg b0 s1) } : Sensor).judge .tile s1
  let s2 := s1.modTherm (fun h => { h with
    tiles := h.tiles.set t b
    tileTgt := spPut 65536 h.tileTgt t (publish (spGet h.tileTgt t 65536) (reefAt b.used (thr .tile 1 s1) s1) s1) })
  let s3 := s2.modTile t (fun x => { x with shutdown := b.shutdown })
  reportSensor .tile t a b (if declares a b0 then raiseFault 16 6 t true false s3 else s3)

/-- A die sensor's reading. -/
def readDie (n : Nat) (r : Option Int) (s : State) : State :=
  let a := s.therm.dies.getD n {}
  let b0 := takeReading (-880) 3200 r a
  let s1 := s.modTherm (fun h => { h with dies := h.dies.set n b0 })
  let v := if b0.ok then b0.last.getD 0 else dieSubstitute s1
  let b := ({ b0 with used := reg13 v } : Sensor).judge .die s1
  let s2 := publishGlob (s1.modTherm (fun h => { h with dies := h.dies.set n b, dieVal := reg13 (dieValue s1) }))
  reportSensor .die n a b (if declares a b0 then raiseFault 16 6 (0x100 + n) true false s2 else s2)

/-- The NTC's reading, which converts or not, with its resistance; its temperature follows from the resistance with NTC_B and
NTC_R25 as they stood when the present clock began (R405). It is the last of a scan (assumption 43). -/
def readNtc (r : Option Int) (res : Nat) (s : State) : State :=
  let a := s.therm.ntc
  let b0 := takeReading (-800) 2560 (r.map (fun _ => Config.ntcTemp res s.base.therm.ntcCfg)) a
  let v := if b0.ok then b0.last.getD 0 else sinkSubstitute s
  let b := ({ b0 with used := reg13 v } : Sensor).judge .sink s
  let s2 := publishGlob (s.modTherm (fun h => { h with ntc := b, ntcRes := min 0xFFFFFF res, scanCnt := h.scanCnt + 1 }))
  reportSensor .sink 0 a b (if declares a b0 then raiseFault 16 7 0 true false s2 else s2)

/-- A sensor's reading, none where it fails to convert, with the mean switch current in µA for a tile and the resistance in ohms
for the NTC, whose temperature the resistance gives. Which sensors are read depends on the power state (Table 14.4). -/
def takeSensor (id : SensorId) (reading : Option Int) (aux : Nat) (s : State) : State :=
  match id, s.pwr.pstate with
  | .tile t, .s0 => readTile t reading aux s
  | .tile t, .s1 => readTile t reading aux s
  | .tile _, _ => s
  | .die n, .s0 => readDie n reading s
  | .die n, .s1 => readDie n reading s
  | .die n, .s2 => readDie n reading s
  | .die _, _ => s
  | .ntc, .s4 => s
  | .ntc, .s5 => s
  | .ntc, _ => readNtc reading aux s

/-- THERM_READING (R391). -/
def execThermReading (id : SensorId) (reading : Option Int) (aux : Nat) (s : State) : Host.Outcome State Fault Refusal :=
  done (if s.pwr.inReset then s else takeSensor id reading aux s)

/-! ### The THERM window (R405, Tables 14.5 to 14.7) -/

/-- TJ_MAX with the lowest tile that gives it, among the tiles read; 0 before any reading. -/
def tjMax (s : State) : Int × Nat :=
  ((s.therm.tiles.zipIdx.filter (fun p => p.1.seen)).foldl (fun (best : Option (Int × Nat)) p =>
    match best with
    | none => some (p.1.used, p.2)
    | some b => if b.1 < p.1.used then some (p.1.used, p.2) else best) none).getD (0, 0)

/-- A read of the THERM window. -/
def thermRead (off : Nat) (s : State) : Word :=
  let h := s.therm
  if off = 0x0000 then h.ctrl
  else if off = 0x0004 then put 0 h.floor.toNat
  else if off = 0x0008 then put 0 h.theta.toNat
  else if off = 0x000C then
    put 16 (h.tiles.filter Sensor.broken).length |||
      (h.dies.zipIdx.foldl (fun w p => w ||| putb (8 + p.2) p.1.broken) 0) ||| putb 7 h.ntc.broken |||
      put 4 h.ntc.level ||| put 2 (h.dies.foldl (fun m x => max m x.level) 0) |||
      put 0 (h.tiles.foldl (fun m x => max m x.level) 0)
  else if off = 0x0010 then put 16 (unsigned 13 (tjMax s).1) ||| put 0 (tjMax s).2
  else if off = 0x0014 then put 0 h.scanCnt.toNat
  else if 0x0100 ≤ off ∧ off < 0x0500 then
    let x := h.tiles.getD ((off - 0x100) / 4) {}
    putb 31 x.broken ||| put 29 x.level ||| put 16 (unsigned 13 x.used) ||| put 0 (unsigned 13 x.shown)
  else if 0x0500 ≤ off ∧ off < 0x0510 then
    let x := h.dies.getD ((off - 0x500) / 4) {}
    putb 31 x.broken ||| put 0 (unsigned 13 x.used)
  else if off = 0x0510 then putb 31 h.ntc.broken ||| put 16 (unsigned 13 h.ntc.used) ||| put 0 (unsigned 13 h.ntc.shown)
  else if off = 0x0514 then put 0 h.ntcRes
  else if off = 0x0518 then h.ntcCfg
  else if off = 0x0520 then put 0 (unsigned 13 h.dieVal)
  else if off = 0x0524 then put 0 h.rDieSink
  else if 0x0600 ≤ off ∧ off < 0x0630 ∧ off % 16 < 12 then put 0 (unsigned 13 (h.thr.getD (3 * ((off - 0x600) / 16) + off % 16 / 4) 0))
  else if off = 0x0630 then put 0 h.hyst.toNat
  else if 0x0700 ≤ off ∧ off < 0x0B00 then put 0 (spGet h.tileTgt ((off - 0x700) / 4) 65536)
  else if off = 0x0B00 then put 0 h.globTgt
  else 0

/-- The thresholds of group `g` are in order, and TILE SHUTDOWN is at most 2,400 (R405). -/
def thrOk (g : Nat) (l : List Int) : Bool :=
  decide (l.getD (3 * g) 0 < l.getD (3 * g + 1) 0) && decide (l.getD (3 * g + 1) 0 < l.getD (3 * g + 2) 0) &&
    (g != 0 || decide (l.getD 2 0 ≤ 2400))

/-- A write of a threshold (R405). -/
def thrWrite (k : Nat) (v : Word) (s : State) : State × BitVec 8 :=
  let l := s.therm.thr.set k (signed 13 (bits v 0 13))
  if thrOk (k / 3) l then (s.modTherm (fun h => { h with thr := l }), stOk) else (s, stBadParam)

/-- The write needs a safety session (R405). -/
def thermGuarded (off : Nat) : Bool :=
  off == 0 || off == 4 || off == 8 || (0x600 ≤ off && off < 0x630 && off % 16 < 12) || off == 0x630

/-- A write to the THERM window with the rights of a safety session or not (R405). -/
def thermWrite (sess : Bool) (off : Nat) (v : Word) (s : State) : State × BitVec 8 :=
  if thermGuarded off && !sess then (s, stDenied)
  else if off = 0x0000 then
    if bits v 0 16 = 0 then (s, stBadParam) else (s.modTherm (fun h => { h with ctrl := v &&& 0x1FFFF }), stOk)
  else if off = 0x0004 then
    if bits v 0 17 = 0 ∨ 65536 < bits v 0 17 then (s, stBadParam) else (s.modTherm (fun h => { h with floor := v.setWidth 17 }), stOk)
  else if off = 0x0008 then (s.modTherm (fun h => { h with theta := v.setWidth 16 }), stOk)
  else if off = 0x0518 then
    if bits v 0 16 = 0 ∨ bits v 16 16 = 0 then (s, stBadParam) else (s.modTherm (fun h => { h with ntcCfg := v }), stOk)
  else if 0x0600 ≤ off ∧ off < 0x0630 ∧ off % 16 < 12 then thrWrite (3 * ((off - 0x600) / 16) + off % 16 / 4) v s
  else if off = 0x0630 then
    if v = 0 ∨ 255 < v.toNat then (s, stBadParam) else (s.modTherm (fun h => { h with hyst := v.setWidth 8 }), stOk)
  else (s, stOk)

end Sys2Proof.Machine
end

