-- ==== Sys2Proof/Machine/Keep.lean ====
section
/-! DEFINITION. Keep: its header copies, its bytes as MEM_READ shows them, the write-once region, and the Keep log
(17_external_memory.md R472 to R474, 13_faults.md R380 to R384, 16_power_states.md Table 16.9). -/

namespace Sys2Proof.Machine

/-- The state with Keep changed. -/
def State.modKeep (s : State) (f : Keep → Keep) : State := { s with keep := f s.keep }

/-- The state with PWR changed. -/
def State.modPwr (s : State) (f : Pwr → Pwr) : State := { s with pwr := f s.pwr }

/-- Bytes of Keep that the state holds as bytes. -/
def keepBytes (a n : Nat) (s : State) : List Byte := memRead 0 s.keep.bytes a n

/-- The number in bytes of Keep, low byte first (R8). -/
def keepNat (a n : Nat) (s : State) : Nat := bytesNat (keepBytes a n s)

/-- Bytes stored into Keep. -/
def keepStore (a : Nat) (bs : List Byte) (s : State) : State := s.modKeep (fun k => { k with bytes := memWrite 0 k.bytes a bs })

/-! ### The header (R474, Table 17.16) -/

/-- A list of bytes followed by its CRC-32C (Table 18.1). -/
def withCrc32c (bs : List Byte) : List Byte := bs ++ natBytes 4 (crc32c bs)

/-- A header copy with the present values and operating point `op` (Table 17.16). -/
def headerBytes (op : Nat) (s : State) : List Byte :=
  withCrc32c (natBytes 4 0x484B5053 ++ natBytes 4 s.keep.kseq.toNat ++ natBytes 4 s.pwr.opsec.toNat ++ natBytes 2 s.pwr.saveCnt
    ++ natBytes 1 s.log.pinUsed ++ natBytes 1 op ++ natBytes 4 s.log.lseq.toNat ++ natBytes 2 s.log.head
    ++ natBytes 1 (if s.keep.pref then 1 else 0) ++ natBytes 1 s.keep.trial ++ natBytes 4 s.keep.minSvn.toNat
    ++ List.replicate 96 0)

/-- The header is written to the copy that is not current, with the next KSEQ and operating point `op` (R474). -/
def writeHeaderOp (op : Nat) (s : State) : State :=
  let one := !s.keep.hdrOne
  let s1 := s.modKeep (fun k => { k with
    kseq := k.kseq + 1, hdrOne := one, hdrValid := k.hdrValid ||| (if one then 2 else 1) })
  keepStore (if one then 0x80 else 0) (headerBytes op s1) s1

/-- The header with the operating point in effect. -/
def writeHeader (s : State) : State := writeHeaderOp s.clk.opAct.toNat s

/-- Header bytes hold MAGIC and their CRC (R474). -/
def headerValid (bs : List Byte) : Bool :=
  bytesNat (bs.take 4) == 0x484B5053 && crc32c (bs.take 124) == bytesNat (bs.drop 124)

/-- The fields of a header copy are taken (R474, Table 17.16). -/
def takeHeader (bs : List Byte) (s : State) : State :=
  let f (a n : Nat) : Nat := bytesNat ((bs.drop a).take n)
  { s with
    keep := { s.keep with
      kseq := BitVec.ofNat 32 (f 4 4), pref := f 22 1 % 2 == 1, trial := f 23 1 % 4, minSvn := BitVec.ofNat 32 (f 24 4) }
    pwr := { s.pwr with opsec := BitVec.ofNat 32 (f 8 4), saveCnt := f 12 2 }
    log := { s.log with pinUsed := f 14 1, lseq := BitVec.ofNat 32 (f 16 4), head := f 20 2 % 2048 } }

/-! ### Checks of Keep words (R477) -/

/-- A read of Keep: KEEP_UNCORR and KEEP_CORR are checked; `ecc` is 0 for good words, 1 for a corrected and 2 for an
uncorrectable one. Answers whether the read failed (R477, R539). -/
def keepRead (ecc : Nat) (s : State) : State × Bool :=
  let bad := fails 13 0 (ecc == 2) s
  let cor := fails 13 1 (ecc == 1) s
  let s1 := ((check 13 1 0 (ecc == 1) (check 13 0 0 (ecc == 2) s)).hitIf bad 13 8 0).hitIf cor 13 8 16
  (s1.modKeep (fun k => { k with
    uncorr := if bad then satInc 16 k.uncorr else k.uncorr, corr := if cor then satInc 16 k.corr else k.corr }), bad)

/-! ### Save records (Table 16.9) -/

/-- The values of a save record whose bytes Table 16.9 does not place one by one. -/
def saveVals (r : SaveRec) : List Nat :=
  [pstateNo r.pstate, beamNo r.beam, r.tryCause, r.tryPend.toNat, r.safeNLatch.toNat, roleNo r.roleA, roleNo r.roleB, r.attA,
   r.attB, r.op.toNat, proleNo r.h0Role, proleNo r.h1Role, r.scanCtrl.toNat, unsigned 13 r.tjMax, r.levels.toNat, r.pixels.length]

/-- Bytes of a save record that Table 16.9 does not place. -/
def saveFree (r : SaveRec) (a n : Nat) : List Byte := (List.range n).map (fun i => Config.saveByte (saveVals r) (a + i))

/-- A pixel of a save record (Table 16.9). -/
def savePixel (p : Nat × BitVec 2) : Word := put 30 p.2.toNat ||| put 16 (p.1 / 1024) ||| put 0 (p.1 % 1024)

/-- A save record as it stands in its slot (Table 16.9). DEDUCED (log entry 194): the used part ends where the reserved bytes
begin, after 1,588 bytes. -/
def saveBytes (r : SaveRec) : List Byte :=
  withCrc32c (natBytes 4 r.seq.toNat ++ natBytes 1 r.cause ++ natBytes 1 r.flags.toNat ++ natBytes 2 1588 ++ saveFree r 8 8
    ++ natBytes 4 r.wk.toNat ++ natBytes 4 (r.wk.toNat / 2 ^ 32) ++ natBytes 4 r.epoch.toNat
    ++ natBytes 4 r.stroke.toNat ++ natBytes 4 r.frame.toNat ++ natBytes 4 r.opsec.toNat ++ saveFree r 40 12
    ++ wordsBytes (r.pixels.map savePixel) ++ saveFree r (52 + 4 * r.pixels.length) (1024 - 4 * r.pixels.length)
    ++ memRead 0 r.fw 0 512 ++ List.replicate 456 0)

/-- The newest valid save record: its slot and contents (R437). -/
def newestSave (s : State) : Option (Nat × SaveRec) :=
  match s.pwr.slots.getD 0 none, s.pwr.slots.getD 1 none with
  | some a, some b => if seqAbove b.seq.toNat a.seq.toNat then some (1, b) else some (0, a)
  | some a, none => some (0, a)
  | none, some b => some (1, b)
  | none, none => none

/-! ### Keep as MEM_READ shows it (R472, Table 17.11) -/

/-- The size of Keep (17_external_memory.md). -/
def keepSize : Nat := 0x20000

/-- A byte of a bad-block table: entries of BAD and SPARE; one not in use has SPARE 0xFFFF, and its BAD is not stated
(Table 17.11). -/
def bbtByte (d : MemDev) (o : Nat) (free : Byte) : Byte :=
  match d.bbt[o / 4]? with
  | some (bad, spare) => BitVec.ofNat 8 ((bad * 65536 + spare) / 256 ^ (o % 4))
  | none => if o % 4 < 2 then 0xFF else free

/-- A byte of Keep (Table 17.11): the key block reads 0, the serial is the module's own, and bytes that no table lays
out are free. -/
def keepByteAt (s : State) (a : Nat) : Byte :=
  let free := Config.keepByte s.keep.version a
  let held := memGet 0 s.keep.bytes a
  if a < 0x500 then held
  else if a < 0x800 then free
  else if a < 0x810 then 0
  else if a < 0x820 then Config.serialByte (a - 0x810)
  else if a < 0xC00 then held
  else if a < 0x1000 then free
  else if a < 0x2000 then
    match s.pwr.slots.getD ((a - 0x1000) / 2048) none with
    | some r => (saveBytes r).getD ((a - 0x1000) % 2048) 0
    | none => free
  else if a < 0x2200 then held
  else if a < 0x6000 then free
  else if a < 0x8000 then bbtByte s.xmem.cs0 (a - 0x6000) free
  else if a < 0xA000 then bbtByte s.xmem.cs1 (a - 0x8000) free
  else held

/-- A write-once block is locked (R473). -/
def locked (b : Nat) (s : State) : Bool := s.keep.lock.getLsbD b

/-- MEM_WRITE to Keep (R472, R473): whole unlocked write-once blocks, which lock, or the firmware area; a safety session
is needed but for block 0 while it is unlocked. -/
def keepWriteCmd (sess : Bool) (a : Nat) (bs : List Byte) (s : State) : State × BitVec 8 :=
  let n := bs.length
  if 0x800 ≤ a ∧ a + n ≤ 0xC00 ∧ a % 16 = 0 ∧ n % 16 = 0 then
    let blocks := (List.range (n / 16)).map (fun i => (a - 0x800) / 16 + i)
    if !sess && blocks != [0] then (s, stDenied)
    else if blocks.any (fun b => locked b s) then (s, stDenied)
    else
      let s1 := keepStore a bs s
      (s1.modKeep (fun k => { k with lock := blocks.foldl (fun l b => l ||| BitVec.ofNat 64 (1 <<< b)) k.lock }), stOk)
  else if 0xA000 ≤ a ∧ a + n ≤ 0x10000 then
    if sess then (keepStore a bs s, stOk) else (s, stDenied)
  else (s, stBadParam)

/-! ### The Keep log (R380 to R384) -/

/-- The address of ring slot `k` (Table 17.11). -/
def ringAt (k : Nat) : Nat := 0x10000 + 32 * (k % 2048)

/-- A log entry (Table 13.5). -/
def entryBytes (r : LogRec) (lseq : BitVec 32) : List Byte :=
  withCrc32c (wordsBytes [r.w0, r.w1, r.w2, r.w3, r.w4, lseq, r.w6])

/-- The entry in a ring slot is one that was written and whose CRC matches (R382, Table 13.6). -/
def ringValid (k : Nat) (s : State) : Bool :=
  let bs := keepBytes (ringAt k) 32 s
  16 ≤ (bs.getD 3 0).toNat && crc32c (bs.take 28) == bytesNat (bs.drop 28)

/-- LSEQ of the entry in a ring slot. -/
def ringSeq (k : Nat) (s : State) : Nat := keepNat (ringAt k + 20) 4 s

/-- FILLED (Table 17.13). -/
def ringFilled (s : State) : Nat := ((List.range 2048).filter (fun k => ringValid k s)).length

/-- A slot whose read-back failed: what it holds is not stated. -/
def spoilSlot (k : Nat) (s : State) : State :=
  { keepStore (ringAt k) (wordsBytes ((List.range 8).map (fun i => Config.freeWord (s.freeCtr + i)))) s with freeCtr := s.freeCtr + 8 }

/-- The DROP entry for the records discarded since the last one, queued once there is room (R383, R538). -/
def queueDrop (s : State) : State :=
  if s.log.dropPend = 0 then s
  else pushLog (faultRec 5 17 4 0 true false 1 0 0 (s.log.dropPend % 2 ^ 24) s) { s with log := { s.log with dropPend := 0 } }

/-- The next slot and its successors advance. -/
def advanceHead (n : Nat) (s : State) : State := { s with log := { s.log with head := (s.log.head + n) % 2048 } }

/-- An entry is written with read-back (R384): a failed one is written once more to the next slot, and KEEP_LOG_ERR is
raised if that fails too. -/
def writeEntry (bad : Nat) (bs : List Byte) (s : State) : State :=
  let h := s.log.head
  if bad = 0 then advanceHead 1 (keepStore (ringAt h) bs s)
  else if bad = 1 then advanceHead 2 (keepStore (ringAt (h + 1)) bs (crcFail 3 (spoilSlot h s)))
  else raiseFault 17 5 0 true false (advanceHead 2 (spoilSlot (h + 1) (spoilSlot h (crcFail 3 (crcFail 3 s)))))

/-- An entry of severity MAJOR or SAFETY goes into the next free pinned entry (R381). -/
def pinEntry (sev : Nat) (bs : List Byte) (s : State) : State :=
  if 2 ≤ sev ∧ s.log.pinUsed < 16 then
    let s1 := keepStore (0x2000 + 32 * s.log.pinUsed) bs s
    { s1 with log := { s1.log with pinUsed := s1.log.pinUsed + 1 } }
  else s

/-- An entry not yet flushed starts the wait for a LOG flush (R466, R468). -/
def noteUnflushed (s : State) : State :=
  queueWork .logFlush 0x6000 { s with xmem := { s.xmem with waits := s.xmem.waits ++ [s.ticks] } }

/-- LOG_ENTRY_WRITE: the oldest queued record becomes a Keep log entry; `badReads` of its read-backs fail, and `ecc` is
the outcome of the first one (R380 to R384). -/
def execLogEntryWrite (badReads ecc : Nat) (s : State) : Host.Outcome State Fault Refusal :=
  done (match s.log.q with
    | [] => s
    | r :: rest =>
      let lseq := s.log.lseq + 1
      let bs := entryBytes r lseq
      let (s1, unc) := keepRead ecc { s with log := { s.log with q := rest, lseq := lseq } }
      let s2 := pinEntry (recSev r) bs (writeEntry (if unc then max 1 badReads else badReads) bs s1)
      queueDrop (noteUnflushed (writeHeader s2)))

/-- A write of RIGGER_LOG_CTRL: MIN_SEV, and PIN_CLR in a safety session, which frees every pinned entry (R381, R389). -/
def logCtrlWrite (sess : Bool) (v : Word) (s : State) : State × BitVec 8 :=
  if bit v 8 && !sess then (s, stDenied)
  else
    let s1 := { s with rigger := { s.rigger with minSev := v.setWidth 2 } }
    if bit v 8 then (writeHeader { s1 with log := { s1.log with pinUsed := 0 } }, stOk) else (s1, stOk)

/-- PIN_CLR: a write of PIN_CLR that keeps MIN_SEV (R381). -/
def execPinClr (src : RegSrc) (s : State) : Host.Outcome State Fault Refusal :=
  done (writeRow 17 src (logCtrlWrite (srcSession src s) (putb 8 true ||| put 0 s.rigger.minSev.toNat)) s)

/-! ### KEEP registers (Table 17.13) -/

/-- A read of the KEEP window below its fault window. -/
def keepRegRead (off : Nat) (s : State) : Word :=
  let k := s.keep
  if off = 0 then putb 4 k.mirrorRestored ||| putb 3 (locked 1 s) ||| putb 2 (locked 0 s) ||| put 0 k.hdrValid.toNat
  else if off = 4 then put 16 s.log.head ||| put 0 (ringFilled s)
  else if off = 8 then put 16 k.corr ||| put 0 k.uncorr
  else if off = 0x10 then k.lock.setWidth 32
  else if off = 0x14 then (k.lock >>> 32).setWidth 32
  else if 0x100 ≤ off ∧ off < 0x500 ∧ off % 4 = 0 then BitVec.ofNat 32 (keepNat off 4 s)
  else 0

/-- A write to the KEEP window below its fault window. -/
def keepRegWrite (off : Nat) (v : Word) (s : State) : State × BitVec 8 :=
  if off = 0xC ∧ bit v 31 then
    (s.modKeep (fun k => { k with corr := cleared (s.wasHit 13 8 16) k.corr, uncorr := cleared (s.wasHit 13 8 0) k.uncorr }), stOk)
  else (s, stOk)

/-! ### Firmware selection (R463, Table 17.14) -/

/-- A write of CONFIRM by the running slot firmware ends the trial and raises MIN_SVN (R463). -/
def fwConfirm (src : RegSrc) (v : Word) (s : State) : State × BitVec 8 :=
  let core := match src with | .port _ => false | _ => true
  if bit v 0 && core && s.keep.running != 0 then
    (writeHeader (s.modKeep (fun k => { k with trial := 0, minSvn := if k.minSvn < k.svnRun then k.svnRun else k.minSvn })), stOk)
  else (s, stOk)

/-- FW_CONFIRM (R463). -/
def execFwConfirm (src : RegSrc) (s : State) : Host.Outcome State Fault Refusal :=
  done (writeRow 17 src (fwConfirm src 1) s)

end Sys2Proof.Machine
end

