-- ==== Sys2Proof/Machine/Loads.lean ====
section
/-! DEFINITION. Records of external memory read into the blocks: calibration, temperature curves, Trysail images, the dead
map and layer content, with their checks (17_external_memory.md R452 to R457, R461; 08 R245; 07 R222; 05 R140). -/

namespace Sys2Proof.Machine

/-! ### Record checks -/

/-- The identifier of a record, TYPE and INST 0 (Table 17.3). -/
def recId (type : Nat) : Nat := 256 * type

/-- A directory entry is marked VERIFIED, or not (R457). -/
def setVerified (id : Nat) (v : Bool) (s : State) : State :=
  { s with xmem := { s.xmem with dir := s.xmem.dir.map (fun e => if e.recId = id then { e with verified := v } else e) } }

/-- A region holds a record that fails its check: MAGIC and REC_ID of the region at a multiple of 4, and no valid record
there (R453). -/
def regionFailed (e : DirEntry) (s : State) : Bool :=
  ((List.range (e.length / 4)).map (fun k => e.offset + 4 * k)).any (fun a =>
    devNat e.cs1 a 4 s == 0x524E5053 && devNat e.cs1 (a + 4) 2 s == e.recId &&
      !recOkAt e.cs1 a e.recId (e.offset + e.length - a) s)

/-- A record of the directory fails its check: no valid record is there, and in a region one that fails is (R452, R453). -/
def recordBad (e : DirEntry) (s : State) : Bool :=
  (recAddr e s).isNone && (!e.region || regionFailed e s)

/-- The CRC-32C of an entry's record, or of one in its region where none is valid, does not match (R489). -/
def crcBad (e : DirEntry) (s : State) : Bool :=
  if e.region then
    (recAddr e s).isNone && ((List.range (e.length / 4)).map (fun k => e.offset + 4 * k)).any (fun a =>
      recCrcBadAt e.cs1 a e.recId (e.offset + e.length - a) s)
  else recCrcBadAt e.cs1 e.offset e.recId e.length s

/-- A record check that fails, with its real condition, counts at the checker of CRC-32C where the CRC does not match or has its
check bits inverted (R376, R489). -/
def crcCount (e : DirEntry) (wrong cond : Bool) (s : State) : State :=
  if wrong && (!cond || crcBad e s) then crcFail 3 s else s

/-- A record is read and checked against source `n` of block `b`, with a failed read `bad` or a further test `extra` that
counts as a failure; a VERIFIED record is not checked again (R457). Answers the record where it may be used. -/
def readRecord (b n idx id : Nat) (bad extra : Bool) (s : State) : State × Option (DirEntry × Nat) :=
  match dirFind id s with
  | none => (s, none)
  | some e =>
    if e.verified && !bad && !extra then (s, findRecord id s)
    else
      let cond := bad || extra || recordBad e s
      let wrong := fails b n cond s
      let s1 := check b n idx cond s
      (crcCount e wrong cond s1, if wrong then none else findRecord id s)

/-! ### The manifest and the newest LOG record (R451, R468) -/

/-- The CRC-32C of a manifest copy does not match (R451, R489). -/
def manCrcBad (a : Nat) (s : State) : Bool :=
  let n := manCount a s
  devOn false s && devNat false a 4 s == 0x4D4E5053 && 1 ≤ n && n ≤ 253 && !manValid a s

/-- The manifest in use; where either copy is invalid, MANIFEST_BAD is raised, and with no device on CS0 both are (R451). -/
def readManifest (s : State) : State :=
  let n := manChoice s
  let a := if n = 2 then backupAt else 0
  let count (s : State) (a : Nat) : State := if manCrcBad a s then crcFail 3 s else s
  let s0 := count (count s 0) backupAt
  let s1 := if manValid 0 s && manValid backupAt s then s0 else raiseFault 12 0 0 true false s0
  { s1 with xmem := { s1.xmem with
      manUsed := n, mseq := if n = 0 then 0 else BitVec.ofNat 32 (manSeq a s), dir := if n = 0 then [] else manDir a s } }

/-- XMEM_LOG_LSEQ as memory shows it: the LSEQ of the last entry in the newest LOG record (R468). -/
def lastFlushed (s : State) : BitVec 32 :=
  match findRecord (recId 0x60) s with
  | some r => let n := plenAt r.1.cs1 r.2 s; if n < 32 then 0 else BitVec.ofNat 32 (bytesNat (payload r.1 r.2 (n - 12) 4 s))
  | none => 0

/-! ### Calibration (R106, R109, R110, R454, R461) -/

/-- The bytes of a list as 16-bit numbers, low byte first (R8). -/
def words16 : List Byte → List (BitVec 16)
  | a :: b :: rest => (b ++ a : BitVec 16) :: words16 rest
  | _ => []

/-- A list as a sparse table with the unlisted value `d`. -/
def sparseOf {α : Type} [DecidableEq α] (d : α) (l : List α) : Sparse α :=
  ((List.range l.length).zip l).filter (fun p => p.2 != d)

/-- Payload of a valid record. -/
def recPayload (r : DirEntry × Nat) (s : State) : List Byte := payload r.1 r.2 0 (plenAt r.1.cs1 r.2 s) s

/-- CALIB_PIXEL is taken into the store (R106). -/
def takeCalib (bs : List Byte) (s : State) : State :=
  { s with store := { s.store with calib := sparseOf 0x4000 (words16 bs), calValid := true } }

/-- The words of CALIB_TILE (Table 17.5). -/
def calibWords (bs : List Byte) : List Word := bytesWords bs

/-- Every entry of a CALIB_TILE record passes the test of R83 against GTRIM (R454). -/
def calibOk (ws : List Word) (s : State) : Bool :=
  ws.all (fun w => currentAllowed (bits w 24 2) s.arr.gtrim.toNat (bits w 16 8))

/-- CALIB_TILE is taken: TG into both pipelines, RANGE and TTRIM into TILE_CTRL, which the compatibility modes do not apply
(R109, R98, R461, R495). -/
def takeTiles (ws : List Word) (s : State) : State :=
  let s1 := modLpRegs (fun r => { r with tgain := sparseOf 16384 (ws.map (fun w => w.setWidth 16)) }) s
  let g (x : Engine) : Engine := { x with lp := { x.lp with tgainValid := true } }
  { s1 with
    engA := g s1.engA, engB := g s1.engB
    arr := if s.compat then s1.arr else { s1.arr with tiles := (s1.arr.tiles.zip ws).map (fun p =>
      { p.1 with ttrim := BitVec.ofNat 8 (bits p.2 16 8), range := BitVec.ofNat 2 (bits p.2 24 2), parityBad := false }) } }

/-- TEMP_CURVES is taken: point k of tile t at 8t + k (R110). -/
def takeCurves (bs : List Byte) (s : State) : State :=
  curveWritten (modLpRegs (fun r => { r with tcurve := sparseOf 16384 (words16 bs) }) s)

/-- The CALIB_TILE record in memory fails the test of R83 (R454). -/
def calibBad (s : State) : Bool :=
  match findRecord (recId 0x11) s with
  | some r => !calibOk (calibWords (recPayload r s)) s
  | none => false

/-- Bit k of REC_VALID (Table 17.12). -/
def setRecValid (k : Nat) (v : Bool) (s : State) : State :=
  { s with xmem := { s.xmem with
      recValid := if v then s.xmem.recValid ||| BitVec.ofNat 14 (1 <<< k) else s.xmem.recValid &&& ~~~ BitVec.ofNat 14 (1 <<< k) } }

/-- The bits of REC_VALID with the record type of each (Tables 17.5 and 17.12). -/
def recordBits : List (Nat × Nat) :=
  [(0, 0x01), (1, 0x02), (2, 0x10), (3, 0x11), (4, 0x12), (5, 0x20), (6, 0x21), (7, 0x22), (8, 0x23), (9, 0x30), (10, 0x40),
   (11, 0x50), (12, 0x60), (13, 0x70)]

/-- Reload k: 0 CALIB_PIXEL, 1 CALIB_TILE, 2 TEMP_CURVES; a record that is not valid leaves what was loaded before
(R461). -/
def reloadRecord (k : Nat) (bad : Bool) (s : State) : State :=
  let id := recId (0x10 + k)
  let (s1, r) := readRecord 12 1 id id bad (k == 1 && calibBad s) s
  match r with
  | none => setRecValid (2 + k) false s1
  | some r =>
    let bs := recPayload r s1
    setRecValid (2 + k) true
      (if k = 0 then takeCalib bs s1 else if k = 1 then takeTiles (calibWords bs) s1 else takeCurves bs s1)

/-! ### Trysail images (R245, R246, R248) -/

/-- The image of a TRYSAIL record: 16 code words, entry 0 as 0x0000, then 4 bits a pixel (R245, R246, Table 17.5). -/
def tryImage (bs : List Byte) : TryImg :=
  let lv := words16 (bs.take 32)
  { levels := (lv.set 0 0).take 16
    px := sparseOf 0 ((bs.drop 32).flatMap (fun b => [b.extractLsb' 0 4, b.extractLsb' 4 4])) }

/-- TRY_VALID of an image (R245). -/
def setTryValid (i : Nat) (v : Bool) (s : State) : State :=
  s.modBstay (fun b => { b with
    tryValid := if v then b.tryValid ||| BitVec.ofNat 4 (1 <<< i) else b.tryValid &&& ~~~ BitVec.ofNat 4 (1 <<< i) })

/-- The check of record TRYSAIL_i (R245). -/
def checkTry (i : Nat) (bad : Bool) (s : State) : State × Option (DirEntry × Nat) :=
  let (s1, r) := readRecord 10 7 0 (recId (0x20 + i)) bad false s
  (setTryValid i r.isSome s1, r)

/-- The load of an image into the Trysail buffer ends: the image, or the ROM image where its record fails (R245 to R248). -/
def endTryLoad (i : Nat) (bad : Bool) (s : State) : State :=
  let (s1, r) := checkTry i bad s
  match r with
  | none => computeTry ((useRom s1).1.modBstay (fun b => { b with tryLoading := false }))
  | some r =>
    let img := tryImage (recPayload r s1)
    computeTry (s1.modBstay (fun b => { b with
      tryBuf := some img, levels := img.levels, tryImg := i, tryLoading := false, tryChanged := true }))

/-! ### The dead map (R221, R222) -/

/-- Entries of a dead map, four a byte; 0b11 counts as SHORT (R221, Table 17.5). -/
def mapEntries (bs : List Byte) : Sparse (BitVec 2) :=
  sparseOf 0 (bs.flatMap (fun b =>
    (List.range 4).map (fun k => let v := b.extractLsb' (2 * k) 2; if v = 3 then (2 : BitVec 2) else v)))

/-- The bytes of a dead map in array order (Table 17.5). -/
def mapBytes (m : Sparse (BitVec 2)) : List Byte :=
  (List.range 262144).map (fun i => (List.range 4).foldl (fun (b : Byte) k =>
    b ||| ((spGet m (4 * i + k) 0).setWidth 8 <<< (2 * k))) 0)

/-- The dead map is loaded from the DEADMAP record; without a valid one every entry is GOOD (R222). -/
def loadDeadmap (s : State) : State :=
  let (s1, r) := readRecord 9 7 0 (recId 0x50) false false s
  s1.modDiag (fun d => { d with
    deadMap := match r with | some r => mapEntries (recPayload r s1) | none => []
    mapValid := r.isSome })

/-! ### Layer content (R140, R455) -/

/-- The end of a buffer's DMA from record `id` at byte offset `off`: COMPLETE where the record passed, INVALID otherwise
(R140, R457). -/
def endBufferLoad (b id off : Nat) (bad : Bool) (s : State) : State :=
  let u := s.buf b
  let short := match findRecord id s with
    | some r => plenAt r.1.cs1 r.2 s < off + u.size
    | none => false
  let (s1, r) := readRecord 12 1 id id (bad || short) false s
  match r with
  | none => bufInvalid b s1
  | some r =>
    let bs := payload r.1 r.2 off u.size s1
    bufComplete b (s1.modBuf b (fun u => { u with
      bytes := memWrite 0 [] 0 bs, fill := u.size, crc := BitVec.ofNat 32 (crc32 bs) }))

/-- The buffer that boot fills with SYMBOLS INST 0 (Table 17.7). -/
def symbolsBuf : Nat := 63

/-- SYMBOLS INST 0 is put into buffer 63 as LIB; its W and H are not stated (R458). -/
def loadSymbols (s : State) : State :=
  let id := recId 0x30
  let (s1, r) := readRecord 12 1 id id false false s
  match r with
  | none => s1
  | some r =>
    let bs := recPayload r s1
    let n := bs.length
    bufComplete symbolsBuf ({ s1.modBuf symbolsBuf (fun _ => {
        state := .loading, format := 8, pages := pagesOf n, size := n, source := 1, fill := n
        w := bits (Config.freeWord s1.freeCtr) 0 14, h := bits (Config.freeWord s1.freeCtr) 16 14
        record := some id, bytes := memWrite 0 [] 0 bs, crc := BitVec.ofNat 32 (crc32 bs) }) with
      freeCtr := s1.freeCtr + 1 })

end Sys2Proof.Machine
end

