-- ==== Sys2Proof/Machine/Xmem.lean ====
section
/-! DEFINITION. External memory at work: programs and erases, regions, the classes of work, the memory commands, the
firmware slots, scrubbing and the XMEM registers (17_external_memory.md R448 to R477). -/

namespace Sys2Proof.Machine

/-- The state with XMEM changed. -/
def State.modXmem (s : State) (f : Xmem → Xmem) : State := { s with xmem := f s.xmem }

/-! ### Devices (R449, R450) -/

/-- Bytes of a chip select, 0 where no device answered (R449). -/
def capacity (cs1 : Bool) (s : State) : Nat := if devOn cs1 s then 2 ^ (s.mdev cs1).capLog2 else 0

/-- The erase unit of a chip select in bytes. -/
def eraseUnit (cs1 : Bool) (s : State) : Nat := 2 ^ (s.mdev cs1).eraseLog2

/-- The device is SPI NAND (Table 17.1). -/
def isNand (cs1 : Bool) (s : State) : Bool := (s.mdev cs1).dtype == 4

/-- Blocks of the spare pool: the last 1/32 on NAND (R450). -/
def poolBlocks (d : MemDev) : Nat := if d.dtype = 4 then 2 ^ (d.capLog2 - d.eraseLog2) / 32 else 0

/-- First byte past the addresses a MEM command may use: the spare pool is not reached (R450). -/
def usable (cs1 : Bool) (s : State) : Nat :=
  capacity cs1 s - poolBlocks (s.mdev cs1) * eraseUnit cs1 s

/-- A block is mapped to the next spare, counted from the start of the pool; BBT_FULL where the table or the pool is used
up (R470). Answers whether a spare was found. -/
def mapSpare (cs1 : Bool) (block : Nat) (s : State) : State × Bool :=
  let d := s.mdev cs1
  if isNand cs1 s && d.bbt.length < 2048 && 0 < d.spare then
    let first := 2 ^ (d.capLog2 - d.eraseLog2) - poolBlocks d
    (s.modDev cs1 (fun d => { d with
      bbt := d.bbt ++ [(block, first + (poolBlocks d - d.spare))], spare := d.spare - 1 }), true)
  else (if isNand cs1 s then raiseFault 12 5 0 true false s else s, false)

/-! ### Programs and erases -/

/-- The firmware slot of a directory identifier: 0x0100 slot A, 0x0200 slot B (Table 17.5). -/
def fwId (slotB : Bool) : Nat := recId (if slotB then 2 else 1)

/-- A byte range of a chip select touches a directory entry. -/
def touches (cs1 : Bool) (a n : Nat) (e : DirEntry) : Bool :=
  e.cs1 == cs1 && decide (0 < n) && decide (a < e.offset + e.length) && decide (e.offset < a + n)

/-- A write or erase takes VERIFIED from every entry it overlaps, and from a firmware slot its verification (R457, R464). -/
def unverify (cs1 : Bool) (a n : Nat) (s : State) : State :=
  let hit (slotB : Bool) : Bool := (dirFind (fwId slotB) s).any (touches cs1 a n)
  s.modXmem (fun x => { x with
    dir := x.dir.map (fun e => if touches cs1 a n e then { e with verified := false } else e)
    fwVerified := [x.fwVerified.getD 0 false && !hit false, x.fwVerified.getD 1 false && !hit true] })

/-- Bytes programmed at a logical address. -/
def devWrite (cs1 : Bool) (a : Nat) (bs : List Byte) (s : State) : State :=
  unverify cs1 a bs.length (s.modDev cs1 (fun d => { d with bytes := memWrite erased d.bytes a bs }))

/-- A range erased. -/
def devErase (cs1 : Bool) (a n : Nat) (s : State) : State :=
  unverify cs1 a n (s.modDev cs1 (fun d => { d with bytes := memErase d.bytes a n }))

/-! ### Regions (R453) -/

/-- The bytes of a record (Table 17.4). -/
def recordBytes (id : Nat) (rseq : Nat) (pay : List Byte) : List Byte :=
  withCrc32c (natBytes 4 0x524E5053 ++ natBytes 2 id ++ natBytes 2 1 ++ natBytes 4 pay.length ++ natBytes 4 rseq ++ pay)

/-- Where the next record of a region of `len` bytes goes, and its RSEQ where a record is there (R453). Past the newest record
it runs into the erase unit of the newest record only after a wrap. -/
def nextPlace (e : DirEntry) (len : Nat) (s : State) : Nat × Option Nat :=
  match newestRecord e s with
  | none => (e.offset, none)
  | some a =>
    let p := a + 20 + plenAt e.cs1 a s
    (if p + len ≤ e.offset + e.length then p else e.offset, some ((rseqAt e.cs1 a s + 1) % 2 ^ 32))

/-- The erase units, first byte and size, that a record of `len` bytes at `p` enters; the unit that holds the newest valid record
is never among them (R453; log entry 201). -/
def eraseRange (e : DirEntry) (p len : Nat) (s : State) : Nat × Nat :=
  let u := eraseUnit e.cs1 s
  let first := (p + u - 1) / u * u
  let last := (p + len + u - 1) / u * u
  let stop := match newestRecord e s with
    | some a => if p ≤ a then min last (a / u * u) else last
    | none => last
  (first, stop - first)

/-- The units that a record enters are erased first. -/
def eraseAhead (e : DirEntry) (p len : Nat) (s : State) : State :=
  let r := eraseRange e p len s
  devErase e.cs1 r.1 r.2 s

/-- A record of `len` bytes for region `id` needs an erase first: the chip select, where a unit it enters is not blank. -/
def eraseOwed (id len : Nat) (s : State) : Option Bool :=
  match dirFind id s with
  | none => none
  | some e =>
    let r := eraseRange e (nextPlace e len s).1 len s
    if (s.mdev e.cs1).bytes.any (fun p => r.1 ≤ p.1 && p.1 < r.1 + r.2) then some e.cs1 else none

/-- The erase unit after the newest record of a region, cyclically: the oldest one (R453). -/
def oldestUnit (e : DirEntry) (s : State) : Nat :=
  let u := eraseUnit e.cs1 s
  match newestRecord e s with
  | none => e.offset
  | some a =>
    let q := (a + 20 + plenAt e.cs1 a s + u - 1) / u * u
    if q + u ≤ e.offset + e.length then q else e.offset

/-- Erasing the oldest unit ahead of the next record leaves the newest record whole and is worth doing. -/
def eraseUseful (e : DirEntry) (s : State) : Bool :=
  let u := eraseUnit e.cs1 s
  let q := oldestUnit e s
  match newestRecord e s with
  | none => false
  | some a => (q + u ≤ a || a + 20 + plenAt e.cs1 a s ≤ q) &&
      (s.mdev e.cs1).bytes.any (fun p => q ≤ p.1 && p.1 < q + u)

/-- A record is appended to the region `id`, with RSEQ one above the newest record's (R453); the RSEQ of a region's first
record is not stated. An erase ahead waits where the oldest unit is not blank. -/
def appendRecord (id : Nat) (pay : List Byte) (s : State) : State :=
  match dirFind id s with
  | none => s
  | some e =>
    let len := 20 + pay.length
    let (p, q) := nextPlace e len s
    let (rseq, s1) := match q with
      | some r => (r, s)
      | none => ((Config.freeWord s.freeCtr).toNat, { s with freeCtr := s.freeCtr + 1 })
    let s2 := devWrite e.cs1 p (recordBytes id rseq pay) (eraseAhead e p len s1)
    if eraseUseful e s2 then queueWork (.regionErase id) id s2 else s2

/-- A background write to a region ends: `res` 0 good, 1 a failed block that is mapped to a spare and written again, 2 any
other error. Answers whether the record stands (R470). -/
def regionWrite (id res block : Nat) (pay : List Byte) (s : State) : State × Bool :=
  match dirFind id s with
  | none => (s, false)
  | some e =>
    if res = 0 then (appendRecord id pay s, true)
    else if res = 1 then
      let (s1, ok) := mapSpare e.cs1 block s
      if ok then (appendRecord id pay s1, true) else (s1, false)
    else (s, false)

/-! ### Classes of work (R466, Table 17.10) -/

/-- The Keep log entries not yet flushed, oldest first (R468). -/
def unflushedAll (s : State) : List Nat :=
  ((List.range 2048).map (fun k => (s.log.head + k) % 2048)).filter (fun k =>
    ringValid k s && seqAbove (ringSeq k s) s.xmem.logLseq.toNat)

/-- Those that one LOG record takes, at most 128 (Table 17.5). -/
def unflushed (s : State) : List Nat := (unflushedAll s).take 128

/-- A background write needs an erase first: the chip select (R453, R467). -/
def writeErases (s : State) : XKind → Option Bool
  | .logFlush => eraseOwed (recId 0x60) (20 + 32 * (unflushed s).length) s
  | .deadmap => eraseOwed (recId 0x50) 262164 s
  | .mirror => eraseOwed (recId 0x70) 1188 s
  | _ => none

/-- The oldest entry not yet flushed has waited 400 ms (R466). -/
def flushLate (s : State) : Bool :=
  match s.xmem.waits with
  | t :: _ => decide (t + 100000000 ≤ s.ticks)
  | [] => false

/-- Ten times the class of a piece of work: a LOG flush whose oldest entry has waited 400 ms ranks as 2.5 (R466). -/
def workClass (s : State) : XKind → Nat
  | .reload _ => 10
  | .exitReload _ _ _ => 10
  | .trysail _ => 20
  | .layerLoad _ _ _ => 30
  | .memCmd => 40
  | .logFlush => if flushLate s then 25 else 50
  | .deadmap => 60
  | .mirror => 70
  | .scrub => 80
  | .regionErase _ => 90

/-- A request of classes 1 to 4 that may be served now: CALIB_PIXEL in S1 only, the boot apart (R108). -/
def asked (s : State) : XKind → Bool
  | .reload 0 => s.pwr.pstate == .s1
  | .reload _ | .exitReload _ _ _ | .trysail _ | .layerLoad _ _ _ | .memCmd => true
  | _ => false

/-- Requests of classes 1 to 4 wait. -/
def foreground (s : State) : Bool := s.xmem.queue.any (asked s)

/-- A piece of work may start now: a DEADMAP write 10 s after the last one ended or before an entry to S3 or deeper
(R469); CALIB_PIXEL in S1 only, the boot apart (R108); a late LOG flush that needs an erase while no request of classes 1 to 4
waits (R467). -/
def mayStart (s : State) (k : XKind) : Bool :=
  match k with
  | .deadmap =>
    (match s.xmem.deadEnd with | none => true | some t => 2500000000 ≤ s.ticks - t) ||
    (match s.pwr.entryTo with | some .s3 => true | some .s4 => true | some .s5 => true | _ => false)
  | .reload 0 => s.pwr.pstate == .s1
  | .logFlush => !foreground s || (writeErases s k).isNone
  | _ => true

/-- A scrub pass is due: SCRUB_H hours after the last one began, and at the first idle time after the boot or an exit (R470; log
entry 202). -/
def scrubDue (s : State) : Bool :=
  s.xmem.dir != [] && !s.xmem.queue.contains XKind.scrub && s.xmem.busy != some XKind.scrub &&
    (match s.xmem.scrubAt with
     | none => true
     | some t => decide (t + s.xmem.scrubH.toNat * 3600000 * ticksPerMs ≤ s.ticks))

/-- The next work: the lowest class, and arrival order within it (R466), a scrub pass that is due among it. -/
def nextWork (s : State) : Option XKind :=
  ((s.xmem.queue ++ if scrubDue s then [XKind.scrub] else []).filter (mayStart s)).foldl (fun (b : Option XKind) k =>
      match b with
      | none => some k
      | some j => if workClass s k < workClass s j then some k else some j) none

/-- The slow-path memory command whose operation is awaited (R299). -/
def memStarted (s : State) : Option SlowCmd :=
  s.cmd.slow.find? (fun x => x.started && !x.finished && 0x70 ≤ x.opcode.toNat && x.opcode.toNat ≤ 0x73)

/-- The chip select of a memory command: TARGET, or that of the slot's entry for FW_UPDATE. -/
def cmdCs (x : SlowCmd) (s : State) : Bool :=
  let w := x.payload.getD 0 0
  if x.opcode = 0x73 then ((dirFind (fwId (bit w 8)) s).map (fun e => e.cs1)).getD false else bits w 0 2 == 1

/-- The chip select on which a piece of work erases, where it is an erase or needs one ahead (R467). -/
def erasing (s : State) : XKind → Option Bool
  | .regionErase id => (dirFind id s).map (fun e => e.cs1)
  | .memCmd =>
    match memStarted s with
    | some x => if x.opcode = 0x72 || (x.opcode = 0x73 && bits (x.payload.getD 0 0) 0 2 == 0) then some (cmdCs x s) else none
    | none => none
  | k => writeErases s k

/-! ### Partial pages of SPI NAND (R471) -/

/-- The page of a chip select that waits for the rest of its data. -/
def pageOf (cs1 : Bool) (s : State) : Option PartPage := s.xmem.partialPage.find? (fun p => p.cs1 == cs1)

/-- The buffered page of a chip select is programmed; its padding of 0xFF changes no byte (R471). -/
def flushPage (cs1 : Bool) (s : State) : State :=
  match pageOf cs1 s with
  | none => s
  | some p =>
    let size := 2 ^ (s.mdev cs1).pageLog2
    devWrite cs1 (p.page * size) ((p.bytes.zip (devBytes cs1 (p.page * size) size s)).map (fun q => q.1.getD q.2))
      (s.modXmem (fun x => { x with partialPage := x.partialPage.filter (fun q => q.cs1 != cs1) }))

/-- Data for one page of a chip select, from offset `o` in it: another page is programmed first, and a complete one at once. -/
def fillPage (cs1 : Bool) (page o : Nat) (bs : List Byte) (s : State) : State :=
  let size := 2 ^ (s.mdev cs1).pageLog2
  let s1 := if (pageOf cs1 s).any (fun p => p.page == page) then s else flushPage cs1 s
  let old := ((pageOf cs1 s1).map (fun p => p.bytes)).getD (List.replicate size none)
  let new := (old.take o ++ bs.map some ++ old.drop (o + bs.length)).take size
  let s2 := s1.modXmem (fun x => { x with
    partialPage := x.partialPage.filter (fun q => q.cs1 != cs1) ++ [{ cs1 := cs1, page := page, bytes := new }] })
  if new.all (fun b => b.isSome) then flushPage cs1 s2 else s2

/-- Data for the pages of a chip select from address `a` up, with as much fuel as there are bytes. -/
def fillPages (cs1 : Bool) : Nat → Nat → List Byte → State → State
  | 0, _, _, s => s
  | fuel + 1, a, bs, s =>
    let size := 2 ^ (s.mdev cs1).pageLog2
    let n := min bs.length (size - a % size)
    if n = 0 then s
    else fillPages cs1 fuel (a + n) (bs.drop n) (fillPage cs1 (a / size) (a % size) (bs.take n) s)

/-- What MEM_WRITE stores: at once on a NOR device, page by page on SPI NAND (R471). -/
def memStore (cs1 : Bool) (a : Nat) (bs : List Byte) (s : State) : State :=
  if isNand cs1 s then unverify cs1 a bs.length (fillPages cs1 bs.length a bs s) else devWrite cs1 a bs s

/-- The chip selects that a piece of work addresses, a memory command apart. -/
def workCs (s : State) (k : XKind) : List Bool :=
  let of (id : Nat) : List Bool := ((dirFind id s).map (fun e => e.cs1)).toList
  match k with
  | .reload n => of (recId (0x10 + n))
  | .exitReload _ id _ => of id
  | .layerLoad _ id _ => of id
  | .trysail i => of (recId (0x20 + i))
  | .logFlush => of (recId 0x60)
  | .deadmap => of (recId 0x50)
  | .mirror => of (recId 0x70)
  | .regionErase id => of id
  | .scrub => [false, true]
  | .memCmd => []

/-! ### The start of work -/

/-- The first copy of a piece of work leaves the queue. -/
def takeWork (k : XKind) (s : State) : State := s.modXmem (fun x => { x with queue := dropFirst (fun j => j == k) x.queue, busy := some k })

/-- A piece of work starts, on chip selects whose partial page is programmed first (R471); a DEADMAP write takes its snapshot
(R469), and a scrub pass its time. -/
def startWork (k : XKind) (s : State) : State :=
  let s1 := takeWork k ((workCs s k).foldl (fun s cs => flushPage cs s) s)
  match k with
  | .deadmap =>
    if s.xmem.deadOn then s1
    else s1.modXmem (fun x => { x with
      snap := s.diag.deadMap, snapLen := x.declared.length, declaredSince := false, deadOn := true })
  | .scrub => s1.modXmem (fun x => { x with scrubAt := if x.scrubAt.isNone || scrubDue s then some s.ticks else x.scrubAt })
  | _ => s1

/-- XMEM_WORK_SERVE: XMEM starts the next work by class; work in progress other than an erase yields to a waiting higher
class at its boundary, and while an erase is suspended only classes 1 to 4 start (R466, R467). -/
def execXmemWorkServe (s : State) : Host.Outcome State Fault Refusal :=
  done (if blockOff 12 s then s
    else
      match nextWork s with
      | none => s
      | some k =>
        match s.xmem.busy with
        | none => if s.xmem.suspended.isSome && !foreground s then s else startWork k s
        | some j =>
          if (erasing s j).isNone && decide (workClass s k < workClass s j) then
            startWork k (s.modXmem (fun x => { x with queue := j :: x.queue, busy := none }))
          else s)

/-- ERASE_SUSPEND: an erase is suspended for a waiting request of classes 1 to 4 on a device that can, and resumes once
those classes are empty (R467). -/
def execEraseSuspend (s : State) : Host.Outcome State Fault Refusal :=
  done (if blockOff 12 s then s
    else
      match s.xmem.busy, s.xmem.suspended with
      | some k, none =>
        match erasing s k with
        | some cs => if foreground s && (s.mdev cs).suspend then
            s.modXmem (fun x => { x with busy := none, suspended := some k, eraseSusp := true }) else s
        | none => s
      | none, some k =>
        if foreground s then s else s.modXmem (fun x => { x with busy := some k, suspended := none, eraseSusp := false })
      | _, _ => s)

/-- The work in progress ends. -/
def endWork (s : State) : State := s.modXmem (fun x => { x with busy := none })

/-- The reloads after S4 or S5 are over once no reload of a buffer or of the Trysail buffer is left (R38, Table 08.4). -/
def endRestore (s : State) : State :=
  let left := (s.xmem.busy.toList ++ s.xmem.queue).any (fun k => match k with
    | .exitReload _ _ _ => true | .trysail _ => true | _ => false)
  if s.pwr.restoring && !left then s.modPwr (fun p => { p with restoring := false }) else s

/-- A block is copied to a spare and remapped (R470). -/
def refreshBlock (s : State) (p : Bool × Nat) : State :=
  let (s1, ok) := mapSpare p.1 p.2 s
  if ok then raiseFault 12 8 0 true false ((s1.modXmem (fun x => { x with refreshCnt := satInc 16 x.refreshCnt })).hit 12 0x404 0)
  else s1

/-- The blocks that a read has found at or above their refresh level (R470). -/
def refreshAll (l : List (Bool × Nat)) (s : State) : State := l.foldl refreshBlock s

/-- RECORD_LOAD_DONE: the DMA of a buffer from its record ends; `good` is false where the device reported an error (R140,
R173, R470). -/
def execRecordLoadDone (r : ReadEnd) (s : State) : Host.Outcome State Fault Refusal :=
  done (if blockOff 12 s then s
    else
      match s.xmem.busy with
      | some (.layerLoad b id off) => refreshAll r.refresh (endBufferLoad b id off (!r.good) (endWork s))
      | some (.exitReload b id off) => refreshAll r.refresh (endRestore (endBufferLoad b id off (!r.good) (endWork s)))
      | _ => s)

/-- TRYSAIL_LOAD_DONE: the Trysail buffer is loaded and I_TRY computed (R245, R246, R470). -/
def execTrysailLoadDone (r : ReadEnd) (s : State) : Host.Outcome State Fault Refusal :=
  done (if blockOff 12 s then s
    else
      match s.xmem.busy with
      | some (.trysail i) => refreshAll r.refresh (endRestore (endTryLoad i (!r.good) (endWork s)))
      | _ => s)

/-! ### Background writes (R468, R469, R474) -/

/-- A LOG flush ends (R468): the entries that remain have waited as long as before. It reads Keep, which is a check (R539). -/
def endFlush (res block : Nat) (s : State) : State :=
  let ks := unflushed s
  match ks.getLast? with
  | none => s.modXmem (fun x => { x with logLseq := s.log.lseq, waits := [] })
  | some k =>
    let last := BitVec.ofNat 32 (ringSeq k s)
    let left := (unflushedAll s).length - ks.length
    let (s1, ok) := regionWrite (recId 0x60) res block (ks.flatMap (fun k => keepBytes (ringAt k) 32 s)) (keepRead 0 s).1
    let s2 := if ok then s1.modXmem (fun x => { x with logLseq := last, waits := x.waits.drop (x.waits.length - left) }) else s1
    if s2.xmem.logLseq = s2.log.lseq then s2 else queueWork .logFlush (recId 0x60) s2

/-- LOG_FLUSH: entries of the Keep log stand in the LOG region (R468). -/
def execLogFlush (res block : Nat) (s : State) : Host.Outcome State Fault Refusal :=
  done (if s.xmem.busy = some .logFlush ∧ !blockOff 12 s then endFlush res block (endWork s) else s)

/-- A DEADMAP write ends: MAP_DIRTY is cleared where it stands and no pixel has been declared since its start, and while it
is 1 another write waits (R222, R469). -/
def endDeadmap (res block : Nat) (s : State) : State :=
  let (s1, ok) := regionWrite (recId 0x50) res block (mapBytes s.xmem.snap) s
  let s2 := s1.modXmem (fun x => { x with
    deadEnd := some s.ticks, deadOn := false, snap := []
    declared := if ok then x.declared.drop x.snapLen else x.declared })
  let s3 := if ok && !s.xmem.declaredSince then s2.modDiag (fun d => { d with mapDirty := false }) else s2
  let s4 := s3.modPwr (fun p => { p with entryTried := p.entryTried || !ok })
  if s4.diag.mapDirty then queueWork .deadmap (recId 0x50) s4 else s4

/-- DEADMAP_WRITE (R469). -/
def execDeadmapWrite (res block : Nat) (s : State) : Host.Outcome State Fault Refusal :=
  done (if s.xmem.busy = some .deadmap ∧ !blockOff 12 s then endDeadmap res block (endWork s) else s)

/-- The module serial (R473). -/
def serial : List Byte := (List.range 16).map Config.serialByte

/-- The payload of KEEP_MIRROR: the newest header copy, the per-tile counts and the serial (Table 17.5). -/
def mirrorBytes (s : State) : List Byte := keepBytes (if s.keep.hdrOne then 0x80 else 0) 128 s ++ keepBytes 0x100 1024 s ++ serial

/-- KEEP_MIRROR_WRITE (R474); one that fails is tried again. It reads Keep, which is a check (R539). -/
def execKeepMirrorWrite (res block : Nat) (s : State) : Host.Outcome State Fault Refusal :=
  done (if s.xmem.busy = some .mirror ∧ !blockOff 12 s then
    let (s1, ok) := regionWrite (recId 0x70) res block (mirrorBytes s) (keepRead 0 (endWork s)).1
    if ok then s1 else queueMirror s1
  else s)

/-! ### Scrub and refresh (R457, R470) -/

/-- The regions whose record is nowhere else loaded with a check: LOG and KEEP_MIRROR. -/
def checkedRegion (e : DirEntry) : Bool := e.region && (e.recId == recId 0x60 || e.recId == recId 0x70)

/-- RECORD_BAD of a region in which records stand and none is valid; a region that never held one is empty (R453; log entry
190). -/
def checkRegion (s : State) (e : DirEntry) : State :=
  let bad := recordBad e s
  let wrong := fails 12 1 bad s
  check 12 1 e.recId bad (crcCount e wrong bad s)

/-- The checks of a record during a pass: one that passes is VERIFIED (R457); TRYSAIL records report as TRY_IMAGE_BAD. -/
def scrubEntry (s : State) (e : DirEntry) : State :=
  if e.region then
    setVerified e.recId (recAddr e s).isSome (if checkedRegion e then checkRegion s e else s)
  else
    let try_ := recId 0x20 ≤ e.recId && e.recId ≤ recId 0x23
    let bad := recordBad e s
    let (b, n, i) := if try_ then (10, 7, 0) else (12, 1, e.recId)
    let wrong := fails b n bad s
    let s1 := check b n i bad (crcCount e wrong bad s)
    setVerified e.recId (!wrong) s1

/-- SCRUB: every directory entry is read in full; `refresh` names the NAND blocks at or above their refresh level, by
chip select (R470). -/
def execScrub (refresh : List (Bool × Nat)) (s : State) : Host.Outcome State Fault Refusal :=
  done (if s.xmem.busy = some .scrub ∧ !blockOff 12 s then
    let s1 := s.xmem.dir.foldl scrubEntry (endWork s)
    let s2 := refreshAll refresh s1
    (s2.modXmem (fun x => { x with scrubPass := satInc 16 x.scrubPass })).hit 12 0x404 16
  else s)

/-! ### Memory commands (R464, R471, R472) -/

/-- The directory entry of the running firmware slot. -/
def runningEntry (s : State) : Option DirEntry :=
  if s.keep.running = 1 then dirFind (fwId false) s else if s.keep.running = 2 then dirFind (fwId true) s else none

/-- The extent of a manifest copy with the most entries a directory can hold (R451, Table 17.2). -/
def manifestSize : Nat := 32 + 16 * 253 + 4

/-- A range reaches a manifest copy (R451). -/
def inManifest (cs1 : Bool) (a n : Nat) : Bool :=
  !cs1 && decide (0 < n) && (decide (a < manifestSize) || (decide (a < backupAt + manifestSize) && decide (backupAt < a + n)))

/-- A range that MEM_WRITE and MEM_ERASE refuse: the running slot, the DEADMAP, LOG and KEEP_MIRROR regions, and either
manifest without a safety session (R471). -/
def protected_ (sess cs1 : Bool) (a n : Nat) (s : State) : Bool :=
  (runningEntry s).any (touches cs1 a n) ||
  [recId 0x50, recId 0x60, recId 0x70].any (fun id => (dirFind id s).any (touches cs1 a n)) ||
  (!sess && inManifest cs1 a n)

/-- A range lies on the device of a chip select and clear of the spare pool (R450). -/
def rangeOk (cs1 : Bool) (a n : Nat) (s : State) : Bool := decide (a + n ≤ usable cs1 s)

/-- A slow-path memory command goes to XMEM (R466). -/
def startMem (s : State) : State × OpRes := (s.modXmem (fun x => { x with queue := x.queue ++ [.memCmd] }), .started)

/-- MEM_READ (0x70). -/
def opMemRead : OpFn := fun c ws s =>
  let t := ws.getD 0 0
  let a := (ws.getD 1 0).toNat
  let n := (ws.getD 2 0).toNat
  if !within t 3 || bits t 0 2 == 3 || n < 4 || 256 < n || n % 4 != 0 then endWith stBadParam s
  else if bits t 0 2 = 2 then
    if keepSize < a + n then endWith stBadParam s
    else
      let (s1, bad) := keepRead c.keepEcc s
      if bad then endWith stMemError s1 else (s1, .fin stOk (bytesWords ((List.range n).map (fun i => keepByteAt s (a + i)))))
  else if blockOff 12 s then endWith stBlockOff s
  else if !rangeOk (bits t 0 2 == 1) a n s then endWith stBadParam s
  else startMem s

/-- MEM_WRITE (0x71). -/
def opMemWrite : OpFn := fun c ws s =>
  let t := ws.getD 0 0
  let a := (ws.getD 1 0).toNat
  let bs := wordsBytes (ws.drop 2)
  if !within t 3 || bits t 0 2 == 3 then endWith stBadParam s
  else if bits t 0 2 = 2 then
    let (s1, st) := keepWriteCmd (inSession c s) a bs s
    endWith st s1
  else if blockOff 12 s then endWith stBlockOff s
  else if !rangeOk (bits t 0 2 == 1) a bs.length s then endWith stBadParam s
  else if protected_ (inSession c s) (bits t 0 2 == 1) a bs.length s then endWith stDenied s
  else startMem s

/-- MEM_ERASE (0x72). -/
def opMemErase : OpFn := fun c ws s =>
  let t := ws.getD 0 0
  let cs := bits t 0 2 == 1
  let a := (ws.getD 1 0).toNat
  let n := (ws.getD 2 0).toNat
  if !within t 3 || 2 ≤ bits t 0 2 then endWith stBadParam s
  else if blockOff 12 s then endWith stBlockOff s
  else if !rangeOk cs a n s || a % eraseUnit cs s != 0 || n % eraseUnit cs s != 0 || protected_ (inSession c s) cs a n s then
    endWith stBadParam s
  else startMem s

/-- FW_UPDATE (0x73), refused for the running slot (R464, Table 17.9). -/
def opFwUpdate : OpFn := fun _ ws s =>
  let w := ws.getD 0 0
  let b := bit w 8
  let op := bits w 0 2
  let size := (ws.getD 1 0).toNat
  if !within w 0x103 || op == 3 || (op != 0 && size != 0) then endWith stBadParam s
  else if s.keep.running = (if b then 2 else 1) then endWith stBadState s
  else if op = 2 then
    if s.xmem.fwVerified.getD (if b then 1 else 0) false then
      endWith stOk (writeHeader (s.modKeep (fun k => { k with pref := b, trial := 1 })))
    else endWith stBadState s
  else if blockOff 12 s then endWith stBlockOff s
  else
    match dirFind (fwId b) s with
    | none => endWith (if op = 0 then stBadState else stCheckFail) s
    | some e => if op = 0 ∧ e.length < size then endWith stBadState s else startMem s

/-- MEM_READ (R472). -/
def execMemRead (c : CmdCtx) (ws : List Word) (s : State) : Host.Outcome State Fault Refusal := done (submit opMemRead 0x70 c ws s)

/-- MEM_WRITE (R471). -/
def execMemWrite (c : CmdCtx) (ws : List Word) (s : State) : Host.Outcome State Fault Refusal := done (submit opMemWrite 0x71 c ws s)

/-- MEM_ERASE (R471). -/
def execMemErase (c : CmdCtx) (ws : List Word) (s : State) : Host.Outcome State Fault Refusal := done (submit opMemErase 0x72 c ws s)

/-- FW_UPDATE PREPARE (R464). -/
def execFwUpdatePrepare (c : CmdCtx) (ws : List Word) (s : State) : Host.Outcome State Fault Refusal :=
  done (submit opFwUpdate 0x73 c (stamp 0 2 0 ws) s)

/-- FW_UPDATE VERIFY (R464). -/
def execFwUpdateVerify (c : CmdCtx) (ws : List Word) (s : State) : Host.Outcome State Fault Refusal :=
  done (submit opFwUpdate 0x73 c (stamp 0 2 1 ws) s)

/-- FW_UPDATE SELECT (R464). -/
def execFwUpdateSelect (c : CmdCtx) (ws : List Word) (s : State) : Host.Outcome State Fault Refusal :=
  done (submit opFwUpdate 0x73 c (stamp 0 2 2 ws) s)

/-- SVN of the image in the record at an address (Table 17.8). -/
def imageSvn (r : DirEntry × Nat) (s : State) : Nat := bytesNat (payload r.1 r.2 8 4 s)

/-- SHA-256 of every payload byte before the signature, which is the last 64 (Table 17.8, R462). -/
def imageDigest (r : DirEntry × Nat) (s : State) : BitVec 256 :=
  Config.sha256 (payload r.1 r.2 0 (plenAt r.1.cs1 r.2 s - 64) s)

/-- The signature of an image verifies over its digest (R462). -/
def imageSigned (r : DirEntry × Nat) (s : State) : Bool :=
  let n := plenAt r.1.cs1 r.2 s
  decide (64 ≤ n) && Config.signatureGood (imageDigest r s) (payload r.1 r.2 (n - 64) 64 s)

/-- The image in a slot has a valid record, the MAGIC of Table 17.8, a signature that verifies, and an SVN of at least MIN_SVN
(R462). -/
def slotPasses (slotB : Bool) (s : State) : Bool :=
  match findRecord (fwId slotB) s with
  | some r =>
    imageSigned r s && bytesNat (payload r.1 r.2 0 4 s) == 0x464E5053 && decide (s.keep.minSvn.toNat ≤ imageSvn r s)
  | none => false

/-- The erase units of a directory entry. -/
def entryUnits (e : DirEntry) (s : State) : Nat × Nat :=
  let u := eraseUnit e.cs1 s
  (e.offset / u * u, (e.offset + e.length + u - 1) / u * u - e.offset / u * u)

/-- What a program or erase that ended did: everything where it ended well, on a mapped spare included, otherwise its
first `n` bytes. Answers whether all of it was done (R470). -/
def writeResult (cs1 : Bool) (res block : Nat) (s : State) : State × Bool :=
  if res = 0 then (s, true) else if res = 1 then mapSpare cs1 block s else (s, false)

/-- The memory command in progress ends with its result: `res` 0 good, 1 a failed block, 2 any other error, after `n`
bytes; `refresh` is what a read has found at or above its refresh level (R464, R470, R471). A command other than MEM_WRITE
programs the partial page of its chip select first. -/
def endMem (res n block : Nat) (refresh : List (Bool × Nat)) (x : SlowCmd) (s : State) : State :=
  let w := x.payload.getD 0 0
  let cs := cmdCs x s
  let a := (x.payload.getD 1 0).toNat
  let fin (st : BitVec 8) (ws : List Word) (s : State) : State := finishSlow x.port x.tag x.opcode st ws s
  if x.opcode = 0x70 then
    let s1 := flushPage cs s
    refreshAll refresh
      (if res = 0 then fin stOk (bytesWords (devBytes cs a (x.payload.getD 2 0).toNat s1)) s1 else fin stMemError [] s1)
  else if x.opcode = 0x71 then
    let bs := wordsBytes (x.payload.drop 2)
    let (s1, ok) := writeResult cs res block s
    fin (if ok then stOk else stMemError) [] (memStore cs a (if ok then bs else bs.take n) s1)
  else if x.opcode = 0x72 then
    let len := (x.payload.getD 2 0).toNat
    let (s1, ok) := writeResult cs res block (flushPage cs s)
    fin (if ok then stOk else stMemError) [] (devErase cs a (if ok then len else min n len) s1)
  else
    let b := bit w 8
    match dirFind (fwId b) s with
    | none => fin stMemError [] s
    | some e =>
      let (o, len) := entryUnits e s
      let s0 := flushPage cs s
      let mark (v : Bool) (s : State) : State := s.modXmem (fun x => { x with fwVerified := x.fwVerified.set (if b then 1 else 0) v })
      if bits w 0 2 = 0 then
        let (s1, ok) := writeResult cs res block s0
        fin (if ok then stOk else stMemError) [] (mark false (devErase cs o (if ok then len else min n len) s1))
      else if res != 0 then refreshAll refresh (fin stMemError [] s0)
      else
        let pass := slotPasses b s0
        refreshAll refresh (fin (if pass then stOk else stCheckFail) [] (mark pass s0))

/-- XMEM_OPERATION_DONE: the read, program or erase in progress ends, with the memory command, reload or erase ahead it
belongs to (R453, R461, R470, R471). -/
def execXmemOperationDone (res n block : Nat) (refresh : List (Bool × Nat)) (s : State) : Host.Outcome State Fault Refusal :=
  done (if blockOff 12 s then s
    else
      match s.xmem.busy with
      | some .memCmd =>
        match memStarted s with
        | some x => endMem res n block refresh x (endWork s)
        | none => endWork s
      | some (.reload k) =>
        if k = 0 ∧ s.pwr.pstate ≠ .s1 then s.modXmem (fun x => { x with queue := x.queue ++ [.reload 0], busy := none })
        else refreshAll refresh (reloadRecord k (res != 0) (endWork s))
      | some (.regionErase id) =>
        match dirFind id s with
        | none => endWork s
        | some e =>
          let (s1, ok) := writeResult e.cs1 res block (endWork s)
          if ok && eraseUseful e s1 then devErase e.cs1 (oldestUnit e s1) (eraseUnit e.cs1 s1) s1 else s1
      | _ => s)

/-- MEM_CMD_TIMEOUT: a MEM command 200 ms after it started completes with TIMEOUT, and MEM_FAIL is raised with its chip
select; a program or erase has done its first `n` bytes (R471). -/
def execMemCmdTimeout (n : Nat) (s : State) : Host.Outcome State Fault Refusal :=
  done (match memStarted s with
    | none => s
    | some x =>
      if x.opcode = 0x73 || s.ticks < x.startedAt + 200 * ticksPerMs then s
      else
        let cs := cmdCs x s
        let a := (x.payload.getD 1 0).toNat
        let drop (k : XKind) : Option XKind := if k = .memCmd then none else some k
        let s1 := s.modXmem (fun y => { y with
          queue := y.queue.filter (fun k => k != .memCmd)
          busy := y.busy.bind drop, suspended := y.suspended.bind drop
          eraseSusp := y.eraseSusp && (y.suspended.bind drop).isSome })
        let began := s.xmem.busy == some .memCmd || s.xmem.suspended == some .memCmd
        let s2 :=
          if !began then s1
          else if x.opcode = 0x71 then memStore cs a ((wordsBytes (x.payload.drop 2)).take n) s1
          else if x.opcode = 0x72 then devErase cs a (min n (x.payload.getD 2 0).toNat) (flushPage cs s1) else flushPage cs s1
        finishSlow x.port x.tag x.opcode stTimeout [] (raiseFault 12 4 (if cs then 1 else 0) true false s2))

/-! ### Registers (R461, R476, Table 17.12) -/

/-- A write of XMEM_CTRL.RELOAD: CALIB_PIXEL is refused in S0 (R461). -/
def reloadWrite (v : Word) (s : State) : State × BitVec 8 :=
  if bit v 0 && s.pwr.pstate == .s0 then (s, stBadState)
  else
    let ks := [0, 1, 2].filter (fun k => bit v k && !(s.xmem.queue.contains (.reload k) || s.xmem.busy == some (.reload k)))
    (s.modXmem (fun x => { x with queue := x.queue ++ ks.map XKind.reload }), stOk)

/-- XMEM_RELOAD (R461). -/
def execXmemReload (src : RegSrc) (v : Word) (s : State) : Host.Outcome State Fault Refusal :=
  done (writeRow 12 src (reloadWrite v) s)

/-- Work of a class range is in progress or suspended. -/
def working (lo hi : Nat) (s : State) : Bool :=
  (s.xmem.busy.toList ++ s.xmem.suspended.toList).any (fun k =>
    let c := match k with | .logFlush => 50 | k => workClass s k
    lo ≤ c && c ≤ hi)

/-- A read of the XMEM window below its fault window. -/
def xmemRead (off : Nat) (s : State) : Word :=
  let x := s.xmem
  let dev (d : MemDev) (o : Nat) : Word :=
    if o = 0 then put 28 d.dtype ||| put 26 d.clk ||| putb 25 d.suspend ||| put 16 d.eraseLog2 ||| put 8 d.pageLog2 ||| put 0 d.capLog2
    else if o = 4 then put 16 d.bbt.length ||| put 0 d.spare else 0
  let isReload (k : XKind) : Bool := match k with | .reload _ => true | _ => false
  if off = 4 then put 4 x.manUsed ||| putb 3 x.eraseSusp ||| putb 2 ((x.busy.toList ++ x.queue).any isReload) |||
    putb 1 (working 50 90 s) ||| putb 0 (working 10 40 s)
  else if off = 8 then x.mseq
  else if off = 0xC then put 0 x.recValid.toNat
  else if 0x100 ≤ off ∧ off < 0x140 then dev x.cs0 (off - 0x100)
  else if 0x140 ≤ off ∧ off < 0x180 then dev x.cs1 (off - 0x140)
  else if 0x300 ≤ off ∧ off < 0x320 ∧ off % 4 = 0 then
    let k := (off - 0x300) / 4
    (List.range 32).foldl (fun w i => w ||| putb i ((x.dir[32 * k + i]?).any (fun e => e.verified))) 0
  else if off = 0x400 then put 0 x.scrubH.toNat
  else if off = 0x404 then put 16 x.scrubPass ||| put 0 x.refreshCnt
  else if off = 0x408 then x.logLseq
  else 0

/-- A write to the XMEM window below its fault window (R461, R476). -/
def xmemWrite (off : Nat) (v : Word) (s : State) : State × BitVec 8 :=
  if off = 0 then reloadWrite v s
  else if off = 0x400 then
    if bits v 0 8 = 0 then (s, stBadParam) else (s.modXmem (fun x => { x with scrubH := v.setWidth 8 }), stOk)
  else if off = 0x40C ∧ bit v 31 then
    (s.modXmem (fun x => { x with
      scrubPass := cleared (s.wasHit 12 0x404 16) x.scrubPass
      refreshCnt := cleared (s.wasHit 12 0x404 0) x.refreshCnt }), stOk)
  else (s, stOk)

end Sys2Proof.Machine
end

