-- ==== Sys2Proof/Machine/Image.lean ====
section
/-! DEFINITION. The retention image: what the entries to S3, S4 and S5 keep, what the domains that go off lose, and what
the exits restore (16_power_states.md R427, R434, Table 16.6; 05 R173; 08 R255; 12 R357; 17 R475). -/

namespace Sys2Proof.Machine

/-! ### The image (Table 16.6) -/

/-- What the list keeps of a layer: descriptors, placements and the buffer shown; arms are cancelled (Table 05.4). -/
def keptLayer (l : Layer) : Layer :=
  { staged := l.staged, act := l.act, actBuf := l.actBuf, spr := l.spr, sprReg := l.sprReg }

/-- What the list keeps of the composition registers. -/
def keptComp (c : Comp) : Comp :=
  { ctrl := c.ctrl, ctrlSmp := c.ctrl, wbCtrl := c.wbCtrl, wbPort := c.wbPort, layers := c.layers.map keptLayer }

/-- Role and ATTEMPTS of an engine (R203). -/
def keptHealth (h : Health) : Health := { role := h.role, attempts := h.attempts }

/-- What the list keeps of a tile: TILE_CTRL, OC_TRIP and the flags of DIAG. -/
def keptTile (t : Tile) : Tile :=
  { on := t.on, range := t.range, ttrim := t.ttrim, rangeSmp := t.range, ttrimSmp := t.ttrim, rangeAct := t.range
    ttrimAct := t.ttrim, ocTrip := t.ocTrip, swFail := t.swFail, swStuck := t.swStuck, tileBad := t.tileBad }

/-- SW_RETEST and SUSPECT_RUN of a tile. -/
def keptDiagTile (t : DiagTile) : DiagTile := { retest := t.retest, suspectRun := t.suspectRun }

/-- What the list keeps of a time domain; it comes back UNSYNC (Table 12.4). -/
def keptDomain (d : Domain) : Domain :=
  { ns := d.ns, frac := d.frac, inc := d.inc, era := d.era, epoch := d.epoch, kp := d.kp, ki := d.ki }

/-- What the list keeps of TIME. -/
def keptTime (t : Time) : Time :=
  { ctrl := t.ctrl, syncCfg := t.syncCfg, intCfg := t.intCfg, phase := t.phase, txLat := t.txLat, rxLat := t.rxLat
    asym := t.asym, d0 := keptDomain t.d0, d1 := keptDomain t.d1 }

/-- What the list keeps of Backstay, with every effective value equal to its target (R255). -/
def keptBstay (b : Bstay) : Bstay :=
  { cls := b.cls, clsConfig := b.clsConfig, cfg := b.cfg, cfgAct := b.cfg, slp := b.slp, slpAct := b.slp
    tryMap := b.tryMap, tryMapAct := b.tryMap, aimVTgt := b.aimVTgt, aimHTgt := b.aimHTgt, aimVAct := b.aimVTgt
    aimHAct := b.aimHTgt, ceilValid := b.ceilValid, discarded := b.discarded, ceilTgt := b.ceilTgt, ceilAct := b.ceilTgt, zlimTgt := b.zlimTgt
    zlimAct := b.zlimTgt, arb := { ownerMain := b.arb.ownerMain } }

/-- What the list keeps of THERM. -/
def keptTherm (h : Therm) : Therm :=
  { ctrl := h.ctrl, floor := h.floor, theta := h.theta, thr := h.thr, hyst := h.hyst, ntcCfg := h.ntcCfg }

/-- The configuration of a check-value unit, without the running value. -/
def keptUnit (u : CrcUnit) : CrcUnit :=
  { nbytes := u.nbytes, mode := u.mode, order := u.order, refin := u.refin, refout := u.refout, width := u.width
    poly := u.poly, init := u.init, xorout := u.xorout, len := u.len }

/-- The ARRAY, DIAG and XMEM rows of the list, as the entry to S3 copies them (R434). -/
def rowImage (s : State) : RetImage :=
  { tiles := s.arr.tiles.map keptTile, gtrim := s.arr.gtrim, vadjCfg := s.arr.vadjCfg, vadjLim := s.arr.vadjLim
    railCfg := s.arr.railCfg, diagTiles := s.diag.tiles.map keptDiagTile, diagCtrl := s.diag.ctrl, scrubH := s.xmem.scrubH }

/-- The buffers that were loaded from records, for the reload of R173. -/
def recordBufs (s : State) : List (Nat × Buffer) :=
  ((List.range 64).zip s.store.bufs).filterMap (fun p =>
    if p.2.record.isSome && (p.2.state == .complete || p.2.state == .loading) then
      some (p.1, { p.2 with bytes := [], state := .loading, fill := 0, crc := 0, sending := false })
    else none)

/-- Every row of the list, as the entry to S4 copies it (R434). -/
def fullImage (s : State) : RetImage :=
  { rowImage s with
    scan := { ctrl := s.scan.ctrl, strokeCnt := s.scan.strokeCnt, frameCnt := s.scan.frameCnt }
    compA := keptComp s.engA.comp, compB := keptComp s.engB.comp, lpA := s.engA.lp.reg, lpB := s.engB.lp.reg
    healthA := keptHealth s.engA.health, healthB := keptHealth s.engB.health, bstay := keptBstay s.bstay
    hlyCtrl := [s.h0.ctrl, s.h1.ctrl], h0Role := s.h0.role, h1Role := s.h1.cfgRole, time := keptTime s.time, idle := s.cmd.idle
    digest := s.rigger.digest
    therm := keptTherm s.therm, clk := { sel := s.clk.sel, opAct := s.clk.opAct, settleTo := s.clk.settleTo }
    crcu := s.crcu.units.map keptUnit, reloads := recordBufs s }

/-- The image holds every row of the list. -/
def RetImage.full (i : RetImage) : Bool := i.hlyCtrl != []

/-! ### Domains that go off (Table 16.1, R385) -/


/-- What goes on holding a tile off while ARRAY is off: its SHUTDOWN level in THERM, and the TILE_OFF reactions of blocks that
stay on (R364, R397, R402). -/
def heldTile (t : Tile) : Tile :=
  { shutdown := t.shutdown, tileOff := t.tileOff.filter (fun p => !(p.1 == 8 || p.1 == 9 || p.1 == 12)) }

/-- ARRAY and MEM off, in S3 and deeper: latches, tile and pixel records and XMEM's registers are lost; the bad-block tables, the
waiting work and what the log writer and the save need stay (R95, R225, R434, R475). -/
def offArray (s : State) : State :=
  let s1 := loseWindows [8, 9, 12] s
  { s1 with
    arr := { tiles := s.arr.tiles.map heldTile }
    diag := {}
    xmem :=
      { cs0 := s.xmem.cs0, cs1 := s.xmem.cs1, fwVerified := s.xmem.fwVerified, declared := s.xmem.declared
        declaredSince := s.xmem.declaredSince, snap := s.xmem.snap, snapLen := s.xmem.snapLen, deadOn := s.xmem.deadOn
        deadEnd := s.xmem.deadEnd, waits := s.xmem.waits
        queue := s.xmem.busy.toList ++ s.xmem.suspended.toList ++ s.xmem.queue } }

/-- The time domain frozen in S3: FLIP_AT cancelled, the outputs off, no TIME packet used (Table 12.4). -/
def freezeTime (s : State) : State :=
  (dropTime s).modTime (fun t => { t with
    flipAtPend := false
    p0 := { t.p0 with mode := 0, level := false, waiting := none }
    p1 := { t.p1 with mode := 0, level := false, waiting := none } })

/-- PIX, LINK, ROW, CORE and SAFE off as well, in S4 and S5: the beam's latches stay in the always-on domain (Table 08.4);
the queues of the ports and the commands that wait go (Table 10.9). -/
def offAll (s : State) : State :=
  let s1 := loseWindows [0, 1, 2, 3, 4, 5, 6, 7, 10, 11, 16, 17] (offArray s)
  { s1 with
    arr := {}, scan := {}, engA := {}, engB := { health := { role := .standby } }, store := {}
    bstay := { beam := .dark, beamReported := s.bstay.beamReported, tryCause := s.bstay.tryCause
               tryPend := s.bstay.tryPend, safeNLatch := s.bstay.safeNLatch, safeNLevel := s.bstay.safeNLevel }
    h0 := {}, h1 := { cfgRole := s.h1.cfgRole }, spi := {}, cmd := { lostNow := s.cmd.lostNow }, time := {}, rigger := {}
    therm := {}, crcu := {}, legacy := {}, tap := {}
    xmem := { s1.xmem with queue := s1.xmem.queue.filter (fun k => match k with
      | .exitReload _ _ _ | .trysail _ | .layerLoad _ _ _ | .memCmd => false
      | _ => true) } }

/-- The clock registers of the always-on domain in S5, which keeps SEL, the operating point and SETTLE_TO (Table 16.6). -/
def offClk (s : State) : State :=
  s.modClk (fun c => { sel := c.sel, opAct := c.opAct, opTgt := c.opAct, vpix := vpixOf c.opAct.toNat, settleTo := c.settleTo })

/-! ### The exits (R434) -/

/-- The rows of ARRAY, DIAG and XMEM come back; what has gone on holding a tile off holds it (R364, R397, R434). -/
def applyRows (i : RetImage) (s : State) : State :=
  { s with
    arr := { s.arr with
      tiles := if i.tiles = [] then s.arr.tiles else
        (i.tiles.zip s.arr.tiles).map (fun p => { p.1 with shutdown := p.2.shutdown, tileOff := p.2.tileOff })
      gtrim := i.gtrim, gtrimSmp := i.gtrim, gtrimAct := i.gtrim, vadjCfg := i.vadjCfg, vadjLim := i.vadjLim
      railCfg := i.railCfg }
    diag := { s.diag with
      tiles := if i.diagTiles = [] then s.diag.tiles else i.diagTiles
      ctrl := i.diagCtrl, ctrlAct := i.diagCtrl }
    xmem := { s.xmem with scrubH := i.scrubH } }

/-- A restored SCAN_CTRL is in effect (R69). -/
def startScan (c : Scan) : Scan :=
  { c with
    rateAct := BitVec.ofNat 2 (bits c.ctrl 0 2), nfAct := BitVec.ofNat 5 (bits c.ctrl 4 5), leadAct := BitVec.ofNat 5 (bits c.ctrl 12 5)
    flipH := bit c.ctrl 24, flipV := bit c.ctrl 25, allDirtyNext := true }

/-- A layer whose shown buffer comes back FREE shows none (R173). -/
def restoredComp (i : RetImage) (c : Comp) : Comp :=
  { c with layers := c.layers.map (fun l =>
      { l with actBuf := match l.actBuf with | some b => if i.reloads.any (fun p => p.1 == b) then some b else none | none => none }) }

/-- An engine after S4 or S5: registers, role and ATTEMPTS restored, the factors to start anew (R118, R131, R203). -/
def restoredEngine (i : RetImage) (c : Comp) (l : LpRegs) (h : Health) (rec : BitVec 14) : Engine :=
  { comp := restoredComp i c, health := h
    lp := { reg := l, smp := l, tgainValid := rec.getLsbD 3, tcurveValid := rec.getLsbD 4 } }

/-- A time register set after S4; S5 keeps no time (Table 12.4, R434). -/
def restoredTime (s5 : Bool) (t : Time) : Time :=
  let d (x : Domain) : Domain := if s5 then { x with ns := 0, frac := 0, era := 0, epoch := 0 } else x
  { t with d0 := d t.d0, d1 := d t.d1 }

/-- Every row of the list comes back on the exit from S4, or from S5 (R434). -/
def applyAll (s5 : Bool) (i : RetImage) (s : State) : State :=
  let s1 := applyRows i s
  let b := i.bstay
  { s1 with
    scan := startScan i.scan
    engA := restoredEngine i i.compA i.lpA i.healthA s.xmem.recValid
    engB := restoredEngine i i.compB i.lpB i.healthB s.xmem.recValid
    bstay := { b with
      beam := s.bstay.beam, beamReported := s.bstay.beamReported, tryCause := s.bstay.tryCause, tryPend := s.bstay.tryPend
      safeNLatch := s.bstay.safeNLatch, safeNLevel := s.bstay.safeNLevel }
    h0 := { s1.h0 with ctrl := i.hlyCtrl.getD 0 s1.h0.ctrl, role := i.h0Role }
    h1 := { s1.h1 with ctrl := i.hlyCtrl.getD 1 s1.h1.ctrl, cfgRole := i.h1Role }
    time := restoredTime s5 i.time
    cmd := { s1.cmd with idle := i.idle }
    therm := i.therm
    clk := { s1.clk with sel := i.clk.sel, opAct := i.clk.opAct, opTgt := i.clk.opAct, vpix := vpixOf i.clk.opAct.toNat, settleTo := i.clk.settleTo }
    crcu := { s1.crcu with units := if i.crcu = [] then s1.crcu.units else i.crcu } }

/-! ### Memory is on again (R434, R451, R468, R475) -/

/-- REC_VALID for every record that the manifest in use lists (Table 17.12). -/
def recheckRecords (s : State) : State :=
  recordBits.foldl (fun s p => setRecValid p.1 (findRecord (recId p.2) s).isSome s) s

/-- The work that has waited for MEM goes on where the manifest in use has its region. -/
def workKept (s : State) : XKind → Bool
  | .logFlush => hasRegion (recId 0x60) s
  | .deadmap => hasRegion (recId 0x50) s
  | .mirror => hasRegion (recId 0x70) s
  | .regionErase id => hasRegion id s
  | _ => true

/-- A LOG flush waits for the entries that stand in Keep alone, from now on (R466, R468). -/
def flushOwed (s : State) : State :=
  let n := (unflushedAll s).length
  let s1 := s.modXmem (fun x => { x with waits := List.replicate n s.ticks })
  if n = 0 then s1 else queueWork .logFlush (recId 0x60) s1

/-- MEM is on again: DEDUCED (log entry 195), the manifest is read as at boot, for the loads that follow; REC_VALID and
XMEM_LOG_LSEQ are found anew from the records, and the work that waited goes on (R434, R451, R468, R475). -/
def findMemory (s : State) : State :=
  let s1 := recheckRecords (readManifest s)
  flushOwed (s1.modXmem (fun x => { x with logLseq := lastFlushed s1, queue := x.queue.filter (workKept s1) }))

/-- The reloads of R38, R173 and Table 08.4 after S4 or S5: the calibration map, the buffers loaded from records, and the
Trysail buffer. The array stays dark until they end. -/
def startReloads (i : RetImage) (s : State) : State :=
  let s1 := reloadRecord 0 false s
  let s2 := i.reloads.foldl (fun s p => s.modBuf p.1 (fun _ => p.2)) s1
  let s3 := s2.modXmem (fun x => { x with queue := x.queue ++ i.reloads.map (fun p => .exitReload p.1 (p.2.record.getD 0) p.2.recOff) })
  let s4 := loadTry ([0, 1, 2, 3].foldl (fun s k => if (dirFind (recId (0x20 + k)) s).isSome then (checkTry k false s).1 else s) s3)
  endRestore (s4.modPwr (fun p => { p with restoring := true }))

/-! ### What a save sees (R436) -/

/-- The registers as the record of a save holds them: in S4 those of the retention image (R436). -/
def heldView (s : State) : State :=
  match s.pwr.image with
  | some i => if s.pwr.pstate = .s4 then applyAll false i s else s
  | none => s

end Sys2Proof.Machine
end

