-- ==== Sys2Proof/Machine/Save.lean ====
section
/-! DEFINITION. The save: its triggers, the save record, and the PWR register window (16_power_states.md R436 to R440,
R446, Tables 16.8, 16.9 and 16.12). -/

namespace Sys2Proof.Machine

/-! ### The record (R437, Table 16.9) -/

/-- The beam state that an exit from S2 to S5 returns to, and that a record holds: the one held before the entry, Trysail
where it was requested meanwhile (R37, R38, R252, R438). -/
def returnBeam (s : State) : Beam :=
  if deep s.pwr.pstate then
    if s.pwr.heldBeam = .normal ∧ s.bstay.tryPend then .trysail else s.pwr.heldBeam
  else s.bstay.beam

/-- The THERM levels as a record holds them: WARN, THROTTLE and SHUTDOWN of any tile, of any die and of the NTC. -/
def levelBits (h : Therm) : BitVec 9 :=
  let f (l : List Sensor) : Nat :=
    (if l.any (·.warn) then 1 else 0) + (if l.any (·.throttle) then 2 else 0) + (if l.any (·.shutdown) then 4 else 0)
  BitVec.ofNat 9 (f h.tiles + 8 * f h.dies + 64 * f [h.ntc])

/-- SAVE_SEQ of the next record (R437). -/
def nextSaveSeq (s : State) : BitVec 32 :=
  match newestSave s with
  | some (_, r) => r.seq + 1
  | none => 1

/-- The save record with a cause and its flags (Table 16.9). -/
def saveRecord (cause : Nat) (flags : BitVec 8) (s : State) : SaveRec :=
  let v := heldView s
  { seq := nextSaveSeq s, cause := cause, flags := flags, pstate := s.pwr.pstate, beam := returnBeam s
    tryCause := s.bstay.tryCause, tryPend := s.bstay.tryPend, safeNLatch := s.bstay.safeNLatch
    roleA := v.engA.health.role, roleB := v.engB.health.role, attA := v.engA.health.attempts, attB := v.engB.health.attempts
    wk := BitVec.ofNat 48 (workNs v), epoch := (selDomain v).epoch, stroke := v.scan.strokeCnt, frame := v.scan.frameCnt
    opsec := s.pwr.opsec, op := v.clk.opAct, h0Role := v.h0.role, h1Role := v.h1.cfgRole, scanCtrl := v.scan.ctrl
    tjMax := (tjMax v).1
    levels := levelBits v.therm, pixels := s.xmem.declared.take 256, fw := s.pwr.retFw }

/-- The slot that does not hold the newest valid record (Table 16.8). -/
def freeSlot (s : State) : Nat :=
  match newestSave s with
  | some (0, _) => 1
  | _ => 0

/-- A record is written into the free slot; one whose read-back fails leaves the slot not valid (R436). -/
def putRecord (r : SaveRec) (good : Bool) (s : State) : State :=
  s.modPwr (fun p => { p with slots := p.slots.set (freeSlot s) (if good then some r else none) })

/-! ### Triggers (R436) -/

/-- A save trigger with a cause of Table 16.9: the save begins, the tiles go dark, PIX and LINK off, and a transition in
progress is abandoned (R431, Table 16.8). During a save it is recorded only, and in S5 the record of the entry stands: an exit
from S5 is abandoned, and the module is parked there. -/
def beginSave (cause : Nat) (s : State) : State :=
  if s.pwr.inReset || s.pwr.porHeld then s
  else
    match s.pwr.saving with
    | some _ => s.modPwr (fun p => { p with saveFlags := p.saveFlags ||| BitVec.ofNat 8 (1 <<< (cause - 1)) })
    | none =>
      if s.pwr.pstate = .s5 then
        (if s.pwr.wakeStage = 0 then s else sleepClocks s).modPwr (fun p => { p with
          parked := p.parked.or (some cause), wakeStage := 0, wakeTries := 0 })
      else
        (enterOff .p1 (enterOff .p0 s)).modPwr (fun p => { p with
          saving := some cause, saveFlags := 0, vhuTrig := p.vhuMv, entryTo := none, wakeStage := 0, wakeTries := 0
          wakeLatched := none })

/-- SAVE_NOW: a write of 1 to PWR_SAVE_CTRL.SAVE_NOW (R436). -/
def execSaveNow (src : RegSrc) (s : State) : Host.Outcome State Fault Refusal :=
  done (writeRow 15 src (fun s => (beginSave 3 s, stOk)) s)

/-- What a supervisor measures: VHU_MV, and the switch between VSUP and VHU, which opens when VSUP falls 20 mV below VHU
(16_power_states.md, Supervisors). DEDUCED (log entry 192): it closes again once VSUP has reached VHU. -/
def takeSupply (v : Supply) (p : Pwr) : Pwr :=
  { p with
    vhuMv := min v.vhu 8191
    diodeOpen := if v.vsup + 20 ≤ v.vhu then true else if v.vhu ≤ v.vsup then false else p.diodeOpen }

/-- SAVE_SUPERVISOR_TRIP: VHU has fallen below the SAVE threshold (R436). -/
def execSaveSupervisorTrip (mv : Supply) (s : State) : Host.Outcome State Fault Refusal :=
  done (beginSave 1 (s.modPwr (fun p => { takeSupply mv p with saveLvl := true })))

/-- PRESENT_N_REMOVED: PRESENT_N high for 1.0 us, a trigger once boot has reached READY (R436). -/
def execPresentNRemoved (s : State) : Host.Outcome State Fault Refusal :=
  done (let s1 := s.modPwr (fun p => { p with present := false })
    if !s.pwr.ready then s1
    else
      let s2 := beginSave 2 s1
      if s1.pwr.saving.isNone && s2.pwr.saving.isSome then raiseFault 15 6 0 true false s2 else s2)

/-! ### The PWR window (Table 16.12) -/

/-- A transition or a save is in progress. -/
def pwrBusy (s : State) : Bool := s.pwr.entryTo.isSome || s.pwr.wakeStage != 0 || s.pwr.saving.isSome

/-- PWR_SAVE_STATUS. -/
def saveStatus (s : State) : Word :=
  let newest := (newestSave s).map (·.2)
  put 16 s.pwr.saveCnt ||| put 8 s.pwr.lastUs ||| putb 5 (newest.any (fun r => r.flags.getLsbD 7)) |||
    putb 4 (s.pwr.slots.getD 1 none).isSome ||| putb 3 (s.pwr.slots.getD 0 none).isSome |||
    put 0 ((newest.map (·.cause)).getD 0)

/-- PWR_RET_STATUS. -/
def retStatus (s : State) : Word :=
  put 16 (match s.pwr.image with | some i => (Config.imageBytes i.full).val | none => 0) |||
    putb 2 s.pwr.s5Image.isSome ||| putb 1 s.pwr.retErr ||| putb 0 s.pwr.image.isSome

/-- A read of the PWR window below its fault window. -/
def pwrRead (off : Nat) (s : State) : Word :=
  let p := s.pwr
  match off with
  | 0x0000 => put 16 p.rstCause.toNat ||| put 8 p.lastCause ||| putb 7 (pwrBusy s) ||| put 4 (pstateNo p.from_) ||| put 0 (pstateNo p.pstate)
  | 0x0004 => p.opsec
  | 0x0100 => put 0 p.wakeCtrl.toNat
  | 0x0104 => put 8 p.lastSrc ||| put 4 p.seen.toNat ||| put 0 p.wakeLevel.toNat
  | 0x0108 => put 16 p.failCnt ||| put 8 p.failStage ||| put 0 p.failAttempts
  | 0x0200 => put 16 p.vhuMv ||| putb 4 p.diodeOpen ||| putb 3 p.ov ||| putb 2 p.low ||| putb 1 p.saveLvl ||| putb 0 p.regGood
  | 0x0204 => putb 3 p.ignore ||| putb 2 p.stuck ||| putb 1 p.present ||| putb 0 p.resetLvl
  | 0x0304 => saveStatus s
  | 0x0308 => put 16 p.vhuTrig ||| put 0 p.vhuEnd
  | 0x0400 => retStatus s
  | _ => 0

/-- A write to the PWR window below its fault window (R436, R446). -/
def pwrWrite (off : Nat) (v : Word) (s : State) : State × BitVec 8 :=
  match off with
  | 0x0100 => (s.modPwr (fun p => { p with wakeCtrl := v.setWidth 10 }), stOk)
  | 0x0104 => (s.modPwr (fun p => { p with seen := p.seen &&& ~~~ (BitVec.ofNat 4 (bits v 4 4) &&& ~~~ s.base.seen) }), stOk)
  | 0x010C => (if bit v 31 then s.modPwr (fun p => { p with failCnt := cleared (s.wasHit 15 0x0108 16) p.failCnt }) else s, stOk)
  | 0x0204 => (s.modPwr (fun p => { p with stuck := rw1c (bit v 2) (s.wasHit 15 0x0204 2) p.stuck }), stOk)
  | 0x0300 => (if bit v 0 then beginSave 3 s else s, stOk)
  | 0x0400 => (s.modPwr (fun p => { p with retErr := rw1c (bit v 1) (s.wasHit 15 0x0400 1) p.retErr }), stOk)
  | _ => (s, stOk)

end Sys2Proof.Machine
end

