-- ==== Sys2Proof/Machine/Power.lean ====
section
/-! DEFINITION. The ladder of power states: entries, wake sources, wake stages and exits (16_power_states.md R427 to R434,
Tables 16.1 to 16.4; 01 R37 to R39; 09 R280, R281; 12 Table 12.4). -/

namespace Sys2Proof.Machine

/-! ### Changes of power state (R430) -/

/-- The power state changes, with its cause and EV_POWER_STATE (R430). -/
def changeState (cause : Nat) (dst : PState) (s : State) : State :=
  let old := s.pwr.pstate
  queueEvent 0x0F01 1 [put 8 cause ||| put 4 (pstateNo dst) ||| put 0 (pstateNo old)]
    (s.modPwr (fun p => { p with from_ := old, pstate := dst, lastCause := cause }))

/-! ### Entries (R429, Table 16.1) -/

/-- Ranges and trims sampled for a frame that is dropped wait again (R88). -/
def dropTrims (s : State) : State :=
  s.modArr (fun a => { a with
    gtrimSmp := a.gtrimAct, tiles := a.tiles.map (fun x => { x with rangeSmp := x.rangeAct, ttrimSmp := x.ttrimAct }) })

/-- Composition stops on leaving S0: the frame in progress is dropped, and a resynchronisation waits for the return
(R39, R88, R197). -/
def stopEngines (s : State) : State :=
  let stop (s : State) (e : Eng) : State :=
    (s.modEng e (fun x => { x with
      job := { x.job with active := false, ended := false }
      health := { x.health with
        step := 0, shadowed := 0, matchRun := 0, lateLast := false, frameBad := false, rowsEqual := 0 } })).modWin (engBlk e)
      (fun w => { w with resetting := false })
  (bothEngs.foldl stop (dropTrims s)).modScan (fun c => { c with allDirtyNext := true })

/-- Heartbeats are not supervised in S2 to S5 (R195). -/
def stopHeartbeats (s : State) : State :=
  bothEngs.foldl (fun s e => s.modHealth e (fun h => { h with hbWaiting := false, hbMisses := 0, hbPrev := none })) s

/-- A port on the way down to S2 or S3: an ACTIVE one goes to SLACK or FURLED after its PM LCWs, its owed replies discarded
(R303), one in SLACK to FURLED, one that is OFF stays, and any other stays in DETECT with its beacon suppressed (R280). The
lane of a compatibility mode stays receiving in S2 (R283). -/
def portDown (furl : Bool) (p : HPort) (s : State) : State :=
  match (s.hport p).state with
  | .off | .furled => s
  | .active =>
    afterReplies (cmdPort p) (s.modPort p (fun h => { (sendPm (if furl then 2 else 1) h) with
      state := if furl then .furled else .slack, loopTimed := false, replies := [], enteredAt := s.ticks }))
  | .slack => s.modPort p (fun h => { h with state := if furl then .furled else .slack })
  | .blind =>
    if s.compat && !furl then s else (detectEntry true p s).modPort p (fun h => { h with loopTimed := false })
  | _ => (detectEntry true p s).modPort p (fun h => { h with loopTimed := false })

/-- What every entry to S2 or deeper does first: sessions end, a switch-over under way ends, engines and heartbeats stop, and
the beam state is kept for the wake (R38, R193, R308). -/
def goDeep (s : State) : State :=
  let s1 := if deep s.pwr.pstate then s else s.modPwr (fun p => { p with heldBeam := s.bstay.beam })
  endSession 3 (stopHeartbeats (stopEngines (endSwitchover s1)))


/-- The strokes stop; the next one starts a frame (Table 02.5). -/
def stopStrokes (s : State) : State :=
  s.modScan (fun c => { c with strokeInFrame := 0, inGap := false, phaseLock := false, strokeForced := false })

/-- S2: the links in SLACK (Table 09.6). -/
def enterS2 (s : State) : State := portDown false .p1 (portDown false .p0 (goDeep s))

/-- S3: the ARRAY, DIAG and XMEM rows go into the retention image, their domains off (R434). -/
def enterS3 (s : State) : State :=
  let s1 := portDown true .p1 (portDown true .p0 (goDeep s))
  let i := rowImage s1
  stopStrokes (stopClocks (freezeTime ((offArray s1).modPwr (fun p => { p with image := some i }))))

/-- The registers that S3 has put away are back for the full image (R434). -/
def unpackS3 (s : State) : State :=
  match s.pwr.image with
  | some i => if s.pwr.pstate = .s3 then applyRows i s else s
  | none => s

/-- S4: every register of the list into the retention image, every domain but the always-on one off (R434), and FBOSC
(Table 15.7). -/
def enterS4 (s : State) : State :=
  let s1 := goDeep (unpackS3 s)
  let i := fullImage s1
  (sleepClocks (offAll s1)).modPwr (fun p => { p with image := some i, restoring := false })

/-- S5: the image and a save record into Keep; the retention RAM goes (R429, R434). -/
def enterS5 (s : State) : State :=
  let s1 := goDeep (unpackS3 s)
  let i := fullImage s1
  let s2 := putRecord (saveRecord 4 0 s1) true s1
  offClk ((sleepClocks (offAll (s2.modKeep (fun k => { k with version := k.version + 1 })))).modPwr (fun p => { p with
    image := none, s5Image := some i, retFw := [], restoring := false }))

/-- The entry to a power state with a cause: its domains, then EV_POWER_STATE (R429, R430). -/
def enterState (cause : Nat) (dst : PState) (s : State) : State :=
  let s1 := s.modPwr (fun p => { p with entryTo := none })
  match dst with
  | .s0 => s1
  | .s1 => changeState cause .s1 (stopEngines s1)
  | .s2 => changeState cause .s2 (enterS2 s1)
  | .s3 => changeState cause .s3 (enterS3 s1)
  | .s4 => changeState cause .s4 (enterS4 s1)
  | .s5 => changeState cause .s5 (enterS5 s1)

/-! ### Exits (R430, R432, R434) -/

/-- The first stage of an exit (Table 16.4). -/
def firstStage : PState → Nat
  | .s0 | .s1 => 0
  | .s2 => 5
  | .s3 => 3
  | .s4 | .s5 => 1

/-- Engines at the entry to S0: a FAILED one restarts at step 1 (R39, R203). The supervision of S1 goes on (R195). -/
def startEngines (s : State) : State :=
  bothEngs.foldl (fun s e => if (s.eng e).health.role = .failed then startStep1 e s else s) s

/-- A port on the way up from S2 or S3 (R280, R281): SLACK back to ACTIVE, in HUNT and with the latencies of its rate (R287,
R341), FURLED to STEP with E and the counts kept (R293), and DETECT with its beacon again. -/
def portUp (p : HPort) (s : State) : State :=
  match (s.hport p).state with
  | .slack =>
    loadLat p (s.modPort p (fun h =>
      { ((resetTx h).modRxs (fun x => { x with
          anchored := false, mi := false, line := {}, words := [], pos := 0, markPos := 0 })) with
        state := .active, miHold := true, sync := false, rxWords := [], rxPos := 0, enteredAt := s.ticks }))
  | .furled =>
    let s1 := s.modPort p (fun h => { h with upFrom := s.ticks, fromFurled := true })
    enterStep p (s1.hport p).rate s1
  | .detect =>
    let s1 := s.modPort p (fun h => { h with beaconOff := false, beacons := 1, beaconAt := s.ticks, enteredAt := s.ticks })
    if startsBlind p s1 then enterBlind p s1 else s1
  | _ => s

/-- A resynchronisation of time after S3, S4 and S5: the domains UNSYNC and WK_SYNC 0 (Table 12.4). -/
def unsyncTime (s : State) : State :=
  s.modTime (fun t => { t with
    wkSync := false
    d0 := { t.d0 with dstate := .unsync, lockCnt := 0, acc := 0, pdSeq := none }
    d1 := { t.d1 with dstate := .unsync, lockCnt := 0, acc := 0, pdSeq := none } })

/-- What every exit from S2 or deeper starts anew: the supply request, the verdicts, the SLS check and the steering input
(R92, R131, R240, R244, R255). -/
def startAnew (s : State) : State :=
  let g (x : Engine) : Engine := { x with lp := { x.lp with deepExit := !x.lp.freshStart } }
  let s1 := { s with engA := g s.engA, engB := g s.engB }
  let s2 := s1.modBstay (fun b => { b with firstCompose := true, slsSkip := true, steerFirst := true, verdMissing := 0 })
  setReq (vadjMax s2) (s2.modScan (fun c => { c with allDirtyNext := true }))

/-- The beam state that the wake returns to, with a Trysail that was pending taken (R37, R38, R252). -/
def wakeBeam (s : State) : State :=
  let b := returnBeam s
  s.modBstay (fun x => { x with beam := b, tryPend := x.tryPend && b != .trysail })

/-- SYSTEM entries owed at the next boot or wake (R432, R444). -/
def writeOwed (s : State) : State :=
  let s1 := if s.pwr.wakeFailOwed then systemEntry 6 s else s
  let s2 := if s.pwr.saveOwed = 0 then s1 else systemEntry (s.pwr.saveOwed % 256) s1
  let s3 := if s.pwr.saveOwed / 256 = 0 then s2 else systemEntry (s.pwr.saveOwed / 256) s2
  s3.modPwr (fun p => { p with wakeFailOwed := false, saveOwed := 0 })

/-- The regulators are in regulation. -/
def regsGood (s : State) : State := s.modPwr (fun p => { p with regGood := true, vregBad := false })

/-- An exit is over. -/
def endExit (s : State) : State :=
  s.modPwr (fun p => { p with wakeStage := 0, wakeTries := 0, parked := none, lostRows := false })

/-- The exit from S1 (Table 16.2). -/
def leaveS1 (cause : Nat) (s : State) : State := startEngines (changeState cause .s0 s)

/-- The exit from S2, to S0 or to the S1 that POWER_STATE named. What a retry of stage 5 has powered off is loaded anew (R427,
R432; log entry 204). -/
def leaveS2 (cause : Nat) (dst : PState) (s : State) : State :=
  let s1 := changeState cause dst (wakeBeam (portUp .p1 (portUp .p0 s)))
  let s2 := if s.pwr.lostRows then startReloads {} (loadDeadmap (findMemory (startAnew s1))) else startAnew s1
  writeOwed (if dst = .s0 then startEngines s2 else s2)

/-- The module goes back to its boot from a power state in which its blocks were off: to a full boot from step 4, or,
where it was parked with no image, to a boot with the save record (R434, R439, R465). -/
def backToBoot (full : Bool) (cause : Nat) (s : State) : State :=
  (changeState cause .s0 (wakeBeam s)).modPwr (fun p => { p with
    ready := false, bootFrom4 := full && s.pwr.ready, bootStopped := false, image := none, s5Image := none })

/-- The retention image fails its CRC-32C: it is discarded with RET_ERR and a SYSTEM entry, and a boot from step 4 gives every
register its boot value from CONFIG (R434, R489; log entry 193). -/
def imageBad (cause : Nat) (s : State) : State :=
  systemEntry 0x107 (((backToBoot true cause (crcFail 3 s)).modPwr (fun p => { p with retErr := true })).hit 15 0x0400 1)

/-- The exit from S3: the rows of ARRAY, DIAG and XMEM come back, the manifest is read and the dead map loaded, and the fixed
checkers run their tests (R222, R434, R487). -/
def leaveS3 (cause : Nat) (dst : PState) (imgOk : Bool) (s : State) : State :=
  match s.pwr.image with
  | none => imageBad cause (offAll s)
  | some i =>
    if !imgOk then imageBad cause (offAll s)
    else
      let s1 := changeState cause dst (wakeBeam (portUp .p1 (portUp .p0 (unsyncTime (applyRows i s)))))
      let s2 := loadDeadmap (findMemory (startAnew s1))
      let s3 := katRun 0 (if s.pwr.lostRows then startReloads {} s2 else s2)
      writeOwed (if dst = .s0 then startEngines s3 else s3)

/-- The pipelines know again which records they can use (Tables 17.12 and 04.7). -/
def recheckGains (s : State) : State :=
  let g (x : Engine) : Engine := { x with lp := { x.lp with
    tgainValid := s.xmem.recValid.getLsbD 3, tcurveValid := s.xmem.recValid.getLsbD 4 } }
  { s with engA := g s.engA, engB := g s.engB }

/-- The exit from S4 or S5 with an image that passes: every register of the list, then the reloads (R38, R173, R434). -/
def restoreImage (cause : Nat) (i : RetImage) (s : State) : State :=
  let five := s.pwr.pstate == .s5
  let s1 := unsyncTime (applyAll five i s)
  let s2 := changeState cause .s0 (wakeBeam s1)
  let s3 := startAnew (s2.modPwr (fun p => { p with s5Image := none, image := if five then none else p.image }))
  let s4 := recheckGains (findMemory { s3 with rigger := { s3.rigger with safeRun := true, svcRun := true, digest := i.digest } })
  writeOwed (startEngines (startReloads i (katRun 0 (loadDeadmap s4))))

/-- The running image, read again, has the digest that the entry kept; the base firmware stands in the boot ROM (R465). -/
def digestSame (readOk : Bool) (i : RetImage) (s : State) : Bool :=
  s.keep.running == 0 || (readOk && (findRecord (fwId (s.keep.running == 2)) (findMemory s)).any (fun r =>
    imageDigest r (findMemory s) == i.digest))

/-- The exit from S4 or S5 (R434, R465): an image that fails its check is discarded with RET_ERR and a SYSTEM entry; one
whose firmware digest does not match leads to a boot from step 4, and a missing one to a boot as well. -/
def leaveVault (cause : Nat) (imgOk readOk : Bool) (s : State) : State :=
  let five := s.pwr.pstate == .s5
  match (if five then s.pwr.s5Image else s.pwr.image) with
  | none => backToBoot s.pwr.parked.isNone cause s
  | some i =>
    let s1 := if five then (keepRead 0 s).1 else s
    if !imgOk then imageBad cause s1
    else if !digestSame readOk i s1 then backToBoot true cause s1
    else restoreImage cause i s1

/-- In the compatibility modes a parked module that has resumed enters S2, as MODE is BLANK again (R505). -/
def resumeBlank (parked : Bool) (s : State) : State :=
  if parked && s.compat && s.pwr.ready && s.pwr.pstate == .s0 then enterState 1 .s2 s else s

/-- An exit ends (R430), with the verdicts on the retention image and on the read of the running firmware. -/
def finishExit (imgOk readOk : Bool) (s : State) : State :=
  let c := s.pwr.wakeCause
  let dst := s.pwr.wakeTo
  endExit (match s.pwr.pstate with
    | .s0 => s
    | .s1 => leaveS1 c s
    | .s2 => leaveS2 c dst s
    | .s3 => leaveS3 c dst imgOk s
    | .s4 | .s5 => resumeBlank s.pwr.parked.isSome (leaveVault c imgOk readOk s))

/-- An exit begins from the present state (R428, Table 16.4). -/
def startExit (cause src : Nat) (dst : PState) (s : State) : State :=
  let s1 := s.modPwr (fun p => { p with
    wakeCause := cause, wakeTo := dst, wakeStage := firstStage p.pstate, wakeTries := 0, stageAt := some s.ticks
    lastSrc := if src = 0 then p.lastSrc else src })
  if s.pwr.pstate = .s1 then finishExit true true s1 else s1

/-- A wake source is detected (R431): during an entry it waits for the entry's end; a save prevails. -/
def wake (cause src : Nat) (s : State) : State :=
  if s.pwr.saving.isSome || s.pwr.inReset || s.pwr.wakeStage != 0 then s
  else if s.pwr.entryTo.isSome then s.modPwr (fun p => { p with wakeLatched := p.wakeLatched.or (some (cause, src)) })
  else if s.pwr.pstate = .s0 then s
  else startExit cause src .s0 s

/-! ### POWER_STATE and the entry (R314, R315, R429) -/

/-- A POWER_STATE naming `dst` from a port, by command or by a legacy write of MODE (R429, R505). -/
def askState (port : CmdPort) (dst : PState) (s : State) : State × BitVec 8 :=
  if dst = s.pwr.pstate then (s, stOk)
  else if pwrBusy s || (s.mode.ifMode == .compat && pstateNo dst > 2) then (s, stBadState)
  else if pstateNo s.pwr.pstate < pstateNo dst then
    (s.modPwr (fun p => { p with entryTo := some dst, entryTried := false, entryPort := port }), stOk)
  else if dst = .s2 then (s, stBadState)
  else (startExit 1 0 dst s, stOk)

/-- POWER_STATE (0x60). -/
def opPowerState : OpFn := fun c ws s =>
  let w := ws.getD 0 0
  if !within w 7 || 5 < bits w 0 3 then endWith stBadParam s
  else
    let (s1, st) := askState c.port (pstateOf (bits w 0 3)) s
    endWith st s1

/-- POWER_STATE (R429). -/
def execPowerState (c : CmdCtx) (ws : List Word) (s : State) : Host.Outcome State Fault Refusal :=
  done (submit opPowerState 0x60 c ws s)

/-- An entry waits for a DEADMAP write in progress, and for one that is queued (R222). DEDUCED (log entry 102): it does not
wait for the write queued anew after one has failed while the entry waited. -/
def deadmapOwed (s : State) : Bool :=
  (s.xmem.queue.contains .deadmap && !s.pwr.entryTried) || s.xmem.busy == some .deadmap || s.xmem.suspended == some .deadmap ||
    s.xmem.deadOn

/-- What an entry waits for has happened (R315, R429). -/
def mayEnter (dst : PState) (s : State) : Bool :=
  s.pwr.saving.isNone && !s.pwr.inReset &&
    (!deep dst || (s.cmd.slow == [] && owed s.pwr.entryPort s == [] && (s.pwr.entryPort != .spi || s.spi.out == []))) &&
    (pstateNo dst < 3 || !deadmapOwed s)

/-- POWER_ENTRY: the entry asked for, once its waits are done; a wake source detected meanwhile begins the exit at once
(R429, R431). -/
def execPowerEntry (s : State) : Host.Outcome State Fault Refusal :=
  done (match s.pwr.entryTo with
    | none => s
    | some dst =>
      if mayEnter dst s then
        let s1 := (enterState 1 dst s).modPwr (fun p => { p with wakeLatched := none })
        match s.pwr.wakeLatched with
        | some (cause, src) => startExit cause src .s0 s1
        | none => s1
      else s)

/-! ### Wake sources (R281, R432) -/

/-- The bit of a wake pin. -/
def wakeBit (n : Fin 4) : BitVec 4 := BitVec.ofNat 4 (1 <<< n.val)

/-- WAKE_PIN: the level of a pin at two consecutive LPOSC edges; an enabled pin at its active level sets SEEN and wakes (R432). -/
def execWakePin (n : WakeLevel) (s : State) : Host.Outcome State Fault Refusal :=
  let m := wakeBit n.pin
  let s1 := s.modPwr (fun p => { p with wakeLevel := if n.high then p.wakeLevel ||| m else p.wakeLevel &&& ~~~ m })
  done (if s.pwr.inReset || !s.pwr.wakeCtrl.getLsbD n.pin.val || s.pwr.wakeCtrl.getLsbD (n.pin.val + 4) != n.high then s1
    else
      wake 2 (n.pin.val + 1) ({ s1 with base := { s1.base with seen := s1.base.seen ||| m } }.modPwr (fun p => { p with
        seen := p.seen ||| m })))

/-- LINK_WAKE: a signal for 2.0 us on a port in SLACK or FURLED, where LINK_EN allows it (R281). -/
def execLinkWake (p : HPort) (s : State) : Host.Outcome State Fault Refusal :=
  let n := match p with | .p0 => 0 | .p1 => 1
  done (if ((s.hport p).state == .slack || (s.hport p).state == .furled) && s.pwr.wakeCtrl.getLsbD (8 + n) then wake 3 (5 + n) s
    else s)

/-! ### Wake stages (R432, Table 16.4) -/

/-- What a stage that reports ready has brought up; a PLL that coasts locks when its coast ends (R411). -/
def stageUp (n : Nat) (s : State) : State :=
  if n = 1 ∨ n = 5 then regsGood s
  else if n = 2 then fbNowReady s
  else if n = 3 then s.modClk (fun c => { c with refOk := true, refFrom := s.ticks })
  else s.modClk (fun c => { c with lockA := c.lockA || !c.coast, lockB := c.lockB || !c.coast })

/-- PIX, ROW, ARRAY and MEM are powered off in an exit from S2 or S3: what they retained is lost, and their fault windows
(R385, R427, R432). -/
def offRows (s : State) : State :=
  let s1 := loseWindows [4, 5, 6, 7] (offArray s)
  { s1 with
    scan := {}, store := {}, engA := { health := s.engA.health }, engB := { health := s.engB.health }
    bstay := { s1.bstay with tryBuf := none, tryImg := 4, levels := romLevels }
    pwr := { s1.pwr with lostRows := true } }

/-- The domain of a stage that has failed is powered off before the next try (R432). -/
def stageDown (n : Nat) (s : State) : State :=
  match n with
  | 2 => s.modClk (fun c => { c with fbReady := false })
  | 3 => s.modClk (fun c => { c with refOk := false })
  | 4 => s.modClk (fun c => { c with lockA := false, lockB := false })
  | 5 => if vault s.pwr.pstate then s else offRows s
  | _ => s

/-- The timeout of a wake stage in ticks, for stage 4 that of one PLL (Table 16.4). -/
def stageTicks (n : Nat) : Nat :=
  match n with
  | 2 | 4 => 25000
  | 3 => 100000
  | _ => 50000

/-- The domain of the stage is off before its next try (R432). -/
def stageOff (s : State) : Bool := s.pwr.stageAt.any (fun t => decide (s.ticks < t))

/-- The timeout of the stage has gone since its try began (R432). -/
def stageDue (s : State) : Bool := s.pwr.stageAt.all (fun t => decide (t + stageTicks s.pwr.wakeStage ≤ s.ticks))

/-- WAKE_STAGE_READY: the next stage, or the end of the exit; `imgOk` says that the retention image passes its CRC-32C and
`readOk` that the running firmware could be read, at the exit from S3, S4 or S5 (R432, R434, R465). -/
def execWakeStageReady (imgOk readOk : Bool) (s : State) : Host.Outcome State Fault Refusal :=
  done (if s.pwr.wakeStage = 0 || stageOff s then s
    else
      let s1 := stageUp s.pwr.wakeStage s
      if 5 ≤ s.pwr.wakeStage then finishExit imgOk readOk s1
      else s1.modPwr (fun p => { p with wakeStage := p.wakeStage + 1, wakeTries := 0, stageAt := some s.ticks }))

/-- After a third failure the module is in S4: from S2 and S3 it enters it, from S5 the image of Keep becomes the retention
image, whose time registers are 0, and from a boot there is none (R432). -/
def fallToS4 (s : State) : State :=
  match s.pwr.pstate with
  | .s4 => sleepClocks (s.modPwr (fun p => { p with lastCause := 6 }))
  | .s5 =>
    let i := s.pwr.s5Image.map (fun i => { i with time := restoredTime true i.time })
    changeState 6 .s4 (sleepClocks (s.modPwr (fun p => { p with image := i, s5Image := none })))
  | .s0 | .s1 => (changeState 6 .s4 (enterS4 s)).modPwr (fun p => { p with image := none })
  | .s2 | .s3 => changeState 6 .s4 (enterS4 s)

/-- A stage has failed three times (R432). -/
def wakeFails (stage : Nat) (s : State) : State :=
  let s1 := ((fallToS4 s).hit 15 0x0108 16).modPwr (fun p => { p with
    wakeStage := 0, wakeTries := 0, lostRows := false, failCnt := satInc 16 p.failCnt, failStage := stage, failAttempts := 3, wakeFailOwed := true })
  raiseFault 15 3 0 true false s1

/-- A boot is under way: reset released and READY not reached (R458). -/
def booting (s : State) : Bool :=
  !s.pwr.ready && !s.pwr.porHeld && !s.pwr.bootStopped && s.pwr.saving.isNone && s.pwr.pstate == .s0

/-- WAKE_STAGE_TIMEOUT: after 100 µs with its domain off the stage is tried again, three times in all; a failure of boot
steps 1 to 4 is handled in the same way, with a stage that the spec does not name (R432, R458). A stage that reports ready in
the same evaluation has not timed out (R16). -/
def execWakeStageTimeout (s : State) : Host.Outcome State Fault Refusal :=
  done (if (s.pwr.wakeStage = 0 ∧ !booting s) ∨ (s.pwr.wakeStage ≠ 0 ∧ !stageDue s) then s
    else if s.pwr.wakeTries < 2 then (stageDown s.pwr.wakeStage s).modPwr (fun p => { p with
      wakeTries := p.wakeTries + 1, stageAt := if p.wakeStage = 0 then p.stageAt else some (s.ticks + 25000) })
    else if s.pwr.wakeStage ≠ 0 then wakeFails s.pwr.wakeStage s
    else wakeFails (1 + bits (Config.freeWord s.freeCtr) 0 2) { s with freeCtr := s.freeCtr + 1 })

end Sys2Proof.Machine
end

