-- ==== Sys2Proof/Machine/FaultCmd.lean ====
section
/-! DEFINITION. Fault windows, FAULT_INJECT, FAULT_ACK, FAULT_CONFIG, the escalation timer, the parity sweep and
the watchdogs (11_command_reference.md R333 to R335; 13_faults.md R361 to R389). -/

namespace Sys2Proof.Machine

/-! ### The reaction registers -/

/-- The reaction registers of a window: each FLT_REACT word that holds an assigned source, and FLT_ESC of ARRAY
(R333, R373), in increasing offset. -/
def reactRegs (b : Nat) : List Nat :=
  (if b = 8 then [0xFF1C] else []) ++
    ((List.range 8).filter (fun k => srcMask b (fun r => r.source / 4 == k) != 0)).map (fun k => 0xFF20 + 4 * k)

/-- A rewrite of a reaction register stores fresh parity (R374). -/
def freshParity (b off : Nat) (s : State) : State :=
  s.modWin b (fun w => { w with
    parBad := setDel w.parBad off
    parHid := setDel w.parHid off
    rewritten := if w.parErr then setIns w.rewritten off else w.rewritten })

/-- The reaction register at `off` of block `b` fails its parity check (R373): PAR_ERR, Trysail with cause 4, and a PARITY
entry, one for the register until PAR_ERR clears. -/
def parityFail (b off : Nat) (s : State) : State :=
  let w := s.win b
  let s1 := if w.parLogged.contains off then s
    else pushLog (faultRec 3 b 0 0 true false 3 0x50 0 off s) s
  reqTrysail 4 (s1.modWin b (fun w => { w with
    parErr := true, parBad := setIns w.parBad off, parHid := setDel w.parHid off, parLogged := setIns w.parLogged off
    rewritten := if w.parErr then setDel w.rewritten off else [] }))

/-- An access to the register at `off` of block `b` checks its parity, and no other's (R373). -/
def reactAccess (b off : Nat) (s : State) : State :=
  if (s.win b).parHid.contains off then parityFail b off s else s

/-- FLT_REACT of a source may not select TILE_OFF where the source carries no tile index, nor BLOCK_RESET in
BSTAY, KEEP, CLK or PWR (R365). -/
def reactOkFor (b n : Nat) (r : BitVec 8) : Bool :=
  match srcOf b n with
  | none => false
  | some x => (!r.getLsbD 5 || x.tile) && (!r.getLsbD 2 || !(b == 10 || b == 13 || b == 14 || b == 15))

/-- Stores the reactions of a source (R365): in force from its next rising setting. -/
def setReact (b n : Nat) (r : BitVec 8) (s : State) : State :=
  freshParity b (0xFF20 + 4 * (n / 4)) (s.modWin b (fun w => { w with react := spSet w.react n r }))

/-- FLT_ESC can take a value: ESC_TIME 50..100,000 and no TILE_OFF or BLOCK_RESET (R335, R371). -/
def escOk (v : Word) : Bool :=
  50 ≤ bits v 0 17 && bits v 0 17 ≤ 100000 && !bit v 29 && !bit v 26

/-- Stores FLT_ESC of ARRAY. -/
def setEsc (v : Word) (s : State) : State :=
  freshParity 8 0xFF1C (s.modWin 8 (fun w => { w with esc := v &&& 0xFF01FFFF }))

/-! ### Injection and force (R375, R377, R379) -/

/-- The sources of a block with the injection capability (R379). -/
def injMask (b : Nat) : Word := srcMask b (fun r => r.inject)

/-- The sources of a block with a force bit (R379). -/
def forceMask (b : Nat) : Word := srcMask b (fun r => r.force)

/-! ### The window's registers (Table 11.11) -/

/-- FLT_REACT word `k`: the stored reactions of sources 4k to 4k + 3 (Table 11.11). -/
def reactWord (b k : Nat) (s : State) : Word :=
  [0, 1, 2, 3].foldl (fun w j => w ||| put (8 * j) (spGet (s.win b).react (4 * k + j) (reactOf b (4 * k + j))).toNat) 0

/-- FLT_SEV0 or FLT_SEV1 (Table 11.11). -/
def sevWord (b hi : Nat) : Word :=
  (List.range 16).foldl (fun w j => w ||| put (2 * j) (sevOf b (16 * hi + j))) 0

/-- A read of the fault window of block `b` at offset `off` of the block (Table 11.11). -/
def faultRead (b off : Nat) (s : State) : Word :=
  let w := s.win b
  if off = 0xFF00 then w.status
  else if off = 0xFF04 then w.inj
  else if off = 0xFF08 then w.real
  else if off = 0xFF0C then w.first
  else if off = 0xFF10 then w.firstNs
  else if off = 0xFF14 then w.inject
  else if off = 0xFF18 then w.force
  else if off = 0xFF1C then (if b = 8 then w.esc else 0)
  else if 0xFF20 ≤ off ∧ off < 0xFF40 then reactWord b ((off - 0xFF20) / 4) s
  else if 0xFF40 ≤ off ∧ off < 0xFF80 then
    let k := (off - 0xFF40) / 4
    put 16 (spGet w.count (2 * k + 1) 0) ||| put 0 (spGet w.count (2 * k) 0)
  else if off = 0xFF80 then sevWord b 0
  else if off = 0xFF84 then sevWord b 1
  else if off = 0xFF8C then putb 1 w.escRun ||| putb 0 w.parErr
  else 0

/-- Byte `j` of a word. -/
def byteOf (w : Word) (j : Nat) : BitVec 8 := BitVec.ofNat 8 (bits w (8 * j) 8)

/-- A write of a FLT_REACT word: needs a safety session, refused whole where a byte may not be (R335, R365). -/
def writeReact (sess : Bool) (b k : Nat) (v : Word) (s : State) : State × BitVec 8 :=
  let ns := [0, 1, 2, 3].filter (fun j => (srcOf b (4 * k + j)).isSome)
  if !sess then (s, stDenied)
  else if ns.all (fun j => reactOkFor b (4 * k + j) (byteOf v j)) then
    (ns.foldl (fun s j => setReact b (4 * k + j) (byteOf v j) s) s, stOk)
  else (s, stBadParam)


/-- CLR_COUNT: the counts return to 0, and one that has counted in the same clock reads 1 (R70, Table 11.11). -/
def clrCount (b : Nat) (s : State) : State :=
  s.modWin b (fun w => { w with
    count := (w.count.filter (fun p => (w.injNow ||| w.realNow).getLsbD p.1)).map (fun p => (p.1, 1)) })

/-- A write to the fault window of block `b` with or without the rights of a safety session (Table 11.11, R335). -/
def faultWrite (sess : Bool) (b off : Nat) (v : Word) (s : State) : State × BitVec 8 :=
  if off = 0xFF00 then (clearSources b v s, stOk)
  else if off = 0xFF04 then (s.modWin b (fun w => { w with inj := w.inj &&& ~~~ (v &&& ~~~ w.injNow) }), stOk)
  else if off = 0xFF08 then (s.modWin b (fun w => { w with real := w.real &&& ~~~ (v &&& ~~~ w.realNow) }), stOk)
  else if off = 0xFF14 then
    if injOff s then (s, stBadState) else (s.modWin b (fun w => { w with inject := v &&& injMask b }), stOk)
  else if off = 0xFF18 then
    if !sess then (s, stDenied)
    else if injOff s then (s, stBadState)
    else (s.modWin b (fun w => { w with force := v &&& forceMask b }), stOk)
  else if off = 0xFF1C then
    if !sess then (s, stDenied)
    else if b ≠ 8 then (s, stOk)
    else if escOk v then (setEsc v s, stOk)
    else (s, stBadParam)
  else if 0xFF20 ≤ off ∧ off < 0xFF40 then writeReact sess b ((off - 0xFF20) / 4) v s
  else if off = 0xFF88 then
    let s1 := if bit v 0 then clrCount b s else s
    (if bit v 1 then recordFirst b s1 else s1, stOk)
  else (s, stOk)

/-! ### The commands (Table 11.9) -/

/-- FAULT_INJECT (0x80): arms, disarms, sets or clears (R375, R377, R379). -/
def opFaultInject : OpFn := fun c ws s =>
  let w := ws.getD 0 0
  let b := bits w 16 8
  let n := bits w 0 5
  let m := putb n true
  if !within w 0x00FF111F || 0x11 < b then endWith stBadParam s
  else if bit w 8 then
    if forceMask b &&& m == 0 then endWith stBadParam s
    else if !inSession c s then endWith stDenied s
    else if injOff s then endWith stBadState s
    else if blockOff b s then endWith stBlockOff s
    else endWith stOk (s.modWin b (fun x => { x with force := if bit w 12 then x.force ||| m else x.force &&& ~~~ m }))
  else if injMask b &&& m == 0 then endWith stBadParam s
  else if injOff s then endWith stBadState s
  else if blockOff b s then endWith stBlockOff s
  else endWith stOk (s.modWin b (fun x => { x with inject := if bit w 12 then x.inject ||| m else x.inject &&& ~~~ m }))

/-- FAULT_ACK (0x81): clears the named sources; the reply is FLT_STATUS after the clear (R362). -/
def opFaultAck : OpFn := fun _ ws s =>
  let w := ws.getD 0 0
  let b := bits w 16 8
  if !within w 0x00FF0000 || 0x11 < b then endWith stBadParam s
  else if blockOff b s then endWith stBlockOff s
  else
    let s1 := clearSources b (ws.getD 1 0) s
    (s1, .fin stOk [(s1.win b).status])

/-- FAULT_CONFIG (0x82): WHAT = 0 the reactions of a source, WHAT = 1 the escalation of ARRAY (R365, R371). -/
def opFaultConfig : OpFn := fun _ ws s =>
  let w := ws.getD 0 0
  let v := ws.getD 1 0
  let b := bits w 16 8
  let n := bits w 0 5
  if !within w 0x00FF011F || 0x11 < b then endWith stBadParam s
  else if bit w 8 then
    if b ≠ 8 ∨ n ≠ 0 ∨ !within v 0xFF01FFFF ∨ !escOk v then endWith stBadParam s
    else if blockOff b s then endWith stBlockOff s
    else endWith stOk (setEsc v (reactAccess 8 0xFF1C s))
  else if !within v 0xFF || !reactOkFor b n (byteOf v 0) then endWith stBadParam s
  else if blockOff b s then endWith stBlockOff s
  else endWith stOk (setReact b n (byteOf v 0) (reactAccess b (0xFF20 + 4 * (n / 4)) s))

/-- FAULT_INJECT_ARM: KIND 0 with SET = 1 (R375). -/
def execFaultInjectArm (c : CmdCtx) (ws : List Word) (s : State) : Host.Outcome State Fault Refusal :=
  done (submit opFaultInject 0x80 c (stamp 8 1 0 (stamp 12 1 1 ws)) s)

/-- FAULT_INJECT_DISARM: KIND 0 with SET = 0 (R375). -/
def execFaultInjectDisarm (c : CmdCtx) (ws : List Word) (s : State) : Host.Outcome State Fault Refusal :=
  done (submit opFaultInject 0x80 c (stamp 8 1 0 (stamp 12 1 0 ws)) s)

/-- FAULT_FORCE_SET: KIND 1 with SET = 1 (R377). -/
def execFaultForceSet (c : CmdCtx) (ws : List Word) (s : State) : Host.Outcome State Fault Refusal :=
  done (submit opFaultInject 0x80 c (stamp 8 1 1 (stamp 12 1 1 ws)) s)

/-- FAULT_FORCE_CLEAR: KIND 1 with SET = 0 (R377). -/
def execFaultForceClear (c : CmdCtx) (ws : List Word) (s : State) : Host.Outcome State Fault Refusal :=
  done (submit opFaultInject 0x80 c (stamp 8 1 1 (stamp 12 1 0 ws)) s)

/-- FAULT_ACK (R362). -/
def execFaultAck (c : CmdCtx) (ws : List Word) (s : State) : Host.Outcome State Fault Refusal :=
  done (submit opFaultAck 0x81 c ws s)

/-- FLT_STATUS_CLEAR: a write of 1 to FLT_STATUS bits (R362). -/
def execFltStatusClear (src : RegSrc) (block : Fin 18) (v : Word) (s : State) : Host.Outcome State Fault Refusal :=
  done (writeRow block src (fun s => faultWrite (srcSession src s) block 0xFF00 v s) s)

/-- FAULT_CONFIG_REACT: WHAT = 0 (R365). -/
def execFaultConfigReact (c : CmdCtx) (ws : List Word) (s : State) : Host.Outcome State Fault Refusal :=
  done (submit opFaultConfig 0x82 c (stamp 8 1 0 ws) s)

/-- FAULT_CONFIG_ESC: WHAT = 1 (R371). -/
def execFaultConfigEsc (c : CmdCtx) (ws : List Word) (s : State) : Host.Outcome State Fault Refusal :=
  done (submit opFaultConfig 0x82 c (stamp 8 1 1 ws) s)

/-- CLR_FIRST: a write of 1 to it (R334). -/
def execClrFirst (src : RegSrc) (block : Fin 18) (s : State) : Host.Outcome State Fault Refusal :=
  done (writeRow block src (fun s => faultWrite (srcSession src s) block 0xFF88 2 s) s)

/-! ### Escalation and parity -/

/-- The lowest set MAJOR or SAFETY source of ARRAY with its lowest index, in the order of R369: SAFETY before
MAJOR, then the source number. -/
def escSource (s : State) : Nat × Nat :=
  let w := s.win 8
  let cand (sev : Nat) := (List.range 32).filter (fun n => w.status.getLsbD n && sevOf 8 n == sev)
  let n := ((cand 3 ++ cand 2).head?).getD 0
  (n, lowIndex w n)

/-- ESC_TIME microseconds have gone since the escalation timer started (R371). -/
def escDue (s : State) : Bool := decide ((s.win 8).escAt + bits (s.win 8).esc 0 17 * 250 ≤ s.ticks)

/-- ESCALATION: the timer reaches ESC_TIME with a MAJOR or SAFETY source of ARRAY still set (R371, R372). -/
def execEscalation (s : State) : Host.Outcome State Fault Refusal :=
  done (
    let w := s.win 8
    if w.escRun && arrayMajor s && escDue s then
      let (n, i) := escSource s
      let r := BitVec.ofNat 8 (bits w.esc 24 8)
      let s1 := pushLog (faultRec 4 8 n i (w.real.getLsbD n) (w.inj.getLsbD n) (sevOf 8 n) r (spGet w.count n 0)
        (n * 65536 + i) s) s
      let s2 := s1.modWin 8 (fun w => { w with escRun := false, escDone := true, escHeld := r })
      onceReact 8 r s2
    else s)

/-- The sweep's check of one window (R373, R374). -/
def sweepWindow (bad : List (Fin 18 × BitVec 16)) (s : State) (b : Nat) : State :=
  let now := (reactRegs b).filter (fun off => (s.win b).parBad.contains off || (s.win b).parHid.contains off ||
    bad.any (fun p => p.1.val == b && p.2.toNat == off))
  if now ≠ [] then now.foldl (fun s off => parityFail b off s) s
  else if (s.win b).parErr && (reactRegs b).all (fun off => (s.win b).rewritten.contains off) then
    s.modWin b (fun w => { w with parErr := false, rewritten := [], parLogged := [] })
  else s

/-- The parity of a reaction register goes wrong after the sweep has passed it: its next check finds it (R373). -/
def upsetReact (s : State) (p : Fin 18 × BitVec 16) : State :=
  if (reactRegs p.1.val).contains p.2.toNat && !blockOff p.1.val s && !(s.win p.1.val).parBad.contains p.2.toNat then
    s.modWin p.1.val (fun w => { w with parHid := setIns w.parHid p.2.toNat })
  else s

/-- PARITY_SWEEP: every powered window in increasing block ID, its reaction registers in increasing offset; `bad.now` names
registers whose parity has newly failed, and `bad.later` those whose parity fails after this sweep, for an access or the next
sweep to find (R373, R374). -/
def execParitySweep (bad : ParityUpsets) (s : State) : Host.Outcome State Fault Refusal :=
  done (bad.later.foldl upsetReact (((List.range 18).filter (fun b => !blockOff b s)).foldl (sweepWindow bad.now) s))

/-! ### Watchdogs (R387, R388) -/


/-- The timeout of a watchdog in ticks (Table 13.8). -/
def wdogTicks (safety : Bool) (s : State) : Nat :=
  (if safety then bits s.rigger.wdogTo 16 16 else bits s.rigger.wdogTo 0 16) * ticksPerMs

/-- A core's watchdog. -/
def State.wdog (s : State) (safety : Bool) : Wdog := if safety then s.rigger.safeW else s.rigger.svcW

/-- The state with a core's watchdog changed. -/
def State.modWdog (s : State) (safety : Bool) (f : Wdog → Wdog) : State :=
  { s with rigger := { s.rigger with
      safeW := if safety then f s.rigger.safeW else s.rigger.safeW
      svcW := if safety then s.rigger.svcW else f s.rigger.svcW } }

/-- SVC_WDOG or SAFE_WDOG is set. -/
def wdogFault (safety : Bool) (s : State) : State := raiseFault 17 (if safety then 1 else 0) 0 true false s

/-- A write of RIGGER_WDOG_KICK (R387): good with the right key between 25 % and 100 % of the timeout. -/
def wdogKick (src : RegSrc) (v : Word) (s : State) : State × BitVec 8 :=
  let safety := bit v 31
  if (match src with | .safety => safety | .service => !safety | .port _ => false) then
    let w := s.wdog safety
    if !w.en then (s, stOk)
    else
      let key := bits v 0 16
      let right := key == (if w.second then 0xA53C else 0x5AC3)
      let dt := s.ticks - w.from_
      let good := right && wdogTicks safety s ≤ 4 * dt && dt ≤ wdogTicks safety s
      let s1 := s.modWdog safety (fun w => { w with from_ := s.ticks, second := if right then !w.second else w.second })
      (if good then s1 else wdogFault safety s1, stOk)
  else (s, stDenied)

/-- A write of RIGGER_CORE: an EN bit written 1 arms its watchdog until reset (R388). -/
def wdogArm (v : Word) (s : State) : State :=
  let arm (b : Bool) (w : Wdog) : Wdog := if b && !w.en then { en := true, second := false, from_ := s.ticks } else w
  { s with rigger := { s.rigger with safeW := arm (bit v 1) s.rigger.safeW, svcW := arm (bit v 0) s.rigger.svcW } }

/-- A write of RIGGER_WDOG_TO (R388, Table 13.8). -/
def wdogTo (v : Word) (s : State) : State × BitVec 8 :=
  let f := bits v 16 16
  let g := bits v 0 16
  if f < 1 ∨ 1000 < f ∨ g < 1 ∨ 10000 < g then (s, stBadParam)
  else if (s.rigger.safeW.en && f != bits s.rigger.wdogTo 16 16) || (s.rigger.svcW.en && g != bits s.rigger.wdogTo 0 16) then
    (s, stBadState)
  else ({ s with rigger := { s.rigger with wdogTo := v } }, stOk)

/-- WATCHDOG_KICK (R387). -/
def execWatchdogKick (src : RegSrc) (v : Word) (s : State) : Host.Outcome State Fault Refusal :=
  done (writeRow 17 src (wdogKick src v) s)

/-- WATCHDOG_ARM (R388). -/
def execWatchdogArm (src : RegSrc) (v : Word) (s : State) : Host.Outcome State Fault Refusal :=
  done (writeRow 17 src (fun s => (wdogArm v s, stOk)) s)

/-- WATCHDOG_TO_WRITE (R388). -/
def execWatchdogToWrite (src : RegSrc) (v : Word) (s : State) : Host.Outcome State Fault Refusal :=
  done (writeRow 17 src (wdogTo v) s)

/-- The timeout of an armed watchdog has gone since its last kick or its arming (R387). -/
def wdogDue (safety : Bool) (s : State) : Bool :=
  (s.wdog safety).en && decide ((s.wdog safety).from_ + wdogTicks safety s ≤ s.ticks)

/-- WATCHDOG_TIMEOUT: no kick by 100 % of the timeout; one in the same evaluation counts (R16, R387). -/
def execWatchdogTimeout (safety : Bool) (s : State) : Host.Outcome State Fault Refusal :=
  done (if wdogDue safety s && !vault s.pwr.pstate then
    wdogFault safety (s.modWdog safety (fun w => { w with from_ := s.ticks })) else s)

end Sys2Proof.Machine
end

