-- ==== Sys2Proof/Machine/Rigger.lean ====
section
/-! DEFINITION. The RIGGER window below its fault window (13_faults.md R389, Tables 13.8 and 13.9; 17_external_memory.md
Table 17.14). -/

namespace Sys2Proof.Machine

/-- A read of the RIGGER window (Tables 13.8, 13.9 and 17.14). -/
def riggerRead (off : Nat) (s : State) : Word :=
  let r := s.rigger
  let k := s.keep
  match off with
  | 0x0000 => putb 3 r.safeRun ||| putb 2 r.svcRun ||| putb 1 r.safeW.en ||| putb 0 r.svcW.en
  | 0x0004 => r.wdogTo
  | 0x0010 => put 0 r.minSev.toNat
  | 0x0014 => put 16 s.log.pinUsed ||| put 0 s.log.dropCnt
  | 0x0018 => s.log.lseq
  | 0x0100 => put 16 k.svnRun.toNat ||| putb 8 k.pref ||| put 4 k.trial ||| put 0 k.running
  | 0x0104 => k.minSvn
  | 0x0108 => k.fwVersion
  | 0x0200 => putb 24 r.postPend ||| put 0 r.lastFrame.toNat
  | 0x0204 => put 0 r.postCnt
  | _ => 0

/-- A write to the RIGGER window (R387 to R389, R463). -/
def riggerWrite (src : RegSrc) (sess : Bool) (off : Nat) (v : Word) (s : State) : State × BitVec 8 :=
  match off with
  | 0x0000 => (wdogArm v s, stOk)
  | 0x0004 => wdogTo v s
  | 0x0008 => wdogKick src v s
  | 0x0010 => logCtrlWrite sess v s
  | 0x0014 =>
    (if bit v 31 then { s with log := { s.log with dropCnt := cleared (s.wasHit 17 0x14 0) s.log.dropCnt } } else s, stOk)
  | 0x010C => fwConfirm src v s
  | _ => (s, stOk)

end Sys2Proof.Machine
end

