-- ==== Sys2Proof/Machine/Regs.lean ====
section
/-! DEFINITION. The register space: accesses by address, the CMD window, and READ_REG, WRITE_REG and MODIFY_REG
(00_scope.md R10 to R13; 10_packets_and_commands.md R317; 11_command_reference.md R327 to R329, R336). -/

namespace Sys2Proof.Machine

/-! ### The CMD window (Tables 10.10 and 10.11) -/

/-- A read of the CMD window below its fault window. -/
def cmdRead (off : Nat) (s : State) : Word :=
  let c := s.cmd
  match off with
  | 0x0000 => put 16 c.slow.length ||| putb 4 c.lockout ||| put 2 (portNo c.sessPort) ||| putb 1 c.proving ||| putb 0 c.sessOpen
  | 0x0004 => put 0 c.idle.toNat
  | 0x0008 => if c.sessOpen then put 0 c.sessId.toNat else 0
  | 0x000C => put 0 c.blockOff
  | 0x0010 => put 16 c.proveFail ||| put 0 c.evLost
  | 0x0014 => put 24 s.spi.events.q.length ||| put 16 s.h1.events.q.length ||| put 8 s.h0.events.q.length
  | 0x0018 => put 0 c.replyMax
  | _ => 0

/-- A write to the CMD window below its fault window (R317). -/
def cmdWrite (off : Nat) (v : Word) (s : State) : State × BitVec 8 :=
  match off with
  | 0x0004 =>
    if bits v 0 16 < 10 ∨ 60000 < bits v 0 16 then (s, stBadParam)
    else ({ s with cmd := { s.cmd with idle := v.setWidth 16 } }, stOk)
  | 0x001C =>
    (if bit v 31 then
      { s with cmd := { s.cmd with
          blockOff := cleared (s.wasHit 0 0x0C 0) s.cmd.blockOff, proveFail := cleared (s.wasHit 0 0x10 16) s.cmd.proveFail
          evLost := cleared (s.wasHit 0 0x10 0) s.cmd.evLost, replyMax := 0 } }
    else s, stOk)
  | _ => (s, stOk)

/-! ### The windows by block ID (R336, Table 00.5) -/

/-- A read of an engine's window below its fault window; an access to control registers checks their parity
(Table 13.11). -/
def engRead (e : Eng) (off : Nat) (s : State) : State × Word :=
  if inCmp off then let s1 := engAccess e s; (s1, cmpRead e off s1)
  else if inLp off then let s1 := engAccess e s; (s1, lpRead e off s1)
  else (s, hlthRead e off s)

/-- A write to an engine's window below its fault window. -/
def engWrite (e : Eng) (off : Nat) (v : Word) (s : State) : State × BitVec 8 :=
  if inCmp off then cmpWrite off v (engAccess e s)
  else if inLp off then lpWrite e off v (engAccess e s)
  else hlthWrite e off v s

/-- A read of the KEEP window below its fault window; the per-tile counts are read from Keep, which is a check (R539). -/
def keepAccess (off : Nat) (s : State) : State × Word :=
  if 0x100 ≤ off ∧ off < 0x500 then let s1 := (keepRead 0 s).1; (s1, keepRegRead off s1) else (s, keepRegRead off s)

/-- A read of block `b` at offset `off`; one of a reaction register checks its parity (R373). -/
def blockRead (b off : Nat) (s : State) : State × Word :=
  if 0xFF00 ≤ off then
    let s1 := reactAccess b off s
    (s1, faultRead b off s1)
  else
    match b with
    | 0 => (s, cmdRead off s)
    | 1 => (s, hlyRead .p0 off s)
    | 2 => (s, hlyRead .p1 off s)
    | 3 => timeRead off s
    | 4 => (s, storeRead off s)
    | 5 => engRead .fore off s
    | 6 => engRead .main off s
    | 7 => (s, scanRead off s)
    | 8 => arrRead off s
    | 9 => (s, diagRead off s)
    | 10 => (s, bstayRead off s)
    | 11 => crcuRead off s
    | 12 => (s, xmemRead off s)
    | 13 => keepAccess off s
    | 14 => (s, clkRead off s)
    | 15 => (s, pwrRead off s)
    | 16 => (s, thermRead off s)
    | 17 => (s, riggerRead off s)
    | _ => (s, 0)

/-- A write to block `b` at offset `off` by `src`, with the rights of a safety session or not; one to a reaction register
checks its parity (R373). -/
def blockWrite (src : RegSrc) (sess : Bool) (b off : Nat) (v : Word) (s : State) : State × BitVec 8 :=
  if 0xFF00 ≤ off then faultWrite sess b off v (reactAccess b off s)
  else
    match b with
    | 0 => cmdWrite off v s
    | 1 => hlyWrite src .p0 off v s
    | 2 => hlyWrite src .p1 off v s
    | 3 => timeWrite off v s
    | 4 => storeWrite off v s
    | 5 => engWrite .fore off v s
    | 6 => engWrite .main off v s
    | 7 => scanWrite off v s
    | 8 => arrWrite off v s
    | 9 => diagWrite sess off v s
    | 10 => bstayWrite src sess off v s
    | 11 => crcuWrite src off v s
    | 12 => xmemWrite off v s
    | 13 => keepRegWrite off v s
    | 14 => clkWrite off v s
    | 15 => pwrWrite off v s
    | 16 => thermWrite sess off v s
    | 17 => riggerWrite src sess off v s
    | _ => (s, stOk)

/-! ### One access (R328) -/

/-- The block ID of an address. -/
def addrBlock (a : Word) : Nat := bits a 16 8

/-- The offset of an address in its window. -/
def addrOff (a : Word) : Nat := bits a 0 16

/-- ADDR[31:24] and ADDR[1:0] are 0 and the block ID is assigned (R328). -/
def addrOk (a : Word) : Bool := bits a 24 8 == 0 && bits a 0 2 == 0 && addrBlock a ≤ 0x11

/-- One register read: its status and its value, 0 where it is not OK (R328). -/
def regRead (a : Word) (s : State) : State × BitVec 8 × Word :=
  if !addrOk a then (s, stBadParam, 0)
  else if blockOff (addrBlock a) s then (s, stBlockOff, 0)
  else
    let r := blockRead (addrBlock a) (addrOff a) s
    (r.1, stOk, r.2)

/-- One register write (R328, Table 10.8). -/
def regWrite (src : RegSrc) (sess : Bool) (a v : Word) (s : State) : State × BitVec 8 :=
  if !addrOk a then (s, stBadParam)
  else if blockOff (addrBlock a) s then (countOff s, stBlockOff)
  else blockWrite src sess (addrBlock a) (addrOff a) v s

/-! ### READ_REG and WRITE_REG (R327) -/

/-- Status bytes packed four to a word, the first lowest (R327). -/
def statusWords (st : List (BitVec 8)) : List Word := bytesWords st

/-- The first status that is not OK, or OK (R327). -/
def firstBad (st : List (BitVec 8)) : BitVec 8 := (st.find? (fun x => x != stOk)).getD stOk

/-- The reads of a list, in order: values and statuses. -/
def readAll (l : List Word) (s : State) : State × List Word × List (BitVec 8) :=
  l.foldl (fun acc a =>
    let (s, vs, st) := acc
    let (s1, x, v) := regRead a s
    (s1, vs ++ [v], st ++ [x])) (s, [], [])

/-- READ_REG (0x10). -/
def opReadReg : OpFn := fun _ ws s =>
  let (s1, vs, st) := readAll ws s
  (s1, .fin (firstBad st) (vs ++ statusWords st))

/-- The writes of a list, in order: statuses. -/
def writeAll (src : RegSrc) (sess : Bool) (l : List (Word × Word)) (s : State) : State × List (BitVec 8) :=
  l.foldl (fun acc p =>
    let (s, st) := acc
    let (s1, x) := regWrite src sess p.1 p.2 s
    (s1, st ++ [x])) (s, [])

/-- WRITE_REG (0x11); the rights are those of a session open on the issuing port (R328). -/
def opWriteReg : OpFn := fun c ws s =>
  let (s1, st) := writeAll (.port c.port) (sessionOn c.port s) (pairs ws) s
  (s1, .fin (firstBad st) (statusWords st))

/-! ### MODIFY_REG (R329) -/

/-- The RW1C bits of a register: a MODIFY_REG writes them 0 outside MASK (R329). -/
def rw1cBits (b off : Nat) : Word :=
  if off = 0xFF00 ∨ off = 0xFF04 ∨ off = 0xFF08 then 0xFFFFFFFF
  else
    match b with
    | 1 | 2 => if off = 0x0004 then putb 17 true ||| putb 11 true else 0
    | 3 => if off = 0x0004 then putb 10 true else 0
    | 5 | 6 => if off = 0x8004 then putb 7 true ||| putb 6 true else 0
    | 7 => if off = 0x0004 then putb 3 true else 0
    | 8 => if off < 0x4000 ∧ off % 0x40 = 4 then putb 5 true ||| putb 4 true ||| putb 2 true
        else if off = 0x4004 then putb 5 true ||| putb 4 true ||| putb 3 true else 0
    | 9 => if off = 0x0004 then putb 7 true else 0
    | 11 => if off < 0x100 ∧ off % 0x40 = 4 then putb 5 true else 0
    | 15 => if off = 0x0104 then put 4 0xF else if off = 0x0204 then putb 2 true else if off = 0x0400 then putb 1 true else 0
    | _ => 0

/-- MODIFY_REG (0x12): the register read, merged and written, and its value read back (R329). -/
def opModifyReg : OpFn := fun c ws s =>
  let a := ws.getD 0 0
  let mask := ws.getD 1 0
  let (s1, st, old) := regRead a s
  if st = stBadParam then (s1, .fin st [0, 0])
  else
    let kept := old &&& ~~~ mask &&& ~~~ rw1cBits (addrBlock a) (addrOff a)
    let (s2, st2) := regWrite (.port c.port) (sessionOn c.port s1) a (kept ||| (ws.getD 2 0 &&& mask)) s1
    let (s3, _, back) := regRead a s2
    (s3, .fin st2 [old, back])

/-- READ_REG (R327). -/
def execReadReg (c : CmdCtx) (ws : List Word) (s : State) : Host.Outcome State Fault Refusal := done (submit opReadReg 0x10 c ws s)

/-- WRITE_REG (R327). -/
def execWriteReg (c : CmdCtx) (ws : List Word) (s : State) : Host.Outcome State Fault Refusal := done (submit opWriteReg 0x11 c ws s)

/-- MODIFY_REG (R329). -/
def execModifyReg (c : CmdCtx) (ws : List Word) (s : State) : Host.Outcome State Fault Refusal := done (submit opModifyReg 0x12 c ws s)

/-! ### Direct register writes (R11) -/

/-- REGISTER_WRITE: a write to any address, stored according to its access codes (R11, R13). -/
def execRegisterWrite (src : RegSrc) (addr v : Word) (s : State) : Host.Outcome State Fault Refusal :=
  done (if srcOn src s then
      let r := regWrite src (srcSession src s) addr v (srcRead src s)
      { r.1 with lastStatus := r.2 }
    else s)

/-- THERM_REG_WRITE (R405). -/
def execThermRegWrite (src : RegSrc) (off : BitVec 16) (v : Word) (s : State) : Host.Outcome State Fault Refusal :=
  done (writeAt 16 src off (fun o s => if o < 0xFF00 then thermWrite (srcSession src s) o v s else (s, stOk)) s)

end Sys2Proof.Machine
end

