-- ==== Sys2Proof/Machine/Reset.lean ====
section
/-! DEFINITION. Resets, supervisors, the end of a save, parked modules, block resets and operating seconds
(16_power_states.md R435 to R444; 13_faults.md R366, R367, Table 13.3). -/

namespace Sys2Proof.Machine

/-! ### The reset of the module (R442, R444) -/

/-- What a reset leaves of Keep: its contents, locks and selection data; the boot reads the header again. -/
def keptKeep (k : Keep) : Keep := { bytes := k.bytes, lock := k.lock, version := k.version }

/-- What a reset leaves of external memory: its contents, and the bad-block tables in Keep. -/
def keptDev (d : MemDev) : MemDev := { bytes := d.bytes, bbt := d.bbt }

/-- What a reset leaves of PWR: supervisor and pin levels, the records and the image in Keep, and the retention RAM of the
firmware; the cause is taken and its SYSTEM entry owed (R444). -/
def keptPwr (cause : Nat) (p : Pwr) : Pwr :=
  { rstCause := BitVec.ofNat 8 cause, slots := p.slots, s5Image := p.s5Image, retFw := p.retFw, wakeLevel := p.wakeLevel
    vhuMv := p.vhuMv, diodeOpen := p.diodeOpen, ov := p.ov, low := p.low, saveLvl := p.saveLvl, regGood := p.regGood
    vregBad := p.vregBad, present := p.present, presentBlank := p.presentBlank, resetLvl := p.resetLvl, lowAt := p.lowAt
    ignore := p.ignore, porHeld := p.porHeld, wakeFailOwed := p.wakeFailOwed, saveOwed := p.saveOwed }

/-- The reset of the module with a cause of Table 16.11. That TEST_N low preceded it is kept for its SYSTEM entry, and the boot
finds out whether TEST_N is high (R519); the interface mode stands until the boot samples COMPAT (R5), but for the reset of
MODE_NATIVE (R41). -/
def resetTo (cause : Nat) (s : State) : State :=
  { State.reset with
    mode := { ifMode := if cause = 4 then .native else s.mode.ifMode, forceNative := cause == 4
              testBefore := s.mode.testHeld || s.mode.testBefore }
    bstay := { State.reset.bstay with safeNLevel := s.bstay.safeNLevel }
    pwr := keptPwr cause s.pwr
    xmem := { cs0 := keptDev s.xmem.cs0, cs1 := keptDev s.xmem.cs1 }
    keep := keptKeep s.keep
    pins := { State.reset.pins with compat := s.pins.compat, testN := s.pins.testN, tcapt := s.pins.tcapt }
    ticks := s.ticks, freeCtr := s.freeCtr, lastStatus := s.lastStatus, lastRead := s.lastRead, pending := s.pending }

/-- The module is held in reset while RESET_N is low (R442). -/
def holdReset (s : State) : State :=
  s.modPwr (fun p => { p with inReset := p.porHeld || (!p.resetLvl && !p.ignore), resetHeld := false })

/-- RESET_N_ASSERT: a low beyond the filter resets the module; during a save the reset waits for its end, and a stuck
RESET_N is ignored (R442, R443). -/
def execResetNAssert (s : State) : Host.Outcome State Fault Refusal :=
  done (let s1 := s.modPwr (fun p => { p with resetLvl := false, lowAt := if p.resetLvl then s.ticks else p.lowAt })
    if s.pwr.ignore || s.pwr.porHeld then s1
    else if s.pwr.saving.isSome then s1.modPwr (fun p => { p with resetHeld := true })
    else holdReset (resetTo 2 s1))

/-- RESET_N has been low for as long as 5 s may be by LPOSC, at least 4.85 s (R443). -/
def stuckDue (s : State) : Bool := !s.pwr.resetLvl && decide (s.pwr.lowAt + 4850 * ticksPerMs ≤ s.ticks)

/-- RESET_STUCK: RESET_N low for longer than 5 s is declared stuck, and the module boots regardless; its cause is the first
entry of the log (R443, R444). -/
def execResetStuck (s : State) : Host.Outcome State Fault Refusal :=
  done (if s.pwr.inReset && stuckDue s && !s.pwr.porHeld then
    let s1 := ((resetTo 5 s).modPwr (fun p => { p with stuck := true, ignore := true, causeOwed := false })).hit 15 0x0204 2
    raiseFault 15 5 0 true false (holdReset (systemEntry 5 s1))
  else s)

/-- RESET_N_IGNORE_END: RESET_N high for 100 ms ends the ignoring (R443). -/
def execResetNIgnoreEnd (s : State) : Host.Outcome State Fault Refusal :=
  done (if s.pwr.ignore then s.modPwr (fun p => { p with ignore := false, resetLvl := true }) else s)

/-- The log writer has written the records of the clock in which the CHIP_RESET was selected (R367). -/
def chipDue (s : State) : Bool := s.pwr.chipPend && !s.log.q.any (fun r => r.at_ ≤ s.pwr.chipAt)

/-- CHIP_RESET: the reset that a reaction selected, once the log writer has written the records of that clock (R367); a save in
progress ends first (R442). -/
def execChipReset (s : State) : Host.Outcome State Fault Refusal :=
  done (if chipDue s && s.pwr.saving.isNone then holdReset (resetTo 3 s) else s)

/-! ### Supervisors (R435, Table 16.7) -/

/-- POR_TRIP: VHU below the POR threshold holds the module in reset; a save in progress leaves its slot not valid, and the
always-on domain loses what it held (R435, R436). -/
def execPorTrip (s : State) : Host.Outcome State Fault Refusal :=
  done (let s1 := if s.pwr.saving.isSome then s.modPwr (fun p => { p with slots := p.slots.set (freeSlot s) none }) else s
    let s2 := (resetTo 1 s1).modPwr (fun p => { p with
      porHeld := true, ignore := false, regGood := false, vregBad := false, wakeFailOwed := false
      saveOwed := 0, retFw := [], ov := false })
    holdReset s2)

/-- POR_RELEASE: VHU above the rising threshold for 1 ms releases the reset (R435). -/
def execPorRelease (mv : Supply) (s : State) : Host.Outcome State Fault Refusal :=
  done (if s.pwr.porHeld then
    holdReset (s.modPwr (fun p => { takeSupply mv p with porHeld := false, low := false, saveLvl := false }))
  else s)

/-- VSUP_LOW: the supervisor reports (R435). -/
def execVsupLow (mv : Supply) (s : State) : Host.Outcome State Fault Refusal :=
  done (if s.pwr.porHeld then s
    else ownCheck 15 0 0 (s.modPwr (fun p => { takeSupply mv p with low := true, ov := false })))

/-- VSUP_LOW_CLEAR: VHU is back through 3.00 V: the level clears (R435). -/
def execVsupLowClear (mv : Supply) (s : State) : Host.Outcome State Fault Refusal :=
  done (if s.pwr.porHeld then s
    else s.modPwr (fun p => { takeSupply mv p with low := false, saveLvl := false, ov := p.ov && 3700 ≤ mv.vhu }))

/-- VSUP_OV: the supervisor reports (R435). -/
def execVsupOv (mv : Supply) (s : State) : Host.Outcome State Fault Refusal :=
  done (if s.pwr.porHeld then s
    else ownCheck 15 1 0 (s.modPwr (fun p => { takeSupply mv p with ov := true, low := false, saveLvl := false })))

/-- VREG_FAIL: an internal regulator of a powered domain is out of regulation (R435). -/
def execVregFail (index : Fin 16) (s : State) : Host.Outcome State Fault Refusal :=
  done (if s.pwr.porHeld then s
    else ownCheck 15 2 index.val (s.modPwr (fun p => { p with regGood := false, vregBad := true })))

/-! ### The end of a save (R436, Table 16.8) -/

/-- The module parks in S5 (R436): every domain but the always-on one goes off, and the retention RAM. -/
def park (cause : Nat) (s : State) : State :=
  let s1 := goDeep s
  changeState 7 .s5 (offClk ((sleepClocks (offAll s1)).modPwr (fun p => { p with
    saving := none, saveFlags := 0, parked := some cause, image := none, retFw := [], restoring := false })))

/-- SAVE_COMPLETE: the record is written and read back after `us` microseconds with VHU at `mv`; a read-back that fails
raises SAVE_FAIL. The module parks; a TEST_N low and a reset that fell during the save follow (R436, R442, R519). -/
def execSaveComplete (mv us : Nat) (good : Bool) (s : State) : Host.Outcome State Fault Refusal :=
  done (match s.pwr.saving with
    | none => s
    | some cause =>
      let bad := fails 15 4 (!good) s
      let s1 := check 15 4 0 (!good) s
      let s2 := putRecord (saveRecord cause s.pwr.saveFlags s1) (!bad) (if bad then crcFail 3 s1 else s1)
      let s3 := s2.modPwr (fun p => { p with
        saveCnt := satInc 16 p.saveCnt, lastUs := min us 255, vhuEnd := min mv 8191, vhuMv := min mv 8191
        saveOwed := 7 + cause + if bad then 256 * 11 else 0 })
      let s4 := park cause (queueMirror (writeHeader s3))
      let s5 := if s.pins.testN then s4 else holdTest s4
      if s.pwr.resetHeld then holdReset (resetTo 2 s5) else s5)

/-! ### Parked modules (R439) -/

/-- PARKED_WAKE: VSUP or PRESENT_N is back: the module resumes from the S5 image where one is valid, and otherwise boots
with the save record (R439). A module parked by a command has no return to wait for. -/
def execParkedWake (s : State) : Host.Outcome State Fault Refusal :=
  done (if s.pwr.pstate = .s5 ∧ s.pwr.inReset = false ∧ s.pwr.wakeStage = 0 then
    match s.pwr.parked with
    | some 1 =>
      let s1 := s.modPwr (fun p => { p with low := false, saveLvl := false, lastSrc := 7 })
      if s.pwr.s5Image.isSome then startExit 4 7 .s0 s1 else endExit (backToBoot false 4 s1)
    | some 2 =>
      let s1 := s.modPwr (fun p => { p with present := true, lastSrc := 8 })
      if s.pwr.s5Image.isSome then startExit 5 8 .s0 s1 else endExit (backToBoot false 5 s1)
    | _ => s
  else s)

/-! ### Operating seconds (R440) -/

/-- OPSEC_TICK: a second with VSUP present, written to Keep every 256 s with the mirror (R440, R474). -/
def execOpsecTick (s : State) : Host.Outcome State Fault Refusal :=
  done (if s.pwr.porHeld then s
    else
      let s1 := s.modPwr (fun p => { p with opsec := p.opsec + 1 })
      if s1.pwr.opsec.toNat % 256 = 0 then queueMirror (writeHeader s1) else s1)

/-! ### Block resets (R366, Table 13.3) -/

/-- CMD: sessions end, pending slow-path commands complete with TIMEOUT. The CAUSE of that EV_SESSION_END is not stated. -/
def resetCmd (s : State) : State :=
  let s1 := if s.cmd.sessOpen then endSession (bits (Config.freeWord s.freeCtr) 0 4) { s with freeCtr := s.freeCtr + 1 } else s
  let s2 := s1.cmd.slow.foldl (fun s x => if x.finished then s else finishSlow x.port x.tag x.opcode stTimeout [] s) s1
  { s2 with cmd := { slow := s2.cmd.slow, lostNow := s2.cmd.lostNow } }

/-- The buffers that a port was still sending are no longer sent (R168). -/
def dropLayers (p : HPort) (s : State) : State :=
  (s.hport p).layers.foldl (fun s k => endSending (bits k.hw1 24 8) s) s

/-- A Halyard port: DETECT with its registers at their reset values, owed replies and write-back data discarded; a port that is
OFF stays there, and in S2 and S3 the beacon stays suppressed. The configured role, which FORWARD_CFG and CONFIG set, and the
event queue stay. DESIGN CHOICE (log entry 176): a buffer whose words go is no longer being sent. -/
def resetPort (p : HPort) (s : State) : State :=
  let h := s.hport p
  let s1 := dropLayers p (quit p s)
  let s2 := s1.modPort p (fun g => { cfgRole := g.cfgRole, events := g.events, expect := g.expect, ownSeq := g.ownSeq
                                     rstSent := g.rstSent, pdNext := g.pdNext, upOwed := g.upOwed, roleChange := g.roleChange
                                     beaconOff := deep s.pwr.pstate })
  if h.state == .off then s2 else enterDetect p s2

/-- ARRAY: registers and latches at their reset values, every ON at 0; the causes of a safe state that other blocks hold
stay. -/
def resetArray (s : State) : State :=
  { s with arr := { tiles := s.arr.tiles.map (fun t =>
      { tileOff := t.tileOff, shutdown := t.shutdown, swFail := t.swFail, swStuck := t.swStuck, tileBad := t.tileBad }) } }

/-- DIAG: registers at their reset values, but for SW_FAIL, SW_STUCK, TILE_BAD and SUSPECT_RUN, which clear only under R219;
the dead map is memory and stays. -/
def resetDiag (s : State) : State :=
  { s with diag := { deadMap := s.diag.deadMap, tiles := s.diag.tiles.map (fun t => { suspectRun := t.suspectRun }) } }

/-- XMEM: registers at their reset values; work in progress waits again. DESIGN CHOICE (log entry 198): what the probe found of
the devices and the directory are no registers of the reset kind and stay, so that memory goes on serving; of the directory the
VERIFIED bits go. -/
def resetXmem (s : State) : State :=
  s.modXmem (fun x => { x with
    scrubH := 24, scrubPass := 0, refreshCnt := 0, eraseSusp := false, partialPage := [], manUsed := 0, mseq := 0
    recValid := 0, logLseq := 0, scrubAt := none, dir := x.dir.map (fun e => { e with verified := false })
    queue := x.busy.toList ++ x.suspended.toList ++ x.queue, busy := none, suspended := none })

/-- RIGGER: only the core that the source concerns restarts from the boot ROM: its watchdog is off, and a post it had begun
is gone. DESIGN CHOICE (log entry 199): the SRAM reads that raise CORE_UNCORR and CORE_CORR are the service core's. -/
def resetCores (s : State) : State :=
  let w := s.win 17
  let hit (n : Nat) : Bool := w.status.getLsbD n && (spGet w.held n 0).getLsbD 2
  let s1 := if hit 1 then
      { s with rigger := { s.rigger with safeW := {}, postPend := false }, bstay := { s.bstay with verdFw := [0, 0, 0], verdPosted := false } }
    else s
  if hit 0 || hit 2 || hit 3 then { s1 with rigger := { s1.rigger with svcW := {} } } else s1

/-- An engine: step 1 of Table 06.4; one that is not FAILED keeps its role and its health record. -/
def resetEngine (e : Eng) (s : State) : State :=
  let s1 := if (s.eng e).health.role = .failed then s.modHealth e (fun h => { h with step := 1 }) else s
  if (s.eng e).health.role = .failed ∧ s.pwr.pstate = .s0 then engineResetDone e true s1
  else s.modEng e (fun x => { health := { x.health with resetErr := false } })

/-- THERM: registers at their reset values, so that no level is set and no tile is off for one (R397). -/
def resetTherm (s : State) : State :=
  { s with therm := {}, arr := { s.arr with tiles := s.arr.tiles.map (fun x => { x with shutdown := false }) } }

/-- STORE: registers at their reset values, every buffer FREE, so that no layer shows one (R173). -/
def resetStore (s : State) : State :=
  let unshow (c : Comp) : Comp := { c with layers := c.layers.map (fun l => { l with actBuf := none }) }
  { s with store := {}, engA := { s.engA with comp := unshow s.engA.comp }, engB := { s.engB with comp := unshow s.engB.comp } }

/-- The registers of a block return to their reset values (R366). -/
def resetBlock (b : Nat) (s : State) : State :=
  match b with
  | 0 => resetCmd s
  | 1 => resetPort .p0 s
  | 2 => resetPort .p1 s
  | 3 => { s with time := {} }
  | 4 => resetStore s
  | 5 => resetEngine .fore s
  | 6 => resetEngine .main s
  | 7 => { s with scan := {} }
  | 8 => resetArray s
  | 9 => resetDiag s
  | 11 => { s with crcu := {} }
  | 12 => resetXmem s
  | 16 => resetTherm s
  | 17 => resetCores s
  | _ => s

/-- BLOCK_RESET_DONE: a block reset that runs ends; the fault window is kept (R366). -/
def execBlockResetDone (b : Fin 18) (s : State) : Host.Outcome State Fault Refusal :=
  done (if (s.win b.val).resetting then (resetBlock b.val s).modWin b.val (fun w => { w with resetting := false }) else s)

end Sys2Proof.Machine
end

