-- ==== Sys2Proof/Machine/Boot.lean ====
section
/-! DEFINITION. Boot, from power-on or reset to READY, in the steps of Table 17.7 (17_external_memory.md R449 to R463,
R474; 16_power_states.md R438, R441, R444; 03 R98; 07 R222, R223; 20 R519). -/

namespace Sys2Proof.Machine

/-! ### Step 2: the Keep header and the resume record (R438, R474) -/

/-- Header copy 0 or 1 as it stands in Keep. -/
def copyBytes (one : Bool) (s : State) : List Byte := keepBytes (if one then 0x80 else 0) 128 s

/-- KSEQ of a header copy. -/
def copySeq (one : Bool) (s : State) : Nat := keepNat (if one then 0x84 else 4) 4 s

/-- The valid header copy with the higher KSEQ, of two copies that are valid or not (R474). -/
def currentCopy (v0 v1 : Bool) (s : State) : Option Bool :=
  if v0 && v1 then some (seqAbove (copySeq true s) (copySeq false s))
  else if v0 then some false
  else if v1 then some true
  else none

/-- A header copy fails by its CRC alone (R474, R489). -/
def headerCrcBad (bs : List Byte) : Bool := bytesNat (bs.take 4) == 0x484B5053 && !headerValid bs

/-- The Keep header is read; an uncorrectable word takes the copy that would be current. Where no copy is valid,
KEEP_HDR_BAD is raised (R474, R477, R489). -/
def readHeader (ecc : Nat) (s : State) : State :=
  let count (s : State) (one : Bool) : State := if headerCrcBad (copyBytes one s) then crcFail 3 s else s
  let (s1, bad) := keepRead ecc (count (count s false) true)
  let c0 := headerValid (copyBytes false s1)
  let c1 := headerValid (copyBytes true s1)
  let hit := if bad then currentCopy c0 c1 s1 else none
  let v0 := c0 && hit != some false
  let v1 := c1 && hit != some true
  let s2 := s1.modKeep (fun k => { k with
    hdrValid := (if v0 then 1 else 0) ||| (if v1 then 2 else 0), hdrOne := v1 && !v0 })
  match currentCopy v0 v1 s2 with
  | some one => (takeHeader (copyBytes one s2) s2).modKeep (fun k => { k with hdrOne := one })
  | none => raiseFault 13 2 0 true false s2

/-- The record to resume from: the newest valid one, where it is not CONSUMED (R438). -/
def resumeRecord (s : State) : Option (Nat × SaveRec) :=
  match newestSave s with
  | some (k, r) => if r.flags.getLsbD 7 then none else some (k, r)
  | none => none

/-- SYSTEM entries of the save that the record came from, where PWR does not hold them itself (R444). -/
def saveEntry (r : SaveRec) (s : State) : State :=
  if s.pwr.saveOwed = 0 ∧ 1 ≤ r.cause ∧ r.cause ≤ 3 then s.modPwr (fun p => { p with saveOwed := 7 + r.cause }) else s

/-- The record's roles, ATTEMPTS, beam state with its latches, operating point and seconds are restored, CONSUMED is set,
and RESUME_SAVE is entered (R438). -/
def takeResume (k : Nat) (r : SaveRec) (s : State) : State :=
  let h (e : Engine) (ro : Role) (n : Nat) : Engine := { e with health := { e.health with role := ro, attempts := n } }
  let s1 := { s with engA := h s.engA r.roleA r.attA, engB := h s.engB r.roleB r.attB }
  let s2 := s1.modBstay (fun b => { b with
    beam := if r.beam = .normal then b.beam else r.beam, arb := { b.arb with ownerMain := r.roleB == .active }
    tryCause := if r.beam = .normal then b.tryCause else r.tryCause
    tryPend := if r.beam = .normal then b.tryPend else r.tryPend
    safeNLatch := if r.beam = .normal then b.safeNLatch else r.safeNLatch })
  let s3 := s2.modPwr (fun p => { p with
    opsec := r.opsec, slots := p.slots.set k (some { r with flags := r.flags ||| 0x80 }) })
  saveEntry r (systemEntry 7 s3)

/-- An operating point that is in effect at once: that of CONFIG, and over it the one of the resume record (R419, R438). -/
def takeOp (op : BitVec 2) (s : State) : State :=
  noteLoad (s.modClk (fun c => { c with opAct := op, opTgt := op, vpix := vpixOf op.toNat }))

/-! ### Step 3: the strap (R5, R41, R519) -/

/-- The interface mode: native after MODE_NATIVE, else as COMPAT says (R5, R41). -/
def takeStrap (compat : Bool) (s : State) : State :=
  { s with
    mode := { s.mode with ifMode := if s.mode.forceNative || compat then .native else .compat, forceNative := false }
    pins := { s.pins with compat := compat } }

/-! ### Step 5: devices and manifest (R449, R451, R460, R470) -/

/-- What the probe of a chip select found (R449), in at most 4 GiB (R448); the bus is at the 1-1-1 and 25 MHz of discovery. -/
def probeDev (p : Option Probe) (d : MemDev) : MemDev :=
  match p with
  | none => keptDev d
  | some p =>
    if 1 ≤ p.dtype ∧ p.dtype ≤ 4 then
      let d1 : MemDev := { keptDev d with
        dtype := p.dtype, suspend := p.suspend, eraseLog2 := p.eraseLog2 % 32, pageLog2 := p.pageLog2 % 32
        capLog2 := min 32 p.capLog2 }
      { d1 with spare := poolBlocks d1 - d.bbt.length }
    else keptDev d

/-- Factory markers go into an empty bad-block table (R470). -/
def scanMarkers (cs1 : Bool) (bad : List Nat) (s : State) : State :=
  if (s.mdev cs1).bbt = [] then bad.foldl (fun s b => (mapSpare cs1 b s).1) s else s

/-- CS0, then CS1, are probed (R449). -/
def probeAll (b : BootEnv) (s : State) : State :=
  let s1 := (s.modDev false (probeDev b.probe0)).modDev true (probeDev b.probe1)
  scanMarkers true b.factory1 (scanMarkers false b.factory0 s1)

/-- A device has the bus mode and clock that BUS names; a code without a meaning it lacks (Tables 17.1 and 17.2). -/
def busOk (d : MemDev) (bus : Nat) : Bool :=
  let m := bus % 16
  let c := bus / 16
  match d.dtype with
  | 1 => m == 0 && c ≤ 2
  | 2 => m == 1 && c ≤ 2
  | 3 => m == 2 && c ≤ 3
  | 4 => (m == 0 || m == 3) && c ≤ 2
  | _ => false

/-- The step-up of a chip select; a header that reads differently raises STEP_FAIL and leaves 1-1-1 at 25 MHz (R460). -/
def stepUpBus (cs1 : Bool) (same : Bool) (s : State) : State :=
  if s.xmem.manUsed = 0 ∨ !devOn cs1 s then s
  else
    let a := if s.xmem.manUsed = 2 then backupAt else 0
    let bus := devNat false (a + if cs1 then 13 else 12) 1 s
    if same && busOk (s.mdev cs1) bus then s.modDev cs1 (fun d => { d with mode := bus % 16, clk := bus / 16 })
    else raiseFault 12 7 0 true false s

/-- Header and per-tile counts come from the KEEP_MIRROR record where it carries this module's serial (R474); the seconds of
a resume record stand, and the operating point of the header is the mirrored one. -/
def restoreMirror (s : State) : State :=
  if s.keep.hdrValid ≠ 0 then s
  else
    match findRecord (recId 0x70) s with
    | none => s
    | some r =>
      let bs := recPayload r s
      if (bs.drop 1152).take 16 = serial then
        let s1 := keepStore 0x100 ((bs.drop 128).take 1024) (takeHeader (bs.take 128) s)
        let s2 := s1.modPwr (fun p => { p with opsec := if s.pwr.opsec = 0 then p.opsec else s.pwr.opsec })
        writeHeaderOp ((bs.getD 15 0).toNat % 4) (s2.modKeep (fun k => { k with mirrorRestored := true }))
      else s

/-! ### Step 6: firmware (R462, R463) -/

/-- The number of a firmware slot in INDEX. -/
def slotNo (slotB : Bool) : Nat := if slotB then 1 else 0

/-- The image of a slot runs, and its digest is kept for the exits from S4 and S5 (Table 17.14, R465). -/
def runSlot (slotB : Bool) (s : State) : State :=
  match findRecord (fwId slotB) s with
  | some r =>
    let s1 := s.modKeep (fun k => { k with
      running := 1 + slotNo slotB, svnRun := BitVec.ofNat 32 (imageSvn r s)
      fwVersion := BitVec.ofNat 32 (bytesNat (payload r.1 r.2 4 4 s)) })
    { s1 with rigger := { s1.rigger with digest := imageDigest r s } }
  | none => s

/-- The state of a trial at boot (R463). -/
def takeTrial (s : State) : State :=
  if s.keep.trial = 1 then writeHeader (s.modKeep (fun k => { k with trial := 2 }))
  else if s.keep.trial = 2 then
    writeHeader (raiseFault 12 3 0 true false (s.modKeep (fun k => { k with pref := !k.pref, trial := 0 })))
  else s

/-- A slot that fails raises FW_BAD (R462), and counts at the checker where the CRC of its record does not match (R489). -/
def slotFails (slotB : Bool) (s : State) : State :=
  raiseFault 12 2 (slotNo slotB) true false
    (match dirFind (fwId slotB) s with
     | some e => if crcBad e s then crcFail 3 s else s
     | none => s)

/-- The preferred slot, then the other, then the base firmware (R462, R463). -/
def selectFirmware (s : State) : State :=
  let s1 := takeTrial (s.modKeep (fun k => { k with running := 0, svnRun := 0, fwVersion := 0 }))
  let first := s1.keep.pref
  if slotPasses first s1 then runSlot first s1
  else
    let s2 := slotFails first s1
    if slotPasses (!first) s2 then runSlot (!first) s2 else slotFails (!first) s2

/-! ### Step 7: CONFIG and the records (R454 to R459) -/

/-- CONFIG_BAD with the item number (R456). -/
def configBad (n : Nat) (s : State) : State := raiseFault 12 6 n true false s

/-- A CEILING item: its parts become targets at once and the profile is valid (R233, Table 17.6). -/
def configCeiling (ws : List Word) (s : State) : State :=
  if ws.length = ceilingLen ws ∧ ceilingOk ws then
    let (c, z) := ceilingParts ws
    s.modBstay (fun b => { b with
      ceilTgt := spPutAll 0 b.ceilTgt c, zlimTgt := spPutAll 0 b.zlimTgt z, ceilValid := true })
  else s

/-- An item of CONFIG (Table 17.6). -/
def configItem (n tag : Nat) (ws : List Word) (s : State) : State :=
  let v := ws.getD 0 0
  match tag with
  | 1 => s.modBstay (fun b => { b with cls := classOf (bits v 0 2), clsConfig := classOf (bits v 0 2) })
  | 2 =>
    match bits v 0 2 with
    | 0 => s.modPort .p1 (fun h => { h with cfgRole := .off })
    | 1 => s.modPort .p1 (fun h => { h with cfgRole := .headEnd })
    | 2 => s.modPort .p1 (fun h => { h with cfgRole := .leader })
    | _ => s
  | 3 => takeOp (BitVec.ofNat 2 (bits v 0 2)) s
  | 4 =>
    let (s1, st) := writeAll .service true (pairs ws) s
    if st.all (fun x => x == stOk) then s1 else configBad n s1
  | 5 => configCeiling ws s
  | _ => configBad n s

/-- The items of CONFIG in order, with the number of the first; an item that runs past the end stops the application
(R456). -/
def configItems : Nat → Nat → List Word → State → State
  | 0, _, _, s => s
  | _, _, [], s => s
  | fuel + 1, n, w :: rest, s =>
    let len := bits w 0 16
    if rest.length < len then configBad n s
    else configItems fuel (n + 1) (rest.drop len) (configItem n (bits w 24 8) (rest.take len) s)

/-- CONFIG is applied (R456). -/
def applyConfig (s : State) : State :=
  let id := recId 0x40
  let (s1, r) := readRecord 12 1 id id false false s
  match r with
  | none => setRecValid 10 false s1
  | some r =>
    let ws := bytesWords (recPayload r s1)
    setRecValid 10 true (configItems (ws.length + 1) 0 ws s1)


/-- The Trysail records are checked, and the image that TRY_MAP, which CONFIG has set, names for the class in force is loaded
(R245). -/
def bootTrysail (s : State) : State :=
  let s0 := s.modBstay (fun b => { b with tryMapAct := b.tryMap })
  let s1 := [0, 1, 2, 3].foldl (fun s k =>
    let (s1, r) := checkTry k false s
    setRecValid (5 + k) r.isSome s1) s0
  let s2 := loadTry s1
  match s2.xmem.queue.find? (fun k => match k with | .trysail _ => true | _ => false) with
  | some (.trysail i) =>
    endTryLoad i false (s2.modXmem (fun x => { x with queue := dropFirst (fun k => k == .trysail i) x.queue }))
  | _ => s2

/-- REC_VALID of the records that boot does not load into a block (Table 17.12), with the check of the regions among them
(R453). -/
def bootRecords (s : State) : State :=
  let s1 := [(0, 0x01), (1, 0x02), (9, 0x30), (11, 0x50), (12, 0x60), (13, 0x70)].foldl
    (fun s p => setRecValid p.1 (findRecord (recId p.2) s).isSome s) s
  (s1.xmem.dir.filter checkedRegion).foldl checkRegion s1

/-- A record that the boot read whole and that passed is VERIFIED (R457). -/
def bootVerified (s : State) : State :=
  recordBits.foldl (fun s p => if s.xmem.recValid.getLsbD p.1 then setVerified (recId p.2) true s else s) s

/-- The pixels of a resume record are added to the dead map, and MAP_DIRTY is set (R438). -/
def resumePixels (l : List (Nat × BitVec 2)) (s : State) : State :=
  let s1 := s.modDiag (fun d => { d with deadMap := l.foldl (fun m p => spSet m p.1 p.2) d.deadMap })
  dirtyMap (s1.modXmem (fun x => { x with declared := x.declared ++ l }))

/-- The records of step 7 and its first thermal scan (Table 17.7). -/
def bootLoads (scan : List (SensorId × Option Int × Nat)) (s : State) : State :=
  let s1 := reloadRecord 1 false (applyConfig s)
  let s2 := bootTrysail (reloadRecord 0 false (reloadRecord 2 false s1))
  let s3 := bootVerified (bootRecords (loadDeadmap (loadSymbols s2)))
  scan.foldl (fun s p => takeSensor p.1 p.2.1 p.2.2 s) s3

/-! ### Step 8: the array self-test (R98, R223) -/

/-- The rail of tile `t` in a self-test stroke is at or above V_OFF; a tile that is not listed has its rail off. -/
def railHigh (rails : List (Fin 256 × Nat)) (t : Nat) (s : State) : Bool :=
  (rails.find? (fun p => p.1.val == t)).any (fun p => vOff s ≤ p.2)

/-- VLED is measured at slot 511 of self-test stroke `k`, counted from 0 (R89). -/
def testVled (e : SelfTestEnv) (k : Nat) (s : State) : State :=
  let v := e.vled.getD k (e.vled.getLast?.getD (0, 0))
  measureVled v.1 v.2 s

/-- Strokes 1 and 2 and the stroke of the retests, where there is one: the stuck check of every tile, the switch test of every
tile, which counts as not in its safe state, and the retests (R214, R223). Answers the strokes that have gone. -/
def testSwitches (e : SelfTestEnv) (s : State) : State × Nat :=
  let s1 := testVled e 0 s
  let s2 := testVled e 1 (allTiles.foldl (fun s t => stuckOutcome t (railHigh e.stuck t s) s) s1)
  let s3 := allTiles.foldl (fun s t => switchOutcome t (railHigh e.test t s) s) s2
  match allTiles.filter (fun t => (s3.dtile t).retest) with
  | [] => (s3, 2)
  | l => (l.foldl (fun s t => switchOutcome t (railHigh e.retest t s) s) (testVled e 2 s3), 3)

/-- The pixels whose results the self-test can change: those whose sample in some stroke is not that of an intact pixel, and
those that DIAG holds something of. The results of every other pixel are those of an intact one and change nothing. -/
def testPixels (e : SelfTestEnv) (s : State) : List Nat :=
  setUnion (setUnion [] (e.nodes.flatten.map NodeSample.pixel))
    (s.diag.cand.map (·.1) ++ s.diag.deadMap.map (·.1) ++ s.diag.healOne)

/-- The capture code of a pixel in a self-test stroke, a dark probe (phase 0) or a phase of the bridge check: by its sample, or
that of an intact pixel, PASS where it is probed and NODE where it is not (R216, Table 07.1). -/
def testCode (phase : Nat) (nodes : List NodeSample) (k : Nat) (s : State) : BitVec 2 :=
  match nodes.find? (fun n => n.pixel == k) with
  | some n => if nodeHigh n.mv s then 3 else if n.probeLost then 2 else 1
  | none => if phase = 0 ∨ bridgeProbed phase k then 1 else 3

/-- One of strokes 3 to 8, after `k` others: VLED is measured, the stroke is captured, and its sweep is classified without step
2 of Table 07.4 (R217, R223). The tiles found suspect so far go with the state. -/
def testStroke (e : SelfTestEnv) (k : Nat) (px : List Nat) (r : State × List Nat) (n : Nat) : State × List Nat :=
  let phase := if n < 2 then 0 else if n % 2 = 0 then 1 else 2
  let s1 := testVled e (k + n) r.1
  let s2 := s1.modDiag (fun d => { d with
    capture := px.map (fun k => (k, testCode phase (e.nodes.getD n []) k s1)), captVledOk := s1.arr.vledOk
    captPhase := phase, captLast := n == 5, captWasFold := false
    tiles := d.tiles.map (fun t => { t with exclCapt := false, starved := false }) })
  let s3 := bridgeDone (if classifyOn s2 then classify s2 else s2)
  (s3, setUnion r.2 (allTiles.filter (fun t => (s3.dtile t).suspect)))

/-- The self-test, with the DIAG_CTRL that CONFIG has written in effect, and ON = 1 for every tile that passes: without SW_FAIL,
SW_STUCK or TILE_BAD, and never suspect (R98, R223, R227). -/
def selfTest (b : BootEnv) (s : State) : State :=
  let (s0, k) := testSwitches b.tests (s.modDiag (fun d => { d with ctrlAct := d.ctrl }))
  let (s1, suspects) := (List.range 6).foldl (testStroke b.tests k (testPixels b.tests s0)) (s0, [])
  let bad (t : Nat) : Bool := (s1.tile t).swFail || (s1.tile t).swStuck || (s1.tile t).tileBad || suspects.contains t
  (s1.modArr (fun a => { a with tiles := ((List.range 256).zip a.tiles).map (fun p => { p.2 with on := !bad p.1 }) })).modPwr
    (fun p => { p with tested := true })

/-! ### Steps 9 and 10 -/

/-- EV_READY (Table 11.10). -/
def readyEvent (s : State) : State :=
  queueEvent 0x0003 0 [putb 8 (s.keep.running == 2) ||| putb 4 (s.xmem.manUsed != 0)
    ||| putb 3 (s.therm.ntc.last.isSome && !s.therm.ntc.broken) ||| putb 2 ((s.buf symbolsBuf).state == .complete)
    ||| putb 1 s.bstay.tryBuf.isSome ||| putb 0 s.store.calValid] s

/-- PRESENT_N removed once READY is reached: save, park and REMOVED (R436, R441). -/
def saveRemoved (s : State) : State :=
  let s1 := beginSave 2 s
  if s.pwr.saving.isNone && s1.pwr.saving.isSome then raiseFault 15 6 0 true false s1 else s1

/-- READY (R441, R458, R505): the S2 of MODE BLANK in compatibility mode; the save of an absent module. -/
def reachReady (present : Bool) (s : State) : State :=
  let s1 := s.modPwr (fun p => { p with ready := true, bootFrom4 := false, parked := none, present := present, s5Image := none })
  let s2 := readyEvent (startEngines s1)
  let s3 := if s2.mode.ifMode = .compat then enterState 1 .s2 s2 else s2
  if present then s3 else saveRemoved s3

/-! ### The boot (Table 17.7) -/

/-- What the resume record adds once CONFIG has been applied: its pixels, and its operating point, which plain compatibility mode
leaves at the CONFIG value (R424, R438). -/
def takeRecord (r : Option SaveRec) (s : State) : State :=
  match r with
  | some r => resumePixels r.pixels (if s.mode.ifMode = .compat then s else takeOp r.op s)
  | none => s

/-- Steps 4 to 10, with the resume record's operating point and pixels. -/
def bootFrom4 (b : BootEnv) (r : Option SaveRec) (s : State) : State :=
  let s1 := katRun 0 ((fbNowReady s).modClk (fun c => { c with
    refOk := true, refFrom := s.ticks, lockA := c.lockA || !c.coast, lockB := c.lockB || !c.coast }))
  let s2 := stepUpBus true b.step1 (stepUpBus false b.step0 (readManifest (probeAll b (regsGood s1))))
  let s4 := takeRecord r (bootLoads b.scan (selectFirmware (restoreMirror s2)))
  let s6 := flushOwed (s4.modXmem (fun x => { x with logLseq := lastFlushed s4 }))
  let s7 := selfTest b s6
  let s8 := { s7 with rigger := { s7.rigger with safeRun := true, svcRun := true } }
  reachReady b.present (bootPort .p1 (bootPort .p0 (setReq (vadjMax s8) s8)))

/-- The SYSTEM entries of a boot: the reset cause first, then TEST_N, then those owed (R444, R519). -/
def bootEntries (s : State) : State :=
  let s1 := if s.pwr.causeOwed then systemEntry s.pwr.rstCause.toNat s else s
  let s2 := if s.mode.testBefore then systemEntry 0x0C s1 else s1
  { s2.modPwr (fun p => { p with causeOwed := false }) with mode := { s2.mode with testBefore := false } }

/-- TEST_N low at step 3 stops the boot, with the beam Dark (R519). -/
def stopAtTest (s : State) : State :=
  { reqDark s with
    mode := { s.mode with testHeld := true }
    pins := { s.pins with testN := false }
    pwr := { s.pwr with bootStopped := true } }

/-- Without a resume record the beam state starts Normal (R438), but for what has forced it or been latched since the reset. -/
def startNormal (s : State) : State :=
  if s.bstay.safeNLatch then s
  else force (s.modBstay (fun b => { b with beam := .normal, tryPend := false, tryCause := 0 }))

/-- A boot from step 1 (R458). A TEST_N low that has been acted on since the reset stops it too (R519). -/
def bootAll (b : BootEnv) (s : State) : State :=
  let s1 := takeStrap b.compat (readHeader b.keepEcc s)
  if !b.testN || s.mode.testHeld then stopAtTest s1
  else
    let s2 := bootEntries { s1 with pins := { s1.pins with testN := true } }
    match resumeRecord s2 with
    | some (k, r) => bootFrom4 b (some r) (writeOwed (takeResume k r s2))
    | none => bootFrom4 b none (writeOwed (startNormal s2))

/-- BOOT: the boot sequence, from power-on, a reset or a failed wake to READY (R458). -/
def execBoot (b : BootEnv) (s : State) : Host.Outcome State Fault Refusal :=
  done (if booting s then
    let s1 := s.modPwr (fun p => { p with inReset := false, resetLvl := p.resetLvl || !p.ignore })
    if s1.pwr.bootFrom4 && !s1.mode.testHeld then bootFrom4 b none (writeOwed s1) else bootAll b s1
  else s)

end Sys2Proof.Machine
end

