-- ==== Sys2Proof/Machine/Cmac.lean ====
section
/-! DEFINITION. The response check of a safety session: AES-128 and its CMAC (R307). The spec names the function and does
not repeat it, so it is taken from its public definitions, FIPS 197 and RFC 4493 (PRESUMED, assumption 50). -/

namespace Sys2Proof.Machine

/-- The substitution table of AES. -/
def aesSbox : List Byte :=
  [0x63, 0x7C, 0x77, 0x7B, 0xF2, 0x6B, 0x6F, 0xC5, 0x30, 0x01, 0x67, 0x2B, 0xFE, 0xD7, 0xAB, 0x76] ++
  [0xCA, 0x82, 0xC9, 0x7D, 0xFA, 0x59, 0x47, 0xF0, 0xAD, 0xD4, 0xA2, 0xAF, 0x9C, 0xA4, 0x72, 0xC0] ++
  [0xB7, 0xFD, 0x93, 0x26, 0x36, 0x3F, 0xF7, 0xCC, 0x34, 0xA5, 0xE5, 0xF1, 0x71, 0xD8, 0x31, 0x15] ++
  [0x04, 0xC7, 0x23, 0xC3, 0x18, 0x96, 0x05, 0x9A, 0x07, 0x12, 0x80, 0xE2, 0xEB, 0x27, 0xB2, 0x75] ++
  [0x09, 0x83, 0x2C, 0x1A, 0x1B, 0x6E, 0x5A, 0xA0, 0x52, 0x3B, 0xD6, 0xB3, 0x29, 0xE3, 0x2F, 0x84] ++
  [0x53, 0xD1, 0x00, 0xED, 0x20, 0xFC, 0xB1, 0x5B, 0x6A, 0xCB, 0xBE, 0x39, 0x4A, 0x4C, 0x58, 0xCF] ++
  [0xD0, 0xEF, 0xAA, 0xFB, 0x43, 0x4D, 0x33, 0x85, 0x45, 0xF9, 0x02, 0x7F, 0x50, 0x3C, 0x9F, 0xA8] ++
  [0x51, 0xA3, 0x40, 0x8F, 0x92, 0x9D, 0x38, 0xF5, 0xBC, 0xB6, 0xDA, 0x21, 0x10, 0xFF, 0xF3, 0xD2] ++
  [0xCD, 0x0C, 0x13, 0xEC, 0x5F, 0x97, 0x44, 0x17, 0xC4, 0xA7, 0x7E, 0x3D, 0x64, 0x5D, 0x19, 0x73] ++
  [0x60, 0x81, 0x4F, 0xDC, 0x22, 0x2A, 0x90, 0x88, 0x46, 0xEE, 0xB8, 0x14, 0xDE, 0x5E, 0x0B, 0xDB] ++
  [0xE0, 0x32, 0x3A, 0x0A, 0x49, 0x06, 0x24, 0x5C, 0xC2, 0xD3, 0xAC, 0x62, 0x91, 0x95, 0xE4, 0x79] ++
  [0xE7, 0xC8, 0x37, 0x6D, 0x8D, 0xD5, 0x4E, 0xA9, 0x6C, 0x56, 0xF4, 0xEA, 0x65, 0x7A, 0xAE, 0x08] ++
  [0xBA, 0x78, 0x25, 0x2E, 0x1C, 0xA6, 0xB4, 0xC6, 0xE8, 0xDD, 0x74, 0x1F, 0x4B, 0xBD, 0x8B, 0x8A] ++
  [0x70, 0x3E, 0xB5, 0x66, 0x48, 0x03, 0xF6, 0x0E, 0x61, 0x35, 0x57, 0xB9, 0x86, 0xC1, 0x1D, 0x9E] ++
  [0xE1, 0xF8, 0x98, 0x11, 0x69, 0xD9, 0x8E, 0x94, 0x9B, 0x1E, 0x87, 0xE9, 0xCE, 0x55, 0x28, 0xDF] ++
  [0x8C, 0xA1, 0x89, 0x0D, 0xBF, 0xE6, 0x42, 0x68, 0x41, 0x99, 0x2D, 0x0F, 0xB0, 0x54, 0xBB, 0x16]

/-- One byte through the substitution table. -/
def aesSub (b : Byte) : Byte := aesSbox.getD b.toNat 0

/-- Multiplication by x in the field of AES. -/
def aesX (b : Byte) : Byte := (b <<< 1) ^^^ (if b.getLsbD 7 then 0x1B else 0)

/-- Bytewise exclusive or of two blocks. -/
def xorBytes (a b : List Byte) : List Byte := List.zipWith (· ^^^ ·) a b

/-- The next round key from the last one and the round constant. -/
def aesNextKey (rc : Byte) (k : List Byte) : List Byte :=
  let t := [aesSub (k.getD 13 0) ^^^ rc, aesSub (k.getD 14 0), aesSub (k.getD 15 0), aesSub (k.getD 12 0)]
  let w0 := xorBytes (k.take 4) t
  let w1 := xorBytes ((k.drop 4).take 4) w0
  let w2 := xorBytes ((k.drop 8).take 4) w1
  let w3 := xorBytes ((k.drop 12).take 4) w2
  w0 ++ w1 ++ w2 ++ w3

/-- The rows of a block shifted, by columns of four bytes. -/
def aesShift (b : List Byte) : List Byte :=
  [0, 5, 10, 15, 4, 9, 14, 3, 8, 13, 2, 7, 12, 1, 6, 11].map (fun i => b.getD i 0)

/-- One column mixed. -/
def aesMixCol (a b c d : Byte) : List Byte :=
  [aesX a ^^^ aesX b ^^^ b ^^^ c ^^^ d, a ^^^ aesX b ^^^ aesX c ^^^ c ^^^ d,
   a ^^^ b ^^^ aesX c ^^^ aesX d ^^^ d, aesX a ^^^ a ^^^ b ^^^ c ^^^ aesX d]

/-- The columns of a block mixed. -/
def aesMix (b : List Byte) : List Byte :=
  [0, 4, 8, 12].flatMap (fun i => aesMixCol (b.getD i 0) (b.getD (i + 1) 0) (b.getD (i + 2) 0) (b.getD (i + 3) 0))

/-- The rounds of AES-128 with their constants; the last one mixes no columns. -/
def aesRounds : List Byte → List Byte → List Byte → List Byte
  | [], _, b => b
  | rc :: rest, k, b =>
    let k1 := aesNextKey rc k
    let t := aesShift (b.map aesSub)
    aesRounds rest k1 (xorBytes (if rest.isEmpty then t else aesMix t) k1)

/-- AES-128 of a 16-byte block. -/
def aes128 (k b : List Byte) : List Byte :=
  aesRounds [0x01, 0x02, 0x04, 0x08, 0x10, 0x20, 0x40, 0x80, 0x1B, 0x36] k (xorBytes b k)

/-- A block doubled, most significant byte first: the subkeys of CMAC. -/
def cmacDouble (b : List Byte) : List Byte :=
  let s := (List.range 16).map (fun i => (b.getD i 0 <<< 1) ||| (if (b.getD (i + 1) 0).getLsbD 7 && i != 15 then 1 else 0))
  if (b.getD 0 0).getLsbD 7 then xorBytes s (List.replicate 15 0 ++ [0x87]) else s

/-- The last block of CMAC with its subkey: complete, or padded. -/
def cmacLast (k1 m : List Byte) : List Byte :=
  if m.length = 16 then xorBytes m k1
  else xorBytes (m ++ [0x80] ++ List.replicate (15 - m.length) 0) (cmacDouble k1)

/-- The chaining of CMAC over a message, block by block. -/
def cmacChain (k k1 : List Byte) : Nat → List Byte → List Byte → List Byte
  | 0, x, _ => x
  | n + 1, x, m =>
    if m.length ≤ 16 then aes128 k (xorBytes x (cmacLast k1 m))
    else cmacChain k k1 n (aes128 k (xorBytes x (m.take 16))) (m.drop 16)

/-- AES-128-CMAC of a message under a key of 16 bytes (R307). -/
def aesCmac (k m : List Byte) : List Byte :=
  let zero := List.replicate 16 (0 : Byte)
  cmacChain k (cmacDouble (aes128 k zero)) (m.length / 16 + 1) zero m

end Sys2Proof.Machine
end

