-- ==== Sys2Proof/Machine/Flags.lean ====
section
/-! DEFINITION. The status flags of the whole module: what GET_STATUS reports of modes, power, beam, engines and fault
windows (Tables 01.6 and 11.3). The block has no arithmetic flags. -/

namespace Sys2Proof.Machine

/-- Injection is on: some FLT_INJECT or FLT_FORCE bit is set (Table 01.6). -/
def injectionOn (s : State) : Bool := s.flt.any (fun w => w.inject != 0 || w.force != 0)

/-- Word 0 of GET_STATUS (Table 11.3). -/
def statusWord0 (s : State) : Word :=
  put 30 (modeNo s.mode.ifMode) ||| put 24 (pstateNo s.pwr.pstate) ||| put 20 (beamNo s.bstay.beam) ||| put 16 (estate s) |||
    put 12 (classNo s.bstay.cls) ||| putb 8 s.scan.gaplessAct ||| putb 7 (injectionOn s) ||| putb 6 s.time.selAct |||
    put 4 (proleNo s.h1.role) ||| putb 0 s.pwr.ready

/-- Word 3 of GET_STATUS: bit b while FLT_STATUS of block b is not zero (Table 11.3). -/
def statusFaults (s : State) : Word := (List.range 18).foldl (fun w b => w ||| putb b ((s.win b).status != 0)) 0

end Sys2Proof.Machine
end

