-- ==== Sys2Proof/Machine/Commands.lean ====
section
/-! DEFINITION. The command engine: link, session and mode commands, the execution of every opcode, the receipt of commands
and the slow path (10_packets_and_commands.md R298 to R308; 11_command_reference.md Table 11.2; 09_halyard_link.md R282). -/

namespace Sys2Proof.Machine

/-! ### PING, GET_STATUS and GET_EVENT (Tables 11.2 and 11.3) -/

/-- PING (0x00): the parameter words unchanged. -/
def opPing : OpFn := fun _ ws s => (s, .fin stOk ws)

/-- GET_STATUS (0x01). -/
def opGetStatus : OpFn := fun _ _ s =>
  (s, .fin stOk [statusWord0 s, put 0 s.scan.frameCnt.toNat, s.scan.strokeCnt, statusFaults s])

/-- The event queue of a command port (R312). -/
def evQueue (p : CmdPort) (s : State) : EvQueue :=
  match p with
  | .h0 => s.h0.events
  | .h1 => s.h1.events
  | .spi => s.spi.events

/-- The state with the event queue of a command port changed. -/
def setEvQueue (p : CmdPort) (q : EvQueue) (s : State) : State :=
  match p with
  | .h0 => { s with h0 := { s.h0 with events := q } }
  | .h1 => { s with h1 := { s.h1 with events := q } }
  | .spi => { s with spi := { s.spi with events := q } }

/-- GET_EVENT (0x02): the oldest event of the issuing port leaves its queue (R300, R312). -/
def opGetEvent : OpFn := fun c _ s =>
  match (evQueue c.port s).q with
  | [] => (s, .fin stOk [])
  | e :: rest =>
    let lost := (evQueue c.port s).lost
    (releaseSlow c.port e (setEvQueue c.port { q := rest, lost := false } s),
      .fin stOk ((eventPacket e lost).hw1 :: putb 0 lost :: e.words))

/-! ### Sessions (R306 to R308) -/

/-- The 16 bytes of a challenge, the low byte first. -/
def challengeBytes (c : BitVec 128) : List Byte := (List.range 16).map (fun i => (c >>> (8 * i)).setWidth 8)

/-- A new attempt: a session ID and a challenge are drawn, and a session of the port ends (R306). -/
def startAttempt (p : CmdPort) (s : State) : State :=
  let (n, s1) := (endSession 4 s).draw
  { s1 with cmd := { s1.cmd with
      proving := true, sessPort := p, sessId := BitVec.ofNat 16 ((Config.sessionDraw n).val + 1)
      challenge := Config.challenge n, openedAt := s.ticks } }

/-- SESSION_OPEN (0x03): BAD_STATE in S2 and S3 (R314), BUSY while another port has a session or an attempt, DENIED during a
lockout (R306). -/
def opSessionOpen : OpFn := fun c _ s =>
  if deep s.pwr.pstate then endWith stBadState s
  else if (s.cmd.sessOpen || s.cmd.proving) && s.cmd.sessPort != c.port then endWith stBusy s
  else if s.cmd.lockout then endWith stDenied s
  else
    let s1 := startAttempt c.port s
    (s1, .fin stOk (put 0 s1.cmd.sessId.toNat :: bytesWords (challengeBytes s1.cmd.challenge)))

/-- The message of a proof: the challenge, the ID and the port number (R307). -/
def proofMessage (s : State) : List Byte :=
  challengeBytes s.cmd.challenge ++ natBytes 2 s.cmd.sessId.toNat ++ natBytes 1 (portNo s.cmd.sessPort)

/-- The response matches, comes in 1.0 s, and the key block is locked (R307, R473). -/
def proofGood (ws : List Word) (s : State) : Bool :=
  s.keep.lock.getLsbD 0 && decide (s.ticks - s.cmd.openedAt ≤ 250000000) &&
    wordsBytes ws == aesCmac (keepBytes 0x800 16 s) (proofMessage s)

/-- A failed attempt ends; the fourth in a row starts a lockout (R307). -/
def proofFailed (s : State) : State :=
  let n := s.cmd.fails + 1
  let s1 := raiseFault 0 0 0 true false { s.hit 0 0x10 16 with cmd := { s.cmd with
    proving := false, sessId := 0, proveFail := satInc 16 s.cmd.proveFail, fails := n } }
  if n < 4 then s1
  else raiseFault 0 1 0 true false { s1 with cmd := { s1.cmd with lockout := true, lockAt := s.ticks, fails := 0 } }

/-- SESSION_PROVE (0x04): a matching response opens the session; an attempt that has ended meanwhile is DENIED (R307). The key
is read from Keep, which is a check (R539; log entry 203). -/
def opSessionProve : OpFn := fun c ws s =>
  if !s.cmd.proving || s.cmd.sessPort != c.port || c.session != s.cmd.sessId then endWith stDenied s
  else
    let s1 := (keepRead c.keepEcc s).1
    if proofGood ws s1 then
      endWith stOk { s1 with cmd := { s1.cmd with proving := false, sessOpen := true, sessAt := s.ticks, fails := 0 } }
    else endWith stDenied (proofFailed s1)

/-- MODE_NATIVE (0x05): in extended compatibility mode the reset of R41 follows the reply; no effect in native mode. -/
def opModeNative : OpFn := fun _ _ s =>
  endWith stOk (if s.mode.ifMode = .compatExt then { s with mode := { s.mode with forceNative := true } } else s)

/-- The H1 role of a code of FORWARD_CFG (Table 11.9). -/
def fwdRole : Nat → PRole
  | 0 => .off | 1 => .headEnd | _ => .leader

/-- The H1 role last asked for: one that waits for its reply, or the configured one. -/
def roleAsked (s : State) : PRole := (s.h1.roleChange.map (·.2)).getD s.h1.cfgRole

/-- FORWARD_CFG (0xA0): refused to a follower and in the compatibility modes for a role other than OFF (R28, R34); H1 moves
once the reply is sent (R282). -/
def opForwardCfg : OpFn := fun c ws s =>
  let w := ws.getD 0 0
  let r := fwdRole (bits w 0 2)
  if !within w 3 || bits w 0 2 == 3 then endWith stBadParam s
  else if (s.compat || s.h0.role == .follower) && r != .off then endWith stBadState s
  else if r = roleAsked s then endWith stOk s
  else endWith stOk (s.modPort .p1 (fun h => { h with roleChange := some (c.port, r) }))

/-! ### The execution of an opcode (step 9 of Table 10.7) -/

/-- Opcodes 0x00 to 0x3F. -/
def opExecLow : Nat → OpFn
  | 0x00 => opPing
  | 0x01 => opGetStatus
  | 0x02 => opGetEvent
  | 0x03 => opSessionOpen
  | 0x04 => opSessionProve
  | 0x05 => opModeNative
  | 0x10 => opReadReg
  | 0x11 => opWriteReg
  | 0x12 => opModifyReg
  | 0x20 => opLayerDefine
  | 0x21 => opLayerLoad
  | 0x22 => opLayerArm
  | 0x23 => opFlip
  | 0x24 => opFenceSignal
  | 0x25 => opSpritePlace
  | 0x26 => opWriteback
  | 0x30 => opSetLight
  | 0x31 => opSetClass
  | 0x32 => opSetCeiling
  | 0x33 => opSetAim
  | 0x34 => opSteerInput
  | 0x35 => opGapless
  | _ => fun _ _ s => endWith stBadOpcode s

/-- The execution of an assigned opcode (Tables 11.2 to 11.9). -/
def opExec : Nat → OpFn
  | 0x40 => opDiagRun
  | 0x41 => opDiagMapRead
  | 0x50 => opTimeSet
  | 0x51 => opTimeAdjust
  | 0x52 => opPulseSet
  | 0x53 => opFlipAt
  | 0x60 => opPowerState
  | 0x61 => opDvfsSet
  | 0x70 => opMemRead
  | 0x71 => opMemWrite
  | 0x72 => opMemErase
  | 0x73 => opFwUpdate
  | 0x80 => opFaultInject
  | 0x81 => opFaultAck
  | 0x82 => opFaultConfig
  | 0x90 => opEngineSwitch
  | 0x91 => opEngineHealth
  | 0xA0 => opForwardCfg
  | n => opExecLow n

/-- The context of a CMD packet from its headers (Tables 10.1, 10.3 and 10.4); the words of Keep that it reads are good. -/
def packetCtx (p : CmdPort) (k : Packet) : CmdCtx :=
  ⟨p, k.ch, k.hw1.extractLsb' 16 8, k.hw1.extractLsb' 0 16, k.flags.getLsbD 6, 0⟩

/-- A CMD packet that passed its trailer: a gap is answered with SEQ_GAP, any other goes through steps 3 to 9 of
Table 10.7 (R298). -/
def command (p : CmdPort) (k : Packet) (s : State) : State :=
  let c := packetCtx p k
  let code := bits k.hw1 24 8
  if k.gap then (if reachable p s then reply c code stSeqGap [] s else s)
  else submit (opExec code) code c k.payload s

/-- CMD_RECEIVE: the oldest CMD packet of a Halyard port (R298, R299, R301). -/
def execCmdReceive (p : HPort) (s : State) : Host.Outcome State Fault Refusal :=
  done (match takeRx p (fun k => k.ptype == .cmd) s with
  | none => s
  | some (k, s1) => command (cmdPort p) k s1)

/-- SLOW_PATH_EXECUTE: the Rigger service core runs: it reads its SRAM, submits firmware records, and begins the oldest pending
slow-path command, once every earlier one has completed (R299, R300, R380, Table 13.11). -/
def execSlowPathExecute (run : CoreRun) (s : State) : Host.Outcome State Fault Refusal :=
  done (if vault s.pwr.pstate || s.pwr.inReset then s
  else
    let s1 := run.entries.foldl firmwareEntry (coreRead run.ecc s)
    match s.cmd.slow.find? (fun x => !x.finished) with
    | none => s1
    | some x =>
      if x.started then s1
      else afterReplies .spi (afterReplies .h1 (afterReplies .h0 (runSlow run.keepEcc (opExec x.opcode.toNat) x s1))))

/-- CMD_SESS_CFG.IDLE milliseconds have gone since the last command that bore the session's ID (R308). -/
def sessionIdle (s : State) : Bool := s.cmd.sessOpen && decide (s.cmd.sessAt + s.cmd.idle.toNat * ticksPerMs ≤ s.ticks)

/-- SESSION_IDLE_TIMEOUT: the session ends; a command that bears its ID in the same evaluation counts (R16, R308). -/
def execSessionIdleTimeout (s : State) : Host.Outcome State Fault Refusal :=
  done (if sessionIdle s then endSession 1 s else s)

/-- SESSION_LOCKOUT_END: 10 s after its start (R307). -/
def execSessionLockoutEnd (s : State) : Host.Outcome State Fault Refusal :=
  done (if s.cmd.lockAt + 10000 * ticksPerMs ≤ s.ticks then { s with cmd := { s.cmd with lockout := false } } else s)

/-- PING (Table 11.2). -/
def execPing (c : CmdCtx) (ws : List Word) (s : State) : Host.Outcome State Fault Refusal := done (submit opPing 0x00 c ws s)

/-- GET_STATUS (Table 11.3). -/
def execGetStatus (c : CmdCtx) (ws : List Word) (s : State) : Host.Outcome State Fault Refusal := done (submit opGetStatus 0x01 c ws s)

/-- GET_EVENT (R312). -/
def execGetEvent (c : CmdCtx) (ws : List Word) (s : State) : Host.Outcome State Fault Refusal := done (submit opGetEvent 0x02 c ws s)

/-- SESSION_OPEN (R306). -/
def execSessionOpen (c : CmdCtx) (ws : List Word) (s : State) : Host.Outcome State Fault Refusal := done (submit opSessionOpen 0x03 c ws s)

/-- SESSION_PROVE (R307). -/
def execSessionProve (c : CmdCtx) (ws : List Word) (s : State) : Host.Outcome State Fault Refusal := done (submit opSessionProve 0x04 c ws s)

/-- MODE_NATIVE (R40, R41); its reset comes once the tunnel has carried its reply (R512). -/
def execModeNative (c : CmdCtx) (ws : List Word) (s : State) : Host.Outcome State Fault Refusal := done (submit opModeNative 0x05 c ws s)

/-- FORWARD_CFG (R26, R28, R282). -/
def execForwardCfg (c : CmdCtx) (ws : List Word) (s : State) : Host.Outcome State Fault Refusal := done (submit opForwardCfg 0xA0 c ws s)

end Sys2Proof.Machine
end

