-- ==== Sys2Proof/Machine/Legacy.lean ====
section
/-! DEFINITION. The control SPI port: legacy frames and the legacy registers, the unlock of extended compatibility, and the
tunnel of native packets (19_legacy_mode.md R491 to R497, R502 to R512). -/

namespace Sys2Proof.Machine

/-! ### The legacy registers (Tables 19.2 to 19.4) -/

/-- The assigned addresses (R494). -/
def legacyAssigned (a : Nat) : Bool := a ≤ 0x1E || (0x20 ≤ a && a ≤ 0x5F) || a == 0x7F

/-- A temperature in 1/16 °C as the legacy registers show it, with the offset of 64 °C (Table 19.2). -/
def legacyTemp (v : Int) : Nat := (max 0 (min 255 (v / 16 + 64))).toNat

/-- STATUS, address 0x03 (Table 19.2). -/
def legacyStatus (s : State) : Word :=
  putb 7 s.bstay.ceilValid ||| putb 6 (s.mode.ifMode == .compatExt) ||| putb 5 (decide (2 ≤ estate s)) |||
    putb 4 (s.bstay.beam != .normal) ||| putb 3 s.legacy.rx.vidLock ||| put 1 (pstateNo s.pwr.pstate % 4) ||| putb 0 s.pwr.ready

/-- The bits of FAULT that a read returns and clears: those not set in the clock of the read (R503). -/
def faultShown (s : State) : BitVec 14 := s.legacy.fault &&& ~~~ s.base.fault

/-- What a read returns and clears of a counter: not the increments made in its own clock (R503). -/
def countShown (made now : Nat) : Nat := now - made

/-- The bits of TFLTn that a read returns and clears: not those set in the clock of the read (R503). -/
def tfltShown (n : Nat) (s : State) : BitVec 16 := s.legacy.tflt.getD n 0 &&& ~~~ s.base.tflt.getD n 0

/-- The value of a legacy register; a value read before anything is cleared (R493, R503, Tables 19.2 and 19.3). -/
def legacyReg (a : Nat) (s : State) : Nat :=
  let l := s.legacy
  if a = 0x00 then 0x1A10
  else if a = 0x01 then l.mode.toNat
  else if a = 0x02 then l.range.toNat * 16384 + l.c.toNat * 256 + l.gtrim.toNat
  else if a = 0x03 then (legacyStatus s).toNat
  else if a = 0x04 then (faultShown s).toNat
  else if a = 0x05 then l.faultMask.toNat
  else if a = 0x06 then legacyTemp s.therm.ntc.used * 256 + legacyTemp (tjMax s).1
  else if a = 0x07 then s.arr.vled
  else if a = 0x08 then l.frames.toNat
  else if a = 0x09 then countShown s.base.verr l.verr
  else if a = 0x0A then countShown s.base.vdrop l.vdrop
  else if a = 0x0B then
    let p := (s.eng (composer s)).lp
    (100 * p.rGlobAct / 65536) * 256 + 100 * p.bAct / 65536
  else if a = 0x0C then l.budget.toNat
  else if a = 0x1E then 0x5024
  else if 0x20 ≤ a ∧ a < 0x40 then (l.tcur.getD (a - 0x20) 0).toNat
  else if 0x40 ≤ a ∧ a < 0x60 then (tfltShown (a - 0x40) s).toNat
  else if a = 0x7F ∧ s.mode.ifMode = .compatExt then 0xA5A5
  else 0

/-- The sources of a block mapped to the FAULT bits of a mask; PIX_DEAD is mapped to OPEN and SHORT (R502, R503). -/
def ackMask (b : Nat) (m : BitVec 14) : Word :=
  srcMask b (fun r => match legacyBit b r.source with
    | some k => m.getLsbD k
    | none => b == 9 && r.source == 0 && m &&& 3 != 0)

/-- The read of FAULT clears the bits returned and acknowledges the sources mapped to them (R503). -/
def clearFault (s : State) : State :=
  let m := faultShown s
  let s1 := s.modLegacy (fun l => { l with fault := l.fault &&& ~~~ m })
  (List.range 18).foldl (fun s b => clearSources b (ackMask b m) s) s1

/-- The registers that a read clears, FAULT apart (R503). -/
def clearsOnRead (a : Nat) : Bool := a == 0x09 || a == 0x0A || (0x40 ≤ a && a < 0x60)

/-- What a read clears (R503). -/
def legacyClear (a : Nat) (s : State) : State :=
  if a = 0x04 then clearFault s
  else s.modLegacy (fun l => { l with
    verr := if a = 0x09 then l.verr - countShown s.base.verr l.verr else l.verr
    vdrop := if a = 0x0A then l.vdrop - countShown s.base.vdrop l.vdrop else l.vdrop
    tflt := if 0x40 ≤ a ∧ a < 0x60 then modAt l.tflt (a - 0x40) (fun r => r &&& ~~~ tfltShown (a - 0x40) s) else l.tflt })

/-! ### Legacy writes (R494 to R496, R505, R508) -/

/-- TTRIM of a TCUR code other than 0 (R496). -/
def tcurTrim (code : Nat) : Nat := 64 * code

/-- A legacy write reaches TILE_CTRL of tile `t`: its parity is checked, and fresh parity stored (R495, R496, R539). -/
def legacyTile (t : Nat) (f : Tile → Tile) (s : State) : State :=
  (tileParity t s).modTile t (fun x => { f x with parityBad := false })

/-- A write of GCUR: refused where a tile would fail R83, or while ARRAY is off (R495). -/
def gcurWrite (v : Nat) (s : State) : State × Bool :=
  let range := v / 16384 % 4
  let g := v % 256
  if blockOff 8 s || !s.arr.tiles.all (fun x => currentAllowed range g x.ttrim.toNat) then (s, false)
  else
    let s1 := allTiles.foldl (fun s t => legacyTile t (fun x => { x with range := BitVec.ofNat 2 range }) s) s
    let s2 := s1.modArr (fun a => { a with gtrim := BitVec.ofNat 8 g })
    (s2.modLegacy (fun l => { l with
      range := BitVec.ofNat 2 range, c := BitVec.ofNat 6 (v / 256), gtrim := BitVec.ofNat 8 g }), true)

/-- TCUR code of tile `8n + k` in a register value. -/
def tcurCode (v k : Nat) : Nat := v / 2 ^ (2 * k) % 4

/-- A write of TCURn: refused whole where one of its tiles would fail R83, or while ARRAY is off (R496). -/
def tcurWrite (n v : Nat) (s : State) : State × Bool :=
  let ok := (List.range 8).all (fun k =>
    tcurCode v k == 0 || currentAllowed s.legacy.range.toNat s.legacy.gtrim.toNat (tcurTrim (tcurCode v k)))
  if blockOff 8 s || !ok then (s, false)
  else
    let s1 := (List.range 8).foldl (fun s k =>
      let c := tcurCode v k
      legacyTile (8 * n + k) (fun x => { x with
        on := c != 0, ttrim := if c = 0 then x.ttrim else BitVec.ofNat 8 (tcurTrim c) }) s) s
    (s1.modLegacy (fun l => { l with tcur := l.tcur.set n (BitVec.ofNat 16 v) }), true)

/-- A write of MODE acts as POWER_STATE S0, S1 or S2 with cause 1; 3 is refused (R505). -/
def modeWrite (v : Nat) (s : State) : State × Bool :=
  if v % 4 = 3 then (s, false)
  else
    let (s1, st) := askState .spi (pstateOf (v % 4)) s
    if st = stOk then (s1.modLegacy (fun l => { l with mode := BitVec.ofNat 2 v }), true) else (s, false)

/-- A write of KEY: 0xA5A5 right after 0x5A5A unlocks extended compatibility (R40, R508). -/
def keyWrite (v : Nat) (half : Bool) (s : State) : State :=
  if v = 0xA5A5 ∧ half = true ∧ s.mode.ifMode = .compat then { s with mode := { s.mode with ifMode := .compatExt } }
  else s.modLegacy (fun l => { l with keyHalf := v == 0x5A5A })

/-- A write to an assigned legacy register, and whether it is taken (R494); `half`: the valid frame before wrote 0x5A5A to
KEY. -/
def legacyWrite (a v : Nat) (half : Bool) (s : State) : State × Bool :=
  if a = 0x01 then modeWrite v s
  else if a = 0x02 then gcurWrite v s
  else if a = 0x05 then (s.modLegacy (fun l => { l with faultMask := BitVec.ofNat 14 v }), true)
  else if a = 0x0C then
    if v % 1024 < 10 ∨ 800 < v % 1024 then (s, false)
    else (setBudget (10 * (v % 1024)) (s.modLegacy (fun l => { l with budget := BitVec.ofNat 10 v })), true)
  else if 0x20 ≤ a ∧ a < 0x40 then tcurWrite (a - 0x20) v s
  else if a = 0x7F then (keyWrite v half s, true)
  else (s, true)

/-! ### Legacy frames (R491 to R494) -/

/-- A reply word (Table 19.1). -/
def legacyReply (err : Bool) (a data : Nat) : Word := withCrc8 (putb 31 err ||| put 24 (a % 128) ||| put 8 (data % 65536))

/-- A valid frame is executed; its reply word goes out in the next frame (R493, R494). -/
def runFrame (w : Word) (s0 : State) : State × Word :=
  let a := bits w 24 7
  let half := s0.legacy.keyHalf
  let s := s0.modLegacy (fun l => { l with keyHalf := false })
  if !legacyAssigned a then (s, legacyReply true a 2)
  else if bit w 31 then
    match legacyWrite a (bits w 8 16) half s with
    | (s1, true) => (s1, legacyReply false a (legacyReg a s1))
    | (s1, false) => (legacyFault 8 s1, legacyReply true a 3)
  else (legacyClear a s, legacyReply false a (legacyReg a s))

/-- The address of an invalid frame, of which fewer than 8 bits may have come: what is missing is not stated (R493). -/
def badFrameAddr (edges : Nat) (w : Word) (s : State) : State × Nat :=
  if 8 ≤ edges then (s, bits w 24 7)
  else
    let (n, s1) := s.draw
    (s1, bits (Config.freeWord n) 0 7)

/-- A legacy frame with its number of edges (R492, R493); `early` where it begins less than 1.0 us after the previous
one. -/
def legacyPeriod (edges : Nat) (w : Word) (early : Bool) (s : State) : State :=
  let s0 := s.modLegacy (fun l => { l with sent := if early then 0 else l.reply })
  if edges = 32 ∧ crc8Ok w = true then
    let r := runFrame w s0
    r.1.modLegacy (fun l => { l with reply := r.2 })
  else
    let s1 := if edges = 32 then crcFail 0 s0 else s0
    let r := badFrameAddr edges w s1
    (legacyFault 7 r.1).modLegacy (fun l => { l with keyHalf := false, reply := legacyReply true r.2 1 })

/-! ### The tunnel (R33, R509 to R512) -/

/-- The word before a tunnelled packet of `len` words (R509, R510). -/
def tunnelHeader (len : Nat) : Word := withCrc8 (put 24 0xFE ||| put 8 len)

/-- The next word of the outgoing tunnel stream: 0 where no reply is queued (R510). -/
def nextOut (s : State) : State × Word :=
  match s.spi.out with
  | w :: rest => ({ s with spi := { s.spi with out := rest } }, w)
  | [] =>
    match s.spi.replies with
    | [] => (s, 0)
    | k :: rest =>
      let (k1, own, sent) := number k s.spi.ownSeq s.spi.rstSent
      let b := bodyWords k1
      ({ s with spi := { s.spi with replies := rest, out := b, ownSeq := own, rstSent := sent } }, tunnelHeader b.length)

/-- `n` words of the outgoing tunnel stream are clocked out. -/
def clockOut : Nat → State → State × List Word
  | 0, s => (s, [])
  | n + 1, s =>
    let r := nextOut s
    let q := clockOut n r.1
    (q.1, r.2 :: q.2)

/-- A packet from the tunnel (R290, R293, R316, R509): a CMD on channels 0 to 12, checked as on a link. -/
def tunnelPacket (b : List Word) (s : State) : State :=
  let h0 := b.getD 0 0
  let ch := bits h0 24 4
  if trailerOf (b.take (b.length - 1)) != b.getD (b.length - 1) 0 then crcFail 2 s
  else if ptypeOf (bits h0 28 4) != some .cmd || !channelOk .cmd ch then s
  else
    let k : Packet := { ptype := .cmd, ch := BitVec.ofNat 4 ch, flags := BitVec.ofNat 8 (bits h0 16 8)
                        seq := h0.setWidth 16, hw1 := b.getD 1 0, payload := (b.drop 2).take (b.length - 3) }
    let c := seqClass (expected s.spi.expect ch) (k.flags.getLsbD 7) k.seq
    if c = .old then s
    else command .spi { k with gap := c == .gap } { s with spi := { s.spi with expect := spSet s.spi.expect ch (k.seq + 1) } }

/-- A tunnel transaction is discarded: FAULT.SPI in extended compatibility mode (R509, R511). -/
def tunnelDiscard (s : State) : State := if s.compat then legacyFault 7 s else s

/-- The first word of a tunnel transaction: W = 1 and ADDR = 0x7E (R509). -/
def isTunnel (w : Word) : Bool := bits w 24 8 == 0xFE

/-- LEN of a tunnel header is in range (R509). -/
def tunnelLenOk (w : Word) : Bool := decide (3 ≤ bits w 8 16) && decide (bits w 8 16 ≤ 1027)

/-- What a tunnel transaction delivers (R509, R511). -/
def tunnelTake (edges : Nat) (ws : List Word) (s : State) : State :=
  let w := ws.getD 0 0
  let len := bits w 8 16
  if !isTunnel w then s
  else if edges < 32 then tunnelDiscard s
  else if !crc8Ok w then tunnelDiscard (crcFail 0 s)
  else if !tunnelLenOk w || edges % 32 != 0 || (ws.take (edges / 32)).length < 1 + len then tunnelDiscard s
  else tunnelPacket ((ws.drop 1).take len) s

/-- The reset of MODE_NATIVE is due: its reply has been clocked out (R512). -/
def nativeDue (s : State) : Bool :=
  s.mode.forceNative && s.mode.ifMode == .compatExt && s.spi.replies == [] && s.spi.out == []

/-- The outgoing stream runs after the first word: in native mode only where that is a valid tunnel header (R510, R511). -/
def streamRuns (w : Word) (s : State) : Bool := s.compat || (isTunnel w && crc8Ok w && tunnelLenOk w)

/-- A tunnel transaction: the outgoing stream after its first word, and what comes in. -/
def tunnelPeriod (edges : Nat) (ws : List Word) (early : Bool) (s : State) : State :=
  let n := edges / 32
  let first := if early || !s.compat then 0 else s.legacy.reply
  let r := if streamRuns (ws.getD 0 0) s then clockOut (n - 1) s else (s, List.replicate (n - 1) 0)
  let s1 := { r.1 with spi := { r.1.spi with lastSent := (first :: r.2).take n } }
  if nativeDue s1 then resetTo 4 s1
  else afterReplies .spi (tunnelTake edges ws s1)

/-! ### The control SPI port -/

/-- The control SPI port takes inputs: outside reset, S4 and S5 (R314, Table 20.4). -/
def spiOn (s : State) : Bool := !s.pwr.inReset && !vault s.pwr.pstate

/-- One low period of SPI_CS_N: the tunnel in native mode and after its header word in extended compatibility mode, a legacy
frame otherwise (R491, R509, R511). -/
def spiPeriod (edges : Nat) (ws : List Word) (early : Bool) (s : State) : State :=
  if !spiOn s then s
  else if s.mode.ifMode = .native ∨ (s.mode.ifMode = .compatExt ∧ 8 ≤ edges ∧ isTunnel (ws.getD 0 0) = true) then
    tunnelPeriod edges ws early s
  else legacyPeriod edges (ws.getD 0 0) early s

/-- A frame that writes `v` to address `a` (Table 19.1). -/
def writeFrame (a v : Nat) : Word := withCrc8 (putb 31 true ||| put 24 a ||| put 8 v)

/-- A frame that reads address `a` (Table 19.1). -/
def readFrame (a : Nat) : Word := withCrc8 (put 24 a)

/-- LEGACY_FRAME: a low period of SPI_CS_N with a number of edges, of which `w` is the first word (R491 to R494). -/
def execLegacyFrame (edges : Nat) (w : Word) (early : Bool) (s : State) : Host.Outcome State Fault Refusal :=
  done (spiPeriod edges [w] early s)

/-- GCUR_WRITE (R495): the valid frame that writes it. -/
def execGcurWrite (v : BitVec 16) (s : State) : Host.Outcome State Fault Refusal :=
  done (spiPeriod 32 [writeFrame 0x02 v.toNat] false s)

/-- TCUR_WRITE (R496): the valid frame that writes TCURn. -/
def execTcurWrite (n : Fin 32) (v : BitVec 16) (s : State) : Host.Outcome State Fault Refusal :=
  done (spiPeriod 32 [writeFrame (0x20 + n.val) v.toNat] false s)

/-- LEGACY_MODE_WRITE (R505): the valid frame that writes MODE. -/
def execLegacyModeWrite (v : BitVec 16) (s : State) : Host.Outcome State Fault Refusal :=
  done (spiPeriod 32 [writeFrame 0x01 v.toNat] false s)

/-- KEY_WRITE (R508): the valid frame that writes KEY. -/
def execKeyWrite (v : BitVec 16) (s : State) : Host.Outcome State Fault Refusal :=
  done (spiPeriod 32 [writeFrame 0x7F v.toNat] false s)

/-- FAULT_READ (R503): the valid frame that reads FAULT. -/
def execFaultRead (s : State) : Host.Outcome State Fault Refusal := done (spiPeriod 32 [readFrame 0x04] false s)

/-- LEGACY_CLEAR_ON_READ (R503): the valid frame that reads VERR, VDROP or a TFLT register. -/
def execLegacyClearOnRead (a : BitVec 7) (s : State) : Host.Outcome State Fault Refusal :=
  done (if clearsOnRead a.toNat then spiPeriod 32 [readFrame a.toNat] false s else s)

/-- TUNNEL_TRANSACTION (R509 to R512). -/
def execTunnelTransaction (edges : Nat) (ws : List Word) (s : State) : Host.Outcome State Fault Refusal :=
  done (spiPeriod edges ws false s)

end Sys2Proof.Machine
end

