-- ==== Sys2Proof/Machine/Dispatch.lean ====
section
/-! DEFINITION. The meaning of a command on everything but the queue: one arm per row of opcode_table.json. -/

namespace Sys2Proof.Machine

def exec (i : Instr) (s : State) : Host.Outcome State Fault Refusal :=
  match i with
  | .ping c ws => Sys2Proof.Machine.execPing c ws s
  | .getStatus c ws => Sys2Proof.Machine.execGetStatus c ws s
  | .getEvent c ws => Sys2Proof.Machine.execGetEvent c ws s
  | .sessionOpen c ws => Sys2Proof.Machine.execSessionOpen c ws s
  | .sessionProve c ws => Sys2Proof.Machine.execSessionProve c ws s
  | .modeNative c ws => Sys2Proof.Machine.execModeNative c ws s
  | .readReg c ws => Sys2Proof.Machine.execReadReg c ws s
  | .writeReg c ws => Sys2Proof.Machine.execWriteReg c ws s
  | .modifyReg c ws => Sys2Proof.Machine.execModifyReg c ws s
  | .registerWrite src addr v => Sys2Proof.Machine.execRegisterWrite src addr v s
  | .layerDefine c ws => Sys2Proof.Machine.execLayerDefine c ws s
  | .layerLoad c ws => Sys2Proof.Machine.execLayerLoad c ws s
  | .layerFree c ws => Sys2Proof.Machine.execLayerFree c ws s
  | .layerArm c ws => Sys2Proof.Machine.execLayerArm c ws s
  | .flip c ws => Sys2Proof.Machine.execFlip c ws s
  | .fenceSignal c ws => Sys2Proof.Machine.execFenceSignal c ws s
  | .spritePlace c ws => Sys2Proof.Machine.execSpritePlace c ws s
  | .writeback c ws => Sys2Proof.Machine.execWriteback c ws s
  | .writebackStop c ws => Sys2Proof.Machine.execWritebackStop c ws s
  | .setLightNormal c ws => Sys2Proof.Machine.execSetLightNormal c ws s
  | .setLightTrysail c ws => Sys2Proof.Machine.execSetLightTrysail c ws s
  | .setLightDark c ws => Sys2Proof.Machine.execSetLightDark c ws s
  | .setClass c ws => Sys2Proof.Machine.execSetClass c ws s
  | .setCeilingStage c ws => Sys2Proof.Machine.execSetCeilingStage c ws s
  | .setCeilingCommit c ws => Sys2Proof.Machine.execSetCeilingCommit c ws s
  | .setAim c ws => Sys2Proof.Machine.execSetAim c ws s
  | .steerInput c ws => Sys2Proof.Machine.execSteerInput c ws s
  | .gapless c ws => Sys2Proof.Machine.execGapless c ws s
  | .diagRunBridge c ws => Sys2Proof.Machine.execDiagRunBridge c ws s
  | .diagRunSwtest c ws => Sys2Proof.Machine.execDiagRunSwtest c ws s
  | .diagRunClearTile c ws => Sys2Proof.Machine.execDiagRunClearTile c ws s
  | .diagRunClearMap c ws => Sys2Proof.Machine.execDiagRunClearMap c ws s
  | .diagMapRead c ws => Sys2Proof.Machine.execDiagMapRead c ws s
  | .timeSet c ws => Sys2Proof.Machine.execTimeSet c ws s
  | .timeAdjustOffset c ws => Sys2Proof.Machine.execTimeAdjustOffset c ws s
  | .timeAdjustInc c ws => Sys2Proof.Machine.execTimeAdjustInc c ws s
  | .pulseSetOneShot c ws => Sys2Proof.Machine.execPulseSetOneShot c ws s
  | .pulseSetPeriodic c ws => Sys2Proof.Machine.execPulseSetPeriodic c ws s
  | .pulseSetOff c ws => Sys2Proof.Machine.execPulseSetOff c ws s
  | .flipAt c ws => Sys2Proof.Machine.execFlipAt c ws s
  | .powerState c ws => Sys2Proof.Machine.execPowerState c ws s
  | .dvfsSet c ws => Sys2Proof.Machine.execDvfsSet c ws s
  | .memRead c ws => Sys2Proof.Machine.execMemRead c ws s
  | .memWrite c ws => Sys2Proof.Machine.execMemWrite c ws s
  | .memErase c ws => Sys2Proof.Machine.execMemErase c ws s
  | .fwUpdatePrepare c ws => Sys2Proof.Machine.execFwUpdatePrepare c ws s
  | .fwUpdateVerify c ws => Sys2Proof.Machine.execFwUpdateVerify c ws s
  | .fwUpdateSelect c ws => Sys2Proof.Machine.execFwUpdateSelect c ws s
  | .faultInjectArm c ws => Sys2Proof.Machine.execFaultInjectArm c ws s
  | .faultInjectDisarm c ws => Sys2Proof.Machine.execFaultInjectDisarm c ws s
  | .faultForceSet c ws => Sys2Proof.Machine.execFaultForceSet c ws s
  | .faultForceClear c ws => Sys2Proof.Machine.execFaultForceClear c ws s
  | .faultAck c ws => Sys2Proof.Machine.execFaultAck c ws s
  | .fltStatusClear src block v => Sys2Proof.Machine.execFltStatusClear src block v s
  | .faultConfigReact c ws => Sys2Proof.Machine.execFaultConfigReact c ws s
  | .faultConfigEsc c ws => Sys2Proof.Machine.execFaultConfigEsc c ws s
  | .clrFirst src block => Sys2Proof.Machine.execClrFirst src block s
  | .engineSwitch c ws => Sys2Proof.Machine.execEngineSwitch c ws s
  | .engineHealthRead c ws => Sys2Proof.Machine.execEngineHealthRead c ws s
  | .engineHealthRunTest c ws => Sys2Proof.Machine.execEngineHealthRunTest c ws s
  | .engineHealthRetry c ws => Sys2Proof.Machine.execEngineHealthRetry c ws s
  | .forwardCfg c ws => Sys2Proof.Machine.execForwardCfg c ws s
  | .scanCtrlWrite src v => Sys2Proof.Machine.execScanCtrlWrite src v s
  | .tileCtrlWrite src t v => Sys2Proof.Machine.execTileCtrlWrite src t v s
  | .arrayCtrlWrite src v => Sys2Proof.Machine.execArrayCtrlWrite src v s
  | .lpRegWrite src e off v => Sys2Proof.Machine.execLpRegWrite src e off v s
  | .compositionRegWrite src e off v => Sys2Proof.Machine.execCompositionRegWrite src e off v s
  | .diagCtrlWrite src v => Sys2Proof.Machine.execDiagCtrlWrite src v s
  | .bstayCfgWrite src off v => Sys2Proof.Machine.execBstayCfgWrite src off v s
  | .verdictPost v => Sys2Proof.Machine.execVerdictPost v s
  | .hlyCtrlWrite src p v => Sys2Proof.Machine.execHlyCtrlWrite src p v s
  | .retrain src p => Sys2Proof.Machine.execRetrain src p s
  | .eraWrite src d1 v => Sys2Proof.Machine.execEraWrite src d1 v s
  | .timeNsRead src off => Sys2Proof.Machine.execTimeNsRead src off s
  | .thermRegWrite src off v => Sys2Proof.Machine.execThermRegWrite src off v s
  | .clkSelWrite src v => Sys2Proof.Machine.execClkSelWrite src v s
  | .clkGateWrite src v => Sys2Proof.Machine.execClkGateWrite src v s
  | .saveNow src => Sys2Proof.Machine.execSaveNow src s
  | .xmemReload src v => Sys2Proof.Machine.execXmemReload src v s
  | .fwConfirm src => Sys2Proof.Machine.execFwConfirm src s
  | .watchdogKick src v => Sys2Proof.Machine.execWatchdogKick src v s
  | .watchdogArm src v => Sys2Proof.Machine.execWatchdogArm src v s
  | .watchdogToWrite src v => Sys2Proof.Machine.execWatchdogToWrite src v s
  | .pinClr src => Sys2Proof.Machine.execPinClr src s
  | .crcuStart src u v => Sys2Proof.Machine.execCrcuStart src u v s
  | .crcuFinish src u v => Sys2Proof.Machine.execCrcuFinish src u v s
  | .crcuStartFinish src u v => Sys2Proof.Machine.execCrcuStartFinish src u v s
  | .crcuCtrlNbytes src u v => Sys2Proof.Machine.execCrcuCtrlNbytes src u v s
  | .crcuDataIn src u v => Sys2Proof.Machine.execCrcuDataIn src u v s
  | .crcuDataOutRead src u => Sys2Proof.Machine.execCrcuDataOutRead src u s
  | .crcuRunRead src u => Sys2Proof.Machine.execCrcuRunRead src u s
  | .crcuRunWrite src u hi lo => Sys2Proof.Machine.execCrcuRunWrite src u hi lo s
  | .crcuCheckDone u => Sys2Proof.Machine.execCrcuCheckDone u s
  | .crcuKatRun bad => Sys2Proof.Machine.execCrcuKatRun bad s
  | .strokeStart => Sys2Proof.Machine.execStrokeStart s
  | .vledMeasure die sense rails => Sys2Proof.Machine.execVledMeasure die sense rails s
  | .gapStart heads peaks upset bad => Sys2Proof.Machine.execGapStart heads peaks upset bad s
  | .switchTest rail => Sys2Proof.Machine.execSwitchTest rail s
  | .darkProbe nodes => Sys2Proof.Machine.execDarkProbe nodes s
  | .capture nodes => Sys2Proof.Machine.execCapture nodes s
  | .readbackSweepDone => Sys2Proof.Machine.execReadbackSweepDone s
  | .flipInstant bad => Sys2Proof.Machine.execFlipInstant bad s
  | .fenceTimeout e layer => Sys2Proof.Machine.execFenceTimeout e layer s
  | .rowComplete e upset calBad storeBad corr => Sys2Proof.Machine.execRowComplete e upset calBad storeBad corr s
  | .compositionEnd e up => Sys2Proof.Machine.execCompositionEnd e up s
  | .segmentWrite e seg cut bad => Sys2Proof.Machine.execSegmentWrite e seg cut bad s
  | .trysailSegmentWrite seg cut bad => Sys2Proof.Machine.execTrysailSegmentWrite seg cut bad s
  | .tileOcTrip t => Sys2Proof.Machine.execTileOcTrip t s
  | .heartbeatStrobe => Sys2Proof.Machine.execHeartbeatStrobe s
  | .heartbeatToken e seq => Sys2Proof.Machine.execHeartbeatToken e seq s
  | .heartbeatWindowEnd => Sys2Proof.Machine.execHeartbeatWindowEnd s
  | .engErrAssert e src => Sys2Proof.Machine.execEngErrAssert e src s
  | .mismatchDecideTimeout => Sys2Proof.Machine.execMismatchDecideTimeout s
  | .switchoverHandover => Sys2Proof.Machine.execSwitchoverHandover s
  | .switchoverOverlapEnd => Sys2Proof.Machine.execSwitchoverOverlapEnd s
  | .engineBlockResetDone r => Sys2Proof.Machine.execEngineBlockResetDone r s
  | .engineSelfTestDone e passed => Sys2Proof.Machine.execEngineSelfTestDone e passed s
  | .resyncCopyDone e ok => Sys2Proof.Machine.execResyncCopyDone e ok s
  | .safeNLow => Sys2Proof.Machine.execSafeNLow s
  | .trysailTakeover => Sys2Proof.Machine.execTrysailTakeover s
  | .trysailLoadDone good => Sys2Proof.Machine.execTrysailLoadDone good s
  | .trysailScrub bad => Sys2Proof.Machine.execTrysailScrub bad s
  | .escalation => Sys2Proof.Machine.execEscalation s
  | .paritySweep bad => Sys2Proof.Machine.execParitySweep bad s
  | .blockResetDone block => Sys2Proof.Machine.execBlockResetDone block s
  | .chipReset => Sys2Proof.Machine.execChipReset s
  | .logEntryWrite badReads ecc => Sys2Proof.Machine.execLogEntryWrite badReads ecc s
  | .watchdogTimeout safety => Sys2Proof.Machine.execWatchdogTimeout safety s
  | .thermReading id reading aux => Sys2Proof.Machine.execThermReading id reading aux s
  | .clkMonitorTrip c => Sys2Proof.Machine.execClkMonitorTrip c s
  | .pllUnlock b => Sys2Proof.Machine.execPllUnlock b s
  | .pllRelockDone => Sys2Proof.Machine.execPllRelockDone s
  | .pllRelockTimeout b => Sys2Proof.Machine.execPllRelockTimeout b s
  | .fboscReady => Sys2Proof.Machine.execFboscReady s
  | .phyLoopTiming p => Sys2Proof.Machine.execPhyLoopTiming p s
  | .phyLoopReturn p => Sys2Proof.Machine.execPhyLoopReturn p s
  | .fboscFail => Sys2Proof.Machine.execFboscFail s
  | .rowMon => Sys2Proof.Machine.execRowMon s
  | .dvfsSettled => Sys2Proof.Machine.execDvfsSettled s
  | .dvfsRampEnd => Sys2Proof.Machine.execDvfsRampEnd s
  | .dvfsSettleTimeout => Sys2Proof.Machine.execDvfsSettleTimeout s
  | .powerEntry => Sys2Proof.Machine.execPowerEntry s
  | .wakePin n => Sys2Proof.Machine.execWakePin n s
  | .wakeStageReady imgOk digestOk => Sys2Proof.Machine.execWakeStageReady imgOk digestOk s
  | .wakeStageTimeout => Sys2Proof.Machine.execWakeStageTimeout s
  | .saveSupervisorTrip mv => Sys2Proof.Machine.execSaveSupervisorTrip mv s
  | .presentNRemoved => Sys2Proof.Machine.execPresentNRemoved s
  | .saveComplete mv us good => Sys2Proof.Machine.execSaveComplete mv us good s
  | .porTrip => Sys2Proof.Machine.execPorTrip s
  | .porRelease mv => Sys2Proof.Machine.execPorRelease mv s
  | .vsupLow mv => Sys2Proof.Machine.execVsupLow mv s
  | .vsupOv mv => Sys2Proof.Machine.execVsupOv mv s
  | .vregFail index => Sys2Proof.Machine.execVregFail index s
  | .parkedWake => Sys2Proof.Machine.execParkedWake s
  | .boot b => Sys2Proof.Machine.execBoot b s
  | .resetNAssert => Sys2Proof.Machine.execResetNAssert s
  | .resetStuck => Sys2Proof.Machine.execResetStuck s
  | .resetNIgnoreEnd => Sys2Proof.Machine.execResetNIgnoreEnd s
  | .opsecTick => Sys2Proof.Machine.execOpsecTick s
  | .presentNBootBlank => Sys2Proof.Machine.execPresentNBootBlank s
  | .presentNBootRestore => Sys2Proof.Machine.execPresentNBootRestore s
  | .testNLow => Sys2Proof.Machine.execTestNLow s
  | .extestLoad => Sys2Proof.Machine.execExtestLoad s
  | .signalDetect p => Sys2Proof.Machine.execSignalDetect p s
  | .detectBeacon p => Sys2Proof.Machine.execDetectBeacon p s
  | .portLeaveOff p => Sys2Proof.Machine.execPortLeaveOff p s
  | .trainReceive p => Sys2Proof.Machine.execTrainReceive p s
  | .bringupTimeout p => Sys2Proof.Machine.execBringupTimeout p s
  | .lcwReceive p lane lead line => Sys2Proof.Machine.execLcwReceive p lane lead line s
  | .lossOfSignal p lane => Sys2Proof.Machine.execLossOfSignal p lane s
  | .linkWake p => Sys2Proof.Machine.execLinkWake p s
  | .packetReceive p line => Sys2Proof.Machine.execPacketReceive p line s
  | .cmdReceive p => Sys2Proof.Machine.execCmdReceive p s
  | .slowPathExecute r => Sys2Proof.Machine.execSlowPathExecute r s
  | .layerDataReceive p => Sys2Proof.Machine.execLayerDataReceive p s
  | .recordLoadDone good => Sys2Proof.Machine.execRecordLoadDone good s
  | .syncReceive p => Sys2Proof.Machine.execSyncReceive p s
  | .pdelayReqReceive p => Sys2Proof.Machine.execPdelayReqReceive p s
  | .pdelayRespReceive p => Sys2Proof.Machine.execPdelayRespReceive p s
  | .pdelayReqSend p => Sys2Proof.Machine.execPdelayReqSend p s
  | .leaderSyncSend => Sys2Proof.Machine.execLeaderSyncSend s
  | .flipNoticeReceive p => Sys2Proof.Machine.execFlipNoticeReceive p s
  | .forwardReceive => Sys2Proof.Machine.execForwardReceive s
  | .followerPacketWrap => Sys2Proof.Machine.execFollowerPacketWrap s
  | .packetSend p start => Sys2Proof.Machine.execPacketSend p start s
  | .sessionIdleTimeout => Sys2Proof.Machine.execSessionIdleTimeout s
  | .sessionLockoutEnd => Sys2Proof.Machine.execSessionLockoutEnd s
  | .timeTick n => Sys2Proof.Machine.execTimeTick n s
  | .nsWrap d1 => Sys2Proof.Machine.execNsWrap d1 s
  | .syncTimeout d1 => Sys2Proof.Machine.execSyncTimeout d1 s
  | .tpulseRise out1 => Sys2Proof.Machine.execTpulseRise out1 s
  | .tpulseFall out1 => Sys2Proof.Machine.execTpulseFall out1 s
  | .tcaptEdge => Sys2Proof.Machine.execTcaptEdge s
  | .xmemWorkServe => Sys2Proof.Machine.execXmemWorkServe s
  | .eraseSuspend => Sys2Proof.Machine.execEraseSuspend s
  | .logFlush res block => Sys2Proof.Machine.execLogFlush res block s
  | .deadmapWrite res block => Sys2Proof.Machine.execDeadmapWrite res block s
  | .scrub refresh => Sys2Proof.Machine.execScrub refresh s
  | .memCmdTimeout n => Sys2Proof.Machine.execMemCmdTimeout n s
  | .keepMirrorWrite res block => Sys2Proof.Machine.execKeepMirrorWrite res block s
  | .legacyFrame edges w early => Sys2Proof.Machine.execLegacyFrame edges w early s
  | .gcurWrite v => Sys2Proof.Machine.execGcurWrite v s
  | .tcurWrite n v => Sys2Proof.Machine.execTcurWrite n v s
  | .legacyModeWrite v => Sys2Proof.Machine.execLegacyModeWrite v s
  | .keyWrite v => Sys2Proof.Machine.execKeyWrite v s
  | .faultRead => Sys2Proof.Machine.execFaultRead s
  | .legacyClearOnRead a => Sys2Proof.Machine.execLegacyClearOnRead a s
  | .rowCellReceive line => Sys2Proof.Machine.execRowCellReceive line s
  | .videoLockTimeout => Sys2Proof.Machine.execVideoLockTimeout s
  | .tunnelTransaction edges ws => Sys2Proof.Machine.execTunnelTransaction edges ws s
  | .safeNHigh => Sys2Proof.Machine.execSafeNHigh s
  | .clkMonitorGood c => Sys2Proof.Machine.execClkMonitorGood c s
  | .xmemOperationDone res n block verdict => Sys2Proof.Machine.execXmemOperationDone res n block verdict s
  | .tapTckEdge tms tdi => Sys2Proof.Machine.execTapTckEdge tms tdi s
  | .vsupLowClear mv => Sys2Proof.Machine.execVsupLowClear mv s

end Sys2Proof.Machine
end

