-- ==== Sys2Proof/Safety.lean ====
section
/-! DEFINITION. What a safe state is, in the terms of the statements: the forcing rules of Table 01.7 hold, every tile with
a cause of Table 03.3 is dark, the contacts are driven as Table 20.4 gives them, and the evaluation has nothing left to
do. -/

namespace Sys2Proof.Machine

/-- The rows of Table 01.7 that concern the beam: Dark in S2 to S5, Trysail or Dark in both lost (R34, R35). Gapless, which
the table forces off as well, follows at the next stroke start (R63). -/
def BeamForced (s : State) : Prop :=
  (deep s.pwr.pstate = true → s.bstay.beam = .dark) ∧
  (estate s = 3 → s.bstay.beam ≠ .normal)

/-- The rows of Table 01.7 that concern the interface mode and the ports: H1 OFF and H0 HEAD_END in the compatibility modes,
H1 OFF in a follower, and the class of CONFIG in plain compatibility mode (R28, R34). -/
def ModeForced (s : State) : Prop :=
  (s.compat = true → s.h0.role = .headEnd ∧ s.h1.role = .off ∧ s.h1.cfgRole = .off) ∧
  (s.h0.role = .follower → s.h1.role = .off ∧ s.h1.cfgRole = .off) ∧
  (s.mode.ifMode = .compat → s.bstay.cls = s.bstay.clsConfig)

/-- The rows of Table 01.7 that concern injection: no injection and no force bit in plain compatibility mode, S4 and S5
(R34). -/
def InjectionForced (s : State) : Prop :=
  s.mode.ifMode = .compat ∨ vault s.pwr.pstate = true → ∀ w ∈ s.flt, w.inject = 0 ∧ w.force = 0

/-- A tile with a cause of Table 03.3, of R518 or of a save has its switch commanded open, and no pixel of it has a live or
a waiting code (R78, R79). -/
def TilesSafe (s : State) : Prop :=
  (∀ x ∈ s.arr.tiles, s.bstay.beam = .dark ∨ tileCause s x = true → x.swClosed = false ∧ x.headValid = false) ∧
  (∀ p ∈ s.arr.live, darkTile s (tileOfPix p.1) = false) ∧
  (∀ p ∈ s.arr.next, darkTile s (tileOfPix p.1) = false)

/-- The output contacts follow the state (Table 20.4). -/
def PinsFollow (s : State) : Prop := s.pins = pinsOf s

/-- Nothing of an evaluation is left over: no setting waits for its record and event, the beam state is reported
(R253, R334), the causes of Trysail that arose in it are recorded (R249), and a NORMAL that a condition of R251 forbids is
cancelled. -/
def Settled (s : State) : Prop :=
  s.log.fresh = [] ∧ s.bstay.beamReported = s.bstay.beam ∧ s.bstay.tryNow = false ∧
    (s.bstay.normalPend = true → normalRefused s = false)

/-- The safe state that every evaluation ends in. -/
def Safe (s : State) : Prop :=
  BeamForced s ∧ ModeForced s ∧ InjectionForced s ∧ TilesSafe s ∧ PinsFollow s ∧ Settled s

/-- No engine in a role holds its error line, so that arbitration has nothing to decide (R184, R186). -/
def NoErrorLine (s : State) : Prop := ∀ e, inRole e s = true → errLine e s = false

/-- A calm state: no forcing rule, no cause of a tile, no error line and no leftover of an evaluation asks for a change, so
that the end of an evaluation only drives the contacts. -/
def Calm (s : State) : Prop :=
  forcedBeam s = s.bstay.beam ∧
  (s.bstay.tryOwns = true → s.bstay.beam = .trysail) ∧
  ModeForced s ∧ InjectionForced s ∧ TilesSafe s ∧ Settled s ∧ NoErrorLine s ∧
  s.cmd.lostNow = 0 ∧ s.log.dropNow = 0

/-- A calm state whose contacts are driven as it asks: an evaluation with nothing to do leaves it as it is. -/
def AtRest (s : State) : Prop := Calm s ∧ PinsFollow s

/-- The state with its output contacts driven as Table 20.4 gives them. -/
def driven (s : State) : State := { s with pins := pinsOf s }

/-- A tile without what the end of an evaluation may change in it. -/
def bareTile (x : Tile) : Tile := { x with on := false, swClosed := false, headValid := false, tileOff := [] }

/-- An engine without what the end of an evaluation may change in it: its health record and the write-back in progress. -/
def bareEngine (x : Engine) : Engine := { x with health := {}, comp := { x.comp with wbTarget := none } }

/-- A buffer without its state, which a lost write-back changes (R166). -/
def bareBuffer (x : Buffer) : Buffer := { x with state := .free }

/-- A state without everything that the end of an evaluation may change: arbitration, records, events, interrupts to the
Rigger cores, forced dimensions, tiles taken off, a write-back that is lost, contacts, and the model's own marks of what has
been set in the clock. What is left is the same before and after it. -/
def untouched (s : State) : State :=
  { s with
    arr := { s.arr with tiles := s.arr.tiles.map bareTile, live := [], next := [] }
    engA := bareEngine s.engA
    engB := bareEngine s.engB
    store := { s.store with bufs := s.store.bufs.map bareBuffer }
    bstay := { s.bstay with
      arb := {}, beam := .normal, beamReported := .normal, cls := .low, tryCause := 0, tryPend := false, tryOwns := false
      tryNow := false, normalPend := false }
    h0 := { s.h0 with role := .off, events := {} }
    h1 := { s.h1 with role := .off, cfgRole := .off, events := {} }
    spi := { s.spi with events := {} }
    cmd := { s.cmd with evLost := 0, lostNow := 0 }
    flt := []
    log := { s.log with q := [], fresh := [], dropCnt := 0, dropPend := 0, dropNow := 0 }
    pwr := { s.pwr with chipPend := false, chipAt := 0, heldBeam := .normal }
    rigger := { s.rigger with irqs := 0, nmis := 0 }
    base := { s.base with fault := 0, tflt := [], hits := [] }
    legacy := { s.legacy with fault := 0, tflt := [] }
    pins := {} }

/-! ### When a command is taken (Table 10.7) -/

/-- A CMD packet with opcode `code` passes steps 1 to 6 of Table 10.7 and is a fast-path command: its port takes commands,
fewer than eight replies are owed, the opcode is assigned to the fast path, FLAGS.ORDER is 0, the length is one it takes
and the session is right (R298, R301, R321, R323). -/
def fastReady (code : Nat) (c : CmdCtx) (ws : List Word) (s : State) : Bool :=
  reachable c.port s && decide ((owed c.port s).length < 8) && !c.order &&
  (match opInfo code with
   | some o => !o.slow && lengthOk o ws && sessionOk o c s
   | none => false)

/-- A CMD packet with opcode `code` passes steps 1 to 8 of Table 10.7 and is a slow-path command, because its opcode is or
because FLAGS.ORDER is 1, and no earlier slow-path command is still to complete (R298, R299). -/
def slowReady (code : Nat) (c : CmdCtx) (ws : List Word) (s : State) : Bool :=
  reachable c.port s && decide ((owed c.port s).length < 8) &&
  (match opInfo code with
   | some o => (o.slow || c.order) && lengthOk o ws && sessionOk o c s
   | none => false) &&
  !tagHeld c.port c.tag s && decide (slowPending s < 16) && slowIdle s

/-- The entry of the slow path for an accepted command. -/
def slowEntry (code : Nat) (c : CmdCtx) (ws : List Word) : SlowCmd :=
  { port := c.port, ch := c.ch, opcode := BitVec.ofNat 8 code, tag := c.tag, session := c.session, payload := ws }

/-- The state in which a slow-path command has been accepted: ACCEPTED is owed and the command waits (R300). -/
def accepted (code : Nat) (c : CmdCtx) (ws : List Word) (s : State) : State :=
  let s1 := reply c code stAccepted [] s
  { s1 with cmd := { s1.cmd with slow := s1.cmd.slow ++ [slowEntry code c ws] } }

/-- The state in which the command `c` with opcode `code` has completed on the slow path: its entry is finished and
EV_CMD_DONE with status and words is queued on its port (R300, R326). -/
def completed (code : Nat) (c : CmdCtx) (st : BitVec 8) (rs : List Word) (s : State) : State :=
  finishSlow c.port c.tag (BitVec.ofNat 8 code) st rs s

/-- No injected or forced error meets the source of a register access in its own SRAM (Table 13.11). -/
def srcQuiet (src : RegSrc) (s : State) : Bool :=
  match src with
  | .port _ => true
  | _ => !fails 17 2 false s && !fails 17 3 false s

/-- A direct register access to block `b` is made: its source can make it, the block is on (Table 10.8), and a Rigger core
that makes it meets no injected or forced error in its SRAM (Table 13.11). -/
def regReady (b : Nat) (src : RegSrc) (s : State) : Bool := srcOn src s && !blockOff b s && srcQuiet src s

/-- The state after a fast-path command that ends OK with reply words `rs`, from the state `s` that its effect gives: the
reply is owed and the evaluation is closed (R298, R322). -/
def answered (code : Nat) (c : CmdCtx) (rs : List Word) (s : State) : State := settle (reply c code stOk rs s)

/-- The state after a slow-path command that completes OK with words `rs` in its EV_CMD_DONE, from the state `s` that its
effect gives (R300, R326). -/
def concluded (code : Nat) (c : CmdCtx) (rs : List Word) (s : State) : State := settle (completed code c stOk rs s)

end Sys2Proof.Machine
end

