-- ==== Sys2Proof/Certificates/Slice0/Obligations.lean ====
section
/-! DEFINITION. The statements for the provers, one Prop each, listed in OBLIGATIONS.json. Every conclusion is an equation
with the next state or facts about it; `settle` closes every evaluation, and what it can change is itself stated. -/

open Sys2Proof Sys2Proof.Machine

/-! ### Beam commands (08, Table 11.6) -/

/-- SET_LIGHT (R249, R251, Table 11.6): TRYSAIL makes Normal Trysail, with cause 5 where no earlier cause stands, and is
recorded in Dark; DARK is Dark at once; NORMAL, in the session of its port and where nothing of R251 and R414 refuses it, clears the
latches and waits for the compose point. Nothing else changes but what closes the evaluation.
SET_LIGHT NORMAL is refused outside a session with DENIED, and with BAD_STATE under each condition of R251: SAFE_N low,
both lost, a power state other than S0, or a set source that selects TRYSAIL or DARK. -/
def Obligations.SetLightActsOnBeam : Prop :=
  (∀ (c : CmdCtx) (w : Word) (s : State), within w 3 = true → fastReady 0x30 c [w] s = true →
      (inSession c s = true → normalRefused s = false →
        exec (.setLightNormal c [w]) s = .next (answered 0x30 c [] { s with
          bstay := { s.bstay with safeNLatch := false, tryPend := false, normalPend := true } })) ∧
      (deep s.pwr.pstate = false →
        exec (.setLightTrysail c [w]) s = .next (answered 0x30 c [] { s with
          bstay := { s.bstay with
            beam := if s.bstay.beam = .normal then .trysail else s.bstay.beam
            tryPend := s.bstay.tryPend || s.bstay.beam == .dark
            tryCause := if s.bstay.tryCause = 0 ∨ (s.bstay.tryNow ∧ 5 < s.bstay.tryCause) then 5 else s.bstay.tryCause
            tryNow := s.bstay.tryNow || s.bstay.tryCause == 0
            normalPend := false } })) ∧
      exec (.setLightDark c [w]) s = .next (answered 0x30 c [] { s with
        pwr := { s.pwr with heldBeam := if deep s.pwr.pstate then .dark else s.pwr.heldBeam }
        bstay := { s.bstay with
          beam := .dark
          tryPend := s.bstay.tryPend || s.bstay.beam == .trysail
          normalPend := false } })) ∧
  (∀ (c : CmdCtx) (w : Word) (s : State), within w 3 = true → fastReady 0x30 c [w] s = true →
      (inSession c s = false → exec (.setLightNormal c [w]) s = .next (settle (reply c 0x30 stDenied [] s))) ∧
      (inSession c s = true →
        s.bstay.safeNLevel = false ∨ estate s = 3 ∨ s.pwr.pstate ≠ .s0 ∨ lightHeld s = true →
        exec (.setLightNormal c [w]) s = .next (settle (reply c 0x30 stBadState [] s))))

/-- SET_CLASS, SET_CEILING, SET_AIM and GAPLESS (R63, R230, R232, R233): each, with acceptable parameters, writes its one
dimension's target and nothing else; SET_CLASS in the beam state NORMAL, GAPLESS = 1 in class HIGH, native mode and outside
Trysail, ROW being on. -/
def Obligations.BeamDimensionCommandsSetTargets : Prop :=
  (∀ (c : CmdCtx) (w : Word) (s : State), slowReady 0x31 c [w] s = true → within w 3 = true → s.bstay.beam = .normal →
    exec (.setClass c [w]) s = .next (concluded 0x31 c [] { accepted 0x31 c [w] s with
      bstay := { s.bstay with clsPend := some (classOf (bits w 0 2)) } })) ∧
  (∀ (c : CmdCtx) (ws : List Word) (s : State), slowReady 0x32 c (stamp 31 1 1 ws) s = true →
    ceilingOk (stamp 31 1 1 ws) = true →
    exec (.setCeilingStage c ws) s = .next (concluded 0x32 c [] { accepted 0x32 c (stamp 31 1 1 ws) s with
      bstay := { s.bstay with
        stageCeil := s.bstay.stageCeil ++ (ceilingParts (stamp 31 1 1 ws)).1
        stageZlim := s.bstay.stageZlim ++ (ceilingParts (stamp 31 1 1 ws)).2 } })) ∧
  (∀ (c : CmdCtx) (ws : List Word) (s : State), slowReady 0x32 c (stamp 31 1 0 ws) s = true →
    ceilingOk (stamp 31 1 0 ws) = true →
    exec (.setCeilingCommit c ws) s = .next (concluded 0x32 c [] { accepted 0x32 c (stamp 31 1 0 ws) s with
      bstay := { s.bstay with
        commitCeil := s.bstay.commitCeil ++ s.bstay.stageCeil ++ (ceilingParts (stamp 31 1 0 ws)).1
        commitZlim := s.bstay.commitZlim ++ s.bstay.stageZlim ++ (ceilingParts (stamp 31 1 0 ws)).2
        commitPend := true, stageCeil := [], stageZlim := [] } })) ∧
  (∀ (c : CmdCtx) (w : Word) (s : State), fastReady 0x33 c [w] s = true →
    -64 ≤ signed 16 (bits w 16 16) → signed 16 (bits w 16 16) ≤ 63 →
    -128 ≤ signed 16 (bits w 0 16) → signed 16 (bits w 0 16) ≤ 127 →
    exec (.setAim c [w]) s = .next (answered 0x33 c [] { s with
      bstay := { s.bstay with aimVTgt := signed 16 (bits w 16 16), aimHTgt := signed 16 (bits w 0 16) } })) ∧
  (∀ (c : CmdCtx) (w : Word) (s : State), fastReady 0x35 c [w] s = true → within w 1 = true → blockOff 7 s = false →
    (bit w 0 = true → s.bstay.cls = .high ∧ s.bstay.beam ≠ .trysail ∧ s.compat = false) →
    exec (.gapless c [w]) s = .next (answered 0x35 c [] { s with
      scan := { s.scan with ctrl := setField s.scan.ctrl 20 1 (bits w 0 1) } }))

/-- STEER_INPUT (R240): with a matching CRC-16, an angle of at most 9000 and a SEQ 1 to 32767 past the last one accepted,
or the first, the input becomes the current one; with any of these wrong it is CHECK_FAIL, counted, STEER_BAD is raised, and
the current input stays; a wrong CRC is also counted in CRCU_FAIL1. No injection is armed. -/
def Obligations.SteerInputAcceptedOrCounted : Prop :=
  ∀ (c : CmdCtx) (w0 w1 : Word) (s : State), fastReady 0x34 c [w0, w1] s = true → within w1 0xFFFF = true →
    fails 10 3 false s = false →
    (steerCrc w0 = bits w1 0 16 → (signed 16 (bits w0 16 16)).natAbs ≤ 9000 ∧ (s.bstay.steerFirst = true ∨
        (1 ≤ (bits w0 0 16 + 65536 - s.bstay.steerSeq.toNat) % 65536 ∧
          (bits w0 0 16 + 65536 - s.bstay.steerSeq.toNat) % 65536 ≤ 32767)) →
      exec (.steerInput c [w0, w1]) s = .next (answered 0x34 c [] { s with
        bstay := { s.bstay with
          steer := signed 16 (bits w0 16 16), steerSeq := w0.setWidth 16, steerStamp := some s.scan.strokeCnt
          steerFirst := false, steerAge := 0 } })) ∧
    (steerCrc w0 ≠ bits w1 0 16 ∨ 9000 < (signed 16 (bits w0 16 16)).natAbs ∨ (s.bstay.steerFirst = false ∧
        ((bits w0 0 16 + 65536 - s.bstay.steerSeq.toNat) % 65536 = 0 ∨
          32767 < (bits w0 0 16 + 65536 - s.bstay.steerSeq.toNat) % 65536)) →
      let s1 : State := if steerCrc w0 = bits w1 0 16 then s else
        { s.hit 11 0x108 0 with crcu := { s.crcu with fails := modAt s.crcu.fails 1 (satInc 32) } }
      exec (.steerInput c [w0, w1]) s = .next (settle (reply c 0x34 stCheckFail []
        (((raiseFault 10 3 0 true false s1).modBstay (fun b => { b with
          steerBadCnt := satInc 16 b.steerBadCnt })).hit 10 0x24 16))))


/-! ### Layers and the layer store (05, Table 11.5) -/

/-- LAYER_LOAD (R138, R141, R325, Table 11.5): a load gives the buffer its format, size, pages and the command's TAG, makes it
LOADING from the link or from a record, whose load then waits for external memory, and answers the pages; LAYER_FREE makes the
buffer FREE. In S0 and S1, native mode, no reserved code, the buffer not in use.
A buffer in use is neither loaded nor freed (R139): LAYER_FREE and LAYER_LOAD answer BAD_STATE and change nothing
else. -/
def Obligations.BuffersAreLoadedFreedAndKept : Prop :=
  ((∀ (c : CmdCtx) (w0 w1 w2 w3 w4 : Word) (s : State),
      fastReady 0x21 c (stamp 31 1 0 [w0, w1, w2, w3, w4]) s = true → s.compat = false → deep s.pwr.pstate = false →
      within (setField w0 31 1 0) 0x930F003F = true → within w1 0x3FFF3FFF = true → within w3 0xFFFF = true →
      loadCodesOk (setField w0 31 1 0) = true →
      loadOk (stamp 31 1 0 [w0, w1, w2, w3, w4]) s = true → bufInUse (bits (setField w0 31 1 0) 0 6) s = false →
      pagesOf (bufSize (bits (setField w0 31 1 0) 16 4) (bits w1 0 14) (bits w1 16 14)) ≤
        pagesFree s + (s.buf (bits (setField w0 31 1 0) 0 6)).pages →
      let x := setField w0 31 1 0
      let b := bits x 0 6
      let fmt := bits x 16 4
      let size := bufSize fmt (bits w1 0 14) (bits w1 16 14)
      let rec_ := bits x 24 2 == 1
      let s1 := (dropLoads b s).modBuf b (fun _ => {
          state := .loading, format := fmt, w := bits w1 0 14, h := bits w1 16 14, pages := pagesOf size, size := size
          source := if rec_ then 1 else 0, tag := c.tag
          expect := if bit x 28 then some w2 else none
          record := if rec_ then some (bits w3 0 16) else none, recOff := w4.toNat })
      exec (.layerLoad c [w0, w1, w2, w3, w4]) s = .next (answered 0x21 c [put 0 (pagesOf size)]
        (if rec_ then { s1 with xmem := { s1.xmem with queue := s1.xmem.queue ++ [.layerLoad b (bits w3 0 16) w4.toNat] } }
         else s1))) ∧
    (∀ (c : CmdCtx) (w0 w1 w2 w3 w4 : Word) (s : State),
      fastReady 0x21 c (stamp 31 1 1 [w0, w1, w2, w3, w4]) s = true → s.compat = false → deep s.pwr.pstate = false →
      within (setField w0 31 1 1) 0x930F003F = true → within w1 0x3FFF3FFF = true → within w3 0xFFFF = true →
      loadCodesOk (setField w0 31 1 1) = true → bufInUse (bits (setField w0 31 1 1) 0 6) s = false →
      exec (.layerFree c [w0, w1, w2, w3, w4]) s = .next (answered 0x21 c [0]
        (dropLoads (bits (setField w0 31 1 1) 0 6) (s.modBuf (bits (setField w0 31 1 1) 0 6) (fun _ => {})))))) ∧
  (∀ (c : CmdCtx) (w0 w1 w2 w3 w4 : Word) (s : State),
      fastReady 0x21 c (stamp 31 1 1 [w0, w1, w2, w3, w4]) s = true → s.compat = false → deep s.pwr.pstate = false →
      within (setField w0 31 1 1) 0x930F003F = true → within w1 0x3FFF3FFF = true → within w3 0xFFFF = true →
      loadCodesOk (setField w0 31 1 1) = true → bufInUse (bits (setField w0 31 1 1) 0 6) s = true →
      exec (.layerFree c [w0, w1, w2, w3, w4]) s = .next (settle (reply c 0x21 stBadState [] s)) ∧
      (loadOk (stamp 31 1 0 [w0, w1, w2, w3, w4]) s = true → within (setField w0 31 1 0) 0x930F003F = true →
        exec (.layerLoad c [w0, w1, w2, w3, w4]) s = .next (settle (reply c 0x21 stBadState [] s))))

/-- LAYER_DEFINE (R144, R175): the staged descriptor of the layer in both engines, and nothing that is in effect.
LAYER_ARM, FLIP, FENCE_SIGNAL and SPRITE_PLACE (R145, R156, R158, R159, R161): an arm pends in both engines and the armed
load is recomputed; FLIP releases the HOLD arms of the named groups; FENCE_SIGNAL sets one fence; placements pend in one
sprite layer. -/
def Obligations.LayersAreDefinedArmedAndFenced : Prop :=
  (∀ (c : CmdCtx) (g0 g1 g2 g3 g4 g5 g6 g7 : Word) (s : State),
      fastReady 0x20 c [g0, g1, g2, g3, g4, g5, g6, g7] s = true → s.compat = false → deep s.pwr.pstate = false →
      within g0 7 = true → within g1 lyrCtrlMask = true → within g2 0x1FFF1FFF = true → within g3 0x3FFF3FFF = true →
      within g4 0x1FFF1FFF = true → within g5 0x1FFF1FFF = true → within g6 0xFFFF = true → within g7 0xFFC00000 = true →
      lyrCtrlOk (curLayer (bits g0 0 3) s) g1 = true → srcSizeOk g3 = true → dstSizeOk g5 = true → bits g7 30 2 ≠ 3 →
      let stage (x : Engine) : Engine := { x with comp := { x.comp with
        pend := true
        layers := modAt x.comp.layers (bits g0 0 3) (fun l => { l with staged := {
          ctrl := g1, srcPos := g2, srcSize := g3, dstPos := g4, dstSize := g5, fill := g6.setWidth 16
          actTo := BitVec.ofNat 10 (bits g7 22 10) } }) } }
      exec (.layerDefine c [g0, g1, g2, g3, g4, g5, g6, g7]) s =
        .next (answered 0x20 c [] { s with engA := stage s.engA, engB := stage s.engB })) ∧
  ((∀ (c : CmdCtx) (w0 w1 : Word) (s : State),
      fastReady 0x22 c [w0, w1] s = true → s.compat = false → deep s.pwr.pstate = false →
      within w0 0x81F13F07 = true → within w1 0xFFFF = true →
      let u := s.buf (bits w0 8 6)
      let d := (curLayer (bits w0 0 3) s).staged
      u.state = .loading ∨ u.state = .complete → (u.format == 8) = d.sprite → d.sprite = true ∨ armGeometryOk d u = true →
      exec (.layerArm c [w0, w1]) s = .next (answered 0x22 c [] (noteLoad (noteArmed
        (s.modBoth (fun x => x.modLayer (bits w0 0 3) (fun l => { l with arm := some {
          desc := d, buf := bits w0 8 6, useFence := bit w0 16, fence := bits w0 20 5
          waitVal := w1.setWidth 16, held := bit w0 31 } }))))))) ∧
    (∀ (c : CmdCtx) (w : Word) (s : State), fastReady 0x23 c [w] s = true → s.compat = false → deep s.pwr.pstate = false →
      within w 0xFF = true →
      exec (.flip c [w]) s = .next (answered 0x23 c []
        (s.modBoth (fun x => { x with comp := { x.comp with layers := x.comp.layers.map (fun l =>
          if (bits w 0 8 >>> l.groupOf) % 2 = 1 then { l with arm := l.arm.map (fun a => { a with held := false }) }
          else l) } })))) ∧
    (∀ (c : CmdCtx) (w : Word) (s : State), fastReady 0x24 c [w] s = true → s.compat = false → deep s.pwr.pstate = false →
      within w 0x001FFFFF = true →
      exec (.fenceSignal c [w]) s = .next (answered 0x24 c [] { s with
        store := { s.store with fences := modAt s.store.fences (bits w 16 5) (fun _ => w.setWidth 16) } })) ∧
    (∀ (c : CmdCtx) (w0 : Word) (rest : List Word) (s : State),
      fastReady 0x25 c (w0 :: rest) s = true → s.compat = false → deep s.pwr.pstate = false →
      within w0 0x1F07 = true → bits w0 8 5 = (pairs rest).length % 32 → (pairs rest).length ≤ 32 →
      (∀ p ∈ pairs rest, within p.1 0xFFFF9FFF = true ∧ within p.2 0x1FFF1FFF = true ∧
        bits p.1 0 8 < libSize (curLayer (bits w0 0 3) s) s) →
      (curLayer (bits w0 0 3) s).staged.sprite = true →
      exec (.spritePlace c (w0 :: rest)) s = .next (answered 0x25 c []
        (noteArmed ((pairs rest).foldl (fun s p =>
          placeSprite (bits w0 0 3) (bits p.1 8 5) ⟨p.1 &&& 0xFFFF80FF, p.2⟩ s) s)))))

/-- WRITEBACK (R165, R168): with a TARGET it gives two buffers that are not in use the frame's format and size and configures
write-back in both engines; WRITEBACK_STOP ends it. The buffers configured before are freed, one that is being sent once its
last word is sent. -/
def Obligations.WritebackConfiguresAndStops : Prop :=
  (∀ (c : CmdCtx) (w : Word) (s : State), slowReady 0x26 c [w] s = true → s.compat = false → deep s.pwr.pstate = false →
    within w 0xFFFFFF0E = true → bits w 2 2 = 1 ∨ bits w 2 2 = 2 → bits w 8 8 ≠ bits w 16 8 → bits w 8 8 < 64 →
    bits w 16 8 < 64 → bufInUse (bits w 8 8) s = false → bufInUse (bits w 16 8) s = false →
    let size := bufSize (if bit w 1 then 0 else 3) 1024 1024
    2 * pagesOf size ≤ pagesFree s + (s.buf (bits w 8 8)).pages + (s.buf (bits w 16 8)).pages →
    let fresh : Buffer := { state := .loading, format := if bit w 1 then 0 else 3, w := 1024, h := 1024
                            pages := pagesOf size, size := size, source := 2 }
    let s0 := (wbBufs (s.eng (composer s)).comp).foldl (fun s b => releaseBuf b s) (accepted 0x26 c [w] s)
    let s1 := ((dropLoads (bits w 16 8) (dropLoads (bits w 8 8) s0)).modBuf (bits w 8 8) (fun _ => fresh)).modBuf
      (bits w 16 8) (fun _ => fresh)
    exec (.writeback c [w]) s = .next (concluded 0x26 c [] (s1.modBoth (fun x => x.modComp (fun y => { y with
      wbCtrl := w, wbCur := none, wbTarget := none, wbDone := false, wbCount := 0, wbPort := portNo c.port
      pend := true }))))) ∧
  (∀ (c : CmdCtx) (w : Word) (s : State), slowReady 0x26 c [setField w 2 2 0] s = true → s.compat = false →
    deep s.pwr.pstate = false → within w 0xFFFFFF0E = true →
    exec (.writebackStop c [w]) s = .next (concluded 0x26 c []
      (((wbBufs (s.eng (composer s)).comp).foldl (fun s b => releaseBuf b s) (accepted 0x26 c [setField w 2 2 0] s)).modBoth
        (fun x => x.modComp (fun y => { y with
          wbCtrl := setField w 2 2 0, wbCur := none, wbTarget := none, wbDone := false, wbCount := 0, pend := true })))))

/-- COMPOSITION_REG_WRITE (R13, R143, R144, R158, R174, R175): through either window ENG_CTRL, every register of a layer's staged
descriptor and both words of every placement reach both engines and are held pending; a HOLD count of 0, and a value that
R175 does not allow in LYR_CTRL, LYR_SRC_SIZE, LYR_DST_SIZE or LYR_FENCE, is BAD_PARAM and changes nothing; a write of
LYR_STATUS is discarded; in the compatibility modes a write of a composition register is BAD_STATE; in any
mode a write of an offset without a register is discarded. No parity injection is armed. -/
def Obligations.CompositionRegisterReachesBothEngines : Prop :=
  ∀ (src : RegSrc) (e : Eng) (v : Word) (s : State), regReady (engBlk e) src s = true → fails (engBlk e) 1 false s = false →
    (s.compat = false → bits v 24 8 ≠ 0 →
      exec (.compositionRegWrite src e 0 v) s = .next (settle { s with
        engA := s.engA.modComp (fun y => { y with ctrl := v &&& 0xFF01FFFF, pend := true })
        engB := s.engB.modComp (fun y => { y with ctrl := v &&& 0xFF01FFFF, pend := true })
        lastStatus := stOk })) ∧
    (s.compat = false → bits v 24 8 = 0 →
      exec (.compositionRegWrite src e 0 v) s = .next (settle { s with lastStatus := stBadParam })) ∧
    (s.compat = false → ∀ n : Fin 8,
      let at_ (o : Nat) : BitVec 16 := BitVec.ofNat 16 (0x100 + 0x20 * n.val + o)
      let put_ (f : LayerDesc → LayerDesc) (x : Engine) : Engine := { x with comp := { x.comp with
        pend := true, layers := modAt x.comp.layers n (fun l => { l with staged := f l.staged }) } }
      let both (f : LayerDesc → LayerDesc) : State := { s with
        engA := put_ f s.engA, engB := put_ f s.engB, lastStatus := stOk }
      (lyrCtrlOk (curLayer n s) v = true → exec (.compositionRegWrite src e (at_ 0) v) s =
        .next (settle (both (fun d => { d with ctrl := v &&& 0x0FFF0F3D })))) ∧
      exec (.compositionRegWrite src e (at_ 4) v) s = .next (settle (both (fun d => { d with srcPos := v &&& 0x1FFF1FFF }))) ∧
      (1 ≤ bits v 0 14 → bits v 0 14 ≤ 8192 → 1 ≤ bits v 16 14 → bits v 16 14 ≤ 8192 →
        exec (.compositionRegWrite src e (at_ 8) v) s =
          .next (settle (both (fun d => { d with srcSize := v &&& 0x3FFF3FFF })))) ∧
      exec (.compositionRegWrite src e (at_ 0x0C) v) s =
        .next (settle (both (fun d => { d with dstPos := v &&& 0x1FFF1FFF }))) ∧
      (1 ≤ bits v 0 13 → 1 ≤ bits v 16 13 → exec (.compositionRegWrite src e (at_ 0x10) v) s =
        .next (settle (both (fun d => { d with dstSize := v &&& 0x1FFF1FFF })))) ∧
      exec (.compositionRegWrite src e (at_ 0x14) v) s = .next (settle (both (fun d => { d with fill := v.setWidth 16 }))) ∧
      exec (.compositionRegWrite src e (at_ 0x18) v) s = .next (settle { s with lastStatus := stOk }) ∧
      (bits v 30 2 ≠ 3 → exec (.compositionRegWrite src e (at_ 0x1C) v) s =
        .next (settle (both (fun d => { d with actTo := BitVec.ofNat 10 (bits v 22 10) })))) ∧
      (lyrCtrlOk (curLayer n s) v = false →
        exec (.compositionRegWrite src e (at_ 0) v) s = .next (settle { s with lastStatus := stBadParam })) ∧
      (bits v 0 14 = 0 ∨ 8192 < bits v 0 14 ∨ bits v 16 14 = 0 ∨ 8192 < bits v 16 14 →
        exec (.compositionRegWrite src e (at_ 8) v) s = .next (settle { s with lastStatus := stBadParam })) ∧
      (bits v 0 13 = 0 ∨ bits v 16 13 = 0 →
        exec (.compositionRegWrite src e (at_ 0x10) v) s = .next (settle { s with lastStatus := stBadParam })) ∧
      (bits v 30 2 = 3 →
        exec (.compositionRegWrite src e (at_ 0x1C) v) s = .next (settle { s with lastStatus := stBadParam })) ∧
      (∀ m : Fin 32,
        let p := spGet (curLayer n s).sprReg m.val {}
        let place (q : Placement) (x : Engine) : Engine := { x with comp := { x.comp with
          pend := true
          layers := modAt x.comp.layers n (fun l => { l with
            sprReg := spPut {} l.sprReg m.val q, sprPend := spSet l.sprPend m.val q }) } }
        let placed (q : Placement) : State := { s with
          engA := place q s.engA, engB := place q s.engB, lastStatus := stOk }
        exec (.compositionRegWrite src e (BitVec.ofNat 16 (0x1000 + 0x100 * n.val + 8 * m.val)) v) s =
          .next (settle (placed { p with w0 := v &&& 0xFFFF80FF })) ∧
        exec (.compositionRegWrite src e (BitVec.ofNat 16 (0x1004 + 0x100 * n.val + 8 * m.val)) v) s =
          .next (settle (placed { p with w1 := v &&& 0x1FFF1FFF })))) ∧
    (s.compat = true → ∀ off : BitVec 16, off.toNat % 4 = 0 →
      off.toNat < 0x20 ∨ (0x100 ≤ off.toNat ∧ off.toNat < 0x200) ∨ (0x1000 ≤ off.toNat ∧ off.toNat < 0x1800) →
      exec (.compositionRegWrite src e off v) s = .next (settle { s with lastStatus := stBadState })) ∧
    (∀ off : BitVec 16, off.toNat % 4 = 0 →
      (0x20 ≤ off.toNat ∧ off.toNat < 0x100) ∨ (0x200 ≤ off.toNat ∧ off.toNat < 0x1000) ∨
        (0x1800 ≤ off.toNat ∧ off.toNat < 0x8000) →
      exec (.compositionRegWrite src e off v) s = .next (settle { s with lastStatus := stOk }))


/-! ### Link, session and register commands (10, Tables 11.2 and 11.4) -/

/-- PING, GET_STATUS and GET_EVENT (R312, Tables 11.2 and 11.3): the parameters come back unchanged; the status words answer;
the oldest event of the port's queue leaves it and is answered, an empty queue with nothing. -/
def Obligations.StatusCommandsAnswer : Prop :=
  ∀ (c : CmdCtx) (s : State),
    (∀ ws : List Word, ws.length ≤ 16 → fastReady 0x00 c ws s = true →
      exec (.ping c ws) s = .next (answered 0x00 c ws s)) ∧
    (fastReady 0x01 c [] s = true →
      exec (.getStatus c []) s = .next (answered 0x01 c
        [statusWord0 s, put 0 s.scan.frameCnt.toNat, s.scan.strokeCnt, statusFaults s] s)) ∧
    (fastReady 0x02 c [] s = true → (evQueue c.port s).q = [] →
      exec (.getEvent c []) s = .next (answered 0x02 c [] s)) ∧
    (fastReady 0x02 c [] s = true → ∀ (e : Event) (rest : List Event), (evQueue c.port s).q = e :: rest →
      exec (.getEvent c []) s = .next (answered 0x02 c
        ((eventPacket e (evQueue c.port s).lost).hw1 :: putb 0 (evQueue c.port s).lost :: e.words)
        (releaseSlow c.port e (setEvQueue c.port { q := rest, lost := false } s))))

/-- SESSION_OPEN (R306, R314): BAD_STATE in S2 and S3, BUSY while another port has a session or an attempt, DENIED in a
lockout; otherwise a session of the port ends and an attempt with a fresh ID and challenge begins, which the reply
carries. The ID drawn is never 0. -/
def Obligations.SessionOpenDrawsChallenge : Prop :=
  ∀ (c : CmdCtx) (s : State), fastReady 0x03 c [] s = true →
    (deep s.pwr.pstate = true → exec (.sessionOpen c []) s = .next (settle (reply c 0x03 stBadState [] s))) ∧
    (deep s.pwr.pstate = false → (s.cmd.sessOpen = true ∨ s.cmd.proving = true) → s.cmd.sessPort ≠ c.port →
      exec (.sessionOpen c []) s = .next (settle (reply c 0x03 stBusy [] s))) ∧
    (deep s.pwr.pstate = false → ((s.cmd.sessOpen = false ∧ s.cmd.proving = false) ∨ s.cmd.sessPort = c.port) →
      (s.cmd.lockout = true → exec (.sessionOpen c []) s = .next (settle (reply c 0x03 stDenied [] s))) ∧
      (s.cmd.lockout = false →
        let ended := endSession 4 s
        let n := ended.freeCtr
        let id : BitVec 16 := BitVec.ofNat 16 ((Config.sessionDraw n).val + 1)
        id ≠ 0 ∧
        exec (.sessionOpen c []) s = .next (answered 0x03 c
          (put 0 id.toNat :: bytesWords (challengeBytes (Config.challenge n)))
          { ended with
            freeCtr := n + 1
            cmd := { ended.cmd with
              proving := true, sessPort := c.port, sessId := id, challenge := Config.challenge n, openedAt := s.ticks } })))

/-- SESSION_PROVE (R307): the AES-128-CMAC under the locked module key of challenge, ID and port number, at most 1.0 s after
SESSION_OPEN, opens the session and clears the run of failures; any other response is answered with DENIED, ends the attempt,
counts it and sets PROVE_FAIL, and the fourth in a row also starts a lockout and sets PROVE_LOCK. The key is read from Keep
with the errors that injection, forcing or the operand make that read meet. -/
def Obligations.SessionProveOpensOrFails : Prop :=
  ∀ (c : CmdCtx) (ws : List Word) (s : State), slowReady 0x04 c ws s = true →
    let u := (keepRead c.keepEcc (accepted 0x04 c ws s)).1
    (s.keep.lock.getLsbD 0 = true → s.ticks - s.cmd.openedAt ≤ 250000000 →
      wordsBytes ws = aesCmac (keepBytes 0x800 16 s) (proofMessage s) →
      exec (.sessionProve c ws) s = .next (concluded 0x04 c [] { u with
        cmd := { u.cmd with proving := false, sessOpen := true, sessAt := s.ticks, fails := 0 } })) ∧
    (s.keep.lock.getLsbD 0 = false ∨ 250000000 < s.ticks - s.cmd.openedAt ∨
        wordsBytes ws ≠ aesCmac (keepBytes 0x800 16 s) (proofMessage s) → s.flt.length = 18 →
      ∃ t, exec (.sessionProve c ws) s = .next t ∧
        t = settle (completed 0x04 c stDenied [] (proofFailed u)) ∧
        t.cmd.proving = false ∧ t.cmd.sessOpen = s.cmd.sessOpen ∧ t.cmd.sessId = 0 ∧
        t.cmd.proveFail = satInc 16 s.cmd.proveFail ∧ (t.win 0).status.getLsbD 0 = true ∧
        (s.cmd.fails < 3 → t.cmd.fails = s.cmd.fails + 1 ∧ t.cmd.lockout = s.cmd.lockout) ∧
        (3 ≤ s.cmd.fails → t.cmd.fails = 0 ∧ t.cmd.lockout = true ∧ t.cmd.lockAt = s.ticks ∧
          (t.win 0).status.getLsbD 1 = true))

/-- What ends or opens the door to sessions, and the two mode commands (R16, R41, R282, R307, R308): an open session that has
gone CMD_SESS_CFG.IDLE milliseconds without a command of its ID ends, with its ID, its staging copy and every force bit, and
stays before; a lockout ends 10 s after its start and stays before; MODE_NATIVE answers OK, marks the reset of extended
compatibility mode and changes nothing in native mode, and the tunnel transaction that clocks out its reply's last word
resets the module to native mode with cause 4; FORWARD_CFG answers OK and gives H1 its next role, marked with the
reply it waits for, changes nothing where H1 has that role or moves to it already, and is BAD_STATE for another role than OFF
in a follower and in the compatibility modes. -/
def Obligations.SessionEndsAndModeCommands : Prop :=
  ∀ (s : State),
    (s.cmd.sessOpen = true → s.cmd.sessAt + s.cmd.idle.toNat * 250000 ≤ s.ticks →
      ∃ t, exec .sessionIdleTimeout s = .next t ∧ t = settle (endSession 1 s) ∧ t.cmd.sessOpen = false ∧ t.cmd.sessId = 0 ∧
        t.bstay.stageCeil = [] ∧ t.bstay.stageZlim = [] ∧ ∀ w ∈ t.flt, w.force = 0) ∧
    (s.ticks < s.cmd.sessAt + s.cmd.idle.toNat * 250000 → exec .sessionIdleTimeout s = .next (settle s)) ∧
    (s.cmd.lockAt + 2500000000 ≤ s.ticks →
      exec .sessionLockoutEnd s = .next (settle { s with cmd := { s.cmd with lockout := false } })) ∧
    (s.ticks < s.cmd.lockAt + 2500000000 → exec .sessionLockoutEnd s = .next (settle s)) ∧
    (∀ c : CmdCtx, fastReady 0x05 c [] s = true →
      (s.mode.ifMode = .native → exec (.modeNative c []) s = .next (answered 0x05 c [] s)) ∧
      (s.mode.ifMode = .compatExt → exec (.modeNative c []) s =
        .next (answered 0x05 c [] { s with mode := { s.mode with forceNative := true } }))) ∧
    (∀ (edges : Nat) (ws : List Word), spiOn s = true → s.mode.ifMode = .compatExt → s.mode.forceNative = true →
      8 ≤ edges → isTunnel (ws.getD 0 0) = true → (clockOut (edges / 32 - 1) s).1.spi.replies = [] →
      (clockOut (edges / 32 - 1) s).1.spi.out = [] →
      ∃ t, exec (.tunnelTransaction edges ws) s = .next t ∧ t.mode.ifMode = .native ∧ t.pwr.rstCause = 4 ∧
        t.pwr.ready = false ∧ t.cmd.sessOpen = false ∧ t.keep.bytes = s.keep.bytes ∧ t.pending = s.pending) ∧
    (∀ (c : CmdCtx) (w : Word), fastReady 0xA0 c [w] s = true → within w 3 = true → bits w 0 2 ≠ 3 →
      (s.h0.role = .follower ∨ s.compat = true → bits w 0 2 ≠ 0 →
        exec (.forwardCfg c [w]) s = .next (settle (reply c 0xA0 stBadState [] s))) ∧
      ((s.compat = false ∧ s.h0.role ≠ .follower) ∨ bits w 0 2 = 0 → fwdRole (bits w 0 2) ≠ roleAsked s →
        exec (.forwardCfg c [w]) s = .next (answered 0xA0 c [] { s with
          h1 := { s.h1 with roleChange := some (c.port, fwdRole (bits w 0 2)) } })) ∧
      ((s.compat = false ∧ s.h0.role ≠ .follower) ∨ bits w 0 2 = 0 → fwdRole (bits w 0 2) = roleAsked s →
        exec (.forwardCfg c [w]) s = .next (answered 0xA0 c [] s)))

/-- READ_REG and WRITE_REG (R327): the accesses are made in order, a refused one stops none, there is one status byte for
each, packed four to a word, and the reply's status is the first that is not OK.
Single accesses (R13, R317, R328, R329): a block ID above 0x11 or an address that is not a multiple of 4 is BAD_PARAM; a
block that is off is BLOCK_OFF, and a discarded write is counted; MODIFY_REG and REGISTER_WRITE of CMD_SESS_CFG merge and
write IDLE within 10 to 60,000 and refuse it outside. -/
def Obligations.RegisterAccessesAreChecked : Prop :=
  ((∀ (c : CmdCtx) (ws : List Word) (s : State), fastReady 0x10 c ws s = true →
      (readAll ws s).2.1.length = ws.length ∧ (readAll ws s).2.2.length = ws.length ∧
      exec (.readReg c ws) s = .next (settle (reply c 0x10 (firstBad (readAll ws s).2.2)
        ((readAll ws s).2.1 ++ statusWords (readAll ws s).2.2) (readAll ws s).1))) ∧
    (∀ (c : CmdCtx) (ws : List Word) (s : State), fastReady 0x11 c ws s = true →
      (writeAll (.port c.port) (sessionOn c.port s) (pairs ws) s).2.length * 2 = ws.length ∧
      exec (.writeReg c ws) s = .next (settle (reply c 0x11
        (firstBad (writeAll (.port c.port) (sessionOn c.port s) (pairs ws) s).2)
        (statusWords (writeAll (.port c.port) (sessionOn c.port s) (pairs ws) s).2)
        (writeAll (.port c.port) (sessionOn c.port s) (pairs ws) s).1)))) ∧
  ((∀ (a v : Word) (src : RegSrc) (ses : Bool) (s : State), (0x11 < bits a 16 8 ∨ bits a 24 8 ≠ 0 ∨ bits a 0 2 ≠ 0) →
      regRead a s = (s, stBadParam, 0) ∧ regWrite src ses a v s = (s, stBadParam)) ∧
    (∀ (a v : Word) (src : RegSrc) (ses : Bool) (s : State), bits a 24 8 = 0 → bits a 0 2 = 0 → bits a 16 8 ≤ 0x11 →
      blockOff (bits a 16 8) s = true →
      regRead a s = (s, stBlockOff, 0) ∧
      regWrite src ses a v s = ({ s.hit 0 0x0C 0 with cmd := { s.cmd with blockOff := satInc 32 s.cmd.blockOff } }, stBlockOff)) ∧
    (∀ (c : CmdCtx) (m v : Word) (s : State), fastReady 0x12 c [0x000004, m, v] s = true → blockOff 0 s = false →
      let x : BitVec 16 := ((s.cmd.idle.setWidth 32 &&& ~~~ m) ||| (v &&& m)).setWidth 16
      (10 ≤ x.toNat → x.toNat ≤ 60000 →
        exec (.modifyReg c [0x000004, m, v]) s = .next (settle (reply c 0x12 stOk
          [s.cmd.idle.setWidth 32, x.setWidth 32] { s with cmd := { s.cmd with idle := x } }))) ∧
      (x.toNat < 10 ∨ 60000 < x.toNat →
        exec (.modifyReg c [0x000004, m, v]) s = .next (settle (reply c 0x12 stBadParam
          [s.cmd.idle.setWidth 32, s.cmd.idle.setWidth 32] s)))) ∧
    (∀ (src : RegSrc) (v : Word) (s : State), regReady 0 src s = true →
      (10 ≤ bits v 0 16 → bits v 0 16 ≤ 60000 →
        exec (.registerWrite src 0x000004 v) s = .next (settle { s with
          cmd := { s.cmd with idle := v.setWidth 16 }, lastStatus := stOk })) ∧
      (bits v 0 16 < 10 ∨ 60000 < bits v 0 16 →
        exec (.registerWrite src 0x000004 v) s = .next (settle { s with lastStatus := stBadParam }))))


/-! ### Pixel array and light pipeline (03, 04) -/

/-- TILE_CTRL_WRITE and ARRAY_CTRL_WRITE (R83, R86, R96): a value within 100 mA per tile is stored and waits for its compose
point; one above it is BAD_PARAM and changes nothing. In the compatibility modes a write that changes RANGE or TTRIM, and
every write of ARRAY_CTRL, is BAD_STATE. The tile's stored parity is good and no injection is armed. -/
def Obligations.TileControlKeepsCurrentLimit : Prop :=
  (∀ (src : RegSrc) (t : Fin 256) (v : Word) (s : State), regReady 8 src s = true →
    (s.tile t).parityBad = false → fails 8 1 false s = false →
    let same := bits v 4 2 = (s.tile t).range.toNat ∧ bits v 8 8 = (s.tile t).ttrim.toNat
    (s.compat = false ∨ same → 5 * (bits v 4 2 + 1) * (s.arr.gtrim.toNat + 128) * (bits v 8 8 + 384) ≤ 3200000 →
      exec (.tileCtrlWrite src t v) s = .next (settle { s with
        arr := { s.arr with tiles := modAt s.arr.tiles t (fun x => { x with
          on := bit v 0, range := BitVec.ofNat 2 (bits v 4 2), ttrim := BitVec.ofNat 8 (bits v 8 8), parityBad := false }) }
        lastStatus := stOk })) ∧
    (s.compat = false ∨ same → 3200000 < 5 * (bits v 4 2 + 1) * (s.arr.gtrim.toNat + 128) * (bits v 8 8 + 384) →
      exec (.tileCtrlWrite src t v) s = .next (settle { s with lastStatus := stBadParam })) ∧
    (s.compat = true → ¬ same → exec (.tileCtrlWrite src t v) s = .next (settle { s with lastStatus := stBadState }))) ∧
  (∀ (src : RegSrc) (v : Word) (s : State), regReady 8 src s = true →
    (s.compat = false → (∀ x ∈ s.arr.tiles, 5 * (x.range.toNat + 1) * (bits v 0 8 + 128) * (x.ttrim.toNat + 384) ≤ 3200000) →
      exec (.arrayCtrlWrite src v) s = .next (settle { s with
        arr := { s.arr with gtrim := v.setWidth 8 }, lastStatus := stOk })) ∧
    (s.compat = false → (∃ x ∈ s.arr.tiles, 3200000 < 5 * (x.range.toNat + 1) * (bits v 0 8 + 128) * (x.ttrim.toNat + 384)) →
      exec (.arrayCtrlWrite src v) s = .next (settle { s with lastStatus := stBadParam })) ∧
    (s.compat = true → exec (.arrayCtrlWrite src v) s = .next (settle { s with lastStatus := stBadState })))

/-- TILE_OC_TRIP and VLED_MEASURE (R84, R89, R90): an over-current tile is off at once, counted, and its source waits for the
gap; a measurement with agreeing, good supplies is stored with the rails and raises nothing; one below 2.9 V also sets
VLED_LOW. -/
def Obligations.ArraySupplyIsMeasured : Prop :=
  (∀ (t : Fin 256) (s : State), arrayOn s = true → (s.tile t).swClosed = true ∨ (s.tile t).swStuck = true →
    exec (.tileOcTrip t) s = .next (settle (((s.modTile t (fun x => { x with
      ocTrip := true, ocPend := true, ocCnt := satInc 8 x.ocCnt })).hit 8 (0x40 * t + 4) 2).hit 8 (0x40 * t + 0x14) 0))) ∧
  (∀ (die sense : Nat) (rails : List Nat) (s : State), arrayOn s = true → 2000 < sense → distance sense die ≤ 250 →
    let stored (low : Bool) : State := { s.hitIf low 8 0x4004 3 with arr := { s.arr with
      snsUsed := true, vled := mv13 sense, vledDie := mv13 die, vledOk := !low
      vledLow := s.arr.vledLow || low, vledWasHigh := false
      tiles := s.arr.tiles.zipIdx.map (fun p =>
        { p.1 with rail := mv13 (rails.getD p.2 0)
                   noSupply := p.1.swClosed && decide (rails.getD p.2 0 < 2500) }) } }
    (2900 ≤ sense → sense ≤ 4750 → exec (.vledMeasure die sense rails) s = .next (settle (stored false))) ∧
    (sense < 2900 → exec (.vledMeasure die sense rails) s = .next (settle (raiseFault 8 2 0 true false (stored true)))))

/-- LP_REG_WRITE (R105, R132, R134): a light-pipeline register written through either window reaches both pipelines and is
held pending; I_BUDGET outside 100 to 8000 mA, B_INIT outside 1 to 65,536 and K = 0 are BAD_PARAM; LP_CTRL is BAD_STATE in
the compatibility modes. No parity injection is armed. -/
def Obligations.LightRegistersReachBothPipelines : Prop :=
  ∀ (src : RegSrc) (e : Eng) (v : Word) (s : State), regReady (engBlk e) src s = true → fails (engBlk e) 1 false s = false →
    let put_ (f : LpRegs → LpRegs) (x : Engine) : Engine := { x with lp := { x.lp with reg := f x.lp.reg, pend := true } }
    let both (f : LpRegs → LpRegs) : State := { s with engA := put_ f s.engA, engB := put_ f s.engB, lastStatus := stOk }
    (s.compat = false → bits v 0 6 ≠ 0 →
      exec (.lpRegWrite src e 0x8000 v) s = .next (settle (both (fun r => { r with ctrl := v &&& 0x333F })))) ∧
    (s.compat = true → exec (.lpRegWrite src e 0x8000 v) s = .next (settle { s with lastStatus := stBadState })) ∧
    (s.compat = false → bits v 0 6 = 0 →
      exec (.lpRegWrite src e 0x8000 v) s = .next (settle { s with lastStatus := stBadParam })) ∧
    (100 ≤ bits v 0 14 → bits v 0 14 ≤ 8000 →
      exec (.lpRegWrite src e 0x8008 v) s = .next (settle (both (fun r => { r with iBudget := BitVec.ofNat 14 (bits v 0 14) })))) ∧
    (bits v 0 14 < 100 ∨ 8000 < bits v 0 14 →
      exec (.lpRegWrite src e 0x8008 v) s = .next (settle { s with lastStatus := stBadParam })) ∧
    (1 ≤ bits v 0 17 → bits v 0 17 ≤ 65536 →
      exec (.lpRegWrite src e 0x800C v) s = .next (settle (both (fun r => { r with bInit := v.setWidth 17 })))) ∧
    (bits v 0 17 = 0 ∨ 65536 < bits v 0 17 →
      exec (.lpRegWrite src e 0x800C v) s = .next (settle { s with lastStatus := stBadParam }))

/-! ### Diagnostics (07) -/

/-- DIAG_RUN, DIAG_MAP_READ and DIAG_CTRL_WRITE (R216, R219, R221, R224, R227): a run marks itself in progress and sets up its
own test, CLEAR_TILE and CLEAR_MAP end at once with EV_DIAG_DONE; a second run is BUSY, a run outside S0 and S1 BAD_STATE, and
so is a CLEAR_TILE of a tile declared in the same clock; the row of the map is answered; DIAG_CTRL is stored, and clearing
one of its enables without a session is DENIED. -/
def Obligations.DiagRunStartsItsTest : Prop :=
  (∀ (c : CmdCtx) (w w1 w2 : Word) (s : State),
    lit s = true → blockOff 9 s = false → within w 0xFF03 = true →
    let started (op : Nat) : State := { s with diag := { s.diag with
      runBusy := true, runOp := op, runTile := bits w 8 8, runTag := c.tag.toNat, runFound := [] } }
    (s.diag.runBusy = false →
      (fastReady 0x40 c [setField w 0 2 0, 0, 0] s = true →
        exec (.diagRunBridge c [w, 0, 0]) s = .next (answered 0x40 c [] { started 0 with diag := { (started 0).diag with
          bridgeLeft := 4, bridgeSweeps := [] } })) ∧
      (fastReady 0x40 c [setField w 0 2 1, 0, 0] s = true →
        exec (.diagRunSwtest c [w, 0, 0]) s = .next (answered 0x40 c [] ((started 1).modDiagTile (bits w 8 8)
          (fun d => { d with suspectTest := true })))) ∧
      (fastReady 0x40 c [setField w 0 2 2, 0, 0] s = true → declaredNow (bits w 8 8) s = true →
        exec (.diagRunClearTile c [w, 0, 0]) s = .next (settle (reply c 0x40 stBadState [] s))) ∧
      (fastReady 0x40 c [setField w 0 2 2, 0, 0] s = true → declaredNow (bits w 8 8) s = false →
        exec (.diagRunClearTile c [w, 0, 0]) s = .next (answered 0x40 c [] (diagDone 0
          (((started 2).modTile (bits w 8 8) (fun x => { x with swFail := false, swStuck := false, tileBad := false })).modDiagTile
            (bits w 8 8) (fun d => { d with suspectRun := 0 }))))) ∧
      (fastReady 0x40 c [setField w 0 2 3, w1, w2] s = true → within w1 0x03FF03FF = true → within w2 0x03FF03FF = true →
        bits w1 0 10 ≤ bits w2 0 10 → bits w1 16 10 ≤ bits w2 16 10 →
        exec (.diagRunClearMap c [w, w1, w2]) s = .next (answered 0x40 c [] (diagDone 0 (dirtyMap
          { started 3 with diag := { (started 3).diag with
            deadMap := s.diag.deadMap.filter (fun p => !inBox (bits w1 0 10) (bits w1 16 10) (bits w2 0 10) (bits w2 16 10) p.1)
            cand := s.diag.cand.filter (fun p => !inBox (bits w1 0 10) (bits w1 16 10) (bits w2 0 10) (bits w2 16 10) p.1)
            healOne := s.diag.healOne.filter (fun k =>
              !inBox (bits w1 0 10) (bits w1 16 10) (bits w2 0 10) (bits w2 16 10) k) } }))))) ∧
    (s.diag.runBusy = true → fastReady 0x40 c [setField w 0 2 0, 0, 0] s = true →
      exec (.diagRunBridge c [w, 0, 0]) s = .next (settle (reply c 0x40 stBusy [] s)))) ∧
  (∀ (c : CmdCtx) (w : Word) (s : State), lit s = false → blockOff 9 s = false → within w 0xFF03 = true →
    fastReady 0x40 c [setField w 0 2 0, 0, 0] s = true →
    exec (.diagRunBridge c [w, 0, 0]) s = .next (settle (reply c 0x40 stBadState [] s))) ∧
  (∀ (c : CmdCtx) (w : Word) (s : State), fastReady 0x41 c [w] s = true → within w 0x3FF = true →
    (blockOff 9 s = false → exec (.diagMapRead c [w]) s = .next (answered 0x41 c (mapRow (bits w 0 10) s) s)) ∧
    (blockOff 9 s = true → exec (.diagMapRead c [w]) s = .next (settle (reply c 0x41 stBlockOff [] s)))) ∧
  (∀ (src : RegSrc) (v : Word) (s : State), regReady 9 src s = true → bits v 8 2 ≠ 3 →
    (srcSession src s = true ∨ s.diag.ctrl &&& 0xF &&& ~~~ v = 0 →
      exec (.diagCtrlWrite src v) s = .next (settle { s with
        diag := { s.diag with ctrl := v &&& 0x001F031F }, lastStatus := stOk })) ∧
    (srcSession src s = false → s.diag.ctrl &&& 0xF &&& ~~~ v ≠ 0 →
      exec (.diagCtrlWrite src v) s = .next (settle { s with lastStatus := stDenied })))

/-- The gap's measurements (R206, R207, R212, R214, R217, R220): a passed switch test of a closed tile clears its retest and
raises nothing; a first failure pends a retest; a second in a row makes the tile SW_FAIL and raises SW_FAIL; a dark probe
samples the probed pixels into the latches; a capture takes the latches of the pixels whose pulse was sampled. A sweep that
ends with classification off, or whose VLED was not good, changes nothing else; one that shows a good pixel as NODE once
makes it a candidate, and a second time in a row declares it SHORT, with the dead map dirty. -/
def Obligations.GapMeasurementsAreTaken : Prop :=
  (∀ (rail t : Nat) (s : State), inFullGap s = true → swtestOn s = true → s.diag.bridgePhase = 0 → s.diag.testTile = none →
    s.diag.runBusy = false → (testChoice s).1 = t → (s.tile t).swClosed = true →
    let noted (u : State) : State := { u with diag := { u.diag with testTile := some t, testAtPtr := (testChoice s).2 } }
    (rail < vOff s → exec (.switchTest rail) s = .next (settle (noted
      (s.modDiagTile t (fun d => { d with suspectTest := false, retest := false }))))) ∧
    (vOff s ≤ rail → (s.dtile t).retest = false → exec (.switchTest rail) s = .next (settle (noted
      (s.modDiagTile t (fun d => { d with suspectTest := false, retest := true }))))) ∧
    (vOff s ≤ rail → (s.dtile t).retest = true → exec (.switchTest rail) s = .next (settle (noted
      (raiseFault 9 2 t true false ((s.modDiagTile t (fun d => { d with suspectTest := false, retest := false })).modTile t
        (fun x => { x with swFail := true }))))))) ∧
  (∀ (nodes : List NodeSample) (s : State), inFullGap s = true →
    exec (.darkProbe nodes) s = .next (settle (setLatches true nodes (probePixels s)
      { s with diag := { s.diag with probed := probePixels s } }))) ∧
  (∀ (nodes : List NodeSample) (s : State), lit s = true → s.scan.inGap = true → s.diag.sweeping = false →
    s.diag.bridgePhase = 0 →
    let s2 := setLatches false nodes (litPixels s) s
    exec (.capture nodes) s = .next (settle { s2 with diag := { s2.diag with
      capture := (setUnion (litPixels s) s.diag.probed).map (fun k => (k, captureCode s2 k))
      sweeping := true, captWasFold := s.diag.foldIsWindow, captVledOk := s.arr.vledOk, captPhase := 0, captLast := false } })) ∧
  (∀ (s : State), lit s = true → s.diag.sweeping = true → s.diag.captLast = false →
    (classifyOn s = false ∨ s.diag.captVledOk = false →
      exec .readbackSweepDone s = .next (settle { s with diag := { s.diag with sweeping := false } })) ∧
    (∀ k : Nat, classifyOn s = true → s.diag.captVledOk = true → s.diag.captPhase = 0 → s.diag.capture = [(k, 3)] →
      (s.dtile (tileOfPix k)).exclCapt = false → spGet s.diag.deadMap k 0 = 0 →
      (spGet s.diag.cand k 0 ≠ 2 → ∃ t, exec .readbackSweepDone s = .next t ∧ t.diag.deadMap = s.diag.deadMap ∧
        t.diag.cand = spSet s.diag.cand k 2 ∧ t.diag.sweeping = false) ∧
      (spGet s.diag.cand k 0 = 2 → ∃ t, exec .readbackSweepDone s = .next t ∧ t.diag.deadMap = spSet s.diag.deadMap k 2 ∧
        t.diag.mapDirty = true ∧ t.diag.sweeping = false)))

/-! ### Check-value units (18) -/

/-- START, FINISH, both together and neither (R481, R483): START stores the fields of CTRL, loads the CRC register with INIT,
takes the count to 0, empties the FIFOs and the bytes kept back, clears DONE, MATCH and MISMATCH and makes the unit active;
POLY, XOROUT, LEN, RESULT and SHORT stay (for LEN and SHORT that is the model's reading, log entries 13 and 171); FINISH
completes an active MODE 0 unit whose bytes are all taken with RESULT the CRC of its running value; both together complete
the unit that START gives at once, with RESULT its CRC, the check value of MODE 1 in the output FIFO, and the verdict of MODE
2 over no bytes; neither stores the configuration of an idle unit, and of an active one only NBYTES. The unit is one that the
source may write. -/
def Obligations.CheckUnitControl : Prop :=
  ∀ (src : RegSrc) (u : Fin 4) (v : Word) (s : State), regReady 11 src s = true → unitDenied src u = false →
    let row (f : CrcUnit → CrcUnit) : State := { s.modUnit u f with lastStatus := stOk }
    let stored (x : CrcUnit) : CrcUnit := { x with
      nbytes := BitVec.ofNat 2 (bits v 20 2), mode := BitVec.ofNat 2 (bits v 16 2), order := bit v 10, refin := bit v 9
      refout := bit v 8, width := bits v 0 7 }
    let started (x : CrcUnit) : CrcUnit := { stored x with
      run := x.init, count := 0, inFifo := [], outFifo := [], strip := [], done := false, isMatch := false, mismatch := false
      finishing := false, active := true }
    (ctrlBad v = false →
      exec (.crcuStart src u v) s = .next (settle (row started)) ∧
      exec (.crcuStartFinish src u v) s = .next (settle (row (fun x =>
        let y := started x
        let r := crcOut (unitP y) (x.init.toNat % 2 ^ y.width)
        let short := y.mode == 2 && (decide (x.len.toNat < checkLen y) || decide (0 < x.len.toNat))
        let good := y.mode == 2 && !short && [] == checkBytes y r
        { y with
          result := BitVec.ofNat 64 r, done := true, active := false
          outFifo := padOut (if y.mode == 1 then checkBytes y r else [])
          isMatch := good, mismatch := y.mode == 2 && !good, short := short })))) ∧
    ((s.crcUnit u).active = true → (s.crcUnit u).inFifo = [] → (s.crcUnit u).mode = 0 → (s.crcu.units.length = 4) →
      exec (.crcuFinish src u v) s = .next (settle (row (fun x => { x with
        result := BitVec.ofNat 64 (crcOut (unitP x) (x.run.toNat % 2 ^ x.width)), done := true, active := false
        finishing := false, inFifo := [], outFifo := padOut x.outFifo, isMatch := false, mismatch := false
        short := false })))) ∧
    (ctrlBad v = false → (s.crcUnit u).active = false →
      exec (.crcuCtrlNbytes src u v) s = .next (settle (row stored))) ∧
    (ctrlBad v = false → (s.crcUnit u).active = true → ctrlSame (s.crcUnit u) v = true →
      exec (.crcuCtrlNbytes src u v) s = .next (settle (row (fun x => { x with nbytes := BitVec.ofNat 2 (bits v 20 2) })))) ∧
    (ctrlBad v = false → (s.crcUnit u).active = true → ctrlSame (s.crcUnit u) v = false →
      exec (.crcuCtrlNbytes src u v) s = .next (settle { s with lastStatus := stBadState }))

/-- The data of a unit (R482, R484, R486): an active MODE 0 unit with an empty FIFO takes the NBYTES + 1 low bytes of DATA_IN
into its running value, in order; DATA_OUT gives the oldest four bytes, or 0 with UNDERRUN; RUN_LO read latches RUN_HI and
COUNT; RUN written loads both halves. -/
def Obligations.CheckUnitData : Prop :=
  ∀ (u : Fin 4) (s : State), s.crcu.units.length = 4 →
    (∀ (src : RegSrc) (v : Word), regReady 11 src s = true → unitDenied src u = false → (s.crcUnit u).active = true →
      (s.crcUnit u).mode = 0 → (s.crcUnit u).inFifo = [] → (s.crcUnit u).finishing = false →
      1 ≤ (s.crcUnit u).width → (s.crcUnit u).width ≤ 64 →
      let bs := (wordBytes v).take ((s.crcUnit u).nbytes.toNat + 1)
      ∃ t, exec (.crcuDataIn src u v) s = .next t ∧ t.lastStatus = stOk ∧
        (t.crcUnit u).run.toNat = bs.foldl (crcByte (unitP (s.crcUnit u))) ((s.crcUnit u).run.toNat % 2 ^ (s.crcUnit u).width) ∧
        (t.crcUnit u).count = (s.crcUnit u).count + BitVec.ofNat 32 bs.length ∧ (t.crcUnit u).inFifo = [] ∧
        (t.crcUnit u).active = true) ∧
    (∀ (src : RegSrc), regReady 11 src s = true →
      ((s.crcUnit u).outFifo.length < 4 →
        exec (.crcuDataOutRead src u) s = .next (settle { (s.modUnit u (fun x => { x with underrun := true })).hit 11
          (0x40 * u + 4) 5 with lastStatus := stOk, lastRead := 0 })) ∧
      (4 ≤ (s.crcUnit u).outFifo.length → (s.crcUnit u).inFifo = [] → (s.crcUnit u).finishing = false →
        exec (.crcuDataOutRead src u) s = .next (settle { s.modUnit u (fun x => { x with outFifo := x.outFifo.drop 4 }) with
          lastStatus := stOk, lastRead := bytesWord ((s.crcUnit u).outFifo.take 4) })) ∧
      exec (.crcuRunRead src u) s = .next (settle { s.modUnit u (fun x => { x with
          runHiSnap := (x.run >>> 32).setWidth 32, countSnap := x.count }) with
        lastStatus := stOk, lastRead := (s.crcUnit u).run.setWidth 32 })) ∧
    (∀ (src : RegSrc) (hi lo : Word), regReady 11 src s = true → unitDenied src u = false → (s.crcUnit u).inFifo = [] →
      exec (.crcuRunWrite src u hi lo) s = .next (settle { s.modUnit u (fun x => { x with
          runHiStage := hi, run := (hi.setWidth 64 <<< 32) ||| lo.setWidth 64 }) with lastStatus := stOk }))

/-- A CHECK that has taken LEN bytes completes by itself, with MATCH where the bytes kept back are the check value and MISMATCH
where they are not (R485); the known-answer tests set the PASS bit of every checker that passes and clear it and raise
KAT_FAIL for one that does not (R487, R490). -/
def Obligations.CheckUnitVerdicts : Prop :=
  (∀ (u : Fin 4) (s : State), blockOff 11 s = false → s.crcu.units.length = 4 → (s.crcUnit u).active = true →
    (s.crcUnit u).mode = 2 → (s.crcUnit u).count.toNat = (s.crcUnit u).len.toNat → checkLen (s.crcUnit u) ≤ (s.crcUnit u).len.toNat →
    let good := (s.crcUnit u).strip == checkBytes (s.crcUnit u) (unitResult (s.crcUnit u))
    ∃ t, exec (.crcuCheckDone u) s = .next t ∧ (t.crcUnit u).done = true ∧ (t.crcUnit u).active = false ∧
      (t.crcUnit u).isMatch = good ∧ (t.crcUnit u).mismatch = !good ∧ (t.crcUnit u).short = false) ∧
  (∀ (bad : BitVec 4) (s : State), blockOff 11 s = false → fails 11 0 false s = false →
    exec (.crcuKatRun bad) s = .next (settle (
      let s1 := [0, 1, 2, 3].foldl (fun u n => if bad.getLsbD n then raiseFault 11 0 n true false u else u) s
      { s1 with crcu := { s1.crcu with pass := ~~~ bad } })))

/-! ### Strokes, flips and composition (02, 05) -/

/-- STROKE_START and GAP_START (R42, R45, R50, R63, R64, R69, R230, R231): a stroke counts, ends the gap, takes a forced change
of gapless to off, and is a full-gap stroke where a gapless stretch has reached its limit or diagnosis waits; a gap begins, a
forced full gap is counted and ends the stretch. The gap that starts LEAD strokes before the flip instant is a compose point
as well, which follows the gap's own work in the same evaluation. A compose point in S0 or S1, outside plain compatibility
mode, makes the pending class the class, samples GAPLESS, which is 0 outside class HIGH and in the compatibility modes, and
the orientation; in S0 the effective aim moves towards its targets by at most CEIL_SLEW rows and AIM_SLEW columns. -/
def Obligations.StrokesAndGapsAreCounted : Prop :=
  (∀ s : State, strokesRun s = true →
    let act := s.scan.gaplessAct && !gaplessOff s.bstay.beam s.bstay.cls s
    let forced := act && (deferLimit ≤ s.scan.deferCnt || gapWanted s)
    ∃ t, exec .strokeStart s = .next t ∧ t.scan.strokeCnt = s.scan.strokeCnt + 1 ∧ t.scan.gaplessAct = act ∧
      t.scan.strokeInFrame = min 32 (s.scan.strokeInFrame + 1) ∧ t.scan.inGap = false ∧ t.scan.strokeForced = forced ∧
      t.scan.strokeGapless = (act && !forced) ∧ t.scan.frameCnt = s.scan.frameCnt ∧
      t.bstay.steerAge = satInc 16 s.bstay.steerAge) ∧
  (∀ (heads peaks : List (Nat × Nat)) (upset : List Nat) (bad : Bool) (s : State), strokesRun s = true →
    s.scan.inGap = false → s.scan.strokeInFrame ≠ 0 → leadNow s = nfNow s ∨ s.scan.strokeInFrame ≠ nfNow s - leadNow s →
    ∃ t, exec (.gapStart heads peaks upset bad) s = .next t ∧ t.scan.inGap = true ∧ t.scan.gapTick = s.ticks ∧
      t.arr.shone = s.arr.live ∧
      t.scan.strokeCnt = s.scan.strokeCnt ∧ t.scan.frameCnt = s.scan.frameCnt ∧
      t.scan.forcedGap = s.scan.strokeForced ∧
      (s.scan.strokeForced = true → t.scan.forcedCnt = satInc 16 s.scan.forcedCnt ∧ t.scan.deferCnt = 0) ∧
      (s.scan.strokeForced = false → t.scan.forcedCnt = s.scan.forcedCnt ∧
        t.scan.deferCnt = if s.scan.strokeGapless then satInc 12 s.scan.deferCnt else 0)) ∧
  (∀ (heads peaks : List (Nat × Nat)) (upset : List Nat) (bad : Bool) (s : State), strokesRun s = true →
    s.scan.inGap = false → s.scan.strokeInFrame ≠ 0 → leadNow s < nfNow s → s.scan.strokeInFrame = nfNow s - leadNow s →
    exec (.gapStart heads peaks upset bad) s =
      .next (settle (composePoint bad (gapDiag (gapArray heads peaks upset (countGap s)))))) ∧
  (∀ (bad : Bool) (s : State), s.pwr.pstate = .s0 ∨ s.pwr.pstate = .s1 → s.mode.ifMode ≠ .compat →
    let t := composePoint bad s
    t.bstay.cls = s.bstay.clsPend.getD s.bstay.cls ∧ t.bstay.clsPend = none ∧
    t.scan.flipH = bit s.scan.ctrl 24 ∧ t.scan.flipV = bit s.scan.ctrl 25 ∧
    (t.scan.gaplessSmp = true → bit s.scan.ctrl 20 = true ∧ t.bstay.cls = .high ∧ s.compat = false) ∧
    (s.pwr.pstate = .s0 →
      t.bstay.aimVAct = toward s.bstay.aimVAct s.bstay.aimVTgt (bits s.bstay.cfg 0 4) ∧
      t.bstay.aimHAct = toward s.bstay.aimHAct t.bstay.hEff (bits s.bstay.cfg 8 5) ∧
      (t.bstay.hEff = 0 ∨ t.bstay.hEff = s.bstay.aimHTgt)))

/-- FLIP_INSTANT (R48, R49, R50, R69): at a flip instant with a pending flip every tile's next codes become its live codes at
once; without one the live codes stay; a tile in its safe state has none. The frame counter advances, RATE, NF and LEAD are
taken from SCAN_CTRL, the sampled GAPLESS takes effect, and the next frame starts at stroke 0. Where LEAD is not below NF the
flip instant is a compose point as well, which follows the flip in the same evaluation.
A compose point (R113, R147, R238, R243, R244, R251): in S0 every ceiling entry moves towards its target by at most CEIL_SLEW, a
zone limit falls at once and rises by at most 2048, the targets being those that the last complete SET_CEILING left; a pending
NORMAL takes effect with every segment of the frame dirty, or is dropped where a condition of R251 holds; the slewed factors of
an engine move by at most 655; a ready layer in no flip group moves to its pending arm, which counts as a content change; the
verdicts are compared, a difference raises its source, a verdict that was not posted is counted and the second in a row raises
its own, and a new verdict is formed. -/
def Obligations.FlipShowsTheWholeFrame : Prop :=
  (∀ (bad : Bool) (s : State), strokesRun s = true → flipDue s = true → s.compat = false →
    bits s.scan.ctrl 12 5 < bits s.scan.ctrl 4 5 →
    ∃ t, exec (.flipInstant bad) s = .next t ∧ t.scan.frameCnt = s.scan.frameCnt + 1 ∧ t.scan.strokeInFrame = 0 ∧
      t.time.notice = none ∧ t.scan.rateAct = s.scan.ctrl.setWidth 2 ∧
      t.scan.nfAct = BitVec.ofNat 5 (bits s.scan.ctrl 4 5) ∧ t.scan.leadAct = BitVec.ofNat 5 (bits s.scan.ctrl 12 5) ∧
      t.engA.job.active = false ∧ t.engB.job.active = false ∧ t.scan.gaplessAct = s.scan.gaplessSmp ∧
      (∀ p, p ∈ t.arr.live ↔ (p ∈ (if flipPending s then s.arr.next else s.arr.live) ∧
        darkTile t (tileOfPix p.1) = false))) ∧
  (∀ (bad : Bool) (s : State), strokesRun s = true → flipDue s = true → s.compat = false →
    bits s.scan.ctrl 4 5 ≤ bits s.scan.ctrl 12 5 →
    let u := flipFrame s
    exec (.flipInstant bad) s = .next (settle (composePoint bad u)) ∧
    u.scan.frameCnt = s.scan.frameCnt + 1 ∧ u.scan.strokeInFrame = 0 ∧
    u.time.notice = none ∧ u.scan.rateAct = s.scan.ctrl.setWidth 2 ∧
    u.scan.nfAct = BitVec.ofNat 5 (bits s.scan.ctrl 4 5) ∧ u.scan.leadAct = BitVec.ofNat 5 (bits s.scan.ctrl 12 5) ∧
    u.scan.gaplessAct = s.scan.gaplessSmp ∧
    (∀ p, p ∈ u.arr.live ↔ p ∈ (if flipPending s then s.arr.next else s.arr.live))) ∧
  (∀ (bad : Bool) (s : State), s.pwr.pstate = .s0 → fails 10 6 bad s = false → s.bstay.discarded = false →
    let a := s.bstay
    let b := (composePoint bad s).bstay
    let step := bits a.cfg 0 4
    (a.commitPend = false → b.ceilTgt = a.ceilTgt ∧ b.zlimTgt = a.zlimTgt) ∧
    (a.commitPend = true →
      b.ceilTgt = spPutAll 0 a.ceilTgt a.commitCeil ∧ b.zlimTgt = spPutAll 0 a.zlimTgt a.commitZlim ∧ b.ceilValid = true) ∧
    (∀ k : Fin 1024,
      (spGet a.ceilAct k.val 0 < spGet b.ceilTgt k.val 0 →
        spGet b.ceilAct k.val 0 = min (spGet b.ceilTgt k.val 0) (spGet a.ceilAct k.val 0 + step)) ∧
      (spGet b.ceilTgt k.val 0 ≤ spGet a.ceilAct k.val 0 →
        spGet b.ceilAct k.val 0 = max (spGet b.ceilTgt k.val 0) (spGet a.ceilAct k.val 0 - step)) ∧
      (spGet b.zlimTgt k.val 0 < spGet a.zlimAct k.val 0 → spGet b.zlimAct k.val 0 = spGet b.zlimTgt k.val 0) ∧
      (spGet a.zlimAct k.val 0 ≤ spGet b.zlimTgt k.val 0 →
        spGet b.zlimAct k.val 0 = min (spGet b.zlimTgt k.val 0) (spGet a.zlimAct k.val 0 + 2048)))) ∧
  (∀ s : State, s.bstay.normalPend = true →
    (normalRefused s = true → takeNormal s = { s with bstay := { s.bstay with normalPend := false } }) ∧
    (normalRefused s = false →
      let t := takeNormal s
      t.bstay.beam = .normal ∧ t.bstay.normalPend = false ∧ t.bstay.tryOwns = false ∧ t.bstay.tryCause = 0 ∧
      t.scan.allDirtyNext = true)) ∧
  (∀ (e : Eng) (s : State), (s.eng e).lp.freshStart = false → (s.eng e).lp.deepExit = false →
    let l := (s.eng e).lp
    let m := ((slewFactors e s).eng e).lp
    (l.rGlobAct < s.therm.globTgt → m.rGlobAct = min s.therm.globTgt (l.rGlobAct + 655)) ∧
    (s.therm.globTgt ≤ l.rGlobAct → m.rGlobAct = max s.therm.globTgt (l.rGlobAct - 655)) ∧
    (l.bAct < l.bTgt → m.bAct = min l.bTgt (l.bAct + 655)) ∧ (l.bTgt ≤ l.bAct → m.bAct = max l.bTgt (l.bAct - 655)) ∧
    (∀ t : Fin 256,
      let g := spGet s.therm.tileTgt t.val 65536
      let a := spGet l.rTileAct t.val 65536
      (a < g → spGet m.rTileAct t.val 65536 = min g (a + 655)) ∧
      (g ≤ a → spGet m.rTileAct t.val 65536 = max g (a - 655)))) ∧
  (∀ (e : Eng) (n : Fin 8) (a : Arm) (s : State), (s.eng e).comp.layers.length = 8 →
    ((s.eng e).layer n).arm = some a → armReady s a = true → a.desc.group = 0 → a.desc.wbSrc = false →
    let r := composeLayers e s
    let l := (r.1.eng e).layer n
    l.arm = none ∧ l.actBuf = some a.buf ∧ l.blank = a.blanks ∧ l.act.srcPos = a.desc.srcPos ∧ l.act.srcSize = a.desc.srcSize ∧
    l.act.dstPos = a.desc.dstPos ∧ l.act.dstSize = a.desc.dstSize ∧ r.2 = true) ∧
  (∀ s : State, s.bstay.firstCompose = false → s.flt.length = 18 →
    let t := verdictStep s
    t.bstay.verdHw = verdict s ∧ t.bstay.verdPosted = false ∧
    (s.bstay.verdPosted = true → s.bstay.verdHw ≠ s.bstay.verdFw → (t.win 10).status.getLsbD 4 = true) ∧
    (s.bstay.verdPosted = true → s.bstay.verdHw = s.bstay.verdFw → fails 10 4 false s = false → t.flt = s.flt) ∧
    (s.bstay.verdPosted = false → t.bstay.verdLateCnt = satInc 16 s.bstay.verdLateCnt ∧
      (s.bstay.verdMissing = 0 → t.flt = s.flt) ∧ (1 ≤ s.bstay.verdMissing → (t.win 10).status.getLsbD 5 = true)))

/-- SCAN_CTRL_WRITE (R67, R69): in the compatibility modes every write is refused with BAD_STATE and the register reads
RATE 3, NF 0, LEAD 0 and GAPLESS 0; in native mode a write is checked on receipt, kept for the flip instant or compose point;
NF + 1 below its smallest value, RATE 3, and GAPLESS 1 outside class HIGH or in beam state Trysail (log entry 145) are refused
with CFG_ERR and change nothing else. -/
def Obligations.ScanControlIsCheckedOnReceipt : Prop :=
  (∀ (src : RegSrc) (v : Word) (s : State), regReady 7 src s = true → s.compat = false →
    (bits v 0 2 ≠ 3 → 2 * 2 ^ bits v 0 2 ≤ bits v 4 5 + 1 →
      (bit v 20 = true → s.bstay.cls = .high ∧ s.bstay.beam ≠ .trysail) →
      exec (.scanCtrlWrite src v) s = .next (settle { noteLoad { s with
        scan := { s.scan with ctrl := v &&& 0x0311F1F3 } } with lastStatus := stOk })) ∧
    (bits v 0 2 = 3 ∨ bits v 4 5 + 1 < 2 * 2 ^ bits v 0 2 →
      exec (.scanCtrlWrite src v) s = .next (settle { s.hit 7 4 3 with
        scan := { s.scan with cfgErr := true }, lastStatus := stBadParam })) ∧
    (bits v 0 2 ≠ 3 → 2 * 2 ^ bits v 0 2 ≤ bits v 4 5 + 1 → bit v 20 = true →
      s.bstay.cls ≠ .high ∨ s.bstay.beam = .trysail →
      exec (.scanCtrlWrite src v) s = .next (settle { s.hit 7 4 3 with
        scan := { s.scan with cfgErr := true }, lastStatus := stBadState }))) ∧
  (∀ (src : RegSrc) (v : Word) (s : State), regReady 7 src s = true → s.compat = true →
    exec (.scanCtrlWrite src v) s = .next (settle { s.hit 7 4 3 with
      scan := { s.scan with cfgErr := true }, lastStatus := stBadState })) ∧
  (∀ s : State, s.compat = true → blockOff 7 s = false →
    let r := regRead 0x00070000 s
    r.1 = s ∧ r.2.1 = stOk ∧ bits r.2.2 0 2 = 3 ∧ bits r.2.2 4 5 = 0 ∧ bits r.2.2 12 5 = 0 ∧ bit r.2.2 20 = false)

/-- ROW_COMPLETE and COMPOSITION_END (R53, R101, R156, R166, R180, R540): an engine's rows complete in order; without errors and
with no engine to compare with, the row's codes, signatures and dirty segments are the only change; the end of the frame
records its time, load / (4 f_PIX) in whole microseconds, a fraction dropped or counted as one (log entry 151), and its load, and completes a write-back buffer that
stays in the store.
FENCE_TIMEOUT (R162): at a compose point at which the wait count of a layer's arm reaches TIMEOUT, EV_FENCE_TIMEOUT is
queued by the composer, ACTION 1 or 2 forces the arm, blank for 2, and ACTION 0 cancels it; layers of its flip group (log entry 177) whose
waits are due at the same compose point apply theirs in the same evaluation; a layer whose wait is not due is left alone. -/
def Obligations.RowsAndFencesComplete : Prop :=
  ((∀ (e : Eng) (upset : List (Fin 1024 × BitVec 16)) (calBad : List Nat) (storeBad : List (Nat × Nat)) (corr : Nat) (s : State),
      rowsRun e s = true →
      ∃ t, exec (.rowComplete e upset calBad storeBad corr) s = .next t ∧ (t.eng e).job.rows = (s.eng e).job.rows + 1) ∧
    (∀ (e : Eng) (s : State), rowsRun e s = true → (s.win 4).inject.getLsbD 0 = false → (s.win 4).inject.getLsbD 1 = false →
      fails (engBlk e) 16 false s = false → fails (engBlk e) 0 false s = false → pairing s = none →
      exec (.rowComplete e [] [] [] 0) s = .next (settle (s.modEng e
        (takeCodes (s.eng e).job.rows (rowCodes e (s.eng e).job.rows [] s))))) ∧
    (∀ (e : Eng) (up : Bool) (s : State), s.pwr.pstate = .s0 → (s.eng e).job.active = true → (s.eng e).job.rows = 1024 →
      (s.eng e).job.ended = false →
      (e ≠ composer s ∨ s.compat = true ∨ (s.eng e).comp.wbTarget = none →
        exec (.compositionEnd e up) s = .next (settle (s.modEng e (fun x => { x with
          comp := { x.comp with
            composeTime := min 65535 (lastLoad x s / (400 * pixOf s.clk.opAct.toNat) +
              if up = true ∧ lastLoad x s % (400 * pixOf s.clk.opAct.toNat) ≠ 0 then 1 else 0)
            loadLast := lastLoad x s }
          job := { x.job with ended := true } })))) ∧
      (∀ b : Nat, e = composer s → s.compat = false → (s.eng e).comp.wbTarget = some b → b < s.store.bufs.length →
        wbTargetCode (s.eng e).comp ≠ 2 →
        ∃ t, exec (.compositionEnd e up) s = .next t ∧ (t.buf b).state = .complete ∧
          t.engA.comp.wbCur = some b ∧ t.engB.comp.wbCur = some b ∧ (t.buf b).fill = (s.buf b).size))) ∧
  ((∀ (e : Eng) (n : Fin 8) (a : Arm) (s : State), composeDue s = true → mayCompose e s = true → s.compat = false →
      timeoutDue e n s = true → ((s.eng e).layer n).arm = some a → dueMates e n s = [n.val] →
      let s1 := if e = composer s then queueEvent (engBlk e * 256 + 2) 1 [put 8 a.fence ||| put 0 n.val] s else s
      (a.desc.action ≠ 0 → exec (.fenceTimeout e n) s = .next (settle (s1.modEng e (fun x =>
        (x.modLayer n (fun l => { l with arm := some { a with forced := true, blanks := a.desc.action == 2 } })).modComp
          (fun c => { c with moved := true }))))) ∧
      (a.desc.action = 0 → exec (.fenceTimeout e n) s = .next (settle (cancelArms e [n.val] 1 s1)))) ∧
    (∀ (e : Eng) (n : Fin 8) (s : State), composeDue s = true → mayCompose e s = true → s.compat = false →
      timeoutDue e n s = true → exec (.fenceTimeout e n) s = .next (settle (
        cancelArms e ((dueMates e n s).filter (fun m => actionOf (s.eng e) m == 0)) 1
          ((dueMates e n s).foldl (expireFence e) s)))) ∧
    (∀ (e : Eng) (n : Fin 8) (s : State), composeDue s = false ∨ timeoutDue e n s = false →
      exec (.fenceTimeout e n) s = .next (settle s)))

/-- SEGMENT_WRITE and TRYSAIL_SEGMENT_WRITE (R46, R53, R56, R234, R235, R250): the writer that owns the row bus puts a dirty
segment, clamped by the SLP check, into the next latches, drops it from its dirty set and counts the clamps; while the row
bus is closed nothing is written, and a write cut short by a closure changes nothing. No parity or memory error is met. -/
def Obligations.SegmentWritesAreCheckedAndNoted : Prop :=
  (∀ (e : Eng) (g : Fin 16384) (s : State), mayWrite e s = true → (s.eng e).job.active = true →
    (s.eng e).dirty.contains g.val = true → g.val / 16 < (s.eng e).job.rows →
    writeTurn s.bstay.arb.overlap (s.eng e) g.val = true →
    fails 10 6 false s = false →
    let r := checkedSeg (s.eng e) s.bstay g.val
    exec (.segmentWrite e g false false) s = .next (settle (
      (noteSeg e g.val (noteWrite g.val (latchSeg g.val r.1 s))).modBstay (fun b => { b with
        clampNow := b.clampNow + r.2, clampNowEng := b.clampNowEng + r.2
        clampSegs := if r.2 = 0 then b.clampSegs else setIns b.clampSegs g.val })))) ∧
  (∀ (g : Fin 16384) (s : State), s.bstay.tryOwns = true → s.bstay.tryDirty.contains g.val = true → busClosed s = false →
    fails 10 6 false s = false → fails 10 8 false s = false →
    let r := trySegCodes s g.val
    exec (.trysailSegmentWrite g false ⟨false, false⟩) s = .next (settle (
      (noteWrite g.val (latchSeg g.val r.1 s)).modBstay (fun b => { b with
        tryDirty := setDel b.tryDirty g.val, trySegSig := spSet b.trySegSig g.val (codesSig r.1), clampNow := b.clampNow + r.2
        tryClampSegs := if r.2 = 0 then b.tryClampSegs else setIns b.tryClampSegs g.val })))) ∧
  (∀ (e : Eng) (g : Fin 16384) (cut bad : Bool) (u : TryUpset) (s : State), cut = true ∨ busClosed s = true →
    exec (.segmentWrite e g cut bad) s = .next (settle s) ∧ exec (.trysailSegmentWrite g cut u) s = .next (settle s))

/-- The codes that segment writes put into the next latches (R229, R231, R234): with a valid profile, in a class other than
HIGH, a pixel whose scene position lies on the canvas above the effective ceiling has the limit of its zone, 0 in SIGNAL; one
whose c times d exceeds the limit in drive units by more than half its c is written as the clamp word, whose duty is the
greatest that does not, with no current where that duty is 0; every other pixel is written as it is. Each code that
SEGMENT_WRITE or TRYSAIL_SEGMENT_WRITE leaves in the next latches of a closed tile is one that has passed this check at the
scene position of its pixel, so that none exceeds the limit by more than the rounding allowance. No parity or memory error is
met. -/
def Obligations.SlpClampsAboveTheCeiling : Prop :=
  (∀ (b : Bstay) (p : Int × Int) (x : Code),
    let above : Bool := b.ceilValid && b.cls != .high && decide (0 ≤ p.1 ∧ p.1 < 1024 ∧ 0 ≤ p.2 ∧ p.2 < 1024) &&
      decide (p.2.toNat < spGet b.ceilAct p.1.toNat 0)
    let lim := if b.cls = .signal then 0 else spGet b.zlimAct (32 * (p.2.toNat / 32) + p.1.toNat / 32) 0
    let most := (lim * 64449 + 32767) / 65535 + x.c.toNat / 2
    let y := (slpPixel b p x).1
    (above = true → most < x.c.toNat * x.d.toNat → y.d.toNat = most / x.c.toNat ∧
      y.c.toNat = (if most / x.c.toNat = 0 then 0 else x.c.toNat)) ∧
    (above = true → x.c.toNat * x.d.toNat ≤ most → y = x) ∧ (above = true → y.c.toNat * y.d.toNat ≤ most) ∧
    (above = false → y = x)) ∧
  (∀ (e : Eng) (g : Fin 16384) (u : Fin 64) (s : State), mayWrite e s = true → (s.eng e).job.active = true →
    (s.eng e).dirty.contains g.val = true → g.val / 16 < (s.eng e).job.rows →
    writeTurn s.bstay.arb.overlap (s.eng e) g.val = true → fails 10 6 false s = false →
    let j := (s.eng e).job
    let x := 64 * (g.val % 16) + u.val
    let k := 1024 * (g.val / 16) + x
    ∃ t, exec (.segmentWrite e g false false) s = .next t ∧
      ((t.tile (tileOfSeg g.val)).swClosed = true → spGet t.arr.next k ⟨0, 0⟩ =
        (slpPixel s.bstay (sceneOf j.flipH j.flipV j.aimV j.aimH x (g.val / 16)) (spGet (s.eng e).codes k ⟨0, 0⟩)).1)) ∧
  (∀ (g : Fin 16384) (u : Fin 64) (s : State), s.bstay.tryOwns = true → s.bstay.tryDirty.contains g.val = true →
    busClosed s = false → fails 10 6 false s = false → fails 10 8 false s = false →
    let x := 64 * (g.val % 16) + u.val
    ∃ t, exec (.trysailSegmentWrite g false ⟨false, false⟩) s = .next t ∧
      ((t.tile (tileOfSeg g.val)).swClosed = true → spGet t.arr.next (1024 * (g.val / 16) + x) ⟨0, 0⟩ =
        (slpPixel s.bstay (tryScene s x (g.val / 16)) (tryCode s x (g.val / 16))).1))

/-! ### Fore and Main (06) -/

/-- Heartbeats (R183, R185, R186): a strobe awaits an answer of each supervised engine, and a token heard where no window has
been missed is forgotten; a token in sequence answers it; a
window without an answer is counted; the second in a row of the ACTIVE engine, whichever of the two it is, makes a good STANDBY
engine ACTIVE and the silent one FAILED; the second in a row of the STANDBY engine makes it FAILED, and the ACTIVE one stays
ACTIVE. -/
def Obligations.HeartbeatLossSwitchesOver : Prop :=
  (∀ s : State, supervised .fore s = true → supervised .main s = true →
    let asked (x : Engine) : Engine := { x with health := { x.health with
      hbWaiting := true, hbHeard := x.health.hbHeard && x.health.hbMisses != 0 } }
    exec .heartbeatStrobe s = .next (settle { s with engA := asked s.engA, engB := asked s.engB })) ∧
  (∀ (e : Eng) (q p : BitVec 8) (s : State), supervised e s = true → tokensForced e s = false → errLine e s = false →
    (s.eng e).health.hbWaiting = true → (s.eng e).health.hbPrev = some p → q = p + 1 →
    exec (.heartbeatToken e q) s = .next (settle (s.modEng e (fun x => { x with health := { x.health with
      hbPrev := some q, tokenErr := false, hbWaiting := false, hbMisses := 0 } })))) ∧
  (∀ (e : Eng) (s : State), supervised .fore s = true → supervised .main s = true → NoErrorLine s →
    (s.eng e).health.hbWaiting = true → (s.eng e).health.hbMisses = 0 → (s.eng (other e)).health.hbWaiting = false →
    exec .heartbeatWindowEnd s = .next (settle ((s.modEng e (fun x => { x with health := { x.health with
      hbWaiting := false, hbMisses := 1, hbMissCnt := satInc 16 x.health.hbMissCnt } })).hit (engBlk e) 0xA014 0))) ∧
  (∀ (a : Eng) (s : State), s.pwr.pstate = .s0 → s.bstay.arb.s1Pend = false → s.bstay.arb.undecided = false →
    activeEng s = some a → (s.eng (other a)).health.role = .standby → errLine .fore s = false → errLine .main s = false →
    ((s.eng a).health.hbWaiting = true → (s.eng a).health.hbMisses = 1 → (s.eng (other a)).health.hbWaiting = false →
      ∃ t, exec .heartbeatWindowEnd s = .next t ∧ (t.eng a).health.role = .failed ∧
        (t.eng (other a)).health.role = .active ∧ t.bstay.arb.handover = true ∧ (t.eng a).health.lastFail = 1 ∧
        t.bstay.arb.lastCause = 1) ∧
    ((s.eng (other a)).health.hbWaiting = true → (s.eng (other a)).health.hbMisses = 1 → (s.eng a).health.hbWaiting = false →
      ∃ t, exec .heartbeatWindowEnd s = .next t ∧ (t.eng (other a)).health.role = .failed ∧
        (t.eng (other a)).health.step = 1 ∧ (t.eng a).health.role = .active ∧ t.bstay.arb.handover = s.bstay.arb.handover ∧
        (t.eng (other a)).health.lastFail = 1 ∧ t.bstay.arb.lastCause = 2))

/-- ENG_ERR_ASSERT and MISMATCH_DECIDE_TIMEOUT (R184, R186, R187, R189, R195): an engine's own error sets its source, whose
error line arbitration acts on when the evaluation closes; a mismatch that nothing has decided in 16 µs makes both engines
lost, and the beam is then not Normal; in S1 the decision is latched, and a planned switch that waits is cancelled with its
event, as is a recovery. -/
def Obligations.EngineErrorsAndUndecidedMismatch : Prop :=
  (∀ (e : Eng) (s : State), blockOff (engBlk e) s = false → fails (engBlk e) 0 false s = false →
    fails (engBlk e) 1 false s = false →
    exec (.engErrAssert e 0) s = .next (settle (raiseFault (engBlk e) 0 0 true false s)) ∧
    exec (.engErrAssert e 1) s = .next (settle (raiseFault (engBlk e) 1 0 true false s)) ∧
    exec (.engErrAssert e 2) s = .next (settle s)) ∧
  (∀ (a : Eng) (s : State), s.bstay.arb.undecided = true → s.bstay.arb.undecidedAt + 4000 ≤ s.ticks →
    s.pwr.pstate = .s0 → activeEng s = some a →
    (s.eng (other a)).health.role = .standby → errLine .fore s = false → errLine .main s = false →
    ∃ t, exec .mismatchDecideTimeout s = .next t ∧ estate t = 3 ∧ t.bstay.beam ≠ .normal ∧
      t.bstay.arb.undecided = false) ∧
  (∀ s : State, s.bstay.arb.undecided = true → s.bstay.arb.undecidedAt + 4000 ≤ s.ticks →
    s.pwr.pstate = .s1 → s.bstay.arb.s1Pend = false →
    (s.bstay.arb.planned = [] → s.bstay.arb.recovery = [] →
      exec .mismatchDecideTimeout s = .next (settle { s with bstay := { s.bstay with arb := { s.bstay.arb with
        undecided := false, s1Pend := true, s1Cause := 7, s1FailA := true, s1FailB := true } } })) ∧
    (let u := cancelSwitch s
     u.bstay.arb.planned = [] ∧ u.bstay.arb.recovery = [] ∧
     exec .mismatchDecideTimeout s = .next (settle { u with bstay := { u.bstay with arb := { u.bstay.arb with
       undecided := false, s1Pend := true, s1Cause := 7, s1FailA := true, s1FailB := true } } }))) ∧
  (∀ s : State, s.bstay.arb.undecided = false ∨ s.ticks < s.bstay.arb.undecidedAt + 4000 →
    exec .mismatchDecideTimeout s = .next (settle s))

/-- A switch-over (R190 to R193): the incoming engine gets the row bus with its dirty set and the overlap begins; at its end
the segments written meanwhile are dirty for it, EV_ENGINE_SWITCH is queued and the outgoing engine starts at step 1.
Resynchronisation (R197, R198, Table 06.4): step 1 leaves the engine at its reset values but for its health record and passes
where heartbeat tokens restart; a passed self-test leads to step 3; a step 1 or 2 that fails counts an attempt, and the third
makes the engine PERM_FAILED; the copy of step 3 takes the ACTIVE engine's state and leads to step 4; a step that is not in
progress is left alone. -/
def Obligations.SwitchOverAndResynchronisation : Prop :=
  ((∀ (a : Eng) (s : State), s.bstay.arb.handover = true → s.bstay.arb.overlap = false → activeEng s = some a →
      let s1 : State := { s with bstay := { s.bstay with arb := { s.bstay.arb with ownerMain := a == .main, overlap := true } } }
      exec .switchoverHandover s = .next (settle (s1.modEng a (fun x => { x with
        dirty := incomingDirty x, overlapFirst := [], overlapDue := false })))) ∧
    (∀ (a : Eng) (s : State), s.bstay.arb.handover = true → s.bstay.arb.overlap = true → activeEng s = some a →
      let s1 : State := { s with bstay := { s.bstay with arb := { s.bstay.arb with
        handover := false, overlap := false, ownerMain := a == .main } } }
      exec .switchoverOverlapEnd s = .next (settle (startStep1 (other a)
        (queueEvent 0x0A01 2 [put 8 s.bstay.arb.lastCause ||| put 4 (engNo a) ||| put 0 (engNo (other a))]
          (s1.modEng a (fun x => { x with dirty := setUnion x.dirty x.overlapFirst }))))))) ∧
  ((∀ (e : Eng) (s : State), (s.eng e).health.role = .failed → s.pwr.pstate = .s0 →
      ((s.eng e).health.step = 1 → tokensForced e s = false → exec (.engineBlockResetDone ⟨e, true⟩) s = .next (settle
        ((s.modEng e (fun x => { health := { x.health with step := 2, resetErr := false, hbPrev := none } })).modWin (engBlk e)
          (fun w => { w with resetting := false })))) ∧
      ((s.eng e).health.step = 1 → (s.eng e).health.attempts < 2 →
        ∃ t, exec (.engineBlockResetDone ⟨e, false⟩) s = .next t ∧ (t.eng e).health.attempts = (s.eng e).health.attempts + 1 ∧
          (t.eng e).health.step = 1 ∧ (t.eng e).health.role = .failed) ∧
      ((s.eng e).health.step = 1 → 2 ≤ (s.eng e).health.attempts →
        ∃ t, exec (.engineBlockResetDone ⟨e, false⟩) s = .next t ∧ (t.eng e).health.role = .permFailed) ∧
      ((s.eng e).health.step = 2 → estate s ≠ 3 → exec (.engineSelfTestDone e true) s = .next (settle
        (s.modEng e (fun x => { x with health := { x.health with
          step := 3, testResult := 1, testFrame := s.scan.frameCnt } })))) ∧
      ((s.eng e).health.step = 2 → (s.eng e).health.attempts < 2 →
        ∃ t, exec (.engineSelfTestDone e false) s = .next t ∧ (t.eng e).health.attempts = (s.eng e).health.attempts + 1 ∧
          (t.eng e).health.step = 1 ∧ (t.eng e).health.role = .failed ∧ (t.eng e).health.testResult = 2) ∧
      ((s.eng e).health.step = 2 → 2 ≤ (s.eng e).health.attempts →
        ∃ t, exec (.engineSelfTestDone e false) s = .next t ∧ (t.eng e).health.role = .permFailed) ∧
      (∀ a : Eng, (s.eng e).health.step = 3 → activeEng s = some a →
        exec (.resyncCopyDone e true) s = .next (settle (s.modEng e (fun x => { copyFrom (s.eng a) x with
          health := { x.health with step := 4, shadowed := 0, matchRun := 0, frameBad := false, rowsEqual := 0 } }))))) ∧
    (∀ (e : Eng) (tokens passed ok : Bool) (s : State), (s.eng e).health.role ≠ .failed →
      exec (.engineBlockResetDone ⟨e, tokens⟩) s = .next (settle s) ∧ exec (.engineSelfTestDone e passed) s = .next (settle s) ∧
      exec (.resyncCopyDone e ok) s = .next (settle s)))

/-- ENGINE_SWITCH and ENGINE_HEALTH (R196, R197, R201, R204, R314): a planned switch waits for the flip instant, after those
accepted before it, and a recovery in both lost for the compose point; READ answers the arbitration and both health records,
BLOCK_OFF where one of its windows is off; RUN_TEST takes the STANDBY engine, and RETRY a PERM_FAILED one, to step 1 with no
attempt counted; ENGINE_SWITCH without 16 matched frames or outside S0, RUN_TEST without a STANDBY engine and RETRY of an
engine that is not PERM_FAILED are BAD_STATE; RUN_TEST and RETRY outside a session are DENIED. -/
def Obligations.EngineCommandsAct : Prop :=
  (∀ (c : CmdCtx) (w : Word) (s : State), fastReady 0x90 c [w] s = true → within w 1 = true →
    (s.pwr.pstate = .s0 → estate s ≤ 1 → (s.eng (engOf (bit w 0))).health.role = .standby →
      16 ≤ (s.eng (engOf (bit w 0))).health.matchRun →
      exec (.engineSwitch c [w]) s = .next (answered 0x90 c [] { s with bstay := { s.bstay with
        arb := { s.bstay.arb with planned := s.bstay.arb.planned ++ [(bit w 0, c.tag)] } } })) ∧
    (s.pwr.pstate = .s0 → passedBoth (engOf (bit w 0)) s = true →
      exec (.engineSwitch c [w]) s = .next (answered 0x90 c [] { s with bstay := { s.bstay with
        arb := { s.bstay.arb with recovery := s.bstay.arb.recovery ++ [(bit w 0, c.tag)] } } })) ∧
    (s.pwr.pstate = .s0 → estate s ≤ 1 → (s.eng (engOf (bit w 0))).health.matchRun < 16 →
      exec (.engineSwitch c [w]) s = .next (settle (reply c 0x90 stBadState [] s))) ∧
    (s.pwr.pstate ≠ .s0 → exec (.engineSwitch c [w]) s = .next (settle (reply c 0x90 stBadState [] s)))) ∧
  (∀ (c : CmdCtx) (w : Word) (s : State), within w 0x103 = true →
    let restart (e : Eng) : State := startStep1 e (s.modEng e (fun x => { x with health := { x.health with
      role := .failed, step := 0, attempts := 0, matchRun := 0, shadowed := 0, hbWaiting := false, hbMisses := 0
      lateLast := false, frameBad := false, runTag := c.tag } }))
    (fastReady 0x91 c [setField w 0 2 0] s = true → blockOff 5 s = false → blockOff 6 s = false → blockOff 10 s = false →
      (activeEng s ≠ none → exec (.engineHealthRead c [w]) s = .next (answered 0x91 c (healthWords s) s)) ∧
      (activeEng s = none → exec (.engineHealthRead c [w]) s =
        .next (answered 0x91 c (healthWords s) { s with freeCtr := s.freeCtr + 1 }))) ∧
    (fastReady 0x91 c [setField w 0 2 0] s = true → blockOff 5 s = true ∨ blockOff 6 s = true ∨ blockOff 10 s = true →
      exec (.engineHealthRead c [w]) s = .next (settle (reply c 0x91 stBlockOff [] s))) ∧
    (fastReady 0x91 c [setField w 0 2 1] s = true → inSession c s = false →
      exec (.engineHealthRunTest c [w]) s = .next (settle (reply c 0x91 stDenied [] s))) ∧
    (fastReady 0x91 c [setField w 0 2 1] s = true → inSession c s = true →
      (∀ a : Eng, activeEng s = some a → (s.eng (other a)).health.role ≠ .standby) →
      exec (.engineHealthRunTest c [w]) s = .next (settle (reply c 0x91 stBadState [] s))) ∧
    (fastReady 0x91 c [setField w 0 2 2] s = true → inSession c s = false →
      exec (.engineHealthRetry c [w]) s = .next (settle (reply c 0x91 stDenied [] s))) ∧
    (∀ a : Eng, fastReady 0x91 c [setField w 0 2 1] s = true → inSession c s = true → activeEng s = some a →
      (s.eng (other a)).health.role = .standby →
      exec (.engineHealthRunTest c [w]) s = .next (answered 0x91 c [] (restart (other a)))) ∧
    (fastReady 0x91 c [setField w 0 2 2] s = true → inSession c s = true →
      (s.eng (engOf (bit w 8))).health.role = .permFailed →
      exec (.engineHealthRetry c [w]) s = .next (answered 0x91 c [] (restart (engOf (bit w 8))))) ∧
    (fastReady 0x91 c [setField w 0 2 2] s = true → inSession c s = true →
      (s.eng (engOf (bit w 8))).health.role ≠ .permFailed →
      exec (.engineHealthRetry c [w]) s = .next (settle (reply c 0x91 stBadState [] s))))

/-! ### Time (12, Table 11.8) -/

/-- TIME_TICK and NS_WRAP (R337, R338, R347): `n` ticks add n times INC to each domain's NS and FRAC, modulo 2^64, and move
WK_OFS towards 0; NS_WRAP is the ticks that end in the wrap of a domain, after which WRAP_PEND is 1; where TIME is off the
elapsed time moves and the counters and WK_OFS stand still. Outside a coast n ticks last n times 4 ns; in one, in which the
clock runs at 20 % to 30 % of nominal (R413), they last three to five times as long. No forced check is made. -/
def Obligations.TicksAdvanceBothCounters : Prop :=
  (∀ (n : Nat) (s : State), timeOn s = true → (∀ w ∈ s.flt, w.force = 0) →
    ∃ t, exec (.timeTick n) s = .next t ∧ (s.clk.coast = false → t.ticks = s.ticks + n) ∧
      (s.clk.coast = true → s.ticks + 3 * n ≤ t.ticks ∧ t.ticks ≤ s.ticks + 5 * n) ∧
      (∀ k : Bool, (t.dom k).ns.toNat * 2 ^ 32 + (t.dom k).frac.toNat =
        ((s.dom k).ns.toNat * 2 ^ 32 + (s.dom k).frac.toNat + n * (s.dom k).inc.toNat) % 2 ^ 64 ∧
        (t.dom k).inc = (s.dom k).inc ∧ (t.dom k).era = (s.dom k).era) ∧
      t.time.wkOfs = toward s.time.wkOfs 0 (n * 1717986)) ∧
  (∀ (n : Nat) (s : State), timeOn s = false → (∀ w ∈ s.flt, w.force = 0) →
    ∃ t, exec (.timeTick n) s = .next t ∧ (s.clk.coast = false → t.ticks = s.ticks + n) ∧
      (s.clk.coast = true → s.ticks + 3 * n ≤ t.ticks ∧ t.ticks ≤ s.ticks + 5 * n) ∧
      (∀ k : Bool, (t.dom k).ns = (s.dom k).ns ∧ (t.dom k).frac = (s.dom k).frac ∧ (t.dom k).era = (s.dom k).era) ∧
      t.time.wkOfs = s.time.wkOfs) ∧
  (∀ (k : Bool) (s : State), timeOn s = true → 0 < (s.dom k).inc.toNat →
    ∃ t, exec (.nsWrap k) s = .next t ∧ (t.dom k).wrapPend = true ∧ (t.dom k).era = (s.dom k).era ∧
      (t.dom k).ns.toNat * 2 ^ 32 + (t.dom k).frac.toNat < (s.dom k).inc.toNat)

/-- ERA_WRITE and TIME_NS_READ (R338, R348, R356): ERA is written and WRAP_PEND cleared, unless NS wrapped in the same tick; a
write that changes the extended time of the selected domain is a step, which WK_OFS absorbs; a read of a NS register latches
the fraction and effective era of that moment, a read of WK_NS those of working time. -/
def Obligations.TimeRegistersLatchAndAnchor : Prop :=
  (∀ (src : RegSrc) (k : Bool) (v : Word) (s : State), regReady 3 src s = true →
    let put_ (pend : Bool) : State := s.modDom k (fun d => { d with
      era := v.setWidth 16, eraAt := some s.ticks, lostDue := false, wrapPend := pend })
    let ended (pend : Bool) : State :=
      if extFrac ((put_ pend).dom k) = extFrac (s.dom k) then put_ pend else absorbStep k (extFrac (s.dom k)) (put_ pend)
    ((s.dom k).wrapAt ≠ some s.ticks →
      exec (.eraWrite src k v) s = .next (settle { ended false with lastStatus := stOk })) ∧
    ((s.dom k).wrapAt = some s.ticks →
      exec (.eraWrite src k v) s = .next (settle { ended (s.dom k).wrapPend with lastStatus := stOk }))) ∧
  (∀ (src : RegSrc) (s : State), regReady 3 src s = true →
    exec (.timeNsRead src 0x0100) s = .next (settle { s.modDom false (fun d => { d with
      fracSnap := d.frac, eraSnap := BitVec.ofNat 16 (eraEff d) }) with lastStatus := stOk, lastRead := s.time.d0.ns }) ∧
    exec (.timeNsRead src 0x0180) s = .next (settle { s.modDom true (fun d => { d with
      fracSnap := d.frac, eraSnap := BitVec.ofNat 16 (eraEff d) }) with lastStatus := stOk, lastRead := s.time.d1.ns }) ∧
    exec (.timeNsRead src 0x0200) s = .next (settle { s with
      time := { s.time with wkFracSnap := BitVec.ofNat 32 (workFrac s), wkEraSnap := BitVec.ofNat 16 (wkEra s) }
      lastStatus := stOk, lastRead := ns32 s }))

/-- TIME_SET and TIME_ADJUST (R346, R358): they act on a domain with a software servo only, BAD_STATE otherwise; TIME_SET loads
the counter and era and counts as a step; OFFSET steps the counter; INC is loaded within 500 ppm of 4 ns and is BAD_PARAM
outside. In plain compatibility mode the Rigger service core issues TIME_SET, which also sets WK_SYNC for the selected domain.
TIME is on. -/
def Obligations.TimeCommandsNeedSoftwareServo : Prop :=
  (∀ (c : CmdCtx) (w0 ns frac w3 : Word) (s : State), slowReady 0x50 c [w0, ns, frac, w3] s = true → blockOff 3 s = false →
    within w0 1 = true → within w3 0xFFFF = true →
    let a := accepted 0x50 c [w0, ns, frac, w3] s
    (softServo (bit w0 0) s = false →
      exec (.timeSet c [w0, ns, frac, w3]) s = .next (settle (completed 0x50 c stBadState [] a))) ∧
    (softServo (bit w0 0) s = true → s.compat = false →
      exec (.timeSet c [w0, ns, frac, w3]) s = .next (concluded 0x50 c []
        (absorbStep (bit w0 0) (extFrac (s.dom (bit w0 0))) (stepState (bit w0 0)
          (a.modDom (bit w0 0) (fun d => { d with ns := ns, frac := frac, era := w3.setWidth 16, wrapPend := false, acc := 0 }))))))) ∧
  (∀ (c : CmdCtx) (w0 ns frac w3 : Word) (s : State), s.mode.ifMode = .compat → srcOn .service s = true → blockOff 3 s = false →
    within w0 1 = true → within w3 0xFFFF = true →
    let k := bit w0 0
    let s1 := absorbStep k (extFrac (s.dom k)) (stepState k
      (s.modDom k (fun d => { d with ns := ns, frac := frac, era := w3.setWidth 16, wrapPend := false, acc := 0 })))
    let s2 : State := if s.time.selAct = k then { s1 with time := { s1.time with wkSync := true } } else s1
    exec (.timeSet c [w0, ns, frac, w3]) s = .next (settle { s2 with lastStatus := stOk })) ∧
  (∀ (c : CmdCtx) (w0 v : Word) (s : State), blockOff 3 s = false → within (setField w0 8 2 0) 0x301 = true →
    fastReady 0x51 c [setField w0 8 2 0, v, 0] s = true → softServo (bit (setField w0 8 2 0) 0) s = true →
    exec (.timeAdjustOffset c [w0, v, 0]) s = .next (answered 0x51 c []
      (stepState (bit (setField w0 8 2 0) 0) (stepDomain (bit (setField w0 8 2 0) 0) (signed 32 v.toNat * 2 ^ 32) s)))) ∧
  (∀ (c : CmdCtx) (w0 hi lo : Word) (s : State), blockOff 3 s = false → within (setField w0 8 2 1) 0x301 = true →
    fastReady 0x51 c [setField w0 8 2 1, hi, lo] s = true → softServo (bit (setField w0 8 2 1) 0) s = true →
    let inc := hi.toNat * 2 ^ 32 + lo.toNat
    (distance inc (4 * 2 ^ 32) * 1000000 ≤ 500 * (4 * 2 ^ 32) →
      exec (.timeAdjustInc c [w0, hi, lo]) s = .next (answered 0x51 c []
        (s.modDom (bit (setField w0 8 2 1) 0) (fun d => { d with inc := BitVec.ofNat 36 inc })))) ∧
    (500 * (4 * 2 ^ 32) < distance inc (4 * 2 ^ 32) * 1000000 →
      exec (.timeAdjustInc c [w0, hi, lo]) s = .next (settle (reply c 0x51 stBadParam [] s))))

/-- PULSE_SET and the edges of a timed pulse (R353): a setting schedules an output that is low, waits while it is high, and is
BAD_PARAM where its start is not ahead or its times are too short; off drives the output low at once; the rise comes at its
working time, the fall WIDTH_NS of working time after it, steps of that time apart; a one-shot's fall is reported, and a waiting setting takes effect
at the fall.
TCAPT_EDGE and FLIP_AT (R354, R355): an edge captures working time with its event, one less than 1 µs after the last captured
is counted as missed; FLIP_AT is kept for its compose point, BAD_STATE before WK_SYNC, at a time no later than the last flip
instant, or no later than the next one once its compose point has passed, BAD_PARAM more than 2^32 ns ahead. -/
def Obligations.PulsesCapturesAndTimedFlips : Prop :=
  ((∀ (c : CmdCtx) (w0 w1 w2 w3 w4 : Word) (s : State), blockOff 3 s = false → within w2 0xFFFF = true →
      let t := time48 w1 w2
      (∀ m : Nat, m = 1 ∨ m = 2 → within (setField w0 8 2 m) 0x301 = true →
        fastReady 0x52 c [setField w0 8 2 m, w1, w2, w3, w4] s = true →
        let o := bit (setField w0 8 2 m) 0
        let run := exec (if m = 1 then .pulseSetOneShot c [w0, w1, w2, w3, w4] else .pulseSetPeriodic c [w0, w1, w2, w3, w4]) s
        (pulseBad m t w3.toNat w4.toNat s = true → run = .next (settle (reply c 0x52 stBadParam [] s))) ∧
        (pulseBad m t w3.toNat w4.toNat s = false → (s.pulse o).level = false →
          run = .next (answered 0x52 c [] (s.modPulse o (fun _ => { mode := m, start := t, period := w3, width := w4 })))) ∧
        (pulseBad m t w3.toNat w4.toNat s = false → (s.pulse o).level = true →
          run = .next (answered 0x52 c [] (s.modPulse o (fun p => { p with waiting := some (m, t, w3, w4) }))))) ∧
      (within (setField w0 8 2 0) 0x301 = true → fastReady 0x52 c [setField w0 8 2 0, w1, w2, w3, w4] s = true →
        exec (.pulseSetOff c [w0, w1, w2, w3, w4]) s = .next (answered 0x52 c []
          (s.modPulse (bit (setField w0 8 2 0) 0) (fun _ => { start := t, period := w3, width := w4 }))))) ∧
    (∀ (o : Bool) (s : State), timeOn s = true →
      ((s.pulse o).level = false → (s.pulse o).mode = 2 ∨ ((s.pulse o).mode = 1 ∧ (s.pulse o).k = 0) →
        ahead (riseAt (s.pulse o)) s ≤ 0 →
        exec (.tpulseRise o) s = .next (settle (s.modPulse o (fun p => { p with level := true, high := 0 })))) ∧
      ((s.pulse o).level = true → ((s.pulse o).width.toNat : Int) * 2 ^ 32 ≤ (s.pulse o).high →
        let next (p : Pulse) : Pulse := match p.waiting with
          | none => { p with level := false, k := p.k + 1 }
          | some (m, st, pe, w) => { mode := m, start := st, period := pe, width := w }
        ((s.pulse o).mode ≠ 1 → exec (.tpulseFall o) s = .next (settle (s.modPulse o next))) ∧
        ((s.pulse o).mode = 1 →
          exec (.tpulseFall o) s = .next (settle (queueEvent 0x0303 0 [put 0 (domNo o)] (s.modPulse o next))))) ∧
      ((s.pulse o).level = true → (s.pulse o).high < ((s.pulse o).width.toNat : Int) * 2 ^ 32 →
        exec (.tpulseFall o) s = .next (settle s)))) ∧
  ((∀ s : State, timeOn s = true → bit s.time.ctrl 17 = true →
      (s.time.tcaptLast = none →
        exec .tcaptEdge s = .next (settle (queueEvent 0x0302 0 [put 0 (workNs s), put 0 (workNs s / 2 ^ 32)]
          { s with time := { s.time with tcapt := BitVec.ofNat 48 (workNs s), tcaptLast := some s.ticks } }))) ∧
      (∀ l : Nat, s.time.tcaptLast = some l → s.ticks < l + 250 →
        exec .tcaptEdge s = .next (settle { s.hit 3 0x18 8 with
          time := { s.time with tcaptMiss := satInc 8 s.time.tcaptMiss } }))) ∧
    (∀ (c : CmdCtx) (w0 w1 : Word) (s : State), fastReady 0x53 c [w0, w1] s = true → blockOff 3 s = false →
      within w1 0xFFFF = true →
      let t := time48 w0 w1
      (2 ^ 32 < ahead t.toNat s → exec (.flipAt c [w0, w1]) s = .next (settle (reply c 0x53 stBadParam [] s))) ∧
      (ahead t.toNat s ≤ 2 ^ 32 → s.time.wkSync = false →
        exec (.flipAt c [w0, w1]) s = .next (settle (reply c 0x53 stBadState [] s))) ∧
      (ahead t.toNat s ≤ 2 ^ 32 → after3 t.toNat s.scan.lastFlip3 ≤ 0 →
        exec (.flipAt c [w0, w1]) s = .next (settle (reply c 0x53 stBadState [] s))) ∧
      (ahead t.toNat s ≤ 2 ^ 32 → composePassed s = true → after3 t.toNat (nextFlip3 s) ≤ 0 →
        exec (.flipAt c [w0, w1]) s = .next (settle (reply c 0x53 stBadState [] s))) ∧
      (ahead t.toNat s ≤ 2 ^ 32 → s.time.wkSync = true → 0 < after3 t.toNat s.scan.lastFlip3 →
        composePassed s = false ∨ 0 < after3 t.toNat (nextFlip3 s) →
        exec (.flipAt c [w0, w1]) s = .next (answered 0x53 c [] { s with
          time := { s.time with flipAt := t, flipAtPend := true } }))))

/-- TIME packets (R16, R340, R342 to R345, R352), while TIME is on: PDELAY_REQ is answered with the same DOMAIN and MSEQ; a
matching PDELAY_RESP gives the mean path delay; a SYNC before one is only counted, and one after it gives the offset, and with
a software servo leaves the counter alone; requests and a leader's SYNC take their sequence numbers in order; SYNC_TIMEOUT
takes a LOCKED domain to HOLDOVER with SYNC_LOST once SYNC_TO milliseconds have gone since the last used SYNC and none that
could be used waits, and does nothing before.
FLIP_NOTICE in a follower (R352): one whose instant has passed is counted late; one more than 1 µs away from every flip
instant becomes the next flip instant, with FLIP_ALIGN; another changes nothing. -/
def Obligations.TimePacketsMeasureAndNotify : Prop :=
  ((∀ (p : HPort) (k : Packet) (s s1 : State), timeOn s = true → takeRx p (isTime 1) s = some (k, s1) →
      exec (.pdelayReqReceive p) s = .next (settle (s1.modPort p (fun h => { h with
        times := h.times ++ [timePacket 2 k.domain k.mseq (stampWords k.stamp ++ [0, 0])] })))) ∧
    (∀ (p : HPort) (k : Packet) (s s1 : State), timeOn s = true → takeRx p (isTime 2) s = some (k, s1) →
      (s.dom k.domain).pdSeq = some k.mseq →
      s.ticks ≤ (s.dom k.domain).pdAt + 2500000 →
      let g (i : Nat) := k.payload.getD i 0
      exec (.pdelayRespReceive p) s = .next (settle (s1.modDom k.domain (fun d => { d with
        mpd := (stampDiff k.stamp d.pdT1 - stampDiff (wordsStamp (g 2) (g 3)) (wordsStamp (g 0) (g 1)) + 1) / 2
        mpdValid := true, pdSeq := none })))) ∧
    (∀ (p : HPort) (k : Packet) (s s1 : State), timeOn s = true → takeRx p (isTime 0) s = some (k, s1) →
      (s.dom k.domain).mpdValid = false →
      exec (.syncReceive p) s = .next (settle (s1.modDom k.domain (fun d => { d with syncRx := satInc 32 d.syncRx })))) ∧
    (∀ (p : HPort) (k : Packet) (s s1 : State), timeOn s = true → takeRx p (isTime 0) s = some (k, s1) →
      (s.dom k.domain).mpdValid = true →
      let g (i : Nat) := k.payload.getD i 0
      let off := stampDiff k.stamp (wordsStamp (g 0) (g 1) + signed 32 (g 2).toNat + (s.dom k.domain).mpd +
        signed 32 (s.time.asym.getD (hportNo p) 0).toNat)
      ∃ t, exec (.syncReceive p) s = .next t ∧ (t.dom k.domain).syncRx = satInc 32 (s.dom k.domain).syncRx ∧
        (t.dom k.domain).offset = max (-(2 ^ 31)) (min (2 ^ 31 - 1) off) ∧ (t.dom k.domain).syncAt = some s.ticks ∧
        ((s.dom k.domain).dstate = .unsync → (t.dom k.domain).dstate = .acquire) ∧
        (softServo k.domain s = true → (t.dom k.domain).ns = (s.dom k.domain).ns ∧
          (t.dom k.domain).frac = (s.dom k.domain).frac ∧ (t.dom k.domain).inc = (s.dom k.domain).inc)) ∧
    (∀ (p : HPort) (s : State), (s.hport p).state = .active → timeOn s = true → portServes p false s = true →
      portServes p true s = false →
      exec (.pdelayReqSend p) s = .next (settle (s.modPort p (fun h => { h with
        times := h.times ++ [timePacket 1 false h.pdNext []], pdNext := h.pdNext + 1 })))) ∧
    (∀ s : State, s.h1.role = .leader → s.h1.state = .active → timeOn s = true →
      exec .leaderSyncSend s = .next (settle { s with
        h1 := { s.h1 with times := s.h1.times ++ [timePacket 0 false s.time.syncSeq [0, 0, 0]] }
        time := { s.time with syncSeq := s.time.syncSeq + 1 } })) ∧
    (∀ (k : Bool) (at_ : Nat) (s : State), timeOn s = true → (s.dom k).dstate = .locked → (s.dom k).syncAt = some at_ →
      (at_ + bits s.time.syncCfg 16 16 * 250000 ≤ s.ticks →
        (∀ x ∈ s.h0.rxq ++ s.h1.rxq, isTime 0 x = true → x.domain ≠ k) →
        exec (.syncTimeout k) s = .next (settle (raiseFault 3 1 (domNo k) true false
          (s.modDom k (fun d => { d with dstate := .holdover }))))) ∧
      (s.ticks < at_ + bits s.time.syncCfg 16 16 * 250000 → exec (.syncTimeout k) s = .next (settle s)))) ∧
  (∀ (p : HPort) (k : Packet) (s s1 : State), timeOn s = true → takeRx p (isTime 3) s = some (k, s1) →
      let t := (wordsStamp (k.payload.getD 0 0) (k.payload.getD 1 0) / 256).toNat
      let frame : Int := (nfNow s * p3 s : Nat)
      let x := after3 t (nextFlip3 s) % frame
      (ahead t s < 0 → exec (.flipNoticeReceive p) s = .next (settle { s1.hit 3 0x18 0 with
        time := { s1.time with noticeLateCnt := satInc 8 s1.time.noticeLateCnt } })) ∧
      (0 ≤ ahead t s → 3000 < x → x < frame - 3000 →
        exec (.flipNoticeReceive p) s = .next (settle (raiseFault 3 5 0 true false { s1 with
          time := { s1.time with notice := some (BitVec.ofNat 48 t, (k.payload.getD 2 0).setWidth 24) } }))) ∧
      (0 ≤ ahead t s → x ≤ 3000 ∨ frame - 3000 ≤ x → exec (.flipNoticeReceive p) s = .next (settle s1)))


/-! ### Faults, watchdogs and block resets (11 Table 11.9, 13) -/

/-- Injection, force, acknowledgement and configuration of a fault source (R362, R365, R371, R375, R377, R379, R334): a source
with the capability is armed or disarmed, forced in a safety session or released; one without it is BAD_PARAM, and force without
a session DENIED; FAULT_ACK and FLT_STATUS clear what is neither forced nor set again in the same clock; FLT_REACT and
FLT_ESC are checked at the access and stored with fresh parity; CLR_FIRST clears VALID of FLT_FIRST unless a source has become set in the same clock. -/
def Obligations.FaultCommandsAct : Prop :=
  ∀ (c : CmdCtx) (b : Fin 18) (n : Fin 32) (s : State),
    let w : Word := put 16 b.val ||| put 0 n.val
    let m : Word := putb n.val true
    (fastReady 0x80 c [w] s = true →
      (injMask b.val &&& m ≠ 0 → injOff s = false → blockOff b.val s = false →
        exec (.faultInjectArm c [w]) s =
          .next (answered 0x80 c [] (s.modWin b.val (fun x => { x with inject := x.inject ||| m }))) ∧
        exec (.faultInjectDisarm c [w]) s =
          .next (answered 0x80 c [] (s.modWin b.val (fun x => { x with inject := x.inject &&& ~~~ m })))) ∧
      (injMask b.val &&& m = 0 → exec (.faultInjectArm c [w]) s = .next (settle (reply c 0x80 stBadParam [] s))) ∧
      (forceMask b.val &&& m ≠ 0 → inSession c s = true → injOff s = false → blockOff b.val s = false →
        exec (.faultForceSet c [w]) s =
          .next (answered 0x80 c [] (s.modWin b.val (fun x => { x with force := x.force ||| m }))) ∧
        exec (.faultForceClear c [w]) s =
          .next (answered 0x80 c [] (s.modWin b.val (fun x => { x with force := x.force &&& ~~~ m })))) ∧
      (forceMask b.val &&& m ≠ 0 → inSession c s = false →
        exec (.faultForceSet c [w]) s = .next (settle (reply c 0x80 stDenied [] s)))) ∧
    (∀ k : Word, blockOff b.val s = false → s.flt.length = 18 →
      ((clearSources b.val k s).win b.val).status = (s.win b.val).status &&&
        ~~~ (k &&& ~~~ (s.win b.val).force &&& ~~~ ((s.win b.val).injNow ||| (s.win b.val).realNow)) ∧
      (fastReady 0x81 c [put 16 b.val, k] s = true →
        exec (.faultAck c [put 16 b.val, k]) s =
          .next (answered 0x81 c [((clearSources b.val k s).win b.val).status] (clearSources b.val k s))) ∧
      (∀ src : RegSrc, regReady b.val src s = true →
        exec (.fltStatusClear src b k) s = .next (settle { clearSources b.val k s with lastStatus := stOk }) ∧
        exec (.clrFirst src b) s = .next (settle { recordFirst b.val s with lastStatus := stOk }) ∧
        ((s.win b.val).status &&& ~~~ (s.base.win b.val).status = 0 →
          exec (.clrFirst src b) s = .next (settle { s.modWin b.val (fun x => { x with
            first := x.first &&& ~~~ putb 31 true }) with lastStatus := stOk })))) ∧
    (∀ r : BitVec 8, slowReady 0x82 c [w, put 0 r.toNat] s = true → blockOff b.val s = false →
      let s1 := accepted 0x82 c [w, put 0 r.toNat] s
      (reactOkFor b.val n.val r = true →
        exec (.faultConfigReact c [w, put 0 r.toNat]) s = .next (concluded 0x82 c []
          (freshParity b.val (0xFF20 + 4 * (n.val / 4)) ((reactAccess b.val (0xFF20 + 4 * (n.val / 4)) s1).modWin b.val (fun x => { x with react := spSet x.react n.val r }))))) ∧
      (reactOkFor b.val n.val r = false →
        exec (.faultConfigReact c [w, put 0 r.toNat]) s = .next (settle (completed 0x82 c stBadParam [] s1)))) ∧
    (∀ v : Word,
      let e : Word := put 16 8 ||| putb 8 true
      slowReady 0x82 c [e, v] s = true → blockOff 8 s = false → within v 0xFF01FFFF = true →
      let s1 := accepted 0x82 c [e, v] s
      (escOk v = true → exec (.faultConfigEsc c [e, v]) s = .next (concluded 0x82 c []
          (freshParity 8 0xFF1C ((reactAccess 8 0xFF1C s1).modWin 8 (fun x => { x with esc := v &&& 0xFF01FFFF }))))) ∧
      (escOk v = false →
        exec (.faultConfigEsc c [e, v]) s = .next (settle (completed 0x82 c stBadParam [] s1))))

/-- The watchdogs (R387, R388): a good kick by the core's own key, between a quarter and the whole of the timeout, starts the
timeout anew and turns to the other key; one with the wrong key, too early or too late sets the core's source; a kick by
anyone else is DENIED; an armed watchdog stays armed; the timeouts lie in their ranges and do not change while armed; a
timeout sets the source once the whole of it has gone since the last kick or the arming, and nothing happens before (R16). -/
def Obligations.WatchdogsWatchTheCores : Prop :=
  (∀ (safety : Bool) (v : Word) (s : State),
    let src : RegSrc := if safety then .safety else .service
    let key := if (s.wdog safety).second then 0xA53C else 0x5AC3
    let dt := s.ticks - (s.wdog safety).from_
    regReady 17 src s = true → bit v 31 = safety →
    ((s.wdog safety).en = true → bits v 0 16 = key →
      let s1 := s.modWdog safety (fun w => { w with from_ := s.ticks, second := !w.second })
      (wdogTicks safety s ≤ 4 * dt → dt ≤ wdogTicks safety s →
        exec (.watchdogKick src v) s = .next (settle { s1 with lastStatus := stOk })) ∧
      (4 * dt < wdogTicks safety s ∨ wdogTicks safety s < dt →
        exec (.watchdogKick src v) s = .next (settle { wdogFault safety s1 with lastStatus := stOk }))) ∧
    ((s.wdog safety).en = true → bits v 0 16 ≠ key →
      exec (.watchdogKick src v) s =
        .next (settle { wdogFault safety (s.modWdog safety (fun w => { w with from_ := s.ticks })) with lastStatus := stOk })) ∧
    ((s.wdog safety).en = false → exec (.watchdogKick src v) s = .next (settle { s with lastStatus := stOk }))) ∧
  (∀ (p : CmdPort) (v : Word) (s : State), regReady 17 (.port p) s = true →
    exec (.watchdogKick (.port p) v) s = .next (settle { s with lastStatus := stDenied })) ∧
  (∀ (src : RegSrc) (v : Word) (s : State), regReady 17 src s = true →
    exec (.watchdogArm src v) s = .next (settle { s with
      rigger := { s.rigger with
        safeW := if bit v 1 && !s.rigger.safeW.en then { en := true, second := false, from_ := s.ticks } else s.rigger.safeW
        svcW := if bit v 0 && !s.rigger.svcW.en then { en := true, second := false, from_ := s.ticks } else s.rigger.svcW }
      lastStatus := stOk }) ∧
    (bits v 16 16 = 0 ∨ 1000 < bits v 16 16 ∨ bits v 0 16 = 0 ∨ 10000 < bits v 0 16 →
      exec (.watchdogToWrite src v) s = .next (settle { s with lastStatus := stBadParam })) ∧
    (1 ≤ bits v 16 16 → bits v 16 16 ≤ 1000 → 1 ≤ bits v 0 16 → bits v 0 16 ≤ 10000 →
      ((s.rigger.safeW.en = true → bits v 16 16 = bits s.rigger.wdogTo 16 16) →
        (s.rigger.svcW.en = true → bits v 0 16 = bits s.rigger.wdogTo 0 16) →
        exec (.watchdogToWrite src v) s = .next (settle { s with rigger := { s.rigger with wdogTo := v }, lastStatus := stOk })) ∧
      ((s.rigger.safeW.en = true ∧ bits v 16 16 ≠ bits s.rigger.wdogTo 16 16) ∨
          (s.rigger.svcW.en = true ∧ bits v 0 16 ≠ bits s.rigger.wdogTo 0 16) →
        exec (.watchdogToWrite src v) s = .next (settle { s with lastStatus := stBadState })))) ∧
  (∀ (safety : Bool) (s : State), (s.wdog safety).en = true → vault s.pwr.pstate = false →
    ((s.wdog safety).from_ + wdogTicks safety s ≤ s.ticks → exec (.watchdogTimeout safety) s =
      .next (settle (wdogFault safety (s.modWdog safety (fun w => { w with from_ := s.ticks }))))) ∧
    (s.ticks < (s.wdog safety).from_ + wdogTicks safety s → exec (.watchdogTimeout safety) s = .next (settle s)))

/-- The escalation, the parity sweep, block resets and the chip reset (R366, R367, R371, R372, R373): ESC_TIME with a MAJOR
or SAFETY source of ARRAY still set makes an entry and applies the reactions of FLT_ESC, and nothing happens before; a sweep
that finds nothing does nothing, one that finds a register bad sets PAR_ERR and leaves the beam other than normal, and so
does a read of a register whose parity has failed since its last check; a block reset gives TIME, STORE, SCAN, CRCU and THERM,
with the shutdown level of every tile, their reset values and keeps the window, and that of STORE leaves no layer a buffer to
show; the chip reset waits until the log writer has written the records of the clock in which it was selected and no save runs,
keeps external memory and Keep, and leaves cause 3. Reactions BLOCK_RESET and CHIP_RESET of FLT_ESC are left out of the
clauses on the escalation. -/
def Obligations.EscalationSweepAndResets : Prop :=
  (∀ s : State, s.ticks < (s.win 8).escAt + bits (s.win 8).esc 0 17 * 250 → exec .escalation s = .next (settle s)) ∧
  (∀ s : State, (s.win 8).escRun = true → arrayMajor s = true →
    (s.win 8).escAt + bits (s.win 8).esc 0 17 * 250 ≤ s.ticks →
    let n := (escSource s).1
    let i := (escSource s).2
    let w := s.win 8
    let r := BitVec.ofNat 8 (bits w.esc 24 8)
    let s1 := interrupt r ((pushLog (faultRec 4 8 n i (w.real.getLsbD n) (w.inj.getLsbD n) (sevOf 8 n) r (spGet w.count n 0)
      (n * 65536 + i) s) s).modWin 8 (fun w => { w with escRun := false, escDone := true, escHeld := r }))
    r.getLsbD 2 = false → r.getLsbD 3 = false →
    (r.getLsbD 6 = false → r.getLsbD 7 = false → exec .escalation s = .next (settle s1)) ∧
    (r.getLsbD 6 = true → r.getLsbD 7 = false → exec .escalation s = .next (settle (reqTrysail 3 s1))) ∧
    (r.getLsbD 6 = false → r.getLsbD 7 = true → exec .escalation s = .next (settle (reqDark s1)))) ∧
  (∀ s : State, (∀ w ∈ s.flt, w.parBad = [] ∧ w.parHid = [] ∧ w.parErr = false) →
    exec (.paritySweep ⟨[], []⟩) s = .next (settle s) ∧
    (∀ (b : Fin 18) (off : BitVec 16), blockOff b.val s = false → off.toNat ∈ reactRegs b.val →
      s.flt.length = 18 →
      ∃ t, exec (.paritySweep ⟨[(b, off)], []⟩) s = .next t ∧ t.bstay.beam ≠ .normal ∧ (t.win b.val).parErr = true)) ∧
  (∀ (b : Fin 18) (off : BitVec 16) (s : State), blockOff b.val s = false → off.toNat ∈ reactRegs b.val →
    s.flt.length = 18 → off.toNat ∈ (s.win b.val).parHid →
    let r := regRead (put 16 b.val ||| put 0 off.toNat) s
    r.2.1 = stOk ∧ (r.1.win b.val).parErr = true ∧ r.1.bstay.beam ≠ .normal ∧ off.toNat ∈ (r.1.win b.val).parBad) ∧
  (∀ s : State,
    ((s.win 3).resetting = true → exec (.blockResetDone 3) s =
      .next (settle ({ s with time := {} }.modWin 3 (fun w => { w with resetting := false })))) ∧
    ((s.win 4).resetting = true →
      let bare (y : Comp) : Comp := { y with layers := y.layers.map (fun l => { l with actBuf := none }) }
      exec (.blockResetDone 4) s =
      .next (settle ({ s with
        store := {}, engA := s.engA.modComp bare, engB := s.engB.modComp bare }.modWin 4
          (fun w => { w with resetting := false })))) ∧
    ((s.win 7).resetting = true → exec (.blockResetDone 7) s =
      .next (settle ({ s with scan := {} }.modWin 7 (fun w => { w with resetting := false })))) ∧
    ((s.win 11).resetting = true → exec (.blockResetDone 11) s =
      .next (settle ({ s with crcu := {} }.modWin 11 (fun w => { w with resetting := false })))) ∧
    ((s.win 16).resetting = true →
      let tiles := s.arr.tiles.map (fun x => { x with shutdown := false })
      exec (.blockResetDone 16) s =
        .next (settle ({ s with therm := {}, arr := { s.arr with tiles := tiles } }.modWin 16 (fun w => { w with resetting := false }))))) ∧
  (∀ s : State, s.pwr.chipPend = false ∨ (∃ r ∈ s.log.q, r.at_ ≤ s.pwr.chipAt) ∨ s.pwr.saving.isSome = true →
    exec .chipReset s = .next (settle s)) ∧
  (∀ s : State, s.pwr.chipPend = true → (∀ r ∈ s.log.q, s.pwr.chipAt < r.at_) → s.pwr.saving = none →
    ∃ t, exec .chipReset s = .next t ∧ t.pwr.rstCause = 3 ∧ t.pwr.pstate = .s0 ∧ t.pwr.ready = false ∧
      t.keep.bytes = s.keep.bytes ∧ t.keep.lock = s.keep.lock ∧ t.xmem.cs0.bytes = s.xmem.cs0.bytes ∧
      t.xmem.cs1.bytes = s.xmem.cs1.bytes ∧ t.store = {} ∧ t.time = {} ∧ t.therm = {} ∧ t.clk = {} ∧ t.diag = {})

/-! ### Backstay's contacts and registers (08) -/

/-- SAFE_N and the Trysail writer (R37, R245, R248, R249, R250, R251): SAFE_N low is latched, raises SAFE_IN and ends the
beam state NORMAL; SAFE_N high only shows in SAFE_N_LEVEL; the takeover gives the Trysail writer the bus with every segment
dirty; a good or corrected scrub read changes nothing and an uncorrectable word raises TRY_ECC, after which the ROM image
stands in a loaded buffer; a load from a verified record takes its image, one whose record is missing the ROM image.
BSTAY_CFG_WRITE and VERDICT_POST (R244, R257): CFG with its two rates above 0, SLP and TRY_MAP without a code above 4 are
stored in a safety session; without one the write is DENIED; the safety core's write of VERD_FW2 posts the verdict and counts
it. -/
def Obligations.SafeInputTrysailAndBackstay : Prop :=
  ((∀ s : State,
      let s1 : State := { s with bstay := { s.bstay with safeNLevel := false, safeNLatch := true } }
      (∃ t, exec .safeNLow s = .next t ∧ t.bstay.beam ≠ .normal ∧ t.bstay.safeNLatch = true ∧ t.bstay.safeNLevel = false) ∧
      (vault s.pwr.pstate = false → exec .safeNLow s = .next (settle (reqTrysail 1 (raiseFault 10 10 0 true false s1)))) ∧
      (vault s.pwr.pstate = true → exec .safeNLow s = .next (settle (reqTrysail 1 s1))) ∧
      exec .safeNHigh s = .next (settle { s with bstay := { s.bstay with safeNLevel := true } })) ∧
    (∀ s : State, s.bstay.beam = .trysail → s.bstay.tryOwns = false → s.pwr.pstate = .s0 ∨ s.pwr.pstate = .s1 →
      exec .trysailTakeover s = .next (settle { s with bstay := { s.bstay with
        tryOwns := true, tryDirty := allSegs, trySegSig := [], tryClampSegs := [] } })) ∧
    (∀ (n : Nat) (s : State), blockOff 10 s = false → fails 10 8 false s = false →
      (n < 2 → exec (.trysailScrub n) s = .next (settle s)) ∧
      (2 ≤ n → s.bstay.tryBuf = none → exec (.trysailScrub n) s = .next (settle (raiseFault 10 8 0 true false s))) ∧
      (2 ≤ n → s.bstay.tryBuf ≠ none →
        exec (.trysailScrub n) s = .next (settle (computeTry (useRom (raiseFault 10 8 0 true false s)).1)))) ∧
    (∀ (i : Nat) (e : DirEntry) (r : DirEntry × Nat) (s : State), blockOff 12 s = false → s.xmem.busy = some (.trysail i) →
      s.pwr.restoring = false →
      let s1 : State := { s with xmem := { s.xmem with busy := none } }
      dirFind (recId (0x20 + i)) s1 = some e → e.verified = true → findRecord (recId (0x20 + i)) s1 = some r →
      let s2 := setTryValid i true s1
      let img := tryImage (recPayload r s2)
      ∀ l : List (Bool × Nat), exec (.trysailLoadDone ⟨true, l⟩) s = .next (settle (refreshAll l (computeTry { s2 with
        bstay := { s2.bstay with
          tryBuf := some img, levels := img.levels, tryImg := i, tryLoading := false, tryChanged := true } })))) ∧
    (∀ (i : Nat) (good : Bool) (l : List (Bool × Nat)) (s : State), blockOff 12 s = false → s.xmem.busy = some (.trysail i) →
      dirFind (recId (0x20 + i)) s = none → s.pwr.restoring = false →
      let s1 := setTryValid i false { s with xmem := { s.xmem with busy := none } }
      exec (.trysailLoadDone ⟨good, l⟩) s = .next (settle (refreshAll l
        (computeTry ((useRom s1).1.modBstay (fun b => { b with tryLoading := false }))))))) ∧
  ((∀ (src : RegSrc) (v : Word) (s : State), regReady 10 src s = true →
      (srcSession src s = true →
        (bits v 0 4 ≠ 0 → bits v 8 5 ≠ 0 → exec (.bstayCfgWrite src 4 v) s =
          .next (settle { s with bstay := { s.bstay with cfg := v &&& 0xFFFF9F0F }, lastStatus := stOk })) ∧
        (bits v 0 4 = 0 ∨ bits v 8 5 = 0 → exec (.bstayCfgWrite src 4 v) s =
          .next (settle { s with lastStatus := stBadParam })) ∧
        exec (.bstayCfgWrite src 8 v) s =
          .next (settle { s with bstay := { s.bstay with slp := v.setWidth 21 }, lastStatus := stOk }) ∧
        (bits v 0 3 ≤ 4 → bits v 4 3 ≤ 4 → bits v 8 3 ≤ 4 → bits v 12 3 ≤ 4 → exec (.bstayCfgWrite src 0x60 v) s =
          .next (settle { s with bstay := { s.bstay with tryMap := (v &&& 0x7777).setWidth 15 }, lastStatus := stOk }))) ∧
      (srcSession src s = false → ∀ off : BitVec 16, off = 4 ∨ off = 8 ∨ off = 0x60 →
        exec (.bstayCfgWrite src off v) s = .next (settle { s with lastStatus := stDenied }))) ∧
    (∀ (v : Word) (s : State), regReady 10 .safety s = true →
      exec (.verdictPost v) s = .next (settle { s with
        bstay := { s.bstay with verdFw := s.bstay.verdFw.set 2 v, verdPosted := true }
        rigger := { s.rigger with
          postPend := false, lastFrame := ((s.bstay.verdFw.set 2 v).getD 0 0).setWidth 24, postCnt := satInc 32 s.rigger.postCnt }
        lastStatus := stOk })))

/-! ### Registers of clocks, supply, memory, heat and links (09, 14 to 17) -/

/-- CLK_SEL, CLK_GATE, SAVE_NOW, XMEM_CTRL, RIGGER's CONFIRM and PIN_CLR (R416, R417, R436, R461, R463, R381): a good source
is selected with a coast, a bad one is BAD_STATE and code 3 BAD_PARAM; a gate is stored where every clock it stops may stop,
and is BAD_STATE in compatibility mode; SAVE_NOW begins the save, with both ports OFF and every switch open; a reload is
queued, that of CALIB_PIXEL not in S0; the running slot confirms itself; PIN_CLR frees the pinned entries in a session. -/
def Obligations.ClockSupplyAndMemoryRegisters : Prop :=
  (∀ (src : RegSrc) (v : Word) (s : State), regReady 14 src s = true →
    (bits v 0 2 = 0 → s.clk.refOk = true → exec (.clkSelWrite src v) s = .next (settle { s.hitIf (!s.clk.coast) 14 0x0204 16 with
      clk := { s.clk with
        coast := true, lockA := false, lockB := false, failsA := 0, failsB := 0
        coastFrom := if s.clk.coast then s.clk.coastFrom else s.ticks
        coastCnt := if s.clk.coast then s.clk.coastCnt else satInc 16 s.clk.coastCnt
        sel := 0, toFb := false, waitFb := false, relocking := true }
      lastStatus := stOk })) ∧
    (bits v 0 2 = 0 → s.clk.refOk = false → exec (.clkSelWrite src v) s = .next (settle { s with lastStatus := stBadState })) ∧
    (bits v 0 2 = 1 → linkGood .p0 s = false →
      exec (.clkSelWrite src v) s = .next (settle { s with lastStatus := stBadState })) ∧
    (bits v 0 2 = 3 → exec (.clkSelWrite src v) s = .next (settle { s with lastStatus := stBadParam })) ∧
    (s.mode.ifMode ≠ .compat →
      (∀ n, n < 6 → v.getLsbD n = true → s.clk.gate.getLsbD n = true ∨ mayStop n (v.setWidth 6) s = true) →
      exec (.clkGateWrite src v) s =
        .next (settle { s with clk := { s.clk with gate := v.setWidth 6 }, lastStatus := stOk })) ∧
    (s.mode.ifMode = .compat → exec (.clkGateWrite src v) s = .next (settle { s with lastStatus := stBadState }))) ∧
  (∀ (src : RegSrc) (s : State), regReady 15 src s = true → s.pwr.inReset = false → s.pwr.porHeld = false →
    s.pwr.saving = none → s.pwr.pstate ≠ .s5 →
    ∃ t, exec (.saveNow src) s = .next t ∧ t.pwr.saving = some 3 ∧ t.pwr.entryTo = none ∧ t.pwr.wakeStage = 0 ∧
      t.h0.state = .off ∧ t.h1.state = .off ∧ t.lastStatus = stOk ∧ ∀ x ∈ t.arr.tiles, x.swClosed = false) ∧
  (∀ (src : RegSrc) (s : State), regReady 12 src s = true →
    (s.pwr.pstate = .s0 → exec (.xmemReload src 1) s = .next (settle { s with lastStatus := stBadState })) ∧
    (s.xmem.queue.contains (.reload 1) = false → s.xmem.busy ≠ some (.reload 1) →
      exec (.xmemReload src 2) s =
        .next (settle { s with xmem := { s.xmem with queue := s.xmem.queue ++ [.reload 1] }, lastStatus := stOk }))) ∧
  (∀ (src : RegSrc) (s : State), regReady 17 src s = true →
    ((src = .safety ∨ src = .service) → s.keep.running ≠ 0 →
      exec (.fwConfirm src) s = .next (settle { writeHeader { s with keep := { s.keep with
        trial := 0, minSvn := if s.keep.minSvn < s.keep.svnRun then s.keep.svnRun else s.keep.minSvn } } with
        lastStatus := stOk })) ∧
    (∀ p, src = .port p → exec (.fwConfirm src) s = .next (settle { s with lastStatus := stOk })) ∧
    (srcSession src s = false → exec (.pinClr src) s = .next (settle { s with lastStatus := stDenied })) ∧
    (srcSession src s = true →
      ∃ t, exec (.pinClr src) s = .next t ∧ t.log.pinUsed = 0 ∧ t.rigger.minSev = s.rigger.minSev ∧ t.lastStatus = stOk))

/-- Temperatures and the link's control register (R271, R273, R284, R391 to R395, R405): a good reading of a tile or die
sensor in range stands as shown, ends the run of failures, and sets or clears WARN, THROTTLE and SHUTDOWN by the thresholds and
the hysteresis as they stood when the clock began; a tile's value is its junction estimate; a tile's failed reading after
another declares the sensor broken; an NTC reading stands as the temperature that its resistance converts to (a free value, log
entry 206), with the resistance, is the last good one where it is in range and a failure where it is not, and counts a scan; no
tile is read in S2, and no NTC in S4 and S5. THERM_FLOOR and NTC_CFG are stored in their ranges, THERM_FLOOR only in a session; HLY_CTRL is stored where
its fields agree, is BAD_PARAM with no rate, BAD_STATE in the compatibility modes, and BAD_STATE for START on a port that leads
or follows; RETRAIN by a core takes an ACTIVE port to DETECT at once, and by its own port it waits while a reply is owed. -/
def Obligations.HeatAndLinkRegisters : Prop :=
  (∀ (t : Fin 256) (aux : Nat) (s : State), s.pwr.inReset = false → s.therm.tiles.length = 256 → s.arr.tiles.length = 256 →
    let x := s.therm.tiles.getD t {}
    (s.pwr.pstate = .s0 ∨ s.pwr.pstate = .s1 →
      (∀ v : Int, -880 ≤ v → v ≤ 3200 →
        ∃ u, exec (.thermReading (.tile t) (some v) aux) s = .next u ∧
          let y := u.therm.tiles.getD t {}
          y.shown = v ∧ y.last = some v ∧ y.fails = 0 ∧ y.shutdown = levelAt x.shutdown (thr .tile 2 s) (hystNow s) y.used ∧
          y.warn = levelAt x.warn (thr .tile 0 s) (hystNow s) y.used ∧
          y.throttle = levelAt x.throttle (thr .tile 1 s) (hystNow s) y.used ∧ (u.tile t).shutdown = y.shutdown ∧
          (x.broken = false → y.used = reg13 (junction s.therm.theta.toNat v s.arr.vled aux))) ∧
      (1 ≤ x.fails → ∃ u, exec (.thermReading (.tile t) none aux) s = .next u ∧
        (u.therm.tiles.getD t {}).broken = true ∧ (u.therm.tiles.getD t {}).fails = x.fails + 1)) ∧
    (s.pwr.pstate = .s2 → ∀ r, exec (.thermReading (.tile t) r aux) s = .next (settle s))) ∧
  (∀ (v : Int) (aux : Nat) (s : State), s.pwr.inReset = false →
    (∀ n : Fin 4, s.therm.dies.length = 4 → s.pwr.pstate = .s0 ∨ s.pwr.pstate = .s1 ∨ s.pwr.pstate = .s2 →
      -880 ≤ v → v ≤ 3200 →
      ∃ u, exec (.thermReading (.die n) (some v) aux) s = .next u ∧
        let x := s.therm.dies.getD n {}
        let y := u.therm.dies.getD n {}
        y.shown = v ∧ y.last = some v ∧ y.fails = 0 ∧ y.warn = levelAt x.warn (thr .die 0 s) (hystNow s) y.used ∧
        y.throttle = levelAt x.throttle (thr .die 1 s) (hystNow s) y.used ∧
        y.shutdown = levelAt x.shutdown (thr .die 2 s) (hystNow s) y.used) ∧
    (vault s.pwr.pstate = false →
      let c := Config.ntcTemp aux s.base.therm.ntcCfg
      let good := -800 ≤ c ∧ c ≤ 2560
      ∃ u, exec (.thermReading .ntc (some v) aux) s = .next u ∧ u.therm.ntc.shown = reg13 c ∧
        (good → u.therm.ntc.last = some c ∧ u.therm.ntc.fails = 0) ∧
        (¬good → u.therm.ntc.last = s.therm.ntc.last ∧ u.therm.ntc.fails = s.therm.ntc.fails + 1) ∧
        u.therm.ntcRes = min 0xFFFFFF aux ∧ u.therm.scanCnt = s.therm.scanCnt + 1) ∧
    (vault s.pwr.pstate = true → ∀ r, exec (.thermReading .ntc r aux) s = .next (settle s))) ∧
  (∀ (src : RegSrc) (v : Word) (s : State), regReady 16 src s = true →
    (srcSession src s = true → 1 ≤ bits v 0 17 → bits v 0 17 ≤ 65536 → exec (.thermRegWrite src 4 v) s =
      .next (settle { s with therm := { s.therm with floor := v.setWidth 17 }, lastStatus := stOk })) ∧
    (srcSession src s = true → bits v 0 17 = 0 ∨ 65536 < bits v 0 17 →
      exec (.thermRegWrite src 4 v) s = .next (settle { s with lastStatus := stBadParam })) ∧
    (srcSession src s = false → exec (.thermRegWrite src 4 v) s = .next (settle { s with lastStatus := stDenied })) ∧
    (bits v 0 16 ≠ 0 → bits v 16 16 ≠ 0 → exec (.thermRegWrite src 0x518 v) s =
      .next (settle { s with therm := { s.therm with ntcCfg := v }, lastStatus := stOk }))) ∧
  (∀ (src : RegSrc) (p : HPort) (v : Word) (s : State), regReady (portBlk p) src s = true →
    s.h0.retrainPend = false → s.h1.retrainPend = false → s.h1.roleChange = none →
    (s.compat = true → exec (.hlyCtrlWrite src p v) s = .next (settle { s with lastStatus := stBadState })) ∧
    (s.compat = false → bits v 20 4 = 0 → exec (.hlyCtrlWrite src p v) s = .next (settle { s with lastStatus := stBadParam })) ∧
    (s.compat = false → bits v 20 4 = 15 → bits v 12 2 ≠ 0 → bit v 4 = false → bit v 1 = false →
      exec (.hlyCtrlWrite src p v) s =
        .next (settle { s.modPort p (fun h => { h with ctrl := v &&& 0x00F33014 }) with lastStatus := stOk })) ∧
    (s.compat = false → bits v 20 4 = 15 → bits v 12 2 ≠ 0 → bit v 4 = true →
      (s.hport p).role = .leader ∨ (s.hport p).role = .follower ∨ (s.hport p).cfgRole = .leader →
      exec (.hlyCtrlWrite src p v) s = .next (settle { s with lastStatus := stBadState })) ∧
    (s.compat = false → bits (s.hport p).ctrl 20 4 = 15 → bits (s.hport p).ctrl 12 2 ≠ 0 → bit (s.hport p).ctrl 4 = false →
      (src = .service → (s.hport p).state = .active → ∃ t, exec (.retrain src p) s = .next t ∧ (t.hport p).state = .detect) ∧
      (src = .port (cmdPort p) → owed (cmdPort p) s ≠ [] →
        ∃ t, exec (.retrain src p) s = .next t ∧ (t.hport p).state = (s.hport p).state ∧ (t.hport p).retrainPend = true)))


/-! ### Clocks, operating points and power states (15, 16) -/

/-- Trips, coasts and relocks (R409, R410, R411, R412, R414, R415): REFOSC, selected, trips into a coast towards FBOSC; the
trip of FBOSC takes the light away; LPOSC's only reports; a good window clears FAILED; an unlocked PLL relocks once its source
is good, a third failed relock coasts, and lock ends the coast on the source it waited for; a ROW clock out of tolerance is
reported, in a coast only once the coast is longer than 25 µs, and one that has stopped opens every switch until it is good
again; loop timing starts on a locked ACTIVE port without REFOSC and ends once it has been good for 1 ms, not before. No check
of these monitors is injected or forced. -/
def Obligations.ClocksTripCoastAndRelock : Prop :=
  (∀ s : State,
    (monitorOn .refosc s = true → fails 14 0 false s = false →
      (s.clk.sel = 0 → s.clk.onFb = false →
        ∃ t, exec (.clkMonitorTrip .refosc) s = .next t ∧ t.clk.refOk = false ∧ t.clk.coast = true ∧ t.clk.toFb = true ∧
          t.clk.failed = s.clk.failed ||| 1 ∧ t.clk.relocking = (s.clk.fbReady && s.clk.fbGood) ∧
          t.clk.waitFb = !(s.clk.fbReady && s.clk.fbGood)) ∧
      exec (.clkMonitorGood .refosc) s = .next (settle { s with
        clk := { s.clk with refOk := true, refFrom := if s.clk.refOk then s.clk.refFrom else s.ticks
                            failed := s.clk.failed &&& ~~~ 1 } })) ∧
    (monitorOn .lposc s = true → fails 14 6 false s = false →
      exec (.clkMonitorTrip .lposc) s = .next (settle (markFailed 6 true (raiseFault 14 6 0 true false s)))) ∧
    (monitorOn .fbosc s = true →
      (∃ t, exec .fboscFail s = .next t ∧ t.bstay.beam = .dark ∧ t.clk.fbGood = false ∧ ∀ x ∈ t.arr.tiles, x.swClosed = false) ∧
      exec .fboscReady s = .next (settle { s with
        clk := { s.clk with fbReady := true, relocking := s.clk.relocking || s.clk.waitFb, waitFb := false } }))) ∧
  (∀ s : State, monitorOn .plla s = true →
    (∀ b : Bool, fails 14 (if b then 5 else 4) false s = false →
      ∃ t, exec (.pllUnlock b) s = .next t ∧ t.clk.relocking = (s.clk.relocking || sourceGood s) ∧ t.clk.lockA = (s.clk.lockA && b) ∧
        t.clk.lockB = (s.clk.lockB && !b) ∧ t.clk.coast = s.clk.coast) ∧
    (s.clk.relocking = true →
      (∃ t, exec .pllRelockDone s = .next t ∧ t.clk.coast = false ∧ t.clk.relocking = false ∧ t.clk.lockA = true ∧
        t.clk.lockB = true ∧ t.clk.onFb = (if s.clk.coast then s.clk.toFb else s.clk.onFb) ∧
        t.clk.failed = s.clk.failed &&& 0x4F) ∧
      (s.clk.failsA + 1 < 3 → exec (.pllRelockTimeout false) s = .next (settle { s with
        clk := { s.clk with failsA := s.clk.failsA + 1 } })) ∧
      (s.clk.failsB + 1 = 3 → ∃ t, exec (.pllRelockTimeout true) s = .next t ∧ t.clk.coast = true ∧ t.clk.toFb = true)) ∧
    (fails 14 3 false s = false →
      (s.clk.coast = false ∨ s.clk.coastFrom + 6250 < s.ticks →
        exec .rowMon s = .next (settle (markFailed 3 true (raiseFault 14 3 0 true false s))) ∧
        ∃ t, exec (.clkMonitorTrip (.row true)) s = .next t ∧ t.clk.rowStop = true ∧ t.arr.live = [] ∧ t.arr.next = [] ∧
          ∀ x ∈ t.arr.tiles, x.swClosed = false) ∧
      (s.clk.coast = true → s.ticks ≤ s.clk.coastFrom + 6250 → exec .rowMon s = .next (settle s)) ∧
      ∃ t, exec (.clkMonitorGood (.row false)) s = .next t ∧ t.clk.rowStop = false ∧ t.clk.failed.getLsbD 3 = false)) ∧
  (∀ (p : HPort) (s : State),
    ((s.hport p).state = .active → (s.hport p).rx0.locked = true → s.clk.refOk = false →
      exec (.phyLoopTiming p) s = .next (settle (s.modPort p (fun h => { h with loopTimed := true })))) ∧
    (s.clk.refOk = true → s.clk.refFrom + 250000 ≤ s.ticks →
      exec (.phyLoopReturn p) s = .next (settle (s.modPort p (fun h => { h with loopTimed := false })))) ∧
    (s.clk.refOk = false ∨ s.ticks < s.clk.refFrom + 250000 → exec (.phyLoopReturn p) s = .next (settle s)))

/-- Operating points (R420, R421, R422): DVFS_SET is refused where the load would not fit, ends at once at the point in force,
and otherwise starts with the ramp (upwards) or the divider (downwards); a ramp and the settling follow each other; a settle
that takes SETTLE_TO from the end of the ramp times out, and not before: it ramps back, raises DVFS_FAIL and completes with TIMEOUT. -/
def Obligations.OperatingPointsAreChangedInSteps : Prop :=
  (∀ (c : CmdCtx) (op : Fin 4) (s : State), slowReady 0x61 c [put 0 op.val] s = true →
    let s1 := accepted 0x61 c [put 0 op.val] s
    (loadFits op.val s = false → exec (.dvfsSet c [put 0 op.val]) s = .next (settle (completed 0x61 c stBadState [] s1))) ∧
    (loadFits op.val s = true →
      (s.clk.opAct.toNat = op.val → exec (.dvfsSet c [put 0 op.val]) s = .next (concluded 0x61 c []
        { s1 with clk := { s1.clk with opTgt := BitVec.ofNat 2 op.val } })) ∧
      (op.val < s.clk.opAct.toNat → exec (.dvfsSet c [put 0 op.val]) s = .next (settle (markSlow c.port c.tag
        (fun y => { y with started := true, startedAt := s.ticks })
        { s1 with clk := { s1.clk with opTgt := BitVec.ofNat 2 op.val, dvfsBusy := true, dvfsStep := 1 } }))) ∧
      (s.clk.opAct.toNat < op.val → exec (.dvfsSet c [put 0 op.val]) s = .next (settle (markSlow c.port c.tag
        (fun y => { y with started := true, startedAt := s.ticks })
        { s1 with clk := { s1.clk with opTgt := BitVec.ofNat 2 op.val, dvfsBusy := true, dvfsStep := 3 } }))))) ∧
  (∀ s : State, s.clk.coast = false →
    (s.clk.dvfsStep = 1 → exec .dvfsRampEnd s = .next (settle { s with
      clk := { s.clk with vpix := vpixOf s.clk.opTgt.toNat, dvfsStep := 2, settleFrom := s.ticks } })) ∧
    (s.clk.dvfsStep = 4 → exec .dvfsRampEnd s = .next (settle (finishStarted 0x61 stOk [] { s with
      clk := { s.clk with vpix := vpixOf s.clk.opAct.toNat, dvfsStep := 0, dvfsBusy := false } }))) ∧
    (s.clk.dvfsStep = 5 → exec .dvfsRampEnd s = .next (settle (finishStarted 0x61 stTimeout [] { s with
      clk := { s.clk with vpix := vpixOf s.clk.opAct.toNat, dvfsStep := 0, dvfsBusy := false } }))) ∧
    (s.clk.dvfsStep = 2 →
      exec .dvfsSettled s = .next (settle { s with clk := { s.clk with dvfsStep := 3 } }) ∧
      (s.clk.settleFrom + s.clk.settleTo.toNat * 250 ≤ s.ticks →
        exec .dvfsSettleTimeout s = .next (settle (raiseFault 14 7 0 true false { s with clk := { s.clk with dvfsStep := 5 } }))) ∧
      (s.ticks < s.clk.settleFrom + s.clk.settleTo.toNat * 250 → exec .dvfsSettleTimeout s = .next (settle s))))

/-- The ladder of power states (R16, R315, R428, R429, R430, R431, R432): POWER_STATE naming the present state is OK, naming a
deeper one it is OK and the entry waits, during a transition it is BAD_STATE, outside 0 to 5 BAD_PARAM, and it leaves S1 for
S0 at once; the entry from S0 or S1, its waits over, changes the state with cause 1, and a deep one ends the session and
makes the beam Dark; a change of a wake pin shows in LEVEL, and in S2 the active level of an enabled pin, or a signal on H0 in
SLACK where its LINK_EN is set, begins the exit; its stages follow one another, and the last one of an exit from S2, or from S3
with a good retention image, gives the state it leads to; a bad or missing image of S3 discards it, sets RET_ERR and leads back
to boot; a stage times out once its time of Table 16.4 has gone, its domain is powered off and it is tried again after 100 µs,
and its third failure leads from S2 to S4. -/
def Obligations.PowerStatesAreEnteredAndLeft : Prop :=
  (∀ (c : CmdCtx) (dst : PState) (s : State),
    let w : Word := put 0 (pstateNo dst)
    fastReady 0x60 c [w] s = true →
    (dst = s.pwr.pstate → exec (.powerState c [w]) s = .next (answered 0x60 c [] s)) ∧
    (dst ≠ s.pwr.pstate → pwrBusy s = true → exec (.powerState c [w]) s = .next (settle (reply c 0x60 stBadState [] s))) ∧
    (pstateNo s.pwr.pstate < pstateNo dst → pwrBusy s = false → s.mode.ifMode ≠ .compat ∨ pstateNo dst ≤ 2 →
      exec (.powerState c [w]) s = .next (answered 0x60 c [] { s with
        pwr := { s.pwr with entryTo := some dst, entryTried := false, entryPort := c.port } })) ∧
    (dst = .s0 → s.pwr.pstate = .s1 → pwrBusy s = false → s.mode.ifMode ≠ .compat →
      ∃ t, exec (.powerState c [w]) s = .next t ∧ t.pwr.pstate = .s0 ∧ t.pwr.from_ = .s1 ∧ t.pwr.lastCause = 1) ∧
    (∀ v : Word, 5 < bits v 0 3 → fastReady 0x60 c [v] s = true →
      exec (.powerState c [v]) s = .next (settle (reply c 0x60 stBadParam [] s)))) ∧
  (∀ (dst : PState) (s : State), s.pwr.entryTo = some dst → dst ≠ .s0 → mayEnter dst s = true → s.pwr.wakeLatched = none →
    s.pwr.pstate = .s0 ∨ s.pwr.pstate = .s1 →
    ∃ t, exec .powerEntry s = .next t ∧ t.pwr.pstate = dst ∧ t.pwr.from_ = s.pwr.pstate ∧ t.pwr.lastCause = 1 ∧
      t.pwr.entryTo = none ∧ (deep dst = true → t.bstay.beam = .dark ∧ t.cmd.sessOpen = false)) ∧
  (∀ (n : Fin 4) (high : Bool) (s : State), s.pwr.inReset = false →
    let level : BitVec 4 := if high then s.pwr.wakeLevel ||| wakeBit n else s.pwr.wakeLevel &&& ~~~ wakeBit n
    (s.pwr.wakeCtrl.getLsbD n.val = false ∨ s.pwr.wakeCtrl.getLsbD (n.val + 4) ≠ high →
      exec (.wakePin ⟨n, high⟩) s = .next (settle { s with pwr := { s.pwr with wakeLevel := level } })) ∧
    (s.pwr.wakeCtrl.getLsbD n.val = true → s.pwr.wakeCtrl.getLsbD (n.val + 4) = high → s.pwr.pstate = .s2 →
      s.pwr.saving = none → s.pwr.wakeStage = 0 → s.pwr.entryTo = none →
      ∃ t, exec (.wakePin ⟨n, high⟩) s = .next t ∧ t.pwr.wakeStage = 5 ∧ t.pwr.wakeCause = 2 ∧ t.pwr.wakeTo = .s0 ∧
        t.pwr.lastSrc = n.val + 1 ∧ t.pwr.seen = s.pwr.seen ||| wakeBit n ∧ t.pwr.wakeLevel = level)) ∧
  (∀ s : State, s.pwr.inReset = false → s.h0.state = .slack → s.pwr.wakeCtrl.getLsbD 8 = true → s.pwr.pstate = .s2 →
    s.pwr.saving = none → s.pwr.wakeStage = 0 → s.pwr.entryTo = none →
    ∃ t, exec (.linkWake .p0) s = .next t ∧ t.pwr.wakeStage = 5 ∧ t.pwr.wakeCause = 3 ∧ t.pwr.lastSrc = 5) ∧
  (∀ (i d : Bool) (s : State),
    (1 ≤ s.pwr.wakeStage → s.pwr.wakeStage < 5 → (∀ n ∈ s.pwr.stageAt, n ≤ s.ticks) →
      ∃ t, exec (.wakeStageReady i d) s = .next t ∧ t.pwr.wakeStage = s.pwr.wakeStage + 1 ∧ t.pwr.wakeTries = 0 ∧
        t.pwr.stageAt = some s.ticks ∧ t.pwr.pstate = s.pwr.pstate) ∧
    (s.pwr.wakeStage = 5 → s.pwr.pstate = .s2 ∨ (s.pwr.pstate = .s3 ∧ i = true ∧ s.pwr.image.isSome = true) →
      (∀ n ∈ s.pwr.stageAt, n ≤ s.ticks) →
      ∃ t, exec (.wakeStageReady i d) s = .next t ∧ t.pwr.wakeStage = 0 ∧ t.pwr.pstate = s.pwr.wakeTo ∧
        t.pwr.lastCause = s.pwr.wakeCause ∧ t.pwr.from_ = s.pwr.pstate) ∧
    (s.pwr.wakeStage = 5 → s.pwr.pstate = .s3 → i = false ∨ s.pwr.image.isSome = false →
      (∀ n ∈ s.pwr.stageAt, n ≤ s.ticks) →
      ∃ t, exec (.wakeStageReady i d) s = .next t ∧ t.pwr.wakeStage = 0 ∧ t.pwr.pstate = .s0 ∧ t.pwr.ready = false ∧
        t.pwr.retErr = true ∧ t.pwr.image.isSome = false)) ∧
  (∀ (n : Nat) (s : State), s.pwr.wakeStage ≠ 0 → s.pwr.stageAt = some n →
    (s.ticks < n + stageTicks s.pwr.wakeStage → exec .wakeStageTimeout s = .next (settle s)) ∧
    (n + stageTicks s.pwr.wakeStage ≤ s.ticks →
    (s.pwr.wakeTries < 2 →
      let u := stageDown s.pwr.wakeStage s
      exec .wakeStageTimeout s = .next (settle { u with
        pwr := { u.pwr with wakeTries := u.pwr.wakeTries + 1, stageAt := some (s.ticks + 25000) } })) ∧
    (2 ≤ s.pwr.wakeTries → s.pwr.pstate = .s2 →
      ∃ t, exec .wakeStageTimeout s = .next t ∧ t.pwr.pstate = .s4 ∧ t.pwr.lastCause = 6 ∧ t.pwr.failAttempts = 3 ∧
        t.pwr.failStage = s.pwr.wakeStage ∧ t.pwr.wakeStage = 0)))

/-! ### Saves, Keep's log, presence and resets (13, 16, 20) -/

/-- The save and what follows it (R431, R436, R437, R439, R440, R518): each trigger begins the save with its cause, both ports
OFF and every switch open, and during a save is only recorded; a completed save puts the record into the free slot, counts
it and parks the module in S5 with cause 7; the return of VSUP wakes a parked module with an image and boots one without;
before READY the removal of the module blanks the tiles until it is back; each second counts, and every 256th is written to
Keep's header. -/
def Obligations.SavesParkAndCountSeconds : Prop :=
  (∀ s : State, s.pwr.inReset = false → s.pwr.porHeld = false →
    (s.pwr.saving = none → s.pwr.pstate ≠ .s5 →
      (∀ mv : Supply, ∃ t, exec (.saveSupervisorTrip mv) s = .next t ∧ t.pwr.saving = some 1 ∧ t.pwr.saveLvl = true ∧
        t.pwr.vhuTrig = min mv.vhu 8191 ∧ t.h0.state = .off ∧ t.h1.state = .off ∧ ∀ x ∈ t.arr.tiles, x.swClosed = false) ∧
      (s.pwr.ready = true → ∃ t, exec .presentNRemoved s = .next t ∧ t.pwr.saving = some 2 ∧ t.pwr.present = false ∧
        ∀ x ∈ t.arr.tiles, x.swClosed = false)) ∧
    (∀ (k : Nat) (mv : Supply), s.pwr.saving = some k → exec (.saveSupervisorTrip mv) s = .next (settle { s with
      pwr := { takeSupply mv s.pwr with saveLvl := true, saveFlags := s.pwr.saveFlags ||| 1 } })) ∧
    (s.pwr.ready = false →
      exec .presentNRemoved s = .next (settle { s with pwr := { s.pwr with present := false } }))) ∧
  (∀ (cause mv us : Nat) (s : State), s.pwr.saving = some cause → fails 15 4 false s = false → s.pwr.resetHeld = false →
    s.pwr.slots.length = 2 →
    ∃ t, exec (.saveComplete mv us true) s = .next t ∧ t.pwr.pstate = .s5 ∧ t.pwr.from_ = s.pwr.pstate ∧
      t.pwr.lastCause = 7 ∧ t.pwr.parked = some cause ∧ t.pwr.saving = none ∧ t.pwr.saveCnt = satInc 16 s.pwr.saveCnt ∧
      t.pwr.lastUs = min us 255 ∧ t.pwr.vhuEnd = min mv 8191 ∧
      t.pwr.slots.getD (freeSlot s) none = some (saveRecord cause s.pwr.saveFlags s) ∧ t.bstay.beam = .dark) ∧
  (∀ s : State, s.pwr.pstate = .s5 → s.pwr.inReset = false → s.pwr.wakeStage = 0 → s.pwr.parked = some 1 →
    (s.pwr.s5Image.isSome = true → ∃ t, exec .parkedWake s = .next t ∧ t.pwr.wakeStage = 1 ∧ t.pwr.wakeCause = 4 ∧
      t.pwr.lastSrc = 7 ∧ t.pwr.pstate = .s5) ∧
    (s.pwr.s5Image = none → ∃ t, exec .parkedWake s = .next t ∧ t.pwr.pstate = .s0 ∧ t.pwr.ready = false ∧
      t.pwr.lastCause = 4)) ∧
  (∀ s : State,
    (s.pwr.ready = false → ∃ t, exec .presentNBootBlank s = .next t ∧ t.pwr.presentBlank = true ∧ t.pwr.present = false ∧
      ∀ x ∈ t.arr.tiles, x.swClosed = false) ∧
    (s.pwr.presentBlank = true → exec .presentNBootRestore s = .next (settle { s with
      pwr := { s.pwr with present := true, presentBlank := false } })) ∧
    (s.pwr.porHeld = false →
      ((s.pwr.opsec + 1).toNat % 256 ≠ 0 →
        exec .opsecTick s = .next (settle { s with pwr := { s.pwr with opsec := s.pwr.opsec + 1 } })) ∧
      ((s.pwr.opsec + 1).toNat % 256 = 0 → ∃ t, exec .opsecTick s = .next t ∧ t.pwr.opsec = s.pwr.opsec + 1 ∧
        t.keep.kseq = s.keep.kseq + 1 ∧ t.keep.hdrOne = !s.keep.hdrOne)))

/-- The log writer (R380, R381, R384): the oldest queued record becomes a Keep log entry with the next LSEQ at the head of
the ring, which advances; one of severity MAJOR or SAFETY also takes the next pinned entry while fewer than 16 are taken; a
record whose first read-back failed stands in the following slot; an empty queue is left alone. -/
def Obligations.LogEntriesReachTheRing : Prop :=
  ∀ s : State,
    (s.log.q = [] → exec (.logEntryWrite 0 0) s = .next (settle s)) ∧
    (∀ (r : LogRec) (rest : List LogRec), s.log.q = r :: rest → fails 13 0 false s = false → fails 13 1 false s = false →
      (∃ t, exec (.logEntryWrite 0 0) s = .next t ∧ t.log.lseq = s.log.lseq + 1 ∧ t.log.head = (s.log.head + 1) % 2048 ∧
        keepBytes (ringAt s.log.head) 32 t = entryBytes r (s.log.lseq + 1) ∧
        (2 ≤ recSev r → s.log.pinUsed < 16 → t.log.pinUsed = s.log.pinUsed + 1 ∧
          keepBytes (0x2000 + 32 * s.log.pinUsed) 32 t = entryBytes r (s.log.lseq + 1)) ∧
        (recSev r < 2 → t.log.pinUsed = s.log.pinUsed)) ∧
      (∃ t, exec (.logEntryWrite 1 0) s = .next t ∧ t.log.lseq = s.log.lseq + 1 ∧ t.log.head = (s.log.head + 2) % 2048 ∧
        keepBytes (ringAt (s.log.head + 1)) 32 t = entryBytes r (s.log.lseq + 1)))

/-- Supervisors, resets and the boot (R435, R442, R443, R458, R519): POR holds the module in reset with cause 1 and its release
ends that; VSUP_LOW, VSUP_OV and VREG_FAIL report and their levels stand, and VSUP_LOW clears; each supply row stores VHU and
opens the diode switch where VHU is 20 mV above VSUP or more, and closes it where VHU is not above VSUP (that it closes there is
the model's choice, log entry 192); RESET_N resets to S0 before
READY with cause 2, waits for a save in progress, and is ignored once stuck until it has been high; low for 4.85 s, and not before, it is stuck,
its cause is 5 and the module leaves reset; these three resets keep Keep's bytes and locks, the bytes of external memory and
the queue of the host; a boot from step 1 with TEST_N high, and one from step 4, reaches READY with both cores running, one with
TEST_N low stops at step 3, Dark, and where no boot is under way BOOT does nothing. -/
def Obligations.SupervisorsResetsAndBoot : Prop :=
  (∀ s : State,
    (∃ t, exec .porTrip s = .next t ∧ t.pwr.porHeld = true ∧ t.pwr.inReset = true ∧ t.pwr.rstCause = 1 ∧
      t.pwr.ready = false ∧ t.keep.bytes = s.keep.bytes ∧ t.keep.lock = s.keep.lock ∧
      t.xmem.cs0.bytes = s.xmem.cs0.bytes ∧ t.xmem.cs1.bytes = s.xmem.cs1.bytes ∧ t.pending = s.pending) ∧
    (∀ mv : Supply, s.pwr.porHeld = true → ∃ t, exec (.porRelease mv) s = .next t ∧ t.pwr.porHeld = false ∧
      t.pwr.inReset = (!s.pwr.resetLvl && !s.pwr.ignore) ∧ t.pwr.vhuMv = min mv.vhu 8191 ∧ t.pwr.low = false) ∧
    (∀ mv : Supply, s.pwr.porHeld = false →
      let taken : Pwr := { s.pwr with
        vhuMv := min mv.vhu 8191
        diodeOpen := if mv.vsup + 20 ≤ mv.vhu then true else if mv.vhu ≤ mv.vsup then false else s.pwr.diodeOpen }
      (fails 15 0 false s = false → exec (.vsupLow mv) s = .next (settle (raiseFault 15 0 0 true false { s with
        pwr := { taken with low := true, ov := false } }))) ∧
      (fails 15 1 false s = false → exec (.vsupOv mv) s = .next (settle (raiseFault 15 1 0 true false { s with
        pwr := { taken with ov := true, low := false, saveLvl := false } }))) ∧
      exec (.vsupLowClear mv) s = .next (settle { s with
        pwr := { taken with low := false, saveLvl := false, ov := s.pwr.ov && decide (3700 ≤ mv.vhu) } }) ∧
      (∀ n : Fin 16, fails 15 2 false s = false → exec (.vregFail n) s =
        .next (settle (raiseFault 15 2 n.val true false { s with pwr := { s.pwr with regGood := false, vregBad := true } })))) ∧
    (s.pwr.ignore = false → s.pwr.porHeld = false →
      (s.pwr.saving = none → ∃ t, exec .resetNAssert s = .next t ∧ t.pwr.inReset = true ∧ t.pwr.rstCause = 2 ∧
        t.pwr.pstate = .s0 ∧ t.pwr.ready = false ∧ t.keep.bytes = s.keep.bytes ∧ t.keep.lock = s.keep.lock ∧
        t.xmem.cs0.bytes = s.xmem.cs0.bytes ∧ t.xmem.cs1.bytes = s.xmem.cs1.bytes ∧
        t.store = {} ∧ t.cmd.sessOpen = false ∧ t.pending = s.pending) ∧
      (s.pwr.saving ≠ none → exec .resetNAssert s = .next (settle { s with
        pwr := { s.pwr with
          resetLvl := false, lowAt := if s.pwr.resetLvl then s.ticks else s.pwr.lowAt, resetHeld := true } }))) ∧
    (s.pwr.ignore = true →
      exec .resetNAssert s = .next (settle { s with pwr := { s.pwr with
        resetLvl := false, lowAt := if s.pwr.resetLvl then s.ticks else s.pwr.lowAt } }) ∧
      exec .resetNIgnoreEnd s = .next (settle { s with pwr := { s.pwr with ignore := false, resetLvl := true } })) ∧
    (s.ticks < s.pwr.lowAt + 1212500000 → exec .resetStuck s = .next (settle s)) ∧
    (s.pwr.inReset = true → s.pwr.resetLvl = false → s.pwr.porHeld = false →
      s.pwr.lowAt + 1212500000 ≤ s.ticks → ∃ t, exec .resetStuck s = .next t ∧
      t.pwr.stuck = true ∧ t.pwr.ignore = true ∧ t.pwr.rstCause = 5 ∧ t.pwr.inReset = false ∧
      t.keep.bytes = s.keep.bytes ∧ t.keep.lock = s.keep.lock ∧ t.xmem.cs0.bytes = s.xmem.cs0.bytes ∧
      t.xmem.cs1.bytes = s.xmem.cs1.bytes ∧ t.pending = s.pending)) ∧
  (∀ (b : BootEnv) (s : State), booting s = false → exec (.boot b) s = .next (settle s)) ∧
  (∀ (b : BootEnv) (s : State), booting s = true → s.pwr.bootFrom4 = true → s.mode.testHeld = false →
    ∃ t, exec (.boot b) s = .next t ∧ t.pwr.ready = true ∧ t.rigger.safeRun = true ∧ t.rigger.svcRun = true) ∧
  (∀ (b : BootEnv) (s : State), booting s = true → s.pwr.bootFrom4 = false →
    (b.testN = true → s.mode.testHeld = false → ∃ t, exec (.boot b) s = .next t ∧ t.pwr.ready = true ∧ t.rigger.safeRun = true ∧ t.rigger.svcRun = true) ∧
    (b.testN = false → ∃ t, exec (.boot b) s = .next t ∧ t.pwr.ready = false ∧ t.pwr.bootStopped = true ∧
      t.mode.testHeld = true ∧ t.bstay.beam = .dark ∧ t.mode.ifMode = (if s.mode.forceNative || b.compat then .native else .compat)))

/-- TEST_N and the test access port (R519, R520): TEST_N low holds the beam Dark, during a save only once the save has ended;
EXTEST makes it Dark until a reset; a
rising edge of TCK moves the controller by TMS, and five in a row with TMS high reset it with BYPASS selected; in Shift-IR
the instruction shifts towards TDO. -/
def Obligations.TestContactsHoldTheLight : Prop :=
  ∀ s : State,
    (s.pwr.saving = none → ∃ t, exec .testNLow s = .next t ∧ t.mode.testHeld = true ∧ t.pins.testN = false ∧
      t.bstay.beam = .dark ∧ t.pwr.bootStopped = (s.pwr.bootStopped || !s.pwr.ready) ∧
      ∀ x ∈ t.arr.tiles, x.swClosed = false) ∧
    (s.pwr.saving.isSome = true →
      exec .testNLow s = .next (settle { s with pins := { s.pins with testN := false } })) ∧
    (tapOn s = true →
      (∃ t, exec .extestLoad s = .next t ∧ t.mode.extestHeld = true ∧ t.bstay.beam = .dark ∧ t.tap.ir = 0 ∧
        ∀ x ∈ t.arr.tiles, x.swClosed = false) ∧
      (∀ (tms tdi : Bool), tms = false ∨ s.tap.tmsHigh < 4 →
        ∃ t, exec (.tapTckEdge tms tdi) s = .next t ∧ t.tap.st = tapNext s.tap.st tms ∧
          t.tap.tmsHigh = (if tms then s.tap.tmsHigh + 1 else 0) ∧
          (s.tap.st = .shIr → t.tap.irShift = (s.tap.irShift >>> 1) ||| (if tdi then 8 else 0)) ∧
          (s.tap.st = .shDr → t.tap.dr = s.tap.dr.drop 1 ++ [tdi])) ∧
      (4 ≤ s.tap.tmsHigh → ∀ tdi : Bool,
        ∃ t, exec (.tapTckEdge true tdi) s = .next t ∧ t.tap.st = .reset ∧ t.tap.ir = 0xF))

/-! ### Halyard (09, 10) -/

/-- Bring-up and lanes of a port (R16, R27, R259 to R261, R266 to R268, R270 to R272, R274, R543, Table 09.3): a signal moves
DETECT to BASE and a further beacon begins; a port without a role leaves OFF for DETECT, or for BLIND with START unless it is to lead; TRAIN
packets count towards sixteen and, with both lanes locked and deskewed and the peer locked, move BASE, once LOCKED has been
sent, to NEGOTIATE and STEP to ACTIVE; a time-out, which comes with the time of Table 09.3 since the entry and not before, returns BASE and NEGOTIATE to
DETECT without START, takes STEP down one rate and enters BLIND again.
A lane word scrambled, stuffed and put on the line by a transmitter is read back from the line bits by a receiver in step with
it, without a violation. On a locked lane an invalid LCW is counted, with the line's violations, and costs no lock before the
fourth in a row; a valid one in BASE that is no marker ends the run and gives the peer's LSTATE; a lane without signal is not
locked: lost, while the other stays, or the link down and in STEP, where it was the last. -/
def Obligations.LinkComesUpAndLosesLanes : Prop :=
  (∀ (t : TxLane) (x : RxLine) (w : Word), t.run < 24 → x.scr = t.scr → x.run = t.run → x.lastBit = t.lastBit → x.got = 58 →
    let u := putLine { t with line := [] } w
    let r := takeLine x u.line.reverse
    r.words = [w] ∧ r.errs = 0 ∧ r.n = 0 ∧ r.line.scr = u.scr ∧ r.line.run = u.run ∧ r.line.lastBit = u.lastBit ∧
    r.line.got = 58 ∧ u.run < 24) ∧
  (∀ (p : HPort) (s : State),
    (linkOn p s = true → (s.hport p).state = .detect →
      (∃ t, exec (.signalDetect p) s = .next t ∧ (t.hport p).state = .base ∧ (t.hport p).rate = 0 ∧ (t.hport p).txLanes = 3 ∧
        (t.hport p).trains = 0) ∧
      ((s.hport p).beaconOff = false → exec (.detectBeacon p) s =
        .next (settle (s.modPort p (fun h => { h with beacons := satInc 16 h.beacons, beaconAt := s.ticks }))))) ∧
    (mayLeaveOff p s = true →
      (bit (hlyCtrl p s) 4 = false → ∃ t, exec (.portLeaveOff p) s = .next t ∧ (t.hport p).state = .detect) ∧
      (bit (hlyCtrl p s) 4 = true → (s.hport p).beaconOff = false → (s.hport p).role = .off →
        p = .p0 ∨ s.h1.cfgRole ≠ .leader →
        ∃ t, exec (.portLeaveOff p) s = .next t ∧ (t.hport p).state = .blind) ∧
      (p = .p1 → s.h1.cfgRole = .leader → ∃ t, exec (.portLeaveOff p) s = .next t ∧ (t.hport p).state = .detect)) ∧
    (∀ (k : Packet) (rest : List Packet), (s.hport p).rxq = k :: rest → k.ptype = .train →
      ((s.hport p).state = .base → (s.hport p).trains < 15 → ∃ t, exec (.trainReceive p) s = .next t ∧
        (t.hport p).trains = (s.hport p).trains + 1 ∧ (t.hport p).peerW0 = k.payload.getD 0 0 ∧ (t.hport p).rxq = rest ∧
        (t.hport p).state = .base) ∧
      ((s.hport p).trains = 16 → (s.hport p).rx0.locked = true → (s.hport p).rx1.locked = true →
        (s.hport p).rx0.deskewed = true → (s.hport p).rx1.deskewed = true → bit (k.payload.getD 0 0) 13 = true →
        ((s.hport p).state = .base → (s.hport p).lockedSent = true → ∃ t, exec (.trainReceive p) s = .next t ∧ (t.hport p).state = .negotiate) ∧
        ((s.hport p).state = .step → (s.hport p).peerLstate = 0 →
          ∃ t, exec (.trainReceive p) s = .next t ∧ (t.hport p).state = .active))) ∧
    (s.ticks < (s.hport p).enteredAt + bringupTicks (s.hport p).state → exec (.bringupTimeout p) s = .next (settle s)) ∧
    (linkOn p s = true → (s.hport p).enteredAt + bringupTicks (s.hport p).state ≤ s.ticks →
      ((s.hport p).state = .base ∨ (s.hport p).state = .negotiate → bit (hlyCtrl p s) 4 = false →
        ∃ t, exec (.bringupTimeout p) s = .next t ∧
          (t.hport p).state = .detect ∧ (t.hport p).trainFailCnt = satInc 16 (s.hport p).trainFailCnt) ∧
      ((s.hport p).state = .blind → s.compat = false → ∃ t, exec (.bringupTimeout p) s = .next t ∧
        (t.hport p).state = .blind ∧ (t.hport p).rate = ctlBlindRate (s.hport p).ctrlAct ∧ (t.hport p).enteredAt = s.ticks) ∧
      ((s.hport p).state = .step → (s.hport p).tryRate ≠ 0 → ∃ t, exec (.bringupTimeout p) s = .next t ∧
        (t.hport p).state = .step ∧ (t.hport p).rate = (s.hport p).tryRate - 1 ∧
        (t.hport p).stepDownCnt = satInc 16 (s.hport p).stepDownCnt)) ∧
    (linkOn p s = true → lanesOn (s.hport p) = true → s.compat = false →
      (∀ lane : Fin 2, ∃ t, exec (.lossOfSignal p lane) s = .next t ∧
        ((t.hport p).rx (laneIx (s.hport p) lane.val)).locked = false) ∧
      (∀ lane : Fin 2,
        let i := laneIx (s.hport p) lane.val
        (s.hport p).state = .active → ((s.hport p).rx i).locked = true →
        (((s.hport p).rx (1 - i)).locked = true → (s.hport p).peerLstate = 0 →
          ∃ t, exec (.lossOfSignal p lane) s = .next t ∧ (t.hport p).state = .active ∧ ((t.hport p).rx i).lost = true) ∧
        (((s.hport p).rx (1 - i)).locked = false → (s.hport p).retrainPend = false → s.h1.roleChange = none →
          ∃ t, exec (.lossOfSignal p lane) s = .next t ∧ (t.hport p).state = .step ∧
            (t.hport p).linkDownCnt = satInc 16 (s.hport p).linkDownCnt)) ∧
      (∀ (lane : Fin 2) (w : Word) (lead line : List Bool), (hear p lane.val line (hear p lane.val lead s).1).2 = [w] →
        let i := laneIx (s.hport p) lane.val
        let x := (s.hport p).rx i
        let l1 := takeLine (if x.signal then x.line else {}) lead
        let errs := satAdd 16 (satAdd 16 (s.hport p).stuffErrCnt l1.errs) (takeLine l1.line line).errs
        x.locked = true → x.inverted = false →
        (lcwValid w = false → x.badRun < 3 → ∃ t, exec (.lcwReceive p lane lead line) s = .next t ∧
          ((t.hport p).rx i).badRun = x.badRun + 1 ∧ ((t.hport p).rx i).locked = true ∧
          (t.hport p).lcwErrCnt = satInc 16 (s.hport p).lcwErrCnt ∧
          (t.hport p).stuffErrCnt = errs) ∧
        (lcwValid w = true → isMarker w = false → (s.hport p).state = .base → x.badMarkers < 2 →
          ∃ t, exec (.lcwReceive p lane lead line) s = .next t ∧
            ((t.hport p).rx i).badRun = 0 ∧ ((t.hport p).rx i).goodRun = min 1024 (x.goodRun + 1) ∧
            ((t.hport p).rx i).locked = true ∧ (t.hport p).peerLstate = BitVec.ofNat 2 (bits w 20 2) ∧
            (t.hport p).stuffErrCnt = errs))))

/-- What a port receives and sends (R264, R268, R286, R287, R291, R293, R294, R296, R301, R309, R310): packet-stream words that
come on the lanes of H0, put in order by STRIPE after those of an unfinished packet, and make up a whole CMD packet arrive as
that packet, with its sequence number expected next; a header that fails in lock costs the lock and is counted; on an ACTIVE
H0 the oldest reply goes out first, numbered, its start measured, and with nothing to send the port fills with IDLE, as in
BLIND; in BASE and NEGOTIATE it sends TRAIN, and the TRAIN that says LOCKED to a locked peer ends BASE; a FORWARD's inner packet goes to H1, or is counted where it may not be passed
on, and a follower's packet goes to H0. -/
def Obligations.PacketsArriveAndLeave : Prop :=
  (∀ (k : Packet) (l : LaneBits) (s : State), streamOn .p0 s = true → s.h0.state = .active → leads s = false →
    (arrive .p0 l s).1 = packetWords k →
    k.ptype = .cmd → k.ch.toNat ≤ 12 → k.payload.length ≤ 1024 → k.gap = false → k.stamp = ({} : Packet).stamp →
    k.flags.getLsbD 7 = true ∨ expected s.h0.expect k.ch.toNat = some k.seq →
    ∃ t, exec (.packetReceive .p0 l) s = .next t ∧ t.h0.rxq = s.h0.rxq ++ [k] ∧ t.h0.rxWords = [] ∧
      expected t.h0.expect k.ch.toNat = some (k.seq + 1) ∧ t.h0.rxPkt = satInc 32 s.h0.rxPkt ∧ t.h0.sync = true) ∧
  (∀ (w : Word) (l : LaneBits) (s : State), streamOn .p0 s = true → s.h0.sync = true → headerOk w = false →
    (arrive .p0 l s).1 = [w] →
    ∃ t, exec (.packetReceive .p0 l) s = .next t ∧ t.h0.sync = false ∧
      t.h0.hecErrCnt = satInc 16 s.h0.hecErrCnt ∧ t.h0.rxq = s.h0.rxq) ∧
  (∀ (start : Nat) (s : State), linkOn .p0 s = true → s.compat = false →
    (s.h0.state = .base ∨ s.h0.state = .negotiate → ∃ t, exec (.packetSend .p0 start) s = .next t ∧
      t.h0.lastSent = packetWords (trainPacket .p0 s.h0) ∧
      (bit s.h0.peerW0 13 = false → bit s.h0.peerW0 12 = false → t.h0.state = s.h0.state) ∧
      (s.h0.state = .base → s.h0.locked = true → s.h0.trains ≠ 0 → bit s.h0.peerW0 13 = true → t.h0.state = .negotiate)) ∧
    (s.h0.state = .blind → ∃ t, exec (.packetSend .p0 start) s = .next t ∧ t.h0.lastSent = idleWords)) ∧
  (∀ (start : Nat) (s : State), linkOn .p0 s = true → s.compat = false → s.h0.state = .active →
    s.h0.retrainPend = false → s.h1.roleChange = none →
    (∀ (k : Packet) (rest : List Packet), s.h0.replies = k :: rest → start ≤ 8000 →
      let n := spGet s.h0.ownSeq k.ch.toNat 0
      let f := if s.h0.rstSent.contains k.ch.toNat then k.flags else k.flags ||| 0x80
      ∃ t, exec (.packetSend .p0 start) s = .next t ∧ t.h0.replies = rest ∧
        t.h0.lastSent = packetWords { k with seq := n, flags := f } ∧ t.h0.txPkt = satInc 32 s.h0.txPkt ∧
        t.cmd.replyMax = max s.cmd.replyMax (min 65535 (start / 10)) ∧
        spGet t.h0.ownSeq k.ch.toNat 0 = n + 1) ∧
    (s.h0.replies = [] → s.h0.times = [] → s.h0.events.q = [] → s.h0.forwards = [] → s.h0.inner = [] → s.h0.layers = [] →
      ∃ t, exec (.packetSend .p0 start) s = .next t ∧ t.h0.lastSent = idleWords ∧ t.h0.txPkt = s.h0.txPkt)) ∧
  (∀ (k : Packet) (rest : List Packet) (s : State),
    (s.h0.rxq = k :: rest → k.ptype = .forward →
      (leads s = true → s.h1.state = .active → innerOk k.payload = true → exec .forwardReceive s = .next (settle { s with
        h0 := { s.h0 with rxq := rest }, h1 := { s.h1 with inner := s.h1.inner ++ [k.payload] } })) ∧
      (innerOk k.payload = false → exec .forwardReceive s = .next (settle { s.hit 1 0x114 16 with
        h0 := { s.h0 with rxq := rest, fwdDropCnt := satInc 16 s.h0.fwdDropCnt } }))) ∧
    (s.h1.rxq = k :: rest → k.ptype = .forward → exec .followerPacketWrap s = .next (settle { s with
      h1 := { s.h1 with rxq := rest }, h0 := { s.h0 with forwards := s.h0.forwards ++ [k] } })))

/-- Commands run wherever they come from (R140, R293, R298, R299, R300, R509): a CMD packet received is taken from its queue and
submitted with its port, channel, TAG, session and ORDER, and so acts as its command's own row and completes, shown for PING,
READ_REG, WRITE_REG, FLIP, SET_AIM, SET_CLASS, POWER_STATE naming the present state, and FAULT_ACK; an unassigned opcode is
answered with BAD_OPCODE, and a gap with SEQ_GAP; the
slow path runs its oldest command, shown for SET_CLASS, which takes effect in NORMAL and is BAD_STATE elsewhere, and completes
it with EV_CMD_DONE, after which a RETRAIN or a change of role that waits for the replies comes where none is owed; in native mode a CMD packet in a tunnel transaction goes to the command engine; LAYER_DATA in order fills
its buffer, which completes with its last byte where no CRC is expected; out of order it makes the buffer INVALID, and one for
no buffer is dropped and counted. -/
def Obligations.ReceivedCommandsAct : Prop :=
  (∀ (p : HPort) (k : Packet) (rest : List Packet) (s : State), (s.hport p).rxq = k :: rest → k.ptype = .cmd →
    let s1 := s.modPort p (fun h => { h with rxq := rest })
    let c := packetCtx (cmdPort p) k
    (k.gap = true → reachable (cmdPort p) s = true →
      exec (.cmdReceive p) s = .next (settle (reply c (bits k.hw1 24 8) stSeqGap [] s1))) ∧
    (k.gap = false →
      (bits k.hw1 24 8 = 0x00 → exec (.cmdReceive p) s = exec (.ping c k.payload) s1) ∧
      (bits k.hw1 24 8 = 0x10 → exec (.cmdReceive p) s = exec (.readReg c k.payload) s1) ∧
      (bits k.hw1 24 8 = 0x11 → exec (.cmdReceive p) s = exec (.writeReg c k.payload) s1) ∧
      (bits k.hw1 24 8 = 0x23 → exec (.cmdReceive p) s = exec (.flip c k.payload) s1) ∧
      (bits k.hw1 24 8 = 0x33 → exec (.cmdReceive p) s = exec (.setAim c k.payload) s1) ∧
      (bits k.hw1 24 8 = 0x60 → exec (.cmdReceive p) s = exec (.powerState c k.payload) s1) ∧
      (bits k.hw1 24 8 = 0x81 → exec (.cmdReceive p) s = exec (.faultAck c k.payload) s1)) ∧
    (k.gap = false →
      exec (.cmdReceive p) s =
        .next (settle (submit (opExec (bits k.hw1 24 8)) (bits k.hw1 24 8) c k.payload s1)) ∧
      (opInfo (bits k.hw1 24 8) = none → reachable (cmdPort p) s = true → (owed (cmdPort p) s).length < 8 →
        exec (.cmdReceive p) s = .next (settle (reply c (bits k.hw1 24 8) stBadOpcode [] s1))) ∧
      (bits k.hw1 24 8 = 0x00 → k.payload.length ≤ 16 → fastReady 0x00 c k.payload s1 = true →
        exec (.cmdReceive p) s = .next (answered 0x00 c k.payload s1)) ∧
      (bits k.hw1 24 8 = 0x10 → fastReady 0x10 c k.payload s1 = true →
        exec (.cmdReceive p) s = .next (settle (reply c 0x10 (firstBad (readAll k.payload s1).2.2)
          ((readAll k.payload s1).2.1 ++ statusWords (readAll k.payload s1).2.2) (readAll k.payload s1).1))) ∧
      (bits k.hw1 24 8 = 0x11 → fastReady 0x11 c k.payload s1 = true →
        let r := writeAll (.port (cmdPort p)) (sessionOn (cmdPort p) s1) (pairs k.payload) s1
        exec (.cmdReceive p) s = .next (settle (reply c 0x11 (firstBad r.2) (statusWords r.2) r.1))) ∧
      (∀ w : Word, k.payload = [w] →
        (bits k.hw1 24 8 = 0x23 → fastReady 0x23 c [w] s1 = true → s.compat = false → deep s.pwr.pstate = false →
          within w 0xFF = true →
          exec (.cmdReceive p) s = .next (answered 0x23 c []
            (s1.modBoth (fun x => { x with comp := { x.comp with layers := x.comp.layers.map (fun l =>
              if (bits w 0 8 >>> l.groupOf) % 2 = 1 then { l with arm := l.arm.map (fun a => { a with held := false }) }
              else l) } })))) ∧
        (bits k.hw1 24 8 = 0x33 → fastReady 0x33 c [w] s1 = true →
          -64 ≤ signed 16 (bits w 16 16) → signed 16 (bits w 16 16) ≤ 63 →
          -128 ≤ signed 16 (bits w 0 16) → signed 16 (bits w 0 16) ≤ 127 →
          exec (.cmdReceive p) s = .next (answered 0x33 c [] { s1 with
            bstay := { s1.bstay with aimVTgt := signed 16 (bits w 16 16), aimHTgt := signed 16 (bits w 0 16) } })) ∧
        (bits k.hw1 24 8 = 0x31 → slowReady 0x31 c [w] s1 = true → within w 3 = true → s.bstay.beam = .normal →
          exec (.cmdReceive p) s = .next (concluded 0x31 c [] { accepted 0x31 c [w] s1 with
            bstay := { s1.bstay with clsPend := some (classOf (bits w 0 2)) } })) ∧
        (bits k.hw1 24 8 = 0x60 → fastReady 0x60 c [w] s1 = true → w = put 0 (pstateNo s.pwr.pstate) →
          exec (.cmdReceive p) s = .next (answered 0x60 c [] s1))) ∧
      (∀ (b : Fin 18) (m : Word), bits k.hw1 24 8 = 0x81 → k.payload = [put 16 b.val, m] →
        fastReady 0x81 c [put 16 b.val, m] s1 = true → blockOff b.val s1 = false →
        exec (.cmdReceive p) s =
          .next (answered 0x81 c [((clearSources b.val m s1).win b.val).status] (clearSources b.val m s1))))) ∧
  (∀ (x : SlowCmd) (rest : List SlowCmd) (s : State), s.cmd.slow = x :: rest → x.finished = false → x.started = false →
    vault s.pwr.pstate = false → s.pwr.inReset = false → fails 17 2 false s = false → fails 17 3 false s = false →
    let after (u : State) : State := afterReplies .spi (afterReplies .h1 (afterReplies .h0 u))
    (∀ k : Fin 4, x.opcode = 0x31 → x.payload = [put 0 k.val] → s.bstay.beam = .normal →
      exec (.slowPathExecute ⟨0, 0, []⟩) s = .next (settle (after (finishSlow x.port x.tag 0x31 stOk [] { s with
        bstay := { s.bstay with clsPend := some (classOf k.val) } })))) ∧
    (x.opcode = 0x31 → ∀ k : Fin 4, x.payload = [put 0 k.val] → s.bstay.beam ≠ .normal →
      exec (.slowPathExecute ⟨0, 0, []⟩) s = .next (settle (after (finishSlow x.port x.tag 0x31 stBadState [] s))))) ∧
  (∀ (k : Packet) (s : State), spiOn s = true → s.mode.ifMode = .native → s.spi.out = [] → s.spi.replies = [] →
    k.ptype = .cmd → k.ch.toNat ≤ 12 → k.payload.length ≤ 1024 → k.gap = false → k.flags.getLsbD 7 = true →
    let b := bodyWords k
    let edges := 32 * (b.length + 1)
    exec (.tunnelTransaction edges (tunnelHeader b.length :: b)) s = .next (settle (afterReplies .spi
      (submit (opExec (bits k.hw1 24 8)) (bits k.hw1 24 8) (packetCtx .spi k) k.payload { s with spi := { s.spi with
        lastSent := List.replicate (b.length + 1) 0, expect := spSet s.spi.expect k.ch.toNat (k.seq + 1) } })))) ∧
  (∀ (p : HPort) (k : Packet) (rest : List Packet) (s : State), (s.hport p).rxq = k :: rest → k.ptype = .layerData →
    let b := bits k.hw1 24 8
    let s1 := s.modPort p (fun h => { h with rxq := rest })
    let bs := wordsBytes k.payload
    (64 ≤ b → exec (.layerDataReceive p) s = .next (settle { s1.hit 4 8 0 with
      store := { s1.store with drop := satInc 16 s1.store.drop } })) ∧
    (b < 64 → (s.buf b).state = .loading → (s.buf b).source = 0 → 4 * bits k.hw1 0 24 = (s.buf b).fill →
      (s.buf b).fill + bs.length < (s.buf b).size → s.store.bufs.length = 64 →
      exec (.layerDataReceive p) s = .next (settle (s1.modBuf b (fun u => { u with
        fill := u.fill + bs.length, crc := crc32More u.crc bs, bytes := memWrite 0 u.bytes (4 * bits k.hw1 0 24) bs })))) ∧
    (b < 64 → (s.buf b).state = .loading → (s.buf b).source = 0 → 4 * bits k.hw1 0 24 = (s.buf b).fill →
      (s.buf b).fill + bs.length = (s.buf b).size → (s.buf b).expect = none → s.store.bufs.length = 64 →
      exec (.layerDataReceive p) s = .next (settle (bufComplete b (s1.modBuf b (fun u => { u with
        fill := u.fill + bs.length, crc := crc32More u.crc bs, bytes := memWrite 0 u.bytes (4 * bits k.hw1 0 24) bs }))))) ∧
    (b < 64 → (s.buf b).state = .loading → (s.buf b).source = 0 → 4 * bits k.hw1 0 24 ≠ (s.buf b).fill →
      exec (.layerDataReceive p) s = .next (settle (bufInvalid b s1))))

/-! ### External memory (17) -/

/-- The memory and firmware commands (R464, R466, R471 to R473, Table 17.9): a command to external memory in its range joins
XMEM's work, a read out of range is BAD_PARAM, a write to a protected range DENIED, and an erase of one BAD_PARAM; on an idle
XMEM the row, the serving of the work and its good end leave the range erased or programmed, or complete with the bytes read,
PREPARE erases its slot and VERIFY stores its verdict; the bytes that a write to NAND leaves short of a whole page wait, and are
programmed when the next operation of another kind on that device needs it. No waiting page is on the device before.
A read of Keep completes with its bytes; a write to its firmware area, or of an open write-once block, which it locks, stores
in a session, is DENIED without one, and DENIED for a locked block.
The running slot is BAD_STATE to PREPARE, a verified slot is selected with a trial, and one that is not verified is BAD_STATE;
the read, program or erase in progress that ends completes its command with the bytes read, written or erased; a read
still in progress 200 ms after it began, and none before, completes with TIMEOUT and raises MEM_FAIL. -/
def Obligations.MemoryCommandsComplete : Prop :=
  (∀ (c : CmdCtx) (cs : Bool) (a n : Word) (s : State), blockOff 12 s = false →
    let w : Word := if cs then 1 else 0
    let waits (code : Nat) (ws : List Word) : State :=
      let s1 := accepted code c ws s
      markSlow c.port c.tag (fun y => { y with started := true, startedAt := s.ticks })
        { s1 with xmem := { s1.xmem with queue := s1.xmem.queue ++ [.memCmd] } }
    (slowReady 0x70 c [w, a, n] s = true → 4 ≤ n.toNat → n.toNat ≤ 256 → n.toNat % 4 = 0 →
      (a.toNat + n.toNat ≤ usable cs s → exec (.memRead c [w, a, n]) s = .next (settle (waits 0x70 [w, a, n]))) ∧
      (usable cs s < a.toNat + n.toNat →
        exec (.memRead c [w, a, n]) s = .next (settle (completed 0x70 c stBadParam [] (accepted 0x70 c [w, a, n] s))))) ∧
    (∀ bs : List Word, slowReady 0x71 c (w :: a :: bs) s = true → a.toNat + 4 * bs.length ≤ usable cs s →
      (protected_ (inSession c s) cs a.toNat (4 * bs.length) s = false →
        exec (.memWrite c (w :: a :: bs)) s = .next (settle (waits 0x71 (w :: a :: bs)))) ∧
      (protected_ (inSession c s) cs a.toNat (4 * bs.length) s = true → exec (.memWrite c (w :: a :: bs)) s =
        .next (settle (completed 0x71 c stDenied [] (accepted 0x71 c (w :: a :: bs) s))))) ∧
    (slowReady 0x72 c [w, a, n] s = true → a.toNat + n.toNat ≤ usable cs s → a.toNat % eraseUnit cs s = 0 →
      n.toNat % eraseUnit cs s = 0 → protected_ (inSession c s) cs a.toNat n.toNat s = false →
      exec (.memErase c [w, a, n]) s = .next (settle (waits 0x72 [w, a, n]))) ∧
    (slowReady 0x72 c [w, a, n] s = true → protected_ (inSession c s) cs a.toNat n.toNat s = true →
      exec (.memErase c [w, a, n]) s =
        .next (settle (completed 0x72 c stBadParam [] (accepted 0x72 c [w, a, n] s))))) ∧
  (∀ (c : CmdCtx) (cs : Bool) (a n : Word) (k blk : Nat) (vd : List (Bool × Nat)) (s : State), blockOff 12 s = false →
    s.xmem.queue = [] → s.xmem.busy = none → s.xmem.suspended = none → Memory.wf erased (s.mdev cs).bytes = true →
    pageOf cs s = none →
    let w : Word := if cs then 1 else 0
    (slowReady 0x70 c [w, a, n] s = true → 4 ≤ n.toNat → n.toNat ≤ 256 → n.toNat % 4 = 0 →
      a.toNat + n.toNat ≤ usable cs s →
      ∃ t, exec (.memRead c [w, a, n]) s = .next t ∧ ∃ u, exec .xmemWorkServe t = .next u ∧
        exec (.xmemOperationDone 0 k blk vd) u =
          .next (settle (refreshAll vd (finishSlow c.port c.tag 0x70 stOk (bytesWords (devBytes cs a.toNat n.toNat s))
            { u with xmem := { u.xmem with busy := none } })))) ∧
    (∀ bs : List Word, slowReady 0x71 c (w :: a :: bs) s = true → a.toNat + 4 * bs.length ≤ usable cs s →
      protected_ (inSession c s) cs a.toNat (4 * bs.length) s = false →
      (isNand cs s = false →
        ∃ t, exec (.memWrite c (w :: a :: bs)) s = .next t ∧ ∃ u, exec .xmemWorkServe t = .next u ∧
          ∃ v, exec (.xmemOperationDone 0 k blk vd) u = .next v ∧ devBytes cs a.toNat (4 * bs.length) v = wordsBytes bs ∧
          ∀ j, j < a.toNat ∨ a.toNat + 4 * bs.length ≤ j →
            memGet erased (v.mdev cs).bytes j = memGet erased (s.mdev cs).bytes j) ∧
      (isNand cs s = true → a.toNat % 2 ^ (s.mdev cs).pageLog2 + 4 * bs.length ≤ 2 ^ (s.mdev cs).pageLog2 →
        0 < bs.length → 4 * bs.length < 2 ^ (s.mdev cs).pageLog2 →
        ∃ t, exec (.memWrite c (w :: a :: bs)) s = .next t ∧ ∃ u, exec .xmemWorkServe t = .next u ∧
          ∃ v, exec (.xmemOperationDone 0 k blk vd) u = .next v ∧ (v.mdev cs).bytes = (s.mdev cs).bytes ∧
          pageOf cs (flushPage cs v) = none ∧ devBytes cs a.toNat (4 * bs.length) (flushPage cs v) = wordsBytes bs ∧
          ∀ j, j < a.toNat ∨ a.toNat + 4 * bs.length ≤ j →
            memGet erased ((flushPage cs v).mdev cs).bytes j = memGet erased (s.mdev cs).bytes j)) ∧
    (slowReady 0x72 c [w, a, n] s = true → a.toNat + n.toNat ≤ usable cs s → a.toNat % eraseUnit cs s = 0 →
      n.toNat % eraseUnit cs s = 0 →
      protected_ (inSession c s) cs a.toNat n.toNat s = false →
      ∃ t, exec (.memErase c [w, a, n]) s = .next t ∧ ∃ u, exec .xmemWorkServe t = .next u ∧
        ∃ v, exec (.xmemOperationDone 0 k blk vd) u = .next v ∧ devBytes cs a.toNat n.toNat v = List.replicate n.toNat erased ∧
        ∀ j, j < a.toNat ∨ a.toNat + n.toNat ≤ j →
          memGet erased (v.mdev cs).bytes j = memGet erased (s.mdev cs).bytes j)) ∧
  (∀ (c : CmdCtx) (b : Bool) (e : DirEntry) (size : Word) (k blk : Nat) (vd : List (Bool × Nat)) (s : State),
    blockOff 12 s = false → pageOf e.cs1 s = none →
    s.xmem.queue = [] → s.xmem.busy = none → s.xmem.suspended = none → s.xmem.fwVerified.length = 2 →
    s.keep.running ≠ (if b then 2 else 1) → dirFind (fwId b) s = some e →
    Memory.wf erased (s.mdev e.cs1).bytes = true →
    let w : Word := if b then 0x100 else 0
    (size.toNat ≤ e.length → slowReady 0x73 c [setField w 0 2 0, size] s = true →
      ∃ t, exec (.fwUpdatePrepare c [w, size]) s = .next t ∧ ∃ u, exec .xmemWorkServe t = .next u ∧
        ∃ v, exec (.xmemOperationDone 0 k blk vd) u = .next v ∧
        devBytes e.cs1 (entryUnits e s).1 (entryUnits e s).2 v = List.replicate (entryUnits e s).2 erased ∧
        v.xmem.fwVerified.getD (if b then 1 else 0) true = false) ∧
    (slowReady 0x73 c [setField w 0 2 1, 0] s = true →
      ∃ t, exec (.fwUpdateVerify c [w, 0]) s = .next t ∧ ∃ u, exec .xmemWorkServe t = .next u ∧
        ∃ v, exec (.xmemOperationDone 0 k blk vd) u = .next v ∧
        v.xmem.fwVerified.getD (if b then 1 else 0) false = slotPasses b u)) ∧
  (∀ (c : CmdCtx) (s : State),
    (∀ a n : Word, slowReady 0x70 c [2, a, n] s = true → 4 ≤ n.toNat → n.toNat ≤ 256 → n.toNat % 4 = 0 →
      a.toNat + n.toNat ≤ keepSize → c.keepEcc = 0 → fails 13 0 false s = false → fails 13 1 false s = false →
      exec (.memRead c [2, a, n]) s = .next (concluded 0x70 c
        (bytesWords ((List.range n.toNat).map (fun i => keepByteAt s (a.toNat + i)))) (accepted 0x70 c [2, a, n] s))) ∧
    (∀ (a : Word) (bs : List Word), slowReady 0x71 c (2 :: a :: bs) s = true → 0xA000 ≤ a.toNat →
      a.toNat + 4 * bs.length ≤ 0x10000 →
      (inSession c s = true → exec (.memWrite c (2 :: a :: bs)) s =
        .next (concluded 0x71 c [] (keepStore a.toNat (wordsBytes bs) (accepted 0x71 c (2 :: a :: bs) s)))) ∧
      (inSession c s = false → exec (.memWrite c (2 :: a :: bs)) s =
        .next (settle (completed 0x71 c stDenied [] (accepted 0x71 c (2 :: a :: bs) s))))) ∧
    (∀ (b : Fin 64) (v0 v1 v2 v3 : Word),
      let ws : List Word := [2, put 0 (0x800 + 16 * b.val), v0, v1, v2, v3]
      slowReady 0x71 c ws s = true →
      (inSession c s = true → s.keep.lock.getLsbD b.val = false →
        let u := keepStore (0x800 + 16 * b.val) (wordsBytes [v0, v1, v2, v3]) (accepted 0x71 c ws s)
        exec (.memWrite c ws) s = .next (concluded 0x71 c [] { u with
          keep := { u.keep with lock := s.keep.lock ||| BitVec.ofNat 64 (1 <<< b.val) } })) ∧
      (s.keep.lock.getLsbD b.val = true →
        exec (.memWrite c ws) s = .next (settle (completed 0x71 c stDenied [] (accepted 0x71 c ws s)))))) ∧
  (∀ (c : CmdCtx) (b : Bool) (s : State),
    let w : Word := if b then 0x100 else 0
    let s1 (ws : List Word) : State := accepted 0x73 c ws s
    (s.keep.running ≠ (if b then 2 else 1) →
      (∀ e : DirEntry, blockOff 12 s = false → dirFind (fwId b) s = some e →
        (∀ size : Word, size.toNat ≤ e.length → slowReady 0x73 c [setField w 0 2 0, size] s = true →
          exec (.fwUpdatePrepare c [w, size]) s = .next (settle (markSlow c.port c.tag
            (fun y => { y with started := true, startedAt := s.ticks })
            { s1 [setField w 0 2 0, size] with xmem := { s.xmem with queue := s.xmem.queue ++ [.memCmd] } }))) ∧
        (slowReady 0x73 c [setField w 0 2 1, 0] s = true →
          exec (.fwUpdateVerify c [w, 0]) s = .next (settle (markSlow c.port c.tag
            (fun y => { y with started := true, startedAt := s.ticks })
            { s1 [setField w 0 2 1, 0] with xmem := { s.xmem with queue := s.xmem.queue ++ [.memCmd] } })))) ∧
      (slowReady 0x73 c [setField w 0 2 2, 0] s = true →
        (s.xmem.fwVerified.getD (if b then 1 else 0) false = true →
          exec (.fwUpdateSelect c [w, 0]) s = .next (concluded 0x73 c [] (writeHeader { s1 [setField w 0 2 2, 0] with
            keep := { s.keep with pref := b, trial := 1 } }))) ∧
        (s.xmem.fwVerified.getD (if b then 1 else 0) false = false →
          exec (.fwUpdateSelect c [w, 0]) s = .next (settle (completed 0x73 c stBadState [] (s1 [setField w 0 2 2, 0])))))) ∧
    (s.keep.running = (if b then 2 else 1) → slowReady 0x73 c [setField w 0 2 0, 0] s = true →
      exec (.fwUpdatePrepare c [w, 0]) s = .next (settle (completed 0x73 c stBadState [] (s1 [setField w 0 2 0, 0]))))) ∧
  (∀ (x : SlowCmd) (a n : Word) (bs : List Word) (k blk : Nat) (v : List (Bool × Nat)) (s : State), blockOff 12 s = false →
    memStarted s = some x → s.xmem.busy = some .memCmd →
    let cs := cmdCs x s
    let s1 : State := { s with xmem := { s.xmem with busy := none } }
    let u := flushPage cs s1
    let fin (st : BitVec 8) (ws : List Word) (u : State) : State := finishSlow x.port x.tag x.opcode st ws u
    (x.opcode = 0x70 → x.payload = [put 0 (if cs then 1 else 0), a, n] →
      exec (.xmemOperationDone 0 k blk v) s =
        .next (settle (refreshAll v (fin stOk (bytesWords (devBytes cs a.toNat n.toNat u)) u))) ∧
      exec (.xmemOperationDone 2 k blk v) s = .next (settle (refreshAll v (fin stMemError [] u)))) ∧
    (x.opcode = 0x71 → x.payload = put 0 (if cs then 1 else 0) :: a :: bs →
      exec (.xmemOperationDone 0 k blk v) s =
        .next (settle (fin stOk [] (memStore cs a.toNat (wordsBytes bs) s1)))) ∧
    (x.opcode = 0x72 → x.payload = [put 0 (if cs then 1 else 0), a, n] →
      exec (.xmemOperationDone 0 k blk v) s =
        .next (settle (fin stOk [] (devErase cs a.toNat n.toNat u))))) ∧
  (∀ (x : SlowCmd) (n : Nat) (s : State), memStarted s = some x → x.opcode = 0x70 → s.xmem.busy = some .memCmd →
    s.xmem.queue.contains .memCmd = false → s.xmem.suspended = none → s.xmem.eraseSusp = false →
    (s.ticks < x.startedAt + 50000000 → exec (.memCmdTimeout n) s = .next (settle s)) ∧
    (x.startedAt + 50000000 ≤ s.ticks → exec (.memCmdTimeout n) s = .next (settle (finishSlow x.port x.tag 0x70 stTimeout []
      (raiseFault 12 4 (if cmdCs x s then 1 else 0) true false
        (flushPage (cmdCs x s) { s with xmem := { s.xmem with busy := none } }))))))

/-- XMEM's own work (R140, R222, R453, R457, R466 to R471, R474): the next work by class starts where nothing runs, a DEADMAP
write with its snapshot and a scrub pass with its period, and a page that waits on a device of the work is programmed first; an
erase gives way to waiting work of classes 1 to 4 on a device that can suspend and resumes after
it; a buffer takes its bytes from a record that passes and is COMPLETE, and one whose record is missing becomes INVALID; a
good LOG flush appends its entries to the region, notes the last of them and goes on counting the wait of those that are left,
and one with nothing to flush is done; a DEADMAP
write that stands clears MAP_DIRTY where no pixel was declared since, and one that fails waits again; a scrub pass is counted
and leaves the bytes alone, and marks a static record that passes VERIFIED; a mirror is appended, and one that fails is queued
again. -/
def Obligations.ExternalMemoryWorkRuns : Prop :=
  ∀ s : State, blockOff 12 s = false →
    (s.xmem.busy = none → s.xmem.suspended = none → ∀ (k : XKind) (cs : Bool), nextWork s = some k →
      exec .xmemWorkServe s = .next (settle (startWork k s)) ∧
      ((workCs s k).contains cs = true → pageOf cs (startWork k s) = none)) ∧
    (s.xmem.busy = none → s.xmem.suspended = none → s.xmem.partialPage = [] →
      (∀ k : XKind, nextWork s = some k → k ≠ .deadmap → k ≠ .scrub → exec .xmemWorkServe s = .next (settle { s with
        xmem := { s.xmem with queue := dropFirst (fun j => j == k) s.xmem.queue, busy := some k } })) ∧
      (nextWork s = some .scrub → s.xmem.scrubAt = none → exec .xmemWorkServe s = .next (settle { s with
        xmem := { s.xmem with
          queue := dropFirst (fun j => j == .scrub) s.xmem.queue, busy := some .scrub, scrubAt := some s.ticks } })) ∧
      (nextWork s = some .deadmap → s.xmem.deadOn = false → exec .xmemWorkServe s = .next (settle { s with
        xmem := { s.xmem with
          queue := dropFirst (fun j => j == .deadmap) s.xmem.queue, busy := some .deadmap, snap := s.diag.deadMap
          snapLen := s.xmem.declared.length, declaredSince := false, deadOn := true } })) ∧
      (nextWork s = none → exec .xmemWorkServe s = .next (settle s))) ∧
    (∀ (b id off : Nat) (e : DirEntry) (r : DirEntry × Nat), s.xmem.busy = some (.layerLoad b id off) →
      let s1 : State := { s with xmem := { s.xmem with busy := none } }
      dirFind id s1 = some e → findRecord id s1 = some r → off + (s.buf b).size ≤ plenAt r.1.cs1 r.2 s1 →
      e.verified = true ∨ (recordBad e s1 = false ∧ fails 12 1 false s1 = false) →
      let bs := payload r.1 r.2 off (s.buf b).size s1
      ∀ l : List (Bool × Nat), exec (.recordLoadDone ⟨true, l⟩) s = .next (settle (refreshAll l
        (bufComplete b (s1.modBuf b (fun u => { u with
          bytes := memWrite 0 [] 0 bs, fill := u.size, crc := BitVec.ofNat 32 (crc32 bs) })))))) ∧
    (∀ (k : XKind) (cs : Bool),
      (s.xmem.busy = some k → s.xmem.suspended = none → erasing s k = some cs → foreground s = true →
        (s.mdev cs).suspend = true → exec .eraseSuspend s = .next (settle { s with
          xmem := { s.xmem with busy := none, suspended := some k, eraseSusp := true } })) ∧
      (s.xmem.busy = none → s.xmem.suspended = some k → foreground s = false →
        exec .eraseSuspend s = .next (settle { s with
          xmem := { s.xmem with busy := some k, suspended := none, eraseSusp := false } }))) ∧
    (∀ (b id off : Nat) (r : ReadEnd), s.xmem.busy = some (.layerLoad b id off) → dirFind id s = none →
      exec (.recordLoadDone r) s = .next (settle (refreshAll r.refresh
        (bufInvalid b { s with xmem := { s.xmem with busy := none } })))) ∧
    (s.xmem.busy = some .logFlush → unflushed s = [] → ∀ res blk : Nat, exec (.logFlush res blk) s = .next (settle { s with
      xmem := { s.xmem with busy := none, logLseq := s.log.lseq, waits := [] } })) ∧
    (∀ (k blk : Nat), s.xmem.busy = some .logFlush → (unflushed s).getLast? = some k → hasRegion (recId 0x60) s = true →
      ∃ t, exec (.logFlush 0 blk) s = .next t ∧ t.xmem.busy = none ∧
        t.xmem.waits = s.xmem.waits.drop (s.xmem.waits.length - ((unflushedAll s).length - (unflushed s).length)) ∧
        t.xmem.logLseq = BitVec.ofNat 32 (ringSeq k s) ∧
        let u := appendRecord (recId 0x60) ((unflushed s).flatMap (fun k => keepBytes (ringAt k) 32 s))
          { s with xmem := { s.xmem with busy := none } }
        t.xmem.cs0 = u.xmem.cs0 ∧ t.xmem.cs1 = u.xmem.cs1) ∧
    (s.xmem.busy = some .deadmap → (dirFind (recId 0x50) s).isSome = true → s.xmem.declaredSince = false → ∀ blk : Nat,
      ∃ t, exec (.deadmapWrite 0 blk) s = .next t ∧ t.diag.mapDirty = false ∧ t.xmem.deadOn = false ∧
        t.xmem.deadEnd = some s.ticks ∧ t.xmem.snap = []) ∧
    (s.xmem.busy = some .deadmap → hasRegion (recId 0x50) s = true → s.diag.mapDirty = true → ∀ blk : Nat,
      ∃ t, exec (.deadmapWrite 2 blk) s = .next t ∧ t.diag.mapDirty = true ∧ t.xmem.busy = none ∧
        t.xmem.queue.contains .deadmap = true) ∧
    (s.xmem.busy = some .scrub →
      (∃ t, exec (.scrub []) s = .next t ∧ t.xmem.busy = none ∧ t.xmem.scrubPass = satInc 16 s.xmem.scrubPass ∧
        t.xmem.cs0 = s.xmem.cs0 ∧ t.xmem.cs1 = s.xmem.cs1) ∧
      (∀ e : DirEntry, s.xmem.dir = [e] → e.region = false → recordBad e s = false → fails 12 1 false s = false →
        e.recId < recId 0x20 ∨ recId 0x23 < e.recId → exec (.scrub []) s = .next (settle { s.hit 12 0x404 16 with
          xmem := { s.xmem with
            busy := none, dir := [{ e with verified := true }], scrubPass := satInc 16 s.xmem.scrubPass } }))) ∧
    (s.xmem.busy = some .mirror → (dirFind (recId 0x70) s).isSome = true → fails 13 0 false s = false →
      fails 13 1 false s = false →
      (∃ t, exec (.keepMirrorWrite 0 0) s = .next t ∧ t.xmem.busy = none ∧
        exec (.keepMirrorWrite 0 0) s = .next (settle (appendRecord (recId 0x70) (mirrorBytes s)
          { s with xmem := { s.xmem with busy := none } }))) ∧
      exec (.keepMirrorWrite 2 0) s = .next (settle (queueMirror { s with xmem := { s.xmem with busy := none } })))

/-! ### LX1000 compatibility (19) -/

/-- The legacy port in compatibility mode (R492 to R496, R503, R505, R508): a frame of 16 bits sends the pending reply, leaves
an error reply and FAULT.SPI and forgets half a KEY; a read of ID answers it; the second half of KEY right after the first
unlocks extended compatibility; GCUR and TCUR are stored with their tiles where every tile they give a current passes the test
of R83, and are refused otherwise with FAULT.WR_REJ; MODE 3 is refused and MODE S1 asks for S1; reads of FAULT, VERR, VDROP and
TFLT answer the bits that have not been set, and the counts without those made, in the present clock, and clear those. -/
def Obligations.LegacyFramesAct : Prop :=
  ∀ s : State, spiOn s = true → s.mode.ifMode = .compat →
    (∃ t, exec (.legacyFrame 16 0 false) s = .next t ∧ t.legacy.sent = s.legacy.reply ∧ t.legacy.reply = legacyReply true 0 1 ∧
      t.legacy.keyHalf = false ∧ t.legacy.fault.getLsbD 7 = true) ∧
    (∃ t, exec (.legacyFrame 32 (readFrame 0x00) false) s = .next t ∧ t.legacy.reply = legacyReply false 0 0x1A10) ∧
    (∃ t, exec (.keyWrite 0x5A5A) s = .next t ∧ t.legacy.keyHalf = true ∧ t.mode.ifMode = .compat) ∧
    (s.legacy.keyHalf = true → ∃ t, exec (.keyWrite 0xA5A5) s = .next t ∧ t.mode.ifMode = .compatExt ∧
      t.legacy.keyHalf = false) ∧
    (∀ v : BitVec 16, blockOff 8 s = false → (∀ x ∈ s.arr.tiles, x.parityBad = false) → fails 8 1 false s = false →
      s.arr.tiles.length = 256 →
      let range := v.toNat / 16384
      let g := v.toNat % 256
      ((∀ x ∈ s.arr.tiles, 5 * (range + 1) * (g + 128) * (x.ttrim.toNat + 384) ≤ 3200000) →
        ∃ t, exec (.gcurWrite v) s = .next t ∧ t.arr.gtrim.toNat = g ∧ (∀ x ∈ t.arr.tiles, x.range.toNat = range) ∧
          t.legacy.range.toNat = range ∧ t.legacy.gtrim.toNat = g ∧ t.legacy.reply = legacyReply false 2 v.toNat) ∧
      ((∃ x ∈ s.arr.tiles, 3200000 < 5 * (range + 1) * (g + 128) * (x.ttrim.toNat + 384)) →
        ∃ t, exec (.gcurWrite v) s = .next t ∧ t.arr.gtrim = s.arr.gtrim ∧ t.legacy.reply = legacyReply true 2 3 ∧
          t.legacy.fault.getLsbD 8 = true)) ∧
    (∀ (n : Fin 32) (v : BitVec 16), blockOff 8 s = false → (∀ x ∈ s.arr.tiles, x.parityBad = false) →
      fails 8 1 false s = false → s.arr.tiles.length = 256 → s.legacy.tcur.length = 32 →
      ((∀ k, k < 8 → tcurCode v.toNat k = 0 ∨
          currentAllowed s.legacy.range.toNat s.legacy.gtrim.toNat (64 * tcurCode v.toNat k) = true) →
        ∃ t, exec (.tcurWrite n v) s = .next t ∧ t.legacy.tcur.getD n.val 0 = v ∧
          t.legacy.reply = legacyReply false (0x20 + n.val) v.toNat ∧
          ∀ k, k < 8 → (t.tile (8 * n.val + k)).on = decide (tcurCode v.toNat k ≠ 0) ∧
            (tcurCode v.toNat k ≠ 0 → (t.tile (8 * n.val + k)).ttrim.toNat = 64 * tcurCode v.toNat k)) ∧
      (∀ k, k < 8 → tcurCode v.toNat k ≠ 0 →
        currentAllowed s.legacy.range.toNat s.legacy.gtrim.toNat (64 * tcurCode v.toNat k) = false →
        ∃ t, exec (.tcurWrite n v) s = .next t ∧ t.legacy.tcur = s.legacy.tcur ∧
          t.legacy.reply = legacyReply true (0x20 + n.val) 3 ∧ t.legacy.fault.getLsbD 8 = true)) ∧
    (∃ t, exec (.legacyModeWrite 3) s = .next t ∧ t.legacy.reply = legacyReply true 1 3 ∧ t.pwr.pstate = s.pwr.pstate) ∧
    (s.pwr.pstate = .s0 → pwrBusy s = false → ∃ t, exec (.legacyModeWrite 1) s = .next t ∧ t.pwr.entryTo = some .s1 ∧
      t.pwr.entryPort = .spi ∧ t.legacy.reply = legacyReply false 1 1) ∧
    (let s1 := s.modLegacy (fun l => { l with sent := l.reply, keyHalf := false })
     exec .faultRead s = .next (settle ((clearFault s1).modLegacy (fun l => { l with
       reply := legacyReply false 4 (s.legacy.fault &&& ~~~ s.base.fault).toNat })))) ∧
    (∃ t, exec (.legacyClearOnRead 0x09) s = .next t ∧
      t.legacy.verr = min s.base.verr s.legacy.verr ∧
      t.legacy.reply = legacyReply false 9 (s.legacy.verr - s.base.verr)) ∧
    (∃ t, exec (.legacyClearOnRead 0x0A) s = .next t ∧
      t.legacy.vdrop = min s.base.vdrop s.legacy.vdrop ∧
      t.legacy.reply = legacyReply false 0x0A (s.legacy.vdrop - s.base.vdrop)) ∧
    (∀ n : Fin 32,
      let r := s.legacy.tflt.getD n.val 0 &&& ~~~ s.base.tflt.getD n.val 0
      exec (.legacyClearOnRead (BitVec.ofNat 7 (0x40 + n.val))) s = .next (settle (s.modLegacy (fun l => { l with
        sent := l.reply, keyHalf := false, tflt := modAt l.tflt n.val (fun x => x &&& ~~~ r)
        reply := legacyReply false (0x40 + n.val) r.toNat }))))

/-- Legacy video (R499, R500): a whole cell of row 0, with those of its words that came before, begins a frame in the buffer
that is not shown, the next row goes on, and row 1023 completes it, each where its trailer is right; a bad trailer discards the
frame in progress and counts it; ten milliseconds after the last header VID_LOCK ends with FAULT.VID, and not before. -/
def Obligations.LegacyRowsFillTheFrame : Prop :=
  (∀ (row : Fin 1024) (px : List Word) (line : List Bool) (s : State), videoOn s = true → px.length = 256 →
    s.legacy.pending = false →
    let ws := s.h0.rxWords ++ (hear .p0 0 line s).2
    let header := withCrc8 (put 24 0xC5 ||| put 8 row.val)
    let good : Word := BitVec.ofNat 32 (crc32 (wordsBytes px))
    ((row.val = 0 ∧ s.legacy.rx.inFrame = false) ∨ (row.val ≠ 0 ∧ s.legacy.rx.inFrame = true ∧ row.val = s.legacy.rx.lastRow + 1) →
      ws = header :: px ++ [good] →
      ∃ t, exec (.rowCellReceive line) s = .next t ∧ t.h0.rxWords = [] ∧
        t.legacy.rx.inFrame = decide (row.val ≠ 1023) ∧ t.legacy.pending = decide (row.val = 1023) ∧
        t.legacy.rx.lastRow = row.val ∧ t.legacy.rx.badRun = 0 ∧
        (s.legacy.showOne = true → t.legacy.buf0 = memWrite 0 s.legacy.buf0 (1024 * row.val) (wordsBytes px) ∧
          t.legacy.buf1 = s.legacy.buf1) ∧
        (s.legacy.showOne = false → t.legacy.buf1 = memWrite 0 s.legacy.buf1 (1024 * row.val) (wordsBytes px) ∧
          t.legacy.buf0 = s.legacy.buf0)) ∧
    (s.legacy.rx.inFrame = true → ws = header :: px ++ [good + 1] → ∃ t, exec (.rowCellReceive line) s = .next t ∧
      t.legacy.rx.inFrame = false ∧ t.legacy.verr = satInc 16 s.legacy.verr ∧ t.legacy.buf0 = s.legacy.buf0 ∧
      t.legacy.buf1 = s.legacy.buf1)) ∧
  (∀ s : State, s.compat = true → s.legacy.rx.vidLock = true →
    (s.legacy.rx.headAt + 2500000 ≤ s.ticks → ∃ t, exec .videoLockTimeout s = .next t ∧ t.legacy.rx.vidLock = false ∧
      t.legacy.fault.getLsbD 6 = true) ∧
    (s.ticks < s.legacy.rx.headAt + 2500000 → exec .videoLockTimeout s = .next (settle s)))

/-! ### The block as a whole -/

/-- A step runs the command at the front of the queue, on the state with the rest of the queue; on an empty queue the block
idles. The idle step is the model's choice (assumption 1). -/
def Obligations.StepRunsTheFrontCommand : Prop :=
  (∀ (c : Instr) (rest : List Instr) (s : State),
    step { s with pending := c :: rest } = exec c { s with pending := rest }) ∧
  (∀ s : State, s.pending = [] → step s = .next s)

/-- What reset leaves: nothing is queued, the state is safe and an evaluation leaves it as it is; S0 before READY, no session,
every tile with its switch open and no live code, both ports OFF, all blocks' reset registers named in INVENTORY.md. -/
def Obligations.ResetIsSafeAndAtRest : Prop :=
  State.reset.pending = [] ∧ Safe State.reset ∧ AtRest State.reset ∧ settle State.reset = State.reset ∧
  State.reset.pwr.pstate = .s0 ∧ State.reset.pwr.ready = false ∧ State.reset.cmd.sessOpen = false ∧
  State.reset.h0.state = .off ∧ State.reset.h1.state = .off ∧ State.reset.arr.live = [] ∧
  (∀ x ∈ State.reset.arr.tiles, x.swClosed = false ∧ x.on = false) ∧ estate State.reset = 0 ∧
  State.reset.xmem.cs0.bytes = [] ∧ State.reset.xmem.cs1.bytes = []

/-- The safe state is kept by every step (R34, R35, R36, R78, R79, Tables 01.7, 03.3 and 20.4): whatever command comes, from a
safe state it leads to a safe state; a command leads to one from any state at all. In a safe state the light is gone in S2 to
S5, the beam is not NORMAL with both engines lost, and a tile with a cause has its switch open. -/
def Obligations.EveryStepKeepsTheSafeState : Prop :=
  (∀ (s s' : State), Safe s → step s = .next s' → Safe s') ∧
  (∀ (c : Instr) (s : State), ∃ t, exec c s = .next t ∧ Safe t) ∧
  (∀ s : State, Safe s →
    (deep s.pwr.pstate = true → s.bstay.beam = .dark ∧ ∀ x ∈ s.arr.tiles, x.swClosed = false) ∧
    (estate s = 3 → s.bstay.beam = .normal → False) ∧
    (∀ x ∈ s.arr.tiles, x.shutdown = true ∨ x.ocTrip = true ∨ x.swFail = true ∨ x.on = false → x.swClosed = false) ∧
    (∀ p ∈ s.arr.live, tileCause s (s.tile (tileOfPix p.1)) = false) ∧
    s.pins.errorN = (s.pwr.porHeld || !errorLow s))

/-- The end of an evaluation changes only what reports, arbitrates and forces (R35, R36, R166, R186, R334): the mode, the store
but for the state of buffers, DIAG, time, the cores' block but for the interrupts that wait for them, THERM, CLK, XMEM, Keep,
CRCU, the test port, replies owed, the slow path, the session, the power state, the frame count and the queue stay; no fault
source is cleared by it, but for those of the port H1 when it is forced OFF; Dark stays Dark and NORMAL does not come back; it
closes no switch and turns no tile on. -/
def Obligations.EvaluationEndKeepsTheRest : Prop :=
  ∀ s : State,
    let t := settle s
    (t.mode = s.mode ∧ { t.store with bufs := s.store.bufs } = s.store ∧ t.store.bufs.map bareBuffer = s.store.bufs.map bareBuffer ∧
      t.diag = s.diag ∧ t.time = s.time ∧
      { t.rigger with irqs := s.rigger.irqs, nmis := s.rigger.nmis } = s.rigger ∧ t.therm = s.therm ∧
      t.clk = s.clk ∧ t.xmem = s.xmem ∧ t.keep = s.keep ∧ t.crcu = s.crcu ∧ t.tap = s.tap ∧ t.ticks = s.ticks ∧
      t.freeCtr = s.freeCtr ∧ t.lastStatus = s.lastStatus ∧ t.lastRead = s.lastRead ∧ t.pending = s.pending) ∧
    (t.h0.replies = s.h0.replies ∧ t.h1.replies = s.h1.replies ∧ t.spi.replies = s.spi.replies ∧ t.cmd.slow = s.cmd.slow ∧
      t.cmd.sessOpen = s.cmd.sessOpen ∧ t.pwr.pstate = s.pwr.pstate ∧ t.scan.frameCnt = s.scan.frameCnt) ∧
    (∀ b : Nat, b ≠ 2 ∨ h1Off s = false ∨ s.h1.cfgRole = .off → (s.win b).status &&& ~~~ (t.win b).status = 0) ∧
    (s.bstay.beam = .dark → t.bstay.beam = .dark) ∧ (s.bstay.beam ≠ .normal → t.bstay.beam ≠ .normal) ∧
    (∀ k : Nat, (t.tile k).swClosed = true → (s.tile k).swClosed = true) ∧
    (∀ k : Nat, (t.tile k).on = true → (s.tile k).on = true)

/-- What a program, an erase and a write to Keep do to bytes (R450, R470, R472): the bytes of the range read as they were
programmed, or erased; every other byte of the device, the other device and Keep read as before, and the memory keeps its
canonical form. -/
def Obligations.MemoryWritesTouchOnlyTheirBytes : Prop :=
  (∀ (cs : Bool) (a : Nat) (bs : List Byte) (s : State), Memory.wf erased (s.mdev cs).bytes = true →
    let t := devWrite cs a bs s
    devBytes cs a bs.length t = bs ∧ Memory.wf erased (t.mdev cs).bytes = true ∧ (t.mdev (!cs)).bytes = (s.mdev (!cs)).bytes ∧
    t.keep = s.keep ∧ (∀ k, k < a ∨ a + bs.length ≤ k → memGet erased (t.mdev cs).bytes k = memGet erased (s.mdev cs).bytes k)) ∧
  (∀ (cs : Bool) (a n : Nat) (s : State), Memory.wf erased (s.mdev cs).bytes = true →
    let t := devErase cs a n s
    devBytes cs a n t = List.replicate n erased ∧ Memory.wf erased (t.mdev cs).bytes = true ∧
    (t.mdev (!cs)).bytes = (s.mdev (!cs)).bytes ∧ t.keep = s.keep ∧
    (∀ k, k < a ∨ a + n ≤ k → memGet erased (t.mdev cs).bytes k = memGet erased (s.mdev cs).bytes k)) ∧
  (∀ (a : Nat) (bs : List Byte) (s : State), Memory.wf 0 s.keep.bytes = true →
    let t := keepStore a bs s
    keepBytes a bs.length t = bs ∧ Memory.wf 0 t.keep.bytes = true ∧ t.xmem = s.xmem ∧
    (∀ k, k < a ∨ a + bs.length ≤ k → memGet 0 t.keep.bytes k = memGet 0 s.keep.bytes k))
end

