-- ==== Sys2Proof/Laws/Settle.lean ====
section
/-! SUPPORT. What the end of an evaluation does: it leaves everything named in `untouched` alone, it leaves a calm state
alone but for its contacts, and its result is safe. -/

namespace Sys2Proof.Machine

/-! ### What it never changes -/

theorem untouched_foldl {α : Type} (f : State → α → State) (h : ∀ s a, untouched (f s a) = untouched s) (l : List α) (s : State) :
    untouched (l.foldl f s) = untouched s := by
  induction l generalizing s with
  | nil => rfl
  | cons a l ih => rw [List.foldl_cons, ih, h]

theorem untouched_modWin (b : Nat) (f : FltWin → FltWin) (s : State) : untouched (s.modWin b f) = untouched s := rfl

theorem untouched_hit (b o n : Nat) (s : State) : untouched (s.hit b o n) = untouched s := rfl

theorem untouched_hitIf (c : Bool) (b o n : Nat) (s : State) : untouched (s.hitIf c b o n) = untouched s := by
  unfold State.hitIf; split <;> rfl

theorem untouched_pushEvent (e : Event) (s : State) : untouched (pushEvent e s) = untouched s := by
  unfold pushEvent
  split
  · exact untouched_hitIf _ _ _ _ _
  · rfl

theorem untouched_queueEvent (c v : Nat) (ws : List Word) (s : State) : untouched (queueEvent c v ws s) = untouched s :=
  untouched_pushEvent _ s

theorem untouched_queueTagged (c v : Nat) (t st : BitVec 8) (ws : List Word) (s : State) :
    untouched (queueTagged c v t st ws s) = untouched s := untouched_pushEvent _ s

theorem untouched_reqTrysail (c : Nat) (s : State) : untouched (reqTrysail c s) = untouched s := rfl

theorem untouched_reqDark (s : State) : untouched (reqDark s) = untouched s := rfl

theorem map_modAt {α β : Type} (g : α → β) (l : List α) (n : Nat) (f : α → α) (h : ∀ x, g (f x) = g x) :
    (modAt l n f).map g = l.map g := by
  induction l generalizing n with
  | nil => rfl
  | cons a l ih => cases n with
    | zero => simp [modAt, h]
    | succ n => simp [modAt, ih]

theorem untouched_tiles (s : State) (l : List Tile) (h : l.map bareTile = s.arr.tiles.map bareTile) :
    untouched { s with arr := { s.arr with tiles := l } } = untouched s := by
  simp [untouched, h]

theorem untouched_takeTileOff (b n t : Nat) (s : State) : untouched (takeTileOff b n t s) = untouched s :=
  untouched_tiles s _ (map_modAt bareTile _ _ _ (fun _ => rfl))

theorem untouched_onceReact (b : Nat) (r : BitVec 8) (s : State) : untouched (onceReact b r s) = untouched s := by
  have h (s : State) : untouched { s with arr := { s.arr with tiles := s.arr.tiles.map (fun t => { t with on := false }) } }
      = untouched s := untouched_tiles s _ (by simp [bareTile])
  unfold onceReact
  extract_lets s0 s1 s2 s3 s4 s5 a6 s6
  have e0 : untouched s0 = untouched s := rfl
  have e1 : untouched s1 = untouched s0 := by simp only [s1]; split <;> rfl
  have e2 : untouched s2 = untouched s1 := by simp only [s2]; split <;> rfl
  have e3 : untouched s3 = untouched s2 := by simp only [s3]; split <;> rfl
  have e4 : untouched s4 = untouched s3 := by simp only [s4]; split <;> rfl
  have e5 : untouched s5 = untouched s4 := by simp only [s5]; split <;> rfl
  have e6 : untouched s6 = untouched s5 := by
    simp only [s6]; split
    · exact h s5
    · rfl
  rw [← e0, ← e1, ← e2, ← e3, ← e4, ← e5, ← e6]
  split <;> rfl

theorem untouched_legacyMark (b n i : Nat) (r : Bool) (s : State) : untouched (legacyMark b n i r s) = untouched s := by
  unfold legacyMark; split <;> rfl

theorem untouched_raiseFault (b n i : Nat) (x y : Bool) (s : State) : untouched (raiseFault b n i x y s) = untouched s := by
  unfold raiseFault
  extract_lets stays w rising again sev h r count off timed logged applied f bitn s1 l2 s2 s3 s4
  have e2 : untouched s2 = untouched s := rfl
  have e3 : untouched s3 = untouched s2 := by
    simp only [s3]; split
    · exact untouched_takeTileOff _ _ _ _
    · rfl
  have e4 : untouched s4 = untouched s3 := untouched_legacyMark _ _ _ _ _
  split
  · rw [untouched_onceReact, e4, e3, e2]
  · rw [e4, e3, e2]

theorem untouched_cancelSwitch (s : State) : untouched (cancelSwitch s) = untouched s := by
  unfold cancelSwitch
  extract_lets a s1
  have e : untouched s1 = untouched s := untouched_foldl _ (fun _ _ => untouched_queueTagged _ _ _ _ _ _) _ _
  exact e

theorem untouched_wbAbort (s : State) : untouched (wbAbort s) = untouched s := by
  unfold wbAbort
  extract_lets f
  split
  · rfl
  · rename_i b _
    have h : (modAt s.store.bufs b (fun u => { u with state := .invalid })).map bareBuffer = s.store.bufs.map bareBuffer :=
      map_modAt bareBuffer _ _ _ (fun _ => rfl)
    simp only [untouched, h]
    rfl

theorem untouched_startStep1 (e : Eng) (s : State) : untouched (startStep1 e s) = untouched s := by
  unfold startStep1
  cases e <;> split <;> rfl

theorem untouched_failEng (e : Eng) (n : Nat) (s : State) : untouched (failEng e n s) = untouched s := by
  unfold failEng; cases e <;> rfl

theorem untouched_setRole (e : Eng) (r : Role) (s : State) : untouched (setRole e r s) = untouched s := by
  unfold setRole; cases e <;> rfl

theorem untouched_markChange (c : Nat) (s : State) : untouched (markChange c s) = untouched s := rfl

theorem untouched_bothLost (c : Nat) (x y : Bool) (s : State) : untouched (bothLost c x y s) = untouched s := by
  unfold bothLost
  extract_lets lf drop s1 b2 a2 s2 s3
  have hd (e : Eng) (n : Nat) (s : State) : untouched (drop e n s) = untouched s := by
    simp only [drop]
    split <;> split <;> simp only [untouched_startStep1, untouched_failEng]
  have e1 : untouched s1 = untouched s := by
    simp only [s1, untouched_markChange, hd, untouched_cancelSwitch, untouched_wbAbort]
  have e (u : State) : untouched { u with bstay := { u.bstay with arb := { u.bstay.arb with
      undecided := false, handover := false, overlap := false, bothRun := 0 } } } = untouched u := rfl
  have e2 : untouched s2 = untouched s1 := e s1
  rw [untouched_reqTrysail, untouched_queueEvent]
  simp only [s3]
  rw [untouched_raiseFault, e2, e1]

theorem untouched_switchOver (e : Eng) (c : Nat) (s : State) : untouched (switchOver e c s) = untouched s := by
  unfold switchOver
  extract_lets s0 s1
  have e1 : untouched s1 = untouched s := by
    simp only [s1, s0, untouched_markChange, untouched_setRole, untouched_failEng, untouched_cancelSwitch, untouched_wbAbort]
  exact e1

theorem untouched_standbyFails (e : Eng) (c : Nat) (s : State) : untouched (standbyFails e c s) = untouched s := by
  unfold standbyFails
  extract_lets s1
  have e1 : untouched s1 = untouched s := by
    simp only [s1, untouched_markChange, untouched_startStep1, untouched_failEng, untouched_cancelSwitch]
  exact e1

theorem untouched_arbApply (a : Eng) (x y : Bool) (c : Nat) (p q : Bool) (s : State) :
    untouched (arbApply a x y c p q s) = untouched s := by
  unfold arbApply
  repeat' split
  all_goals first
    | rfl
    | simp only [untouched_bothLost, untouched_switchOver, untouched_standbyFails]

theorem untouched_arbitrate (x y : Bool) (s : State) : untouched (arbitrate x y s) = untouched s := by
  unfold arbitrate
  repeat' split
  all_goals first
    | rfl
    | (extract_lets; repeat' split; all_goals first | rfl | exact untouched_arbApply _ _ _ _ _ _ _ | exact untouched_cancelSwitch s)

theorem untouched_pushLog (r : LogRec) (s : State) : untouched (pushLog r s) = untouched s := by
  unfold pushLog; split <;> rfl

theorem untouched_lowerFirst (f : Fresh) (s : State) : untouched (lowerFirst f s) = untouched s := rfl

theorem untouched_recordFirst (b : Nat) (s : State) : untouched (recordFirst b s) = untouched s := rfl

theorem untouched_takeFirst (l : List Fresh) (s : State) : untouched (takeFirst l s) = untouched s := by
  unfold takeFirst
  refine untouched_foldl _ (fun s f => ?_) l s
  split
  · exact untouched_recordFirst _ _
  · exact untouched_lowerFirst _ _

theorem untouched_flushFresh (s : State) : untouched (flushFresh s) = untouched s := by
  unfold flushFresh
  split
  · rfl
  · extract_lets l g s1
    have e1 : untouched s1 = untouched s := untouched_takeFirst _ _
    rw [untouched_foldl _ (fun s f => ?_) l s1, e1]
    simp only []
    split <;> split <;> simp only [untouched_queueEvent, untouched_pushLog]

theorem untouched_raiseTimes (b n k : Nat) (s : State) : untouched (raiseTimes b n k s) = untouched s := by
  induction k generalizing s with
  | zero => rfl
  | succ k ih => rw [raiseTimes, ih, untouched_raiseFault]

theorem untouched_raiseLost (s : State) : untouched (raiseLost s) = untouched s := by
  have a (u : State) : untouched { u with cmd := { u.cmd with lostNow := 0 } } = untouched u := rfl
  have b (u : State) : untouched { u with log := { u.log with dropNow := 0 } } = untouched u := rfl
  unfold raiseLost
  rw [untouched_raiseTimes, b, untouched_raiseTimes, a]

theorem untouched_reportLost (k : Nat) (s : State) : untouched (reportLost k s) = untouched s := by
  induction k generalizing s with
  | zero => rfl
  | succ k ih => rw [reportLost, ih, untouched_flushFresh, untouched_raiseLost]

theorem untouched_force (s : State) : untouched (force s) = untouched s := by
  unfold force; rfl

theorem untouched_reportBeam (s : State) : untouched (reportBeam s) = untouched s := by
  unfold reportBeam
  split
  · rfl
  · extract_lets tc s1
    exact untouched_queueEvent _ _ _ s

theorem untouched_blank (s : State) : untouched (blank s) = untouched s := by
  have h : (blank s).arr.tiles.map bareTile = s.arr.tiles.map bareTile := by
    simp only [blank, List.map_map]
    apply List.map_congr_left
    intro t _
    simp only [Function.comp]
    split <;> rfl
  simp only [untouched, h]
  rfl

theorem settle_eq (s : State) : settle s =
    driven (blank (force (reportBeam (force (clearNow (reportLost 5 (flushFresh (arbitrate false false s)))))))) := by
  have h (u : State) : ({ u with pins := pinsOf u } : State) = driven u := rfl
  unfold settle
  exact h _

theorem untouched_driven (s : State) : untouched (driven s) = untouched s := rfl

theorem untouched_clearNow (s : State) : untouched (clearNow s) = untouched s := rfl

/-- The end of an evaluation leaves everything named in `untouched` as it was. -/
theorem untouched_settle (s : State) : untouched (settle s) = untouched s := by
  rw [settle_eq, untouched_driven, untouched_blank, untouched_force, untouched_reportBeam, untouched_force, untouched_clearNow,
    untouched_reportLost, untouched_flushFresh, untouched_arbitrate]

/-! ### A calm state -/

theorem map_same {α : Type} (l : List α) (f : α → α) (h : ∀ x ∈ l, f x = x) : l.map f = l := by
  rw [List.map_congr_left (g := id) h, List.map_id]

theorem arbitrate_calm (s : State) (h : NoErrorLine s) : arbitrate false false s = s := by
  have q (e : Eng) : flagged e false s = false := by
    unfold flagged
    cases hr : inRole e s
    · rfl
    · rw [h e hr]; rfl
  unfold arbitrate
  split
  · rfl
  · split
    · rfl
    · rename_i a _
      cases a <;> simp [other, q]

theorem force_calm (s : State) (h : Calm s) : force s = s := by
  obtain ⟨hb, ho, hm, hi, -, hs, -, -, -⟩ := h
  have hc : forcedClass s = s.bstay.cls := by
    unfold forcedClass; split
    · exact (hm.2.2 ‹_›).symm
    · rfl
  have hf : forcedWindows s = s.flt := by
    have h1 : (if injOff s then s.flt.map (fun w => { w with inject := 0, force := 0 }) else s.flt) = s.flt := by
      split
      · rename_i hc
        have hc' : s.mode.ifMode = .compat ∨ vault s.pwr.pstate = true := by simpa [injOff] using hc
        refine map_same _ _ (fun w hw => ?_)
        have := hi hc' w hw
        cases w; simp_all
      · rfl
    have h2 : (h1Off s && s.h1.cfgRole != .off) = false := by
      cases hx : h1Off s
      · rfl
      · rcases (Bool.or_eq_true _ _).mp hx with hx | hx
        · simp [(hm.1 hx).2.2]
        · simp [(hm.2.1 (eq_of_beq hx)).2]
    unfold forcedWindows
    simp only [h1, h2]
    rfl
  have hn : (s.bstay.normalPend && !normalRefused s) = s.bstay.normalPend := by
    cases hx : s.bstay.normalPend
    · rfl
    · simp [hs.2.2.2 hx]
  have ht : (s.bstay.tryOwns && s.bstay.beam == .trysail) = s.bstay.tryOwns := by
    cases hx : s.bstay.tryOwns
    · rfl
    · simp [ho hx]
  have h0 : (if s.compat then PRole.headEnd else s.h0.role) = s.h0.role := by
    split
    · exact (hm.1 ‹_›).1.symm
    · rfl
  have h1 : (if h1Off s then PRole.off else s.h1.role) = s.h1.role := by
    split
    · rename_i hx
      rcases (Bool.or_eq_true _ _).mp hx with hx | hx
      · exact (hm.1 hx).2.1.symm
      · exact (hm.2.1 (eq_of_beq hx)).1.symm
    · rfl
  have h2 : (if h1Off s then PRole.off else s.h1.cfgRole) = s.h1.cfgRole := by
    split
    · rename_i hx
      rcases (Bool.or_eq_true _ _).mp hx with hx | hx
      · exact (hm.1 hx).2.2.symm
      · exact (hm.2.1 (eq_of_beq hx)).2.symm
    · rfl
  have hy : (if s.bstay.beam = .trysail ∧ s.bstay.beam = .normal ∧ s.bstay.tryCause = 0 then 2 else s.bstay.tryCause)
      = s.bstay.tryCause := by
    split
    · rename_i hx; rw [hx.1] at hx; cases hx.2.1
    · rfl
  have hp : (s.bstay.tryPend || (s.bstay.beam == .dark && s.bstay.beam == .trysail)) = s.bstay.tryPend := by
    cases s.bstay.beam <;> simp
  unfold force
  simp only [hb, hc, hf, hn, ht, h0, h1, h2, hy, hp]

theorem blank_calm (s : State) (h : TilesSafe s) : blank s = s := by
  obtain ⟨ht, hl, hn⟩ := h
  have h1 : s.arr.tiles.map (fun t =>
      if s.bstay.beam == .dark || tileCause s t then { t with swClosed := false, headValid := false } else t) = s.arr.tiles := by
    refine map_same _ _ (fun x hx => ?_)
    split
    · rename_i hc
      have hc' : s.bstay.beam = .dark ∨ tileCause s x = true := by simpa using hc
      have := ht x hx hc'
      cases x; simp_all
    · rfl
  have h2 : s.arr.live.filter (fun p => !darkTile s (tileOfPix p.1)) = s.arr.live :=
    List.filter_eq_self.mpr (fun p hp => by simp [hl p hp])
  have h3 : s.arr.next.filter (fun p => !darkTile s (tileOfPix p.1)) = s.arr.next :=
    List.filter_eq_self.mpr (fun p hp => by simp [hn p hp])
  unfold blank
  simp only [h1, h2, h3]

theorem flushFresh_nil (s : State) (h : s.log.fresh = []) : flushFresh s = s := by
  unfold flushFresh; simp [h]

/-- The end of an evaluation only drives the contacts of a calm state. -/
theorem settle_calm (s : State) (h : Calm s) : settle s = driven s := by
  have ⟨_, _, _, _, ht, hs, hn, hl, hd⟩ := h
  have e1 : arbitrate false false s = s := arbitrate_calm s hn
  have e2 : flushFresh s = s := flushFresh_nil s hs.1
  have e3 : reportLost 5 s = s := by
    have hr : raiseLost s = s := by
      have e (b c : Nat) (hb : b = s.cmd.lostNow) (hc : c = s.log.dropNow) :
          ({ s with cmd := { s.cmd with lostNow := b }, log := { s.log with dropNow := c } } : State) = s := by
        subst hb hc; rfl
      unfold raiseLost
      rw [hl]
      show raiseTimes 17 4 s.log.dropNow _ = s
      rw [hd]
      exact e 0 0 hl.symm hd.symm
    simp only [reportLost, hr, e2]
  have e4 : clearNow s = s := by
    have e (d : Bool) (hd : d = s.bstay.tryNow) : ({ s with bstay := { s.bstay with tryNow := d } } : State) = s := by
      subst hd; rfl
    exact e _ hs.2.2.1.symm
  have e5 : force s = s := force_calm s h
  have e6 : reportBeam s = s := by unfold reportBeam; simp [hs.2.1]
  have e7 : blank s = s := blank_calm s ht
  rw [settle_eq, e1, e2, e3, e4, e5, e6, e5, e7]

/-- A state at rest is left as it is. -/
theorem settle_atRest (s : State) (h : AtRest s) : settle s = s := by
  rw [settle_calm s h.1]
  unfold driven
  rw [← h.2]

/-! ### The result is safe -/

theorem force_beam (s : State) : (force s).bstay.beam = forcedBeam s := rfl

theorem forcedBeam_force (s : State) : forcedBeam (force s) = forcedBeam s := by
  have h : forcedBeam (force s) = if deep s.pwr.pstate || s.mode.testHeld || s.mode.extestHeld || fbDark s then .dark
      else if estate s = 3 ∧ forcedBeam s = .normal then .trysail else forcedBeam s := rfl
  rw [h]
  unfold forcedBeam
  split
  · rfl
  · split
    · simp
    · rfl

theorem blank_pstate (s : State) : (blank s).pwr = s.pwr := rfl

theorem mem_modAt {α : Type} (l : List α) (n : Nat) (f : α → α) (x : α) (h : x ∈ modAt l n f) : x ∈ l ∨ ∃ y, x = f y := by
  induction l generalizing n with
  | nil => exact Or.inl h
  | cons a l ih => cases n with
    | zero =>
      rcases List.mem_cons.mp h with h | h
      · exact Or.inr ⟨a, h⟩
      · exact Or.inl (List.mem_cons_of_mem _ h)
    | succ n =>
      rcases List.mem_cons.mp h with h | h
      · exact Or.inl (h ▸ List.mem_cons_self)
      · exact (ih n h).imp (List.mem_cons_of_mem _) id

theorem getElem?_modAt_ne {α : Type} (l : List α) (n m : Nat) (f : α → α) (h : n ≠ m) : (modAt l n f)[m]? = l[m]? := by
  induction l generalizing n m with
  | nil => rfl
  | cons a l ih => cases n with
    | zero => cases m with
      | zero => exact absurd rfl h
      | succ m => rfl
    | succ n => cases m with
      | zero => rfl
      | succ m => simpa [modAt] using ih n m (fun e => h (congrArg _ e))

/-- What R251 asks about a window is the same in both. -/
def sameHold (v w : FltWin) : Prop :=
  v.held = w.held ∧ v.status = w.status ∧ v.parErr = w.parErr ∧ v.escDone = w.escDone ∧ v.escHeld = w.escHeld

/-- Each window after the forcing rules holds what a window held before, or nothing. -/
theorem forcedWindows_mem (s : State) (w : FltWin) (h : w ∈ forcedWindows s) : (∃ v ∈ s.flt, sameHold w v) ∨ w = {} := by
  have hl (x : FltWin) (hx : x ∈ (if injOff s then s.flt.map (fun w => { w with inject := 0, force := 0 }) else s.flt)) :
      ∃ v ∈ s.flt, sameHold x v := by
    split at hx
    · obtain ⟨v, hv, rfl⟩ := List.mem_map.mp hx
      exact ⟨v, hv, rfl, rfl, rfl, rfl, rfl⟩
    · exact ⟨x, hx, rfl, rfl, rfl, rfl, rfl⟩
  unfold forcedWindows at h
  extract_lets l at h
  split at h
  · rcases mem_modAt _ _ _ _ h with h | ⟨_, h⟩
    · exact Or.inl (hl w h)
    · exact Or.inr h
  · exact Or.inl (hl w h)

/-- The forcing rules leave the escalation as it was. -/
theorem escReact_force (s : State) : escReact (force s) = escReact s := by
  have hw : ((force s).win 8).escDone = (s.win 8).escDone ∧ ((force s).win 8).escHeld = (s.win 8).escHeld := by
    have hl (l : List FltWin) (hl : l = s.flt.map (fun w => { w with inject := 0, force := 0 }) ∨ l = s.flt) :
        (l.getD 8 {}).escDone = (s.win 8).escDone ∧ (l.getD 8 {}).escHeld = (s.win 8).escHeld := by
      rcases hl with rfl | rfl
      · unfold State.win
        by_cases h : 8 < s.flt.length <;> simp [List.getD_eq_getElem?_getD, h]
      · exact ⟨rfl, rfl⟩
    have e : (force s).win 8 = (forcedWindows s).getD 8 {} := rfl
    rw [e]
    unfold forcedWindows
    extract_lets l
    have h0 : l = s.flt.map (fun w => { w with inject := 0, force := 0 }) ∨ l = s.flt := by
      simp only [l]; split
      · exact Or.inl rfl
      · exact Or.inr rfl
    have h1 : (if h1Off s && s.h1.cfgRole != .off then modAt l 2 (fun _ => {}) else l).getD 8 {} = l.getD 8 {} := by
      split
      · simp only [List.getD_eq_getElem?_getD]
        rw [getElem?_modAt_ne _ _ _ _ (by decide)]
      · rfl
    rw [h1]
    exact hl l h0
  unfold escReact
  rw [hw.1, hw.2]

/-- The forcing rules make no condition of R251 true. -/
theorem normalRefused_force (s : State) (h : normalRefused s = false) : normalRefused (force s) = false := by
  have he : normalRefused (force s) = (!s.bstay.safeNLevel || estate s == 3 || s.pwr.pstate != .s0 || lightHeld (force s) ||
    s.mode.testHeld || s.mode.extestHeld || fbDark s) := rfl
  have hx : lightHeld s = false → lightHeld (force s) = false := by
    intro hl
    simp only [lightHeld, Bool.or_eq_false_iff] at hl ⊢
    obtain ⟨⟨h1, h2⟩, h3⟩ := hl
    refine ⟨⟨?_, ?_⟩, by rw [escReact_force]; exact h3⟩
    · rw [heldReact, List.any_eq_false] at h1 ⊢
      intro w hw
      rcases forcedWindows_mem s w hw with ⟨v, hv, e1, e2, -⟩ | rfl
      · rw [e1, e2]; exact h1 v hv
      · simp
    · rw [anyParErr, List.any_eq_false] at h2 ⊢
      intro w hw
      rcases forcedWindows_mem s w hw with ⟨v, hv, -, -, e3, -⟩ | rfl
      · rw [e3]; exact h2 v hv
      · simp
  rw [he]
  rw [normalRefused] at h
  simp only [Bool.or_eq_false_iff] at h ⊢
  obtain ⟨⟨⟨⟨⟨⟨a1, a2⟩, a3⟩, a4⟩, a5⟩, a6⟩, a7⟩ := h
  exact ⟨⟨⟨⟨⟨⟨a1, a2⟩, a3⟩, hx a4⟩, a5⟩, a6⟩, a7⟩

theorem getD_map_tile (l : List Tile) (f : Tile → Tile) (t : Nat) :
    (l.map f).getD t {} = l.getD t {} ∨ (l.map f).getD t {} = f (l.getD t {}) := by
  by_cases h : t < l.length
  · right; simp [List.getD_eq_getElem?_getD, h]
  · left; simp [List.getD_eq_getElem?_getD, h]

/-- Blanking changes no cause of a tile. -/
theorem darkTile_blank (s : State) (t : Nat) : darkTile (blank s) t = darkTile s t := by
  have hc (x y : Tile) (hx : y = { x with swClosed := false, headValid := false } ∨ y = x) :
      tileCause (blank s) y = tileCause s x := by rcases hx with rfl | rfl <;> rfl
  have hb : (blank s).bstay = s.bstay := rfl
  unfold darkTile
  rw [hb]
  congr 1
  refine hc _ _ ?_
  rcases getD_map_tile s.arr.tiles (fun t => if s.bstay.beam == .dark || tileCause s t then
      { t with swClosed := false, headValid := false } else t) t with h | h
  · right; exact h
  · have h' : (blank s).tile t = _ := h
    rw [h']
    split
    · left; rfl
    · right; rfl

theorem tilesSafe_blank (s : State) : TilesSafe (blank s) := by
  refine ⟨fun x hx hc => ?_, fun p hp => ?_, fun p hp => ?_⟩
  · have hx' : x ∈ s.arr.tiles.map (fun t => if s.bstay.beam == .dark || tileCause s t then
        { t with swClosed := false, headValid := false } else t) := hx
    obtain ⟨y, _, rfl⟩ := List.mem_map.mp hx'
    split
    · exact ⟨rfl, rfl⟩
    · rename_i hn
      have hc' : s.bstay.beam = .dark ∨ tileCause s y = true := by
        split at hc
        · rename_i h; exact absurd h hn
        · exact hc
      exact absurd (by simpa using hc') hn
  · have hp' : p ∈ s.arr.live.filter (fun p => !darkTile s (tileOfPix p.1)) := hp
    have := (List.mem_filter.mp hp').2
    rw [darkTile_blank]; simpa using this
  · have hp' : p ∈ s.arr.next.filter (fun p => !darkTile s (tileOfPix p.1)) := hp
    have := (List.mem_filter.mp hp').2
    rw [darkTile_blank]; simpa using this

theorem fresh_pushLog (r : LogRec) (s : State) : (pushLog r s).log.fresh = s.log.fresh := by
  unfold pushLog; split <;> rfl

@[simp] theorem hitIf_log (c : Bool) (b o n : Nat) (s : State) : (s.hitIf c b o n).log = s.log := by
  unfold State.hitIf; split <;> rfl

theorem fresh_pushEvent (e : Event) (s : State) : (pushEvent e s).log = s.log := by
  unfold pushEvent
  split
  · exact hitIf_log _ _ _ _ _
  · rfl

theorem fresh_foldl {α : Type} (f : State → α → State) (h : ∀ s a, (f s a).log.fresh = s.log.fresh) (l : List α) (s : State) :
    (l.foldl f s).log.fresh = s.log.fresh := by
  induction l generalizing s with
  | nil => rfl
  | cons a l ih => rw [List.foldl_cons, ih, h]

theorem fresh_flushFresh (s : State) : (flushFresh s).log.fresh = [] := by
  unfold flushFresh
  split
  · assumption
  · extract_lets l g s1
    have e1 : s1.log.fresh = [] := by
      simp only [s1, takeFirst]
      rw [fresh_foldl]
      intro s f
      split <;> rfl
    rw [fresh_foldl _ (fun s f => ?_) l s1, e1]
    simp only []
    split <;> split <;> simp only [queueEvent, fresh_pushEvent, fresh_pushLog]

theorem fresh_reportLost (k : Nat) (s : State) (h : s.log.fresh = []) : (reportLost k s).log.fresh = [] := by
  induction k generalizing s with
  | zero => exact h
  | succ k ih => exact ih _ (fresh_flushFresh _)

theorem fresh_reported (s : State) : (clearNow (reportLost 5 (flushFresh s))).log.fresh = [] := by
  have e (u : State) : (clearNow u).log = u.log := rfl
  rw [e]
  exact fresh_reportLost 5 _ (fresh_flushFresh s)

/-- Every evaluation ends in a safe state. -/
theorem settle_safe (s : State) : Safe (settle s) := by
  obtain ⟨u, hf, ht, e⟩ : ∃ u : State, u.log.fresh = [] ∧ u.bstay.tryNow = false ∧
      settle s = driven (blank (force (reportBeam (force u)))) :=
    ⟨_, fresh_reported _, rfl, settle_eq s⟩
  rw [e]
  have hp (e : Event) (v : State) : (pushEvent e v).bstay = v.bstay ∧ (pushEvent e v).log = v.log ∧
      (pushEvent e v).pwr = v.pwr ∧ (pushEvent e v).mode = v.mode ∧ (pushEvent e v).clk = v.clk ∧
      (pushEvent e v).engA = v.engA ∧ (pushEvent e v).engB = v.engB ∧ (pushEvent e v).ticks = v.ticks := by
    have q (c : Bool) (v w : State) (h : w.bstay = v.bstay ∧ w.log = v.log ∧ w.pwr = v.pwr ∧ w.mode = v.mode ∧ w.clk = v.clk ∧
        w.engA = v.engA ∧ w.engB = v.engB ∧ w.ticks = v.ticks) :
        (w.hitIf c 0 0x10 0).bstay = v.bstay ∧ (w.hitIf c 0 0x10 0).log = v.log ∧ (w.hitIf c 0 0x10 0).pwr = v.pwr ∧
        (w.hitIf c 0 0x10 0).mode = v.mode ∧ (w.hitIf c 0 0x10 0).clk = v.clk ∧ (w.hitIf c 0 0x10 0).engA = v.engA ∧
        (w.hitIf c 0 0x10 0).engB = v.engB ∧ (w.hitIf c 0 0x10 0).ticks = v.ticks := by
      unfold State.hitIf; split <;> exact h
    unfold pushEvent
    split
    · exact q _ v _ ⟨rfl, rfl, rfl, rfl, rfl, rfl, rfl, rfl⟩
    · exact ⟨rfl, rfl, rfl, rfl, rfl, rfl, rfl, rfl⟩
  have hr (v : State) : (reportBeam v).bstay.beam = v.bstay.beam ∧ (reportBeam v).bstay.beamReported = v.bstay.beam ∧
      (reportBeam v).log = v.log ∧ (reportBeam v).pwr = v.pwr ∧ (reportBeam v).mode = v.mode ∧
      (reportBeam v).clk = v.clk ∧ (reportBeam v).engA = v.engA ∧ (reportBeam v).engB = v.engB ∧
      (reportBeam v).bstay.tryNow = v.bstay.tryNow ∧ (reportBeam v).ticks = v.ticks := by
    unfold reportBeam
    split
    · rename_i h; exact ⟨rfl, h.symm, rfl, rfl, rfl, rfl, rfl, rfl, rfl, rfl⟩
    · obtain ⟨a, b, c, d, e, f, g, t⟩ := hp (mkEvent 0x0A03 2
        [put 8 (if v.bstay.beam = .trysail then v.bstay.tryCause else 0) ||| put 0 (beamNo v.bstay.beam)] v) v
      exact ⟨congrArg (·.beam) a, rfl, b, c, d, e, f, g, congrArg (·.tryNow) a, t⟩
  obtain ⟨h1, h1', h2, h3, h4, h5, h6, h7, h8, h9⟩ := hr (force u)
  generalize hw : reportBeam (force u) = w at *
  have hest : estate w = estate u := by unfold estate activeEng; rw [h6, h7]; rfl
  have hwb : w.bstay.beam = forcedBeam u := by rw [h1]; rfl
  have hb : forcedBeam w = forcedBeam u := by
    rw [← forcedBeam_force u]
    unfold forcedBeam fbDark
    rw [hest, h1, h3, h4, h5, h9]
    rfl
  have hwr : w.bstay.beamReported = forcedBeam u := h1'
  have hwl : w.log.fresh = [] := by rw [h2]; exact hf
  have hdeep : deep w.pwr.pstate = true → forcedBeam w = .dark := by intro h; unfold forcedBeam; simp [h]
  refine ⟨⟨?_, ?_⟩, ⟨?_, ?_, ?_⟩, ?_, ?_, rfl, hwl, ?_, ?_, ?_⟩
  · exact hdeep
  · intro h
    have h' : estate w = 3 := h
    show forcedBeam w ≠ .normal
    unfold forcedBeam
    split
    · simp
    · split
      · simp
      · rename_i hx; intro hn; exact hx ⟨h', hn⟩
  · intro h
    have h' : w.compat = true := h
    refine ⟨?_, ?_, ?_⟩
    · show (if w.compat then PRole.headEnd else _) = _; simp [h']
    · show (if h1Off w then PRole.off else _) = _; simp [h1Off, h']
    · show (if h1Off w then PRole.off else _) = _; simp [h1Off, h']
  · intro h
    have h' : (if w.compat then PRole.headEnd else w.h0.role) = .follower := h
    have hr : w.h0.role = .follower := by
      split at h'
      · cases h'
      · exact h'
    refine ⟨?_, ?_⟩
    · show (if h1Off w then PRole.off else _) = _; simp [h1Off, hr]
    · show (if h1Off w then PRole.off else _) = _; simp [h1Off, hr]
  · intro h
    have h' : w.mode.ifMode = .compat := h
    show forcedClass w = w.bstay.clsConfig
    simp [forcedClass, h']
  · intro h x hx
    have h' : injOff w = true := by
      have : w.mode.ifMode = .compat ∨ vault w.pwr.pstate = true := h
      simpa [injOff] using this
    have hx' : x ∈ forcedWindows w := hx
    have hq (y : FltWin) (hy : y ∈ w.flt.map (fun w => { w with inject := 0, force := 0 })) : y.inject = 0 ∧ y.force = 0 := by
      obtain ⟨z, _, rfl⟩ := List.mem_map.mp hy
      exact ⟨rfl, rfl⟩
    unfold forcedWindows at hx'
    rw [h'] at hx'
    simp only [if_true] at hx'
    split at hx'
    · rcases mem_modAt _ _ _ _ hx' with hy | ⟨_, rfl⟩
      · exact hq x hy
      · exact ⟨rfl, rfl⟩
    · exact hq x hx'
  · exact tilesSafe_blank (force w)
  · show w.bstay.beamReported = forcedBeam w
    rw [hwr, hb]
  · show w.bstay.tryNow = false
    rw [h8]; exact ht
  · intro h
    have h' : (w.bstay.normalPend && !normalRefused w) = true := h
    exact normalRefused_force w (by simpa using ((Bool.and_eq_true _ _).mp h').2)

end Sys2Proof.Machine
end

