-- ==== Sys2Proof/Laws/Commands.lean ====
section
/-! SUPPORT. What the command engine does with a command that is taken, and what a direct register access does: one lemma
for the fast path, one for the slow path, one for a refused command of each kind, one per register form. -/

namespace Sys2Proof.Machine

theorem submit_fast (op : OpFn) (code : Nat) (c : CmdCtx) (ws : List Word) (s : State) (h : fastReady code c ws s = true) :
    submit op code c ws s = submitFast op code c ws s := by
  unfold fastReady at h
  cases ho : opInfo code with
  | none => simp [ho] at h
  | some o =>
    simp [ho] at h
    obtain ⟨⟨⟨hr, hl⟩, hord⟩, ⟨hs, hlen⟩, hses⟩ := h
    have : ¬ 8 ≤ (owed c.port s).length := by omega
    simp [submit, hr, this, ho, hlen, hses, hs, hord]

theorem submit_fast_fin (op : OpFn) (code : Nat) (c : CmdCtx) (ws : List Word) (s s1 : State) (st : BitVec 8) (rs : List Word)
    (h : fastReady code c ws s = true) (e : op c ws s = (s1, .fin st rs)) :
    submit op code c ws s = reply c code st rs s1 := by
  simp [submit_fast op code c ws s h, submitFast, e]

theorem submit_slow (op : OpFn) (code : Nat) (c : CmdCtx) (ws : List Word) (s : State) (h : slowReady code c ws s = true) :
    submit op code c ws s = runSlow c.keepEcc op (slowEntry code c ws) (accepted code c ws s) := by
  unfold slowReady at h
  cases ho : opInfo code with
  | none => simp [ho] at h
  | some o =>
    simp [ho] at h
    obtain ⟨⟨⟨⟨⟨hr, hl⟩, ⟨hs, hlen⟩, hses⟩, ht⟩, hp⟩, hi⟩ := h
    have h8 : ¬ 8 ≤ (owed c.port s).length := by omega
    have h16 : ¬ 16 ≤ slowPending s := by omega
    have hs' : (o.slow || c.order) = true := by simpa using hs
    simp [submit, hr, h8, ho, hlen, hses, hs', submitSlow, ht, h16, hi, accepted, slowEntry]

theorem submit_slow_fin (op : OpFn) (code : Nat) (c : CmdCtx) (ws : List Word) (s s1 : State) (st : BitVec 8) (rs : List Word)
    (h : slowReady code c ws s = true)
    (e : op (slowCtx c.keepEcc (slowEntry code c ws)) ws (accepted code c ws s) = (s1, .fin st rs)) :
    submit op code c ws s = completed code c st rs s1 := by
  have e' : op (slowCtx c.keepEcc (slowEntry code c ws)) (slowEntry code c ws).payload (accepted code c ws s) = (s1, .fin st rs) := e
  rw [submit_slow op code c ws s h, runSlow, e']; rfl

@[simp] theorem accepted_ticks (code : Nat) (c : CmdCtx) (ws : List Word) (s : State) :
    (accepted code c ws s).ticks = s.ticks := by
  unfold accepted reply noteSession
  dsimp only
  split <;> split <;> rfl

theorem submit_slow_started (op : OpFn) (code : Nat) (c : CmdCtx) (ws : List Word) (s s1 : State)
    (h : slowReady code c ws s = true)
    (e : op (slowCtx c.keepEcc (slowEntry code c ws)) ws (accepted code c ws s) = (s1, .started)) :
    submit op code c ws s = markSlow c.port c.tag (fun y => { y with started := true, startedAt := s.ticks }) s1 := by
  have e' : op (slowCtx c.keepEcc (slowEntry code c ws)) (slowEntry code c ws).payload (accepted code c ws s) = (s1, .started) := e
  rw [submit_slow op code c ws s h, runSlow, e', accepted_ticks]; rfl

theorem check_quiet (b n idx : Nat) (cond : Bool) (s : State) (h : fails b n cond s = false) : check b n idx cond s = s := by
  unfold fails at h
  simp only [Bool.or_eq_false_iff] at h
  simp [check, h]

theorem srcRead_quiet (src : RegSrc) (s : State) (h : srcQuiet src s = true) : srcRead src s = s := by
  cases src with
  | port _ => rfl
  | _ =>
    simp only [srcQuiet, Bool.and_eq_true, Bool.not_eq_true'] at h
    show check 17 3 0 false (check 17 2 0 false s) = s
    rw [check_quiet 17 2 0 _ s h.1, check_quiet 17 3 0 _ s h.2]

theorem writeRow_ready (b : Nat) (src : RegSrc) (f : State → State × BitVec 8) (s : State) (h : regReady b src s = true) :
    writeRow b src f s = { (f s).1 with lastStatus := (f s).2 } := by
  unfold regReady at h
  simp at h
  simp [writeRow, h, srcRead_quiet]

theorem writeAt_ready (b : Nat) (src : RegSrc) (off : BitVec 16) (f : Nat → State → State × BitVec 8) (s : State)
    (h : regReady b src s = true) (ha : off.toNat % 4 = 0) :
    writeAt b src off f s = { (f off.toNat s).1 with lastStatus := (f off.toNat s).2 } := by
  simp [writeAt, ha, writeRow_ready b src _ s h]

theorem readRow_ready (b : Nat) (src : RegSrc) (f : State → State × Word) (s : State) (h : regReady b src s = true) :
    readRow b src f s = { (f s).1 with lastStatus := stOk, lastRead := (f s).2 } := by
  unfold regReady at h
  simp at h
  simp [readRow, h, srcRead_quiet]

end Sys2Proof.Machine
end

