-- ==== Sys2Proof/Laws/Memory.lean ====
section
/-! SUPPORT. Byte memories: every operation keeps the canonical form, a byte written reads back, and every other byte is
left alone. -/

namespace Sys2Proof.Machine

theorem spGet_spSet_same {α : Type} (m : Sparse α) (k : Nat) (v d : α) : spGet (spSet m k v) k d = v := by
  induction m with
  | nil => simp [spSet, spGet]
  | cons p m ih =>
    obtain ⟨j, u⟩ := p
    simp only [spSet]
    split
    · simp [spGet]
    · split
      · simp [spGet]
      · rename_i h1 h2; simp [spGet, h2, ih]

theorem spGet_spSet_other {α : Type} (m : Sparse α) (k a : Nat) (v d : α) (h : a ≠ k) :
    spGet (spSet m k v) a d = spGet m a d := by
  have h' : k ≠ a := fun e => h e.symm
  induction m with
  | nil => simp [spSet, spGet, h']
  | cons p m ih =>
    obtain ⟨j, u⟩ := p
    simp only [spSet]
    split
    · simp [spGet, h']
    · split
      · rename_i h2; subst h2; simp [spGet, h']
      · simp [spGet, ih]

theorem spGet_spDel_same {α : Type} (m : Sparse α) (k : Nat) (d : α) : spGet (spDel m k) k d = d := by
  induction m with
  | nil => rfl
  | cons p m ih =>
    obtain ⟨j, u⟩ := p
    simp only [spDel, List.filter_cons] at ih ⊢
    by_cases h : j = k
    · simp [h, ih]
    · simp [h, spGet, ih]

theorem spGet_spDel_other {α : Type} (m : Sparse α) (k a : Nat) (d : α) (h : a ≠ k) : spGet (spDel m k) a d = spGet m a d := by
  induction m with
  | nil => rfl
  | cons p m ih =>
    obtain ⟨j, u⟩ := p
    simp only [spDel, List.filter_cons] at ih ⊢
    by_cases hj : j = k
    · subst hj; have h' : j ≠ a := fun e => h e.symm; simp [spGet, h', ih]
    · simp [hj, spGet, ih]

/-- A byte written reads back. -/
theorem memGet_memSet_same (d : Byte) (m : List Host.Cell) (a : Nat) (v : Byte) : memGet d (memSet d m a v) a = v := by
  unfold memGet memSet spPut
  split
  · rename_i h; rw [spGet_spDel_same, h]
  · exact spGet_spSet_same m a v d

/-- A byte not written is left alone. -/
theorem memGet_memSet_other (d : Byte) (m : List Host.Cell) (a b : Nat) (v : Byte) (h : b ≠ a) :
    memGet d (memSet d m a v) b = memGet d m b := by
  unfold memGet memSet spPut
  split
  · exact spGet_spDel_other m a b d h
  · exact spGet_spSet_other m a b v d h

/-- The entries of a list of bytes lie in their range and hold no unlisted value. -/
theorem mem_memCells (d : Byte) (bs : List Byte) (a : Nat) (p : Host.Cell) (h : p ∈ memCells d a bs) :
    a ≤ p.1 ∧ p.1 < a + bs.length ∧ p.2 ≠ d := by
  induction bs generalizing a with
  | nil => simp [memCells] at h
  | cons b bs ih =>
    simp only [memCells] at h
    simp only [List.length_cons]
    split at h
    · have := ih _ h; exact ⟨by omega, by omega, this.2.2⟩
    · rename_i hb
      rcases List.mem_cons.mp h with rfl | h
      · exact ⟨Nat.le_refl _, by show a < _; omega, hb⟩
      · have := ih _ h; exact ⟨by omega, by omega, this.2.2⟩

/-- They are in rising order. -/
theorem pairwise_memCells (d : Byte) (bs : List Byte) (a : Nat) : (memCells d a bs).Pairwise (fun p q => p.1 < q.1) := by
  induction bs generalizing a with
  | nil => simp [memCells]
  | cons b bs ih =>
    simp only [memCells]
    split
    · exact ih _
    · exact List.pairwise_cons.mpr ⟨fun p hp => (mem_memCells d bs _ p hp).1, ih _⟩

/-- An entry that no key of the first list has is read from the second. -/
theorem spGet_append {α : Type} (m n : Sparse α) (k : Nat) (d : α) (h : ∀ p ∈ m, p.1 ≠ k) : spGet (m ++ n) k d = spGet n k d := by
  induction m with
  | nil => rfl
  | cons q m ih =>
    obtain ⟨j, v⟩ := q
    have hj : j ≠ k := h (j, v) (by simp)
    simp [spGet, hj, ih (fun p hp => h p (List.mem_cons_of_mem _ hp))]

/-- A filter that keeps the entries of a key does not change what is read there. -/
theorem spGet_filter {α : Type} (m : Sparse α) (f : Nat × α → Bool) (k : Nat) (d : α) (h : ∀ v, f (k, v) = true) :
    spGet (m.filter f) k d = spGet m k d := by
  induction m with
  | nil => rfl
  | cons q m ih =>
    obtain ⟨j, v⟩ := q
    by_cases hj : j = k
    · subst hj; simp [List.filter, h, spGet]
    · by_cases hf : f (j, v) = true
      · simp [List.filter, hf, spGet, hj, ih]
      · simp [List.filter, hf, spGet, hj, ih]

/-- A key that no entry has reads the unlisted value. -/
theorem spGet_absent {α : Type} (m : Sparse α) (k : Nat) (d : α) (h : ∀ p ∈ m, p.1 ≠ k) : spGet m k d = d := by
  induction m with
  | nil => rfl
  | cons q m ih =>
    obtain ⟨j, v⟩ := q
    have hj : j ≠ k := h (j, v) (by simp)
    simp [spGet, hj, ih (fun p hp => h p (List.mem_cons_of_mem _ hp))]

/-- An entry that no key of the second list has is read from the first. -/
theorem spGet_front {α : Type} (m n : Sparse α) (k : Nat) (d : α) (h : ∀ p ∈ n, p.1 ≠ k) : spGet (m ++ n) k d = spGet m k d := by
  induction m with
  | nil => simpa [spGet] using spGet_absent n k d h
  | cons q m ih =>
    obtain ⟨j, v⟩ := q
    by_cases hj : j = k <;> simp [spGet, hj, ih]

/-- The bytes of a range are the entries' bytes. -/
theorem memGet_memCells (d : Byte) (bs : List Byte) (a i : Nat) (h : i < bs.length) :
    memGet d (memCells d a bs) (a + i) = bs.getD i d := by
  induction bs generalizing a i with
  | nil => cases h
  | cons b bs ih =>
    simp only [List.length_cons] at h
    cases i with
    | zero =>
      simp only [memCells, Nat.add_zero]
      split
      · rename_i hb
        show spGet _ a d = _
        rw [spGet_absent _ _ _ (fun p hp => by have := (mem_memCells d bs _ p hp).1; omega)]
        simp [hb]
      · simp [memGet, spGet]
    | succ i =>
      have := ih (a + 1) i (by omega)
      rw [show a + (i + 1) = a + 1 + i by omega]
      simp only [memCells]
      split
      · rw [this]; rfl
      · show spGet (_ :: _) _ _ = _
        have hne : ¬ a = a + 1 + i := by omega
        simp only [spGet, hne, if_false]
        exact this

/-- Bytes outside a written range are left alone. -/
theorem memGet_memWrite_other (d : Byte) (bs : List Byte) (m : List Host.Cell) (a b : Nat) (h : b < a ∨ a + bs.length ≤ b) :
    memGet d (memWrite d m a bs) b = memGet d m b := by
  unfold memGet memWrite
  have hc : ∀ p ∈ memCells d a bs, p.1 ≠ b := fun p hp => by have := mem_memCells d bs a p hp; omega
  rcases h with h | h
  · rw [spGet_front _ _ _ _ (fun p hp => ?_)]
    · exact spGet_filter m _ b d (fun v => by simpa using h)
    · rcases List.mem_append.mp hp with hp | hp
      · exact hc p hp
      · have := (List.mem_filter.mp hp).2; simp only [decide_eq_true_eq] at this; omega
  · rw [spGet_append _ _ _ _ (fun p hp => ?_), spGet_append _ _ _ _ hc]
    · exact spGet_filter m _ b d (fun v => by simpa using h)
    · have := (List.mem_filter.mp hp).2; simp only [decide_eq_true_eq] at this; omega

/-- Bytes of a written range read back. -/
theorem memGet_memWrite_in (d : Byte) (bs : List Byte) (m : List Host.Cell) (a i : Nat) (h : i < bs.length) :
    memGet d (memWrite d m a bs) (a + i) = bs.getD i d := by
  rw [← memGet_memCells d bs a i h]
  unfold memGet memWrite
  rw [spGet_append _ _ _ _ (fun p hp => ?_), spGet_front _ _ _ _ (fun p hp => ?_)]
  · have := (List.mem_filter.mp hp).2; simp only [decide_eq_true_eq] at this; omega
  · have := (List.mem_filter.mp hp).2; simp only [decide_eq_true_eq] at this; omega

/-- A read skips entries below its start. -/
theorem memFrom_skip (d : Byte) (e a : Nat) (m n : List Host.Cell) (h : ∀ p ∈ m, p.1 < a) :
    memFrom d e (m ++ n) a = memFrom d e n a := by
  induction m with
  | nil => rfl
  | cons q m ih =>
    obtain ⟨k, v⟩ := q
    have hk : k < a := h (k, v) (by simp)
    simp [memFrom, hk, ih (fun p hp => h p (List.mem_cons_of_mem _ hp))]

/-- A read ends before the first entry past its range. -/
theorem memFrom_end (d : Byte) (e a : Nat) (m : List Host.Cell) (ha : a ≤ e) (h : ∀ p ∈ m, e ≤ p.1) :
    memFrom d e m a = List.replicate (e - a) d := by
  cases m with
  | nil => rfl
  | cons q m =>
    obtain ⟨k, v⟩ := q
    have hk : e ≤ k := h (k, v) (by simp)
    have h1 : ¬ k < a ∨ e = a := by omega
    simp only [memFrom]
    split
    · rename_i hlt
      have : e = a := by omega
      omega
    · rfl

/-- A read goes on past a byte that is not listed. -/
theorem memFrom_gap (d : Byte) (e a : Nat) (m : List Host.Cell) (ha : a < e) (h : ∀ p ∈ m, a + 1 ≤ p.1) :
    memFrom d e m a = d :: memFrom d e m (a + 1) := by
  cases m with
  | nil => simp only [memFrom]; rw [show e - a = (e - (a + 1)) + 1 by omega]; rfl
  | cons q m =>
    obtain ⟨k, v⟩ := q
    have hk : a + 1 ≤ k := h (k, v) (by simp)
    have h1 : ¬ k < a := by omega
    have h2 : ¬ k < a + 1 := by omega
    simp only [memFrom, h1, h2, if_false]
    split
    · rw [show e - a = (e - (a + 1)) + 1 by omega]; rfl
    · rw [show k - a = (k - (a + 1)) + 1 by omega]; rfl

/-- What is written reads back, from any memory. -/
theorem memRead_memWrite (d : Byte) (m : List Host.Cell) (a : Nat) (bs : List Byte) :
    memRead d (memWrite d m a bs) a bs.length = bs := by
  unfold memRead memWrite
  rw [memFrom_skip _ _ _ _ _ (fun p hp => by have := (List.mem_filter.mp hp).2; simpa using this)]
  have key : ∀ (t : List Host.Cell) (bs : List Byte) (a : Nat), (∀ p ∈ t, a + bs.length ≤ p.1) →
      memFrom d (a + bs.length) (memCells d a bs ++ t) a = bs := by
    intro t bs
    induction bs with
    | nil => intro a h; simpa [memCells] using memFrom_end d a a t (Nat.le_refl _) h
    | cons b bs ih =>
      intro a h
      simp only [List.length_cons] at h
      have e1 : a + (b :: bs).length = a + 1 + bs.length := by simp only [List.length_cons]; omega
      have hi := ih (a + 1) (fun p hp => by have := h p hp; omega)
      have hlow : ∀ p ∈ memCells d (a + 1) bs ++ t, a + 1 ≤ p.1 := fun p hp => by
        rcases List.mem_append.mp hp with hp | hp
        · exact (mem_memCells d bs _ p hp).1
        · have := h p hp; omega
      rw [e1]
      simp only [memCells]
      split
      · rename_i hb
        rw [memFrom_gap _ _ _ _ (by omega) hlow, hi, hb]
      · have h1 : ¬ a < a := by omega
        have h2 : ¬ a + 1 + bs.length ≤ a := by omega
        simp only [List.cons_append, memFrom, h1, h2, if_false, Nat.sub_self, List.replicate_zero, List.nil_append, hi]
  exact key _ bs a (fun p hp => by have := (List.mem_filter.mp hp).2; simpa using this)

/-- In the canonical form a read gives the byte of each address. -/
theorem memRead_eq (d : Byte) (m : List Host.Cell) (a n : Nat) (h : m.Pairwise (fun p q => p.1 < q.1)) :
    memRead d m a n = (List.range n).map (fun i => memGet d m (a + i)) := by
  have key : ∀ (n : Nat) (m : List Host.Cell) (a : Nat), m.Pairwise (fun p q => p.1 < q.1) →
      memFrom d (a + n) m a = (List.range n).map (fun i => memGet d m (a + i)) := by
    intro n
    induction n with
    | zero =>
      intro m a _
      induction m with
      | nil => simp [memFrom]
      | cons q m ih =>
        obtain ⟨k, v⟩ := q
        simp only [memFrom, Nat.add_zero]
        split
        · simpa using ih (List.Pairwise.of_cons ‹_›)
        · have : a ≤ k := by omega
          simp_all
    | succ n ih =>
      intro m a hm
      induction m with
      | nil =>
        simp [memFrom, memGet, spGet, List.map_const']
      | cons q m ihm =>
        obtain ⟨k, v⟩ := q
        have ⟨h1, h2⟩ := List.pairwise_cons.mp hm
        rcases Nat.lt_trichotomy k a with hk | hk | hk
        · have hs := memFrom_skip d (a + (n + 1)) a [(k, v)] m (by simpa using hk)
          simp only [List.singleton_append] at hs
          rw [hs, ihm h2]
          refine List.map_congr_left (fun i _ => ?_)
          have : ¬ k = a + i := by omega
          simp [memGet, spGet, this]
        · subst hk
          have h3 : ¬ k < k := by omega
          have h4 : ¬ k + (n + 1) ≤ k := by omega
          have hi := ih m (k + 1) h2
          simp only [memFrom, h3, h4, if_false, Nat.sub_self, List.replicate_zero, List.nil_append]
          rw [show k + (n + 1) = k + 1 + n by omega, hi, List.range_succ_eq_map]
          simp only [List.map_cons, List.map_map]
          congr 1
          · simp [memGet, spGet]
          · refine List.map_congr_left (fun i _ => ?_)
            simp [memGet, spGet, Function.comp, Nat.add_assoc, Nat.add_comm 1]
        · have hall : ∀ p ∈ (k, v) :: m, a + 1 ≤ p.1 := fun p hp => by
            rcases List.mem_cons.mp hp with rfl | hp
            · exact hk
            · have := h1 p hp; simp only at this; omega
          have hi := ih ((k, v) :: m) (a + 1) hm
          rw [memFrom_gap _ _ _ _ (by omega) hall, show a + (n + 1) = a + 1 + n by omega, hi, List.range_succ_eq_map]
          simp only [List.map_cons, List.map_map]
          congr 1
          · exact (spGet_absent _ _ _ (fun p hp => by have := hall p hp; omega)).symm
          · exact List.map_congr_left (fun i _ => by simp [Function.comp, Nat.add_assoc, Nat.add_comm 1])
  exact key n m a h

/-! ### The canonical form -/

/-- The canonical form as a pairwise statement. -/
theorem Memory.wf_iff (d : Byte) (m : List Host.Cell) :
    Memory.wf d m = true ↔ m.Pairwise (fun p q => p.1 < q.1) ∧ ∀ p ∈ m, p.2 ≠ d := by
  induction m with
  | nil => simp [Memory.wf]
  | cons p m ih =>
    cases m with
    | nil => simp [Memory.wf]
    | cons q m =>
      simp only [Memory.wf, Bool.and_eq_true, decide_eq_true_eq, bne_iff_ne, ih]
      constructor
      · rintro ⟨⟨h1, h2⟩, h3, h4⟩
        refine ⟨List.pairwise_cons.mpr ⟨fun r hr => ?_, h3⟩, fun r hr => ?_⟩
        · rcases List.mem_cons.mp hr with rfl | hr
          · exact h1
          · exact Nat.lt_trans h1 ((List.pairwise_cons.mp h3).1 r hr)
        · rcases List.mem_cons.mp hr with rfl | hr
          · exact h2
          · exact h4 r hr
      · rintro ⟨h1, h2⟩
        have ⟨h3, h4⟩ := List.pairwise_cons.mp h1
        exact ⟨⟨h3 q (by simp), h2 p (by simp)⟩, h4, fun r hr => h2 r (List.mem_cons_of_mem _ hr)⟩

theorem mem_spSet {α : Type} (m : Sparse α) (k : Nat) (v : α) (p : Nat × α) (h : p ∈ spSet m k v) : p = (k, v) ∨ p ∈ m := by
  induction m with
  | nil => simpa [spSet] using h
  | cons q m ih =>
    obtain ⟨j, u⟩ := q
    simp only [spSet] at h
    split at h
    · rcases List.mem_cons.mp h with h | h
      · exact .inl h
      · exact .inr h
    · split at h
      · rcases List.mem_cons.mp h with h | h
        · exact .inl h
        · exact .inr (List.mem_cons_of_mem _ h)
      · rcases List.mem_cons.mp h with h | h
        · exact .inr (by simp [h])
        · rcases ih h with h | h
          · exact .inl h
          · exact .inr (List.mem_cons_of_mem _ h)

theorem pairwise_spSet {α : Type} (m : Sparse α) (k : Nat) (v : α) (h : m.Pairwise (fun p q => p.1 < q.1)) :
    (spSet m k v).Pairwise (fun p q => p.1 < q.1) := by
  induction m with
  | nil => simp [spSet]
  | cons q m ih =>
    obtain ⟨j, u⟩ := q
    have ⟨h1, h2⟩ := List.pairwise_cons.mp h
    simp only [spSet]
    split
    · rename_i hk
      refine List.pairwise_cons.mpr ⟨fun p hp => ?_, h⟩
      rcases List.mem_cons.mp hp with rfl | hp
      · exact hk
      · exact Nat.lt_trans hk (h1 p hp)
    · split
      · rename_i hj; subst hj
        exact List.pairwise_cons.mpr ⟨h1, h2⟩
      · rename_i hk hj
        refine List.pairwise_cons.mpr ⟨fun p hp => ?_, ih h2⟩
        rcases mem_spSet m k v p hp with rfl | hp
        · show j < k; omega
        · exact h1 p hp

/-- A byte stored keeps the canonical form. -/
theorem Memory.wf_memSet (d : Byte) (m : List Host.Cell) (a : Nat) (v : Byte) (h : Memory.wf d m = true) :
    Memory.wf d (memSet d m a v) = true := by
  rw [Memory.wf_iff] at *
  unfold memSet spPut
  split
  · exact ⟨h.1.filter _, fun p hp => h.2 p (List.mem_of_mem_filter hp)⟩
  · rename_i hv
    refine ⟨pairwise_spSet m a v h.1, fun p hp => ?_⟩
    rcases mem_spSet m a v p hp with rfl | hp
    · exact hv
    · exact h.2 p hp

/-- Bytes stored keep the canonical form. -/
theorem Memory.wf_memWrite (d : Byte) (bs : List Byte) (m : List Host.Cell) (a : Nat) (h : Memory.wf d m = true) :
    Memory.wf d (memWrite d m a bs) = true := by
  rw [Memory.wf_iff] at *
  unfold memWrite
  refine ⟨List.pairwise_append.mpr ⟨h.1.filter _, List.pairwise_append.mpr ⟨pairwise_memCells d bs a, h.1.filter _, ?_⟩, ?_⟩, ?_⟩
  · intro p hp q hq
    have := mem_memCells d bs a p hp
    have := (List.mem_filter.mp hq).2; simp only [decide_eq_true_eq] at this; omega
  · intro p hp q hq
    have h1 := (List.mem_filter.mp hp).2; simp only [decide_eq_true_eq] at h1
    rcases List.mem_append.mp hq with hq | hq
    · have := mem_memCells d bs a q hq; omega
    · have := (List.mem_filter.mp hq).2; simp only [decide_eq_true_eq] at this; omega
  · intro p hp
    rcases List.mem_append.mp hp with hp | hp
    · exact h.2 p (List.mem_of_mem_filter hp)
    · rcases List.mem_append.mp hp with hp | hp
      · exact (mem_memCells d bs a p hp).2.2
      · exact h.2 p (List.mem_of_mem_filter hp)

/-- An erase keeps the canonical form. -/
theorem Memory.wf_memErase (d : Byte) (m : List Host.Cell) (a n : Nat) (h : Memory.wf d m = true) :
    Memory.wf d (memErase m a n) = true := by
  rw [Memory.wf_iff] at *
  exact ⟨h.1.filter _, fun p hp => h.2 p (List.mem_of_mem_filter hp)⟩

end Sys2Proof.Machine
end

