-- ==== Sys2Proof/Laws/State.lean ====
section
/-! SUPPORT. Updates of the state: each changes its own field and no other. -/

namespace Sys2Proof.Machine

@[simp] theorem State.modEng_mode (s : State) (e : Eng) (f : Engine → Engine) : (s.modEng e f).mode = s.mode := by cases e <;> rfl
@[simp] theorem State.modEng_scan (s : State) (e : Eng) (f : Engine → Engine) : (s.modEng e f).scan = s.scan := by cases e <;> rfl
@[simp] theorem State.modEng_arr (s : State) (e : Eng) (f : Engine → Engine) : (s.modEng e f).arr = s.arr := by cases e <;> rfl
@[simp] theorem State.modEng_store (s : State) (e : Eng) (f : Engine → Engine) : (s.modEng e f).store = s.store := by cases e <;> rfl
@[simp] theorem State.modEng_diag (s : State) (e : Eng) (f : Engine → Engine) : (s.modEng e f).diag = s.diag := by cases e <;> rfl
@[simp] theorem State.modEng_bstay (s : State) (e : Eng) (f : Engine → Engine) : (s.modEng e f).bstay = s.bstay := by cases e <;> rfl
@[simp] theorem State.modEng_h0 (s : State) (e : Eng) (f : Engine → Engine) : (s.modEng e f).h0 = s.h0 := by cases e <;> rfl
@[simp] theorem State.modEng_h1 (s : State) (e : Eng) (f : Engine → Engine) : (s.modEng e f).h1 = s.h1 := by cases e <;> rfl
@[simp] theorem State.modEng_spi (s : State) (e : Eng) (f : Engine → Engine) : (s.modEng e f).spi = s.spi := by cases e <;> rfl
@[simp] theorem State.modEng_cmd (s : State) (e : Eng) (f : Engine → Engine) : (s.modEng e f).cmd = s.cmd := by cases e <;> rfl
@[simp] theorem State.modEng_flt (s : State) (e : Eng) (f : Engine → Engine) : (s.modEng e f).flt = s.flt := by cases e <;> rfl
@[simp] theorem State.modEng_time (s : State) (e : Eng) (f : Engine → Engine) : (s.modEng e f).time = s.time := by cases e <;> rfl
@[simp] theorem State.modEng_log (s : State) (e : Eng) (f : Engine → Engine) : (s.modEng e f).log = s.log := by cases e <;> rfl
@[simp] theorem State.modEng_rigger (s : State) (e : Eng) (f : Engine → Engine) : (s.modEng e f).rigger = s.rigger := by cases e <;> rfl
@[simp] theorem State.modEng_therm (s : State) (e : Eng) (f : Engine → Engine) : (s.modEng e f).therm = s.therm := by cases e <;> rfl
@[simp] theorem State.modEng_clk (s : State) (e : Eng) (f : Engine → Engine) : (s.modEng e f).clk = s.clk := by cases e <;> rfl
@[simp] theorem State.modEng_pwr (s : State) (e : Eng) (f : Engine → Engine) : (s.modEng e f).pwr = s.pwr := by cases e <;> rfl
@[simp] theorem State.modEng_xmem (s : State) (e : Eng) (f : Engine → Engine) : (s.modEng e f).xmem = s.xmem := by cases e <;> rfl
@[simp] theorem State.modEng_keep (s : State) (e : Eng) (f : Engine → Engine) : (s.modEng e f).keep = s.keep := by cases e <;> rfl
@[simp] theorem State.modEng_crcu (s : State) (e : Eng) (f : Engine → Engine) : (s.modEng e f).crcu = s.crcu := by cases e <;> rfl
@[simp] theorem State.modEng_legacy (s : State) (e : Eng) (f : Engine → Engine) : (s.modEng e f).legacy = s.legacy := by cases e <;> rfl
@[simp] theorem State.modEng_tap (s : State) (e : Eng) (f : Engine → Engine) : (s.modEng e f).tap = s.tap := by cases e <;> rfl
@[simp] theorem State.modEng_pins (s : State) (e : Eng) (f : Engine → Engine) : (s.modEng e f).pins = s.pins := by cases e <;> rfl
@[simp] theorem State.modEng_ticks (s : State) (e : Eng) (f : Engine → Engine) : (s.modEng e f).ticks = s.ticks := by cases e <;> rfl
@[simp] theorem State.modEng_base (s : State) (e : Eng) (f : Engine → Engine) : (s.modEng e f).base = s.base := by cases e <;> rfl
@[simp] theorem State.modEng_freeCtr (s : State) (e : Eng) (f : Engine → Engine) : (s.modEng e f).freeCtr = s.freeCtr := by cases e <;> rfl
@[simp] theorem State.modEng_lastStatus (s : State) (e : Eng) (f : Engine → Engine) : (s.modEng e f).lastStatus = s.lastStatus := by cases e <;> rfl
@[simp] theorem State.modEng_lastRead (s : State) (e : Eng) (f : Engine → Engine) : (s.modEng e f).lastRead = s.lastRead := by cases e <;> rfl
@[simp] theorem State.modEng_pending (s : State) (e : Eng) (f : Engine → Engine) : (s.modEng e f).pending = s.pending := by cases e <;> rfl

@[simp] theorem State.modPort_mode (s : State) (p : HPort) (f : Port → Port) : (s.modPort p f).mode = s.mode := by cases p <;> rfl
@[simp] theorem State.modPort_scan (s : State) (p : HPort) (f : Port → Port) : (s.modPort p f).scan = s.scan := by cases p <;> rfl
@[simp] theorem State.modPort_arr (s : State) (p : HPort) (f : Port → Port) : (s.modPort p f).arr = s.arr := by cases p <;> rfl
@[simp] theorem State.modPort_engA (s : State) (p : HPort) (f : Port → Port) : (s.modPort p f).engA = s.engA := by cases p <;> rfl
@[simp] theorem State.modPort_engB (s : State) (p : HPort) (f : Port → Port) : (s.modPort p f).engB = s.engB := by cases p <;> rfl
@[simp] theorem State.modPort_store (s : State) (p : HPort) (f : Port → Port) : (s.modPort p f).store = s.store := by cases p <;> rfl
@[simp] theorem State.modPort_diag (s : State) (p : HPort) (f : Port → Port) : (s.modPort p f).diag = s.diag := by cases p <;> rfl
@[simp] theorem State.modPort_bstay (s : State) (p : HPort) (f : Port → Port) : (s.modPort p f).bstay = s.bstay := by cases p <;> rfl
@[simp] theorem State.modPort_spi (s : State) (p : HPort) (f : Port → Port) : (s.modPort p f).spi = s.spi := by cases p <;> rfl
@[simp] theorem State.modPort_cmd (s : State) (p : HPort) (f : Port → Port) : (s.modPort p f).cmd = s.cmd := by cases p <;> rfl
@[simp] theorem State.modPort_flt (s : State) (p : HPort) (f : Port → Port) : (s.modPort p f).flt = s.flt := by cases p <;> rfl
@[simp] theorem State.modPort_time (s : State) (p : HPort) (f : Port → Port) : (s.modPort p f).time = s.time := by cases p <;> rfl
@[simp] theorem State.modPort_log (s : State) (p : HPort) (f : Port → Port) : (s.modPort p f).log = s.log := by cases p <;> rfl
@[simp] theorem State.modPort_rigger (s : State) (p : HPort) (f : Port → Port) : (s.modPort p f).rigger = s.rigger := by cases p <;> rfl
@[simp] theorem State.modPort_therm (s : State) (p : HPort) (f : Port → Port) : (s.modPort p f).therm = s.therm := by cases p <;> rfl
@[simp] theorem State.modPort_clk (s : State) (p : HPort) (f : Port → Port) : (s.modPort p f).clk = s.clk := by cases p <;> rfl
@[simp] theorem State.modPort_pwr (s : State) (p : HPort) (f : Port → Port) : (s.modPort p f).pwr = s.pwr := by cases p <;> rfl
@[simp] theorem State.modPort_xmem (s : State) (p : HPort) (f : Port → Port) : (s.modPort p f).xmem = s.xmem := by cases p <;> rfl
@[simp] theorem State.modPort_keep (s : State) (p : HPort) (f : Port → Port) : (s.modPort p f).keep = s.keep := by cases p <;> rfl
@[simp] theorem State.modPort_crcu (s : State) (p : HPort) (f : Port → Port) : (s.modPort p f).crcu = s.crcu := by cases p <;> rfl
@[simp] theorem State.modPort_legacy (s : State) (p : HPort) (f : Port → Port) : (s.modPort p f).legacy = s.legacy := by cases p <;> rfl
@[simp] theorem State.modPort_tap (s : State) (p : HPort) (f : Port → Port) : (s.modPort p f).tap = s.tap := by cases p <;> rfl
@[simp] theorem State.modPort_pins (s : State) (p : HPort) (f : Port → Port) : (s.modPort p f).pins = s.pins := by cases p <;> rfl
@[simp] theorem State.modPort_ticks (s : State) (p : HPort) (f : Port → Port) : (s.modPort p f).ticks = s.ticks := by cases p <;> rfl
@[simp] theorem State.modPort_base (s : State) (p : HPort) (f : Port → Port) : (s.modPort p f).base = s.base := by cases p <;> rfl
@[simp] theorem State.modPort_freeCtr (s : State) (p : HPort) (f : Port → Port) : (s.modPort p f).freeCtr = s.freeCtr := by cases p <;> rfl
@[simp] theorem State.modPort_lastStatus (s : State) (p : HPort) (f : Port → Port) : (s.modPort p f).lastStatus = s.lastStatus := by cases p <;> rfl
@[simp] theorem State.modPort_lastRead (s : State) (p : HPort) (f : Port → Port) : (s.modPort p f).lastRead = s.lastRead := by cases p <;> rfl
@[simp] theorem State.modPort_pending (s : State) (p : HPort) (f : Port → Port) : (s.modPort p f).pending = s.pending := by cases p <;> rfl

@[simp] theorem State.modTile_mode (s : State) (t : Nat) (f : Tile → Tile) : (s.modTile t f).mode = s.mode := rfl
@[simp] theorem State.modTile_scan (s : State) (t : Nat) (f : Tile → Tile) : (s.modTile t f).scan = s.scan := rfl
@[simp] theorem State.modTile_engA (s : State) (t : Nat) (f : Tile → Tile) : (s.modTile t f).engA = s.engA := rfl
@[simp] theorem State.modTile_engB (s : State) (t : Nat) (f : Tile → Tile) : (s.modTile t f).engB = s.engB := rfl
@[simp] theorem State.modTile_store (s : State) (t : Nat) (f : Tile → Tile) : (s.modTile t f).store = s.store := rfl
@[simp] theorem State.modTile_diag (s : State) (t : Nat) (f : Tile → Tile) : (s.modTile t f).diag = s.diag := rfl
@[simp] theorem State.modTile_bstay (s : State) (t : Nat) (f : Tile → Tile) : (s.modTile t f).bstay = s.bstay := rfl
@[simp] theorem State.modTile_h0 (s : State) (t : Nat) (f : Tile → Tile) : (s.modTile t f).h0 = s.h0 := rfl
@[simp] theorem State.modTile_h1 (s : State) (t : Nat) (f : Tile → Tile) : (s.modTile t f).h1 = s.h1 := rfl
@[simp] theorem State.modTile_spi (s : State) (t : Nat) (f : Tile → Tile) : (s.modTile t f).spi = s.spi := rfl
@[simp] theorem State.modTile_cmd (s : State) (t : Nat) (f : Tile → Tile) : (s.modTile t f).cmd = s.cmd := rfl
@[simp] theorem State.modTile_flt (s : State) (t : Nat) (f : Tile → Tile) : (s.modTile t f).flt = s.flt := rfl
@[simp] theorem State.modTile_time (s : State) (t : Nat) (f : Tile → Tile) : (s.modTile t f).time = s.time := rfl
@[simp] theorem State.modTile_log (s : State) (t : Nat) (f : Tile → Tile) : (s.modTile t f).log = s.log := rfl
@[simp] theorem State.modTile_rigger (s : State) (t : Nat) (f : Tile → Tile) : (s.modTile t f).rigger = s.rigger := rfl
@[simp] theorem State.modTile_therm (s : State) (t : Nat) (f : Tile → Tile) : (s.modTile t f).therm = s.therm := rfl
@[simp] theorem State.modTile_clk (s : State) (t : Nat) (f : Tile → Tile) : (s.modTile t f).clk = s.clk := rfl
@[simp] theorem State.modTile_pwr (s : State) (t : Nat) (f : Tile → Tile) : (s.modTile t f).pwr = s.pwr := rfl
@[simp] theorem State.modTile_xmem (s : State) (t : Nat) (f : Tile → Tile) : (s.modTile t f).xmem = s.xmem := rfl
@[simp] theorem State.modTile_keep (s : State) (t : Nat) (f : Tile → Tile) : (s.modTile t f).keep = s.keep := rfl
@[simp] theorem State.modTile_crcu (s : State) (t : Nat) (f : Tile → Tile) : (s.modTile t f).crcu = s.crcu := rfl
@[simp] theorem State.modTile_legacy (s : State) (t : Nat) (f : Tile → Tile) : (s.modTile t f).legacy = s.legacy := rfl
@[simp] theorem State.modTile_tap (s : State) (t : Nat) (f : Tile → Tile) : (s.modTile t f).tap = s.tap := rfl
@[simp] theorem State.modTile_pins (s : State) (t : Nat) (f : Tile → Tile) : (s.modTile t f).pins = s.pins := rfl
@[simp] theorem State.modTile_ticks (s : State) (t : Nat) (f : Tile → Tile) : (s.modTile t f).ticks = s.ticks := rfl
@[simp] theorem State.modTile_base (s : State) (t : Nat) (f : Tile → Tile) : (s.modTile t f).base = s.base := rfl
@[simp] theorem State.modTile_freeCtr (s : State) (t : Nat) (f : Tile → Tile) : (s.modTile t f).freeCtr = s.freeCtr := rfl
@[simp] theorem State.modTile_lastStatus (s : State) (t : Nat) (f : Tile → Tile) : (s.modTile t f).lastStatus = s.lastStatus := rfl
@[simp] theorem State.modTile_lastRead (s : State) (t : Nat) (f : Tile → Tile) : (s.modTile t f).lastRead = s.lastRead := rfl
@[simp] theorem State.modTile_pending (s : State) (t : Nat) (f : Tile → Tile) : (s.modTile t f).pending = s.pending := rfl

@[simp] theorem State.modWin_mode (s : State) (b : Nat) (f : FltWin → FltWin) : (s.modWin b f).mode = s.mode := rfl
@[simp] theorem State.modWin_scan (s : State) (b : Nat) (f : FltWin → FltWin) : (s.modWin b f).scan = s.scan := rfl
@[simp] theorem State.modWin_arr (s : State) (b : Nat) (f : FltWin → FltWin) : (s.modWin b f).arr = s.arr := rfl
@[simp] theorem State.modWin_engA (s : State) (b : Nat) (f : FltWin → FltWin) : (s.modWin b f).engA = s.engA := rfl
@[simp] theorem State.modWin_engB (s : State) (b : Nat) (f : FltWin → FltWin) : (s.modWin b f).engB = s.engB := rfl
@[simp] theorem State.modWin_store (s : State) (b : Nat) (f : FltWin → FltWin) : (s.modWin b f).store = s.store := rfl
@[simp] theorem State.modWin_diag (s : State) (b : Nat) (f : FltWin → FltWin) : (s.modWin b f).diag = s.diag := rfl
@[simp] theorem State.modWin_bstay (s : State) (b : Nat) (f : FltWin → FltWin) : (s.modWin b f).bstay = s.bstay := rfl
@[simp] theorem State.modWin_h0 (s : State) (b : Nat) (f : FltWin → FltWin) : (s.modWin b f).h0 = s.h0 := rfl
@[simp] theorem State.modWin_h1 (s : State) (b : Nat) (f : FltWin → FltWin) : (s.modWin b f).h1 = s.h1 := rfl
@[simp] theorem State.modWin_spi (s : State) (b : Nat) (f : FltWin → FltWin) : (s.modWin b f).spi = s.spi := rfl
@[simp] theorem State.modWin_cmd (s : State) (b : Nat) (f : FltWin → FltWin) : (s.modWin b f).cmd = s.cmd := rfl
@[simp] theorem State.modWin_time (s : State) (b : Nat) (f : FltWin → FltWin) : (s.modWin b f).time = s.time := rfl
@[simp] theorem State.modWin_log (s : State) (b : Nat) (f : FltWin → FltWin) : (s.modWin b f).log = s.log := rfl
@[simp] theorem State.modWin_rigger (s : State) (b : Nat) (f : FltWin → FltWin) : (s.modWin b f).rigger = s.rigger := rfl
@[simp] theorem State.modWin_therm (s : State) (b : Nat) (f : FltWin → FltWin) : (s.modWin b f).therm = s.therm := rfl
@[simp] theorem State.modWin_clk (s : State) (b : Nat) (f : FltWin → FltWin) : (s.modWin b f).clk = s.clk := rfl
@[simp] theorem State.modWin_pwr (s : State) (b : Nat) (f : FltWin → FltWin) : (s.modWin b f).pwr = s.pwr := rfl
@[simp] theorem State.modWin_xmem (s : State) (b : Nat) (f : FltWin → FltWin) : (s.modWin b f).xmem = s.xmem := rfl
@[simp] theorem State.modWin_keep (s : State) (b : Nat) (f : FltWin → FltWin) : (s.modWin b f).keep = s.keep := rfl
@[simp] theorem State.modWin_crcu (s : State) (b : Nat) (f : FltWin → FltWin) : (s.modWin b f).crcu = s.crcu := rfl
@[simp] theorem State.modWin_legacy (s : State) (b : Nat) (f : FltWin → FltWin) : (s.modWin b f).legacy = s.legacy := rfl
@[simp] theorem State.modWin_tap (s : State) (b : Nat) (f : FltWin → FltWin) : (s.modWin b f).tap = s.tap := rfl
@[simp] theorem State.modWin_pins (s : State) (b : Nat) (f : FltWin → FltWin) : (s.modWin b f).pins = s.pins := rfl
@[simp] theorem State.modWin_ticks (s : State) (b : Nat) (f : FltWin → FltWin) : (s.modWin b f).ticks = s.ticks := rfl
@[simp] theorem State.modWin_base (s : State) (b : Nat) (f : FltWin → FltWin) : (s.modWin b f).base = s.base := rfl
@[simp] theorem State.modWin_freeCtr (s : State) (b : Nat) (f : FltWin → FltWin) : (s.modWin b f).freeCtr = s.freeCtr := rfl
@[simp] theorem State.modWin_lastStatus (s : State) (b : Nat) (f : FltWin → FltWin) : (s.modWin b f).lastStatus = s.lastStatus := rfl
@[simp] theorem State.modWin_lastRead (s : State) (b : Nat) (f : FltWin → FltWin) : (s.modWin b f).lastRead = s.lastRead := rfl
@[simp] theorem State.modWin_pending (s : State) (b : Nat) (f : FltWin → FltWin) : (s.modWin b f).pending = s.pending := rfl

@[simp] theorem State.modBstay_mode (s : State) (f : Bstay → Bstay) : (s.modBstay f).mode = s.mode := rfl
@[simp] theorem State.modBstay_scan (s : State) (f : Bstay → Bstay) : (s.modBstay f).scan = s.scan := rfl
@[simp] theorem State.modBstay_arr (s : State) (f : Bstay → Bstay) : (s.modBstay f).arr = s.arr := rfl
@[simp] theorem State.modBstay_engA (s : State) (f : Bstay → Bstay) : (s.modBstay f).engA = s.engA := rfl
@[simp] theorem State.modBstay_engB (s : State) (f : Bstay → Bstay) : (s.modBstay f).engB = s.engB := rfl
@[simp] theorem State.modBstay_store (s : State) (f : Bstay → Bstay) : (s.modBstay f).store = s.store := rfl
@[simp] theorem State.modBstay_diag (s : State) (f : Bstay → Bstay) : (s.modBstay f).diag = s.diag := rfl
@[simp] theorem State.modBstay_h0 (s : State) (f : Bstay → Bstay) : (s.modBstay f).h0 = s.h0 := rfl
@[simp] theorem State.modBstay_h1 (s : State) (f : Bstay → Bstay) : (s.modBstay f).h1 = s.h1 := rfl
@[simp] theorem State.modBstay_spi (s : State) (f : Bstay → Bstay) : (s.modBstay f).spi = s.spi := rfl
@[simp] theorem State.modBstay_cmd (s : State) (f : Bstay → Bstay) : (s.modBstay f).cmd = s.cmd := rfl
@[simp] theorem State.modBstay_flt (s : State) (f : Bstay → Bstay) : (s.modBstay f).flt = s.flt := rfl
@[simp] theorem State.modBstay_time (s : State) (f : Bstay → Bstay) : (s.modBstay f).time = s.time := rfl
@[simp] theorem State.modBstay_log (s : State) (f : Bstay → Bstay) : (s.modBstay f).log = s.log := rfl
@[simp] theorem State.modBstay_rigger (s : State) (f : Bstay → Bstay) : (s.modBstay f).rigger = s.rigger := rfl
@[simp] theorem State.modBstay_therm (s : State) (f : Bstay → Bstay) : (s.modBstay f).therm = s.therm := rfl
@[simp] theorem State.modBstay_clk (s : State) (f : Bstay → Bstay) : (s.modBstay f).clk = s.clk := rfl
@[simp] theorem State.modBstay_pwr (s : State) (f : Bstay → Bstay) : (s.modBstay f).pwr = s.pwr := rfl
@[simp] theorem State.modBstay_xmem (s : State) (f : Bstay → Bstay) : (s.modBstay f).xmem = s.xmem := rfl
@[simp] theorem State.modBstay_keep (s : State) (f : Bstay → Bstay) : (s.modBstay f).keep = s.keep := rfl
@[simp] theorem State.modBstay_crcu (s : State) (f : Bstay → Bstay) : (s.modBstay f).crcu = s.crcu := rfl
@[simp] theorem State.modBstay_legacy (s : State) (f : Bstay → Bstay) : (s.modBstay f).legacy = s.legacy := rfl
@[simp] theorem State.modBstay_tap (s : State) (f : Bstay → Bstay) : (s.modBstay f).tap = s.tap := rfl
@[simp] theorem State.modBstay_pins (s : State) (f : Bstay → Bstay) : (s.modBstay f).pins = s.pins := rfl
@[simp] theorem State.modBstay_ticks (s : State) (f : Bstay → Bstay) : (s.modBstay f).ticks = s.ticks := rfl
@[simp] theorem State.modBstay_base (s : State) (f : Bstay → Bstay) : (s.modBstay f).base = s.base := rfl
@[simp] theorem State.modBstay_freeCtr (s : State) (f : Bstay → Bstay) : (s.modBstay f).freeCtr = s.freeCtr := rfl
@[simp] theorem State.modBstay_lastStatus (s : State) (f : Bstay → Bstay) : (s.modBstay f).lastStatus = s.lastStatus := rfl
@[simp] theorem State.modBstay_lastRead (s : State) (f : Bstay → Bstay) : (s.modBstay f).lastRead = s.lastRead := rfl
@[simp] theorem State.modBstay_pending (s : State) (f : Bstay → Bstay) : (s.modBstay f).pending = s.pending := rfl
@[simp] theorem State.modBstay_bstay (s : State) (f : Bstay → Bstay) : (s.modBstay f).bstay = f s.bstay := rfl

@[simp] theorem State.modScan_mode (s : State) (f : Scan → Scan) : (s.modScan f).mode = s.mode := rfl
@[simp] theorem State.modScan_arr (s : State) (f : Scan → Scan) : (s.modScan f).arr = s.arr := rfl
@[simp] theorem State.modScan_engA (s : State) (f : Scan → Scan) : (s.modScan f).engA = s.engA := rfl
@[simp] theorem State.modScan_engB (s : State) (f : Scan → Scan) : (s.modScan f).engB = s.engB := rfl
@[simp] theorem State.modScan_store (s : State) (f : Scan → Scan) : (s.modScan f).store = s.store := rfl
@[simp] theorem State.modScan_diag (s : State) (f : Scan → Scan) : (s.modScan f).diag = s.diag := rfl
@[simp] theorem State.modScan_bstay (s : State) (f : Scan → Scan) : (s.modScan f).bstay = s.bstay := rfl
@[simp] theorem State.modScan_h0 (s : State) (f : Scan → Scan) : (s.modScan f).h0 = s.h0 := rfl
@[simp] theorem State.modScan_h1 (s : State) (f : Scan → Scan) : (s.modScan f).h1 = s.h1 := rfl
@[simp] theorem State.modScan_spi (s : State) (f : Scan → Scan) : (s.modScan f).spi = s.spi := rfl
@[simp] theorem State.modScan_cmd (s : State) (f : Scan → Scan) : (s.modScan f).cmd = s.cmd := rfl
@[simp] theorem State.modScan_flt (s : State) (f : Scan → Scan) : (s.modScan f).flt = s.flt := rfl
@[simp] theorem State.modScan_time (s : State) (f : Scan → Scan) : (s.modScan f).time = s.time := rfl
@[simp] theorem State.modScan_log (s : State) (f : Scan → Scan) : (s.modScan f).log = s.log := rfl
@[simp] theorem State.modScan_rigger (s : State) (f : Scan → Scan) : (s.modScan f).rigger = s.rigger := rfl
@[simp] theorem State.modScan_therm (s : State) (f : Scan → Scan) : (s.modScan f).therm = s.therm := rfl
@[simp] theorem State.modScan_clk (s : State) (f : Scan → Scan) : (s.modScan f).clk = s.clk := rfl
@[simp] theorem State.modScan_pwr (s : State) (f : Scan → Scan) : (s.modScan f).pwr = s.pwr := rfl
@[simp] theorem State.modScan_xmem (s : State) (f : Scan → Scan) : (s.modScan f).xmem = s.xmem := rfl
@[simp] theorem State.modScan_keep (s : State) (f : Scan → Scan) : (s.modScan f).keep = s.keep := rfl
@[simp] theorem State.modScan_crcu (s : State) (f : Scan → Scan) : (s.modScan f).crcu = s.crcu := rfl
@[simp] theorem State.modScan_legacy (s : State) (f : Scan → Scan) : (s.modScan f).legacy = s.legacy := rfl
@[simp] theorem State.modScan_tap (s : State) (f : Scan → Scan) : (s.modScan f).tap = s.tap := rfl
@[simp] theorem State.modScan_pins (s : State) (f : Scan → Scan) : (s.modScan f).pins = s.pins := rfl
@[simp] theorem State.modScan_ticks (s : State) (f : Scan → Scan) : (s.modScan f).ticks = s.ticks := rfl
@[simp] theorem State.modScan_base (s : State) (f : Scan → Scan) : (s.modScan f).base = s.base := rfl
@[simp] theorem State.modScan_freeCtr (s : State) (f : Scan → Scan) : (s.modScan f).freeCtr = s.freeCtr := rfl
@[simp] theorem State.modScan_lastStatus (s : State) (f : Scan → Scan) : (s.modScan f).lastStatus = s.lastStatus := rfl
@[simp] theorem State.modScan_lastRead (s : State) (f : Scan → Scan) : (s.modScan f).lastRead = s.lastRead := rfl
@[simp] theorem State.modScan_pending (s : State) (f : Scan → Scan) : (s.modScan f).pending = s.pending := rfl
@[simp] theorem State.modScan_scan (s : State) (f : Scan → Scan) : (s.modScan f).scan = f s.scan := rfl

@[simp] theorem State.modArr_mode (s : State) (f : Arr → Arr) : (s.modArr f).mode = s.mode := rfl
@[simp] theorem State.modArr_scan (s : State) (f : Arr → Arr) : (s.modArr f).scan = s.scan := rfl
@[simp] theorem State.modArr_engA (s : State) (f : Arr → Arr) : (s.modArr f).engA = s.engA := rfl
@[simp] theorem State.modArr_engB (s : State) (f : Arr → Arr) : (s.modArr f).engB = s.engB := rfl
@[simp] theorem State.modArr_store (s : State) (f : Arr → Arr) : (s.modArr f).store = s.store := rfl
@[simp] theorem State.modArr_diag (s : State) (f : Arr → Arr) : (s.modArr f).diag = s.diag := rfl
@[simp] theorem State.modArr_bstay (s : State) (f : Arr → Arr) : (s.modArr f).bstay = s.bstay := rfl
@[simp] theorem State.modArr_h0 (s : State) (f : Arr → Arr) : (s.modArr f).h0 = s.h0 := rfl
@[simp] theorem State.modArr_h1 (s : State) (f : Arr → Arr) : (s.modArr f).h1 = s.h1 := rfl
@[simp] theorem State.modArr_spi (s : State) (f : Arr → Arr) : (s.modArr f).spi = s.spi := rfl
@[simp] theorem State.modArr_cmd (s : State) (f : Arr → Arr) : (s.modArr f).cmd = s.cmd := rfl
@[simp] theorem State.modArr_flt (s : State) (f : Arr → Arr) : (s.modArr f).flt = s.flt := rfl
@[simp] theorem State.modArr_time (s : State) (f : Arr → Arr) : (s.modArr f).time = s.time := rfl
@[simp] theorem State.modArr_log (s : State) (f : Arr → Arr) : (s.modArr f).log = s.log := rfl
@[simp] theorem State.modArr_rigger (s : State) (f : Arr → Arr) : (s.modArr f).rigger = s.rigger := rfl
@[simp] theorem State.modArr_therm (s : State) (f : Arr → Arr) : (s.modArr f).therm = s.therm := rfl
@[simp] theorem State.modArr_clk (s : State) (f : Arr → Arr) : (s.modArr f).clk = s.clk := rfl
@[simp] theorem State.modArr_pwr (s : State) (f : Arr → Arr) : (s.modArr f).pwr = s.pwr := rfl
@[simp] theorem State.modArr_xmem (s : State) (f : Arr → Arr) : (s.modArr f).xmem = s.xmem := rfl
@[simp] theorem State.modArr_keep (s : State) (f : Arr → Arr) : (s.modArr f).keep = s.keep := rfl
@[simp] theorem State.modArr_crcu (s : State) (f : Arr → Arr) : (s.modArr f).crcu = s.crcu := rfl
@[simp] theorem State.modArr_legacy (s : State) (f : Arr → Arr) : (s.modArr f).legacy = s.legacy := rfl
@[simp] theorem State.modArr_tap (s : State) (f : Arr → Arr) : (s.modArr f).tap = s.tap := rfl
@[simp] theorem State.modArr_pins (s : State) (f : Arr → Arr) : (s.modArr f).pins = s.pins := rfl
@[simp] theorem State.modArr_ticks (s : State) (f : Arr → Arr) : (s.modArr f).ticks = s.ticks := rfl
@[simp] theorem State.modArr_base (s : State) (f : Arr → Arr) : (s.modArr f).base = s.base := rfl
@[simp] theorem State.modArr_freeCtr (s : State) (f : Arr → Arr) : (s.modArr f).freeCtr = s.freeCtr := rfl
@[simp] theorem State.modArr_lastStatus (s : State) (f : Arr → Arr) : (s.modArr f).lastStatus = s.lastStatus := rfl
@[simp] theorem State.modArr_lastRead (s : State) (f : Arr → Arr) : (s.modArr f).lastRead = s.lastRead := rfl
@[simp] theorem State.modArr_pending (s : State) (f : Arr → Arr) : (s.modArr f).pending = s.pending := rfl
@[simp] theorem State.modArr_arr (s : State) (f : Arr → Arr) : (s.modArr f).arr = f s.arr := rfl

@[simp] theorem State.modDiag_mode (s : State) (f : Diag → Diag) : (s.modDiag f).mode = s.mode := rfl
@[simp] theorem State.modDiag_scan (s : State) (f : Diag → Diag) : (s.modDiag f).scan = s.scan := rfl
@[simp] theorem State.modDiag_arr (s : State) (f : Diag → Diag) : (s.modDiag f).arr = s.arr := rfl
@[simp] theorem State.modDiag_engA (s : State) (f : Diag → Diag) : (s.modDiag f).engA = s.engA := rfl
@[simp] theorem State.modDiag_engB (s : State) (f : Diag → Diag) : (s.modDiag f).engB = s.engB := rfl
@[simp] theorem State.modDiag_store (s : State) (f : Diag → Diag) : (s.modDiag f).store = s.store := rfl
@[simp] theorem State.modDiag_bstay (s : State) (f : Diag → Diag) : (s.modDiag f).bstay = s.bstay := rfl
@[simp] theorem State.modDiag_h0 (s : State) (f : Diag → Diag) : (s.modDiag f).h0 = s.h0 := rfl
@[simp] theorem State.modDiag_h1 (s : State) (f : Diag → Diag) : (s.modDiag f).h1 = s.h1 := rfl
@[simp] theorem State.modDiag_spi (s : State) (f : Diag → Diag) : (s.modDiag f).spi = s.spi := rfl
@[simp] theorem State.modDiag_cmd (s : State) (f : Diag → Diag) : (s.modDiag f).cmd = s.cmd := rfl
@[simp] theorem State.modDiag_flt (s : State) (f : Diag → Diag) : (s.modDiag f).flt = s.flt := rfl
@[simp] theorem State.modDiag_time (s : State) (f : Diag → Diag) : (s.modDiag f).time = s.time := rfl
@[simp] theorem State.modDiag_log (s : State) (f : Diag → Diag) : (s.modDiag f).log = s.log := rfl
@[simp] theorem State.modDiag_rigger (s : State) (f : Diag → Diag) : (s.modDiag f).rigger = s.rigger := rfl
@[simp] theorem State.modDiag_therm (s : State) (f : Diag → Diag) : (s.modDiag f).therm = s.therm := rfl
@[simp] theorem State.modDiag_clk (s : State) (f : Diag → Diag) : (s.modDiag f).clk = s.clk := rfl
@[simp] theorem State.modDiag_pwr (s : State) (f : Diag → Diag) : (s.modDiag f).pwr = s.pwr := rfl
@[simp] theorem State.modDiag_xmem (s : State) (f : Diag → Diag) : (s.modDiag f).xmem = s.xmem := rfl
@[simp] theorem State.modDiag_keep (s : State) (f : Diag → Diag) : (s.modDiag f).keep = s.keep := rfl
@[simp] theorem State.modDiag_crcu (s : State) (f : Diag → Diag) : (s.modDiag f).crcu = s.crcu := rfl
@[simp] theorem State.modDiag_legacy (s : State) (f : Diag → Diag) : (s.modDiag f).legacy = s.legacy := rfl
@[simp] theorem State.modDiag_tap (s : State) (f : Diag → Diag) : (s.modDiag f).tap = s.tap := rfl
@[simp] theorem State.modDiag_pins (s : State) (f : Diag → Diag) : (s.modDiag f).pins = s.pins := rfl
@[simp] theorem State.modDiag_ticks (s : State) (f : Diag → Diag) : (s.modDiag f).ticks = s.ticks := rfl
@[simp] theorem State.modDiag_base (s : State) (f : Diag → Diag) : (s.modDiag f).base = s.base := rfl
@[simp] theorem State.modDiag_freeCtr (s : State) (f : Diag → Diag) : (s.modDiag f).freeCtr = s.freeCtr := rfl
@[simp] theorem State.modDiag_lastStatus (s : State) (f : Diag → Diag) : (s.modDiag f).lastStatus = s.lastStatus := rfl
@[simp] theorem State.modDiag_lastRead (s : State) (f : Diag → Diag) : (s.modDiag f).lastRead = s.lastRead := rfl
@[simp] theorem State.modDiag_pending (s : State) (f : Diag → Diag) : (s.modDiag f).pending = s.pending := rfl
@[simp] theorem State.modDiag_diag (s : State) (f : Diag → Diag) : (s.modDiag f).diag = f s.diag := rfl

@[simp] theorem State.modBuf_mode (s : State) (b : Nat) (f : Buffer → Buffer) : (s.modBuf b f).mode = s.mode := rfl
@[simp] theorem State.modBuf_scan (s : State) (b : Nat) (f : Buffer → Buffer) : (s.modBuf b f).scan = s.scan := rfl
@[simp] theorem State.modBuf_arr (s : State) (b : Nat) (f : Buffer → Buffer) : (s.modBuf b f).arr = s.arr := rfl
@[simp] theorem State.modBuf_engA (s : State) (b : Nat) (f : Buffer → Buffer) : (s.modBuf b f).engA = s.engA := rfl
@[simp] theorem State.modBuf_engB (s : State) (b : Nat) (f : Buffer → Buffer) : (s.modBuf b f).engB = s.engB := rfl
@[simp] theorem State.modBuf_diag (s : State) (b : Nat) (f : Buffer → Buffer) : (s.modBuf b f).diag = s.diag := rfl
@[simp] theorem State.modBuf_bstay (s : State) (b : Nat) (f : Buffer → Buffer) : (s.modBuf b f).bstay = s.bstay := rfl
@[simp] theorem State.modBuf_h0 (s : State) (b : Nat) (f : Buffer → Buffer) : (s.modBuf b f).h0 = s.h0 := rfl
@[simp] theorem State.modBuf_h1 (s : State) (b : Nat) (f : Buffer → Buffer) : (s.modBuf b f).h1 = s.h1 := rfl
@[simp] theorem State.modBuf_spi (s : State) (b : Nat) (f : Buffer → Buffer) : (s.modBuf b f).spi = s.spi := rfl
@[simp] theorem State.modBuf_cmd (s : State) (b : Nat) (f : Buffer → Buffer) : (s.modBuf b f).cmd = s.cmd := rfl
@[simp] theorem State.modBuf_flt (s : State) (b : Nat) (f : Buffer → Buffer) : (s.modBuf b f).flt = s.flt := rfl
@[simp] theorem State.modBuf_time (s : State) (b : Nat) (f : Buffer → Buffer) : (s.modBuf b f).time = s.time := rfl
@[simp] theorem State.modBuf_log (s : State) (b : Nat) (f : Buffer → Buffer) : (s.modBuf b f).log = s.log := rfl
@[simp] theorem State.modBuf_rigger (s : State) (b : Nat) (f : Buffer → Buffer) : (s.modBuf b f).rigger = s.rigger := rfl
@[simp] theorem State.modBuf_therm (s : State) (b : Nat) (f : Buffer → Buffer) : (s.modBuf b f).therm = s.therm := rfl
@[simp] theorem State.modBuf_clk (s : State) (b : Nat) (f : Buffer → Buffer) : (s.modBuf b f).clk = s.clk := rfl
@[simp] theorem State.modBuf_pwr (s : State) (b : Nat) (f : Buffer → Buffer) : (s.modBuf b f).pwr = s.pwr := rfl
@[simp] theorem State.modBuf_xmem (s : State) (b : Nat) (f : Buffer → Buffer) : (s.modBuf b f).xmem = s.xmem := rfl
@[simp] theorem State.modBuf_keep (s : State) (b : Nat) (f : Buffer → Buffer) : (s.modBuf b f).keep = s.keep := rfl
@[simp] theorem State.modBuf_crcu (s : State) (b : Nat) (f : Buffer → Buffer) : (s.modBuf b f).crcu = s.crcu := rfl
@[simp] theorem State.modBuf_legacy (s : State) (b : Nat) (f : Buffer → Buffer) : (s.modBuf b f).legacy = s.legacy := rfl
@[simp] theorem State.modBuf_tap (s : State) (b : Nat) (f : Buffer → Buffer) : (s.modBuf b f).tap = s.tap := rfl
@[simp] theorem State.modBuf_pins (s : State) (b : Nat) (f : Buffer → Buffer) : (s.modBuf b f).pins = s.pins := rfl
@[simp] theorem State.modBuf_ticks (s : State) (b : Nat) (f : Buffer → Buffer) : (s.modBuf b f).ticks = s.ticks := rfl
@[simp] theorem State.modBuf_base (s : State) (b : Nat) (f : Buffer → Buffer) : (s.modBuf b f).base = s.base := rfl
@[simp] theorem State.modBuf_freeCtr (s : State) (b : Nat) (f : Buffer → Buffer) : (s.modBuf b f).freeCtr = s.freeCtr := rfl
@[simp] theorem State.modBuf_lastStatus (s : State) (b : Nat) (f : Buffer → Buffer) : (s.modBuf b f).lastStatus = s.lastStatus := rfl
@[simp] theorem State.modBuf_lastRead (s : State) (b : Nat) (f : Buffer → Buffer) : (s.modBuf b f).lastRead = s.lastRead := rfl
@[simp] theorem State.modBuf_pending (s : State) (b : Nat) (f : Buffer → Buffer) : (s.modBuf b f).pending = s.pending := rfl

@[simp] theorem State.modClk_mode (s : State) (f : Clk → Clk) : (s.modClk f).mode = s.mode := rfl
@[simp] theorem State.modClk_scan (s : State) (f : Clk → Clk) : (s.modClk f).scan = s.scan := rfl
@[simp] theorem State.modClk_arr (s : State) (f : Clk → Clk) : (s.modClk f).arr = s.arr := rfl
@[simp] theorem State.modClk_engA (s : State) (f : Clk → Clk) : (s.modClk f).engA = s.engA := rfl
@[simp] theorem State.modClk_engB (s : State) (f : Clk → Clk) : (s.modClk f).engB = s.engB := rfl
@[simp] theorem State.modClk_store (s : State) (f : Clk → Clk) : (s.modClk f).store = s.store := rfl
@[simp] theorem State.modClk_diag (s : State) (f : Clk → Clk) : (s.modClk f).diag = s.diag := rfl
@[simp] theorem State.modClk_bstay (s : State) (f : Clk → Clk) : (s.modClk f).bstay = s.bstay := rfl
@[simp] theorem State.modClk_h0 (s : State) (f : Clk → Clk) : (s.modClk f).h0 = s.h0 := rfl
@[simp] theorem State.modClk_h1 (s : State) (f : Clk → Clk) : (s.modClk f).h1 = s.h1 := rfl
@[simp] theorem State.modClk_spi (s : State) (f : Clk → Clk) : (s.modClk f).spi = s.spi := rfl
@[simp] theorem State.modClk_cmd (s : State) (f : Clk → Clk) : (s.modClk f).cmd = s.cmd := rfl
@[simp] theorem State.modClk_flt (s : State) (f : Clk → Clk) : (s.modClk f).flt = s.flt := rfl
@[simp] theorem State.modClk_time (s : State) (f : Clk → Clk) : (s.modClk f).time = s.time := rfl
@[simp] theorem State.modClk_log (s : State) (f : Clk → Clk) : (s.modClk f).log = s.log := rfl
@[simp] theorem State.modClk_rigger (s : State) (f : Clk → Clk) : (s.modClk f).rigger = s.rigger := rfl
@[simp] theorem State.modClk_therm (s : State) (f : Clk → Clk) : (s.modClk f).therm = s.therm := rfl
@[simp] theorem State.modClk_pwr (s : State) (f : Clk → Clk) : (s.modClk f).pwr = s.pwr := rfl
@[simp] theorem State.modClk_xmem (s : State) (f : Clk → Clk) : (s.modClk f).xmem = s.xmem := rfl
@[simp] theorem State.modClk_keep (s : State) (f : Clk → Clk) : (s.modClk f).keep = s.keep := rfl
@[simp] theorem State.modClk_crcu (s : State) (f : Clk → Clk) : (s.modClk f).crcu = s.crcu := rfl
@[simp] theorem State.modClk_legacy (s : State) (f : Clk → Clk) : (s.modClk f).legacy = s.legacy := rfl
@[simp] theorem State.modClk_tap (s : State) (f : Clk → Clk) : (s.modClk f).tap = s.tap := rfl
@[simp] theorem State.modClk_pins (s : State) (f : Clk → Clk) : (s.modClk f).pins = s.pins := rfl
@[simp] theorem State.modClk_ticks (s : State) (f : Clk → Clk) : (s.modClk f).ticks = s.ticks := rfl
@[simp] theorem State.modClk_base (s : State) (f : Clk → Clk) : (s.modClk f).base = s.base := rfl
@[simp] theorem State.modClk_freeCtr (s : State) (f : Clk → Clk) : (s.modClk f).freeCtr = s.freeCtr := rfl
@[simp] theorem State.modClk_lastStatus (s : State) (f : Clk → Clk) : (s.modClk f).lastStatus = s.lastStatus := rfl
@[simp] theorem State.modClk_lastRead (s : State) (f : Clk → Clk) : (s.modClk f).lastRead = s.lastRead := rfl
@[simp] theorem State.modClk_pending (s : State) (f : Clk → Clk) : (s.modClk f).pending = s.pending := rfl
@[simp] theorem State.modClk_clk (s : State) (f : Clk → Clk) : (s.modClk f).clk = f s.clk := rfl

@[simp] theorem State.modKeep_mode (s : State) (f : Keep → Keep) : (s.modKeep f).mode = s.mode := rfl
@[simp] theorem State.modKeep_scan (s : State) (f : Keep → Keep) : (s.modKeep f).scan = s.scan := rfl
@[simp] theorem State.modKeep_arr (s : State) (f : Keep → Keep) : (s.modKeep f).arr = s.arr := rfl
@[simp] theorem State.modKeep_engA (s : State) (f : Keep → Keep) : (s.modKeep f).engA = s.engA := rfl
@[simp] theorem State.modKeep_engB (s : State) (f : Keep → Keep) : (s.modKeep f).engB = s.engB := rfl
@[simp] theorem State.modKeep_store (s : State) (f : Keep → Keep) : (s.modKeep f).store = s.store := rfl
@[simp] theorem State.modKeep_diag (s : State) (f : Keep → Keep) : (s.modKeep f).diag = s.diag := rfl
@[simp] theorem State.modKeep_bstay (s : State) (f : Keep → Keep) : (s.modKeep f).bstay = s.bstay := rfl
@[simp] theorem State.modKeep_h0 (s : State) (f : Keep → Keep) : (s.modKeep f).h0 = s.h0 := rfl
@[simp] theorem State.modKeep_h1 (s : State) (f : Keep → Keep) : (s.modKeep f).h1 = s.h1 := rfl
@[simp] theorem State.modKeep_spi (s : State) (f : Keep → Keep) : (s.modKeep f).spi = s.spi := rfl
@[simp] theorem State.modKeep_cmd (s : State) (f : Keep → Keep) : (s.modKeep f).cmd = s.cmd := rfl
@[simp] theorem State.modKeep_flt (s : State) (f : Keep → Keep) : (s.modKeep f).flt = s.flt := rfl
@[simp] theorem State.modKeep_time (s : State) (f : Keep → Keep) : (s.modKeep f).time = s.time := rfl
@[simp] theorem State.modKeep_log (s : State) (f : Keep → Keep) : (s.modKeep f).log = s.log := rfl
@[simp] theorem State.modKeep_rigger (s : State) (f : Keep → Keep) : (s.modKeep f).rigger = s.rigger := rfl
@[simp] theorem State.modKeep_therm (s : State) (f : Keep → Keep) : (s.modKeep f).therm = s.therm := rfl
@[simp] theorem State.modKeep_clk (s : State) (f : Keep → Keep) : (s.modKeep f).clk = s.clk := rfl
@[simp] theorem State.modKeep_pwr (s : State) (f : Keep → Keep) : (s.modKeep f).pwr = s.pwr := rfl
@[simp] theorem State.modKeep_xmem (s : State) (f : Keep → Keep) : (s.modKeep f).xmem = s.xmem := rfl
@[simp] theorem State.modKeep_crcu (s : State) (f : Keep → Keep) : (s.modKeep f).crcu = s.crcu := rfl
@[simp] theorem State.modKeep_legacy (s : State) (f : Keep → Keep) : (s.modKeep f).legacy = s.legacy := rfl
@[simp] theorem State.modKeep_tap (s : State) (f : Keep → Keep) : (s.modKeep f).tap = s.tap := rfl
@[simp] theorem State.modKeep_pins (s : State) (f : Keep → Keep) : (s.modKeep f).pins = s.pins := rfl
@[simp] theorem State.modKeep_ticks (s : State) (f : Keep → Keep) : (s.modKeep f).ticks = s.ticks := rfl
@[simp] theorem State.modKeep_base (s : State) (f : Keep → Keep) : (s.modKeep f).base = s.base := rfl
@[simp] theorem State.modKeep_freeCtr (s : State) (f : Keep → Keep) : (s.modKeep f).freeCtr = s.freeCtr := rfl
@[simp] theorem State.modKeep_lastStatus (s : State) (f : Keep → Keep) : (s.modKeep f).lastStatus = s.lastStatus := rfl
@[simp] theorem State.modKeep_lastRead (s : State) (f : Keep → Keep) : (s.modKeep f).lastRead = s.lastRead := rfl
@[simp] theorem State.modKeep_pending (s : State) (f : Keep → Keep) : (s.modKeep f).pending = s.pending := rfl
@[simp] theorem State.modKeep_keep (s : State) (f : Keep → Keep) : (s.modKeep f).keep = f s.keep := rfl

@[simp] theorem State.modPwr_mode (s : State) (f : Pwr → Pwr) : (s.modPwr f).mode = s.mode := rfl
@[simp] theorem State.modPwr_scan (s : State) (f : Pwr → Pwr) : (s.modPwr f).scan = s.scan := rfl
@[simp] theorem State.modPwr_arr (s : State) (f : Pwr → Pwr) : (s.modPwr f).arr = s.arr := rfl
@[simp] theorem State.modPwr_engA (s : State) (f : Pwr → Pwr) : (s.modPwr f).engA = s.engA := rfl
@[simp] theorem State.modPwr_engB (s : State) (f : Pwr → Pwr) : (s.modPwr f).engB = s.engB := rfl
@[simp] theorem State.modPwr_store (s : State) (f : Pwr → Pwr) : (s.modPwr f).store = s.store := rfl
@[simp] theorem State.modPwr_diag (s : State) (f : Pwr → Pwr) : (s.modPwr f).diag = s.diag := rfl
@[simp] theorem State.modPwr_bstay (s : State) (f : Pwr → Pwr) : (s.modPwr f).bstay = s.bstay := rfl
@[simp] theorem State.modPwr_h0 (s : State) (f : Pwr → Pwr) : (s.modPwr f).h0 = s.h0 := rfl
@[simp] theorem State.modPwr_h1 (s : State) (f : Pwr → Pwr) : (s.modPwr f).h1 = s.h1 := rfl
@[simp] theorem State.modPwr_spi (s : State) (f : Pwr → Pwr) : (s.modPwr f).spi = s.spi := rfl
@[simp] theorem State.modPwr_cmd (s : State) (f : Pwr → Pwr) : (s.modPwr f).cmd = s.cmd := rfl
@[simp] theorem State.modPwr_flt (s : State) (f : Pwr → Pwr) : (s.modPwr f).flt = s.flt := rfl
@[simp] theorem State.modPwr_time (s : State) (f : Pwr → Pwr) : (s.modPwr f).time = s.time := rfl
@[simp] theorem State.modPwr_log (s : State) (f : Pwr → Pwr) : (s.modPwr f).log = s.log := rfl
@[simp] theorem State.modPwr_rigger (s : State) (f : Pwr → Pwr) : (s.modPwr f).rigger = s.rigger := rfl
@[simp] theorem State.modPwr_therm (s : State) (f : Pwr → Pwr) : (s.modPwr f).therm = s.therm := rfl
@[simp] theorem State.modPwr_clk (s : State) (f : Pwr → Pwr) : (s.modPwr f).clk = s.clk := rfl
@[simp] theorem State.modPwr_xmem (s : State) (f : Pwr → Pwr) : (s.modPwr f).xmem = s.xmem := rfl
@[simp] theorem State.modPwr_keep (s : State) (f : Pwr → Pwr) : (s.modPwr f).keep = s.keep := rfl
@[simp] theorem State.modPwr_crcu (s : State) (f : Pwr → Pwr) : (s.modPwr f).crcu = s.crcu := rfl
@[simp] theorem State.modPwr_legacy (s : State) (f : Pwr → Pwr) : (s.modPwr f).legacy = s.legacy := rfl
@[simp] theorem State.modPwr_tap (s : State) (f : Pwr → Pwr) : (s.modPwr f).tap = s.tap := rfl
@[simp] theorem State.modPwr_pins (s : State) (f : Pwr → Pwr) : (s.modPwr f).pins = s.pins := rfl
@[simp] theorem State.modPwr_ticks (s : State) (f : Pwr → Pwr) : (s.modPwr f).ticks = s.ticks := rfl
@[simp] theorem State.modPwr_base (s : State) (f : Pwr → Pwr) : (s.modPwr f).base = s.base := rfl
@[simp] theorem State.modPwr_freeCtr (s : State) (f : Pwr → Pwr) : (s.modPwr f).freeCtr = s.freeCtr := rfl
@[simp] theorem State.modPwr_lastStatus (s : State) (f : Pwr → Pwr) : (s.modPwr f).lastStatus = s.lastStatus := rfl
@[simp] theorem State.modPwr_lastRead (s : State) (f : Pwr → Pwr) : (s.modPwr f).lastRead = s.lastRead := rfl
@[simp] theorem State.modPwr_pending (s : State) (f : Pwr → Pwr) : (s.modPwr f).pending = s.pending := rfl
@[simp] theorem State.modPwr_pwr (s : State) (f : Pwr → Pwr) : (s.modPwr f).pwr = f s.pwr := rfl

@[simp] theorem State.modTherm_mode (s : State) (f : Therm → Therm) : (s.modTherm f).mode = s.mode := rfl
@[simp] theorem State.modTherm_scan (s : State) (f : Therm → Therm) : (s.modTherm f).scan = s.scan := rfl
@[simp] theorem State.modTherm_arr (s : State) (f : Therm → Therm) : (s.modTherm f).arr = s.arr := rfl
@[simp] theorem State.modTherm_engA (s : State) (f : Therm → Therm) : (s.modTherm f).engA = s.engA := rfl
@[simp] theorem State.modTherm_engB (s : State) (f : Therm → Therm) : (s.modTherm f).engB = s.engB := rfl
@[simp] theorem State.modTherm_store (s : State) (f : Therm → Therm) : (s.modTherm f).store = s.store := rfl
@[simp] theorem State.modTherm_diag (s : State) (f : Therm → Therm) : (s.modTherm f).diag = s.diag := rfl
@[simp] theorem State.modTherm_bstay (s : State) (f : Therm → Therm) : (s.modTherm f).bstay = s.bstay := rfl
@[simp] theorem State.modTherm_h0 (s : State) (f : Therm → Therm) : (s.modTherm f).h0 = s.h0 := rfl
@[simp] theorem State.modTherm_h1 (s : State) (f : Therm → Therm) : (s.modTherm f).h1 = s.h1 := rfl
@[simp] theorem State.modTherm_spi (s : State) (f : Therm → Therm) : (s.modTherm f).spi = s.spi := rfl
@[simp] theorem State.modTherm_cmd (s : State) (f : Therm → Therm) : (s.modTherm f).cmd = s.cmd := rfl
@[simp] theorem State.modTherm_flt (s : State) (f : Therm → Therm) : (s.modTherm f).flt = s.flt := rfl
@[simp] theorem State.modTherm_time (s : State) (f : Therm → Therm) : (s.modTherm f).time = s.time := rfl
@[simp] theorem State.modTherm_log (s : State) (f : Therm → Therm) : (s.modTherm f).log = s.log := rfl
@[simp] theorem State.modTherm_rigger (s : State) (f : Therm → Therm) : (s.modTherm f).rigger = s.rigger := rfl
@[simp] theorem State.modTherm_clk (s : State) (f : Therm → Therm) : (s.modTherm f).clk = s.clk := rfl
@[simp] theorem State.modTherm_pwr (s : State) (f : Therm → Therm) : (s.modTherm f).pwr = s.pwr := rfl
@[simp] theorem State.modTherm_xmem (s : State) (f : Therm → Therm) : (s.modTherm f).xmem = s.xmem := rfl
@[simp] theorem State.modTherm_keep (s : State) (f : Therm → Therm) : (s.modTherm f).keep = s.keep := rfl
@[simp] theorem State.modTherm_crcu (s : State) (f : Therm → Therm) : (s.modTherm f).crcu = s.crcu := rfl
@[simp] theorem State.modTherm_legacy (s : State) (f : Therm → Therm) : (s.modTherm f).legacy = s.legacy := rfl
@[simp] theorem State.modTherm_tap (s : State) (f : Therm → Therm) : (s.modTherm f).tap = s.tap := rfl
@[simp] theorem State.modTherm_pins (s : State) (f : Therm → Therm) : (s.modTherm f).pins = s.pins := rfl
@[simp] theorem State.modTherm_ticks (s : State) (f : Therm → Therm) : (s.modTherm f).ticks = s.ticks := rfl
@[simp] theorem State.modTherm_base (s : State) (f : Therm → Therm) : (s.modTherm f).base = s.base := rfl
@[simp] theorem State.modTherm_freeCtr (s : State) (f : Therm → Therm) : (s.modTherm f).freeCtr = s.freeCtr := rfl
@[simp] theorem State.modTherm_lastStatus (s : State) (f : Therm → Therm) : (s.modTherm f).lastStatus = s.lastStatus := rfl
@[simp] theorem State.modTherm_lastRead (s : State) (f : Therm → Therm) : (s.modTherm f).lastRead = s.lastRead := rfl
@[simp] theorem State.modTherm_pending (s : State) (f : Therm → Therm) : (s.modTherm f).pending = s.pending := rfl
@[simp] theorem State.modTherm_therm (s : State) (f : Therm → Therm) : (s.modTherm f).therm = f s.therm := rfl

@[simp] theorem State.modTime_mode (s : State) (f : Time → Time) : (s.modTime f).mode = s.mode := rfl
@[simp] theorem State.modTime_scan (s : State) (f : Time → Time) : (s.modTime f).scan = s.scan := rfl
@[simp] theorem State.modTime_arr (s : State) (f : Time → Time) : (s.modTime f).arr = s.arr := rfl
@[simp] theorem State.modTime_engA (s : State) (f : Time → Time) : (s.modTime f).engA = s.engA := rfl
@[simp] theorem State.modTime_engB (s : State) (f : Time → Time) : (s.modTime f).engB = s.engB := rfl
@[simp] theorem State.modTime_store (s : State) (f : Time → Time) : (s.modTime f).store = s.store := rfl
@[simp] theorem State.modTime_diag (s : State) (f : Time → Time) : (s.modTime f).diag = s.diag := rfl
@[simp] theorem State.modTime_bstay (s : State) (f : Time → Time) : (s.modTime f).bstay = s.bstay := rfl
@[simp] theorem State.modTime_h0 (s : State) (f : Time → Time) : (s.modTime f).h0 = s.h0 := rfl
@[simp] theorem State.modTime_h1 (s : State) (f : Time → Time) : (s.modTime f).h1 = s.h1 := rfl
@[simp] theorem State.modTime_spi (s : State) (f : Time → Time) : (s.modTime f).spi = s.spi := rfl
@[simp] theorem State.modTime_cmd (s : State) (f : Time → Time) : (s.modTime f).cmd = s.cmd := rfl
@[simp] theorem State.modTime_flt (s : State) (f : Time → Time) : (s.modTime f).flt = s.flt := rfl
@[simp] theorem State.modTime_log (s : State) (f : Time → Time) : (s.modTime f).log = s.log := rfl
@[simp] theorem State.modTime_rigger (s : State) (f : Time → Time) : (s.modTime f).rigger = s.rigger := rfl
@[simp] theorem State.modTime_therm (s : State) (f : Time → Time) : (s.modTime f).therm = s.therm := rfl
@[simp] theorem State.modTime_clk (s : State) (f : Time → Time) : (s.modTime f).clk = s.clk := rfl
@[simp] theorem State.modTime_pwr (s : State) (f : Time → Time) : (s.modTime f).pwr = s.pwr := rfl
@[simp] theorem State.modTime_xmem (s : State) (f : Time → Time) : (s.modTime f).xmem = s.xmem := rfl
@[simp] theorem State.modTime_keep (s : State) (f : Time → Time) : (s.modTime f).keep = s.keep := rfl
@[simp] theorem State.modTime_crcu (s : State) (f : Time → Time) : (s.modTime f).crcu = s.crcu := rfl
@[simp] theorem State.modTime_legacy (s : State) (f : Time → Time) : (s.modTime f).legacy = s.legacy := rfl
@[simp] theorem State.modTime_tap (s : State) (f : Time → Time) : (s.modTime f).tap = s.tap := rfl
@[simp] theorem State.modTime_pins (s : State) (f : Time → Time) : (s.modTime f).pins = s.pins := rfl
@[simp] theorem State.modTime_ticks (s : State) (f : Time → Time) : (s.modTime f).ticks = s.ticks := rfl
@[simp] theorem State.modTime_base (s : State) (f : Time → Time) : (s.modTime f).base = s.base := rfl
@[simp] theorem State.modTime_freeCtr (s : State) (f : Time → Time) : (s.modTime f).freeCtr = s.freeCtr := rfl
@[simp] theorem State.modTime_lastStatus (s : State) (f : Time → Time) : (s.modTime f).lastStatus = s.lastStatus := rfl
@[simp] theorem State.modTime_lastRead (s : State) (f : Time → Time) : (s.modTime f).lastRead = s.lastRead := rfl
@[simp] theorem State.modTime_pending (s : State) (f : Time → Time) : (s.modTime f).pending = s.pending := rfl
@[simp] theorem State.modTime_time (s : State) (f : Time → Time) : (s.modTime f).time = f s.time := rfl

@[simp] theorem State.modLegacy_mode (s : State) (f : Legacy → Legacy) : (s.modLegacy f).mode = s.mode := rfl
@[simp] theorem State.modLegacy_scan (s : State) (f : Legacy → Legacy) : (s.modLegacy f).scan = s.scan := rfl
@[simp] theorem State.modLegacy_arr (s : State) (f : Legacy → Legacy) : (s.modLegacy f).arr = s.arr := rfl
@[simp] theorem State.modLegacy_engA (s : State) (f : Legacy → Legacy) : (s.modLegacy f).engA = s.engA := rfl
@[simp] theorem State.modLegacy_engB (s : State) (f : Legacy → Legacy) : (s.modLegacy f).engB = s.engB := rfl
@[simp] theorem State.modLegacy_store (s : State) (f : Legacy → Legacy) : (s.modLegacy f).store = s.store := rfl
@[simp] theorem State.modLegacy_diag (s : State) (f : Legacy → Legacy) : (s.modLegacy f).diag = s.diag := rfl
@[simp] theorem State.modLegacy_bstay (s : State) (f : Legacy → Legacy) : (s.modLegacy f).bstay = s.bstay := rfl
@[simp] theorem State.modLegacy_h0 (s : State) (f : Legacy → Legacy) : (s.modLegacy f).h0 = s.h0 := rfl
@[simp] theorem State.modLegacy_h1 (s : State) (f : Legacy → Legacy) : (s.modLegacy f).h1 = s.h1 := rfl
@[simp] theorem State.modLegacy_spi (s : State) (f : Legacy → Legacy) : (s.modLegacy f).spi = s.spi := rfl
@[simp] theorem State.modLegacy_cmd (s : State) (f : Legacy → Legacy) : (s.modLegacy f).cmd = s.cmd := rfl
@[simp] theorem State.modLegacy_flt (s : State) (f : Legacy → Legacy) : (s.modLegacy f).flt = s.flt := rfl
@[simp] theorem State.modLegacy_time (s : State) (f : Legacy → Legacy) : (s.modLegacy f).time = s.time := rfl
@[simp] theorem State.modLegacy_log (s : State) (f : Legacy → Legacy) : (s.modLegacy f).log = s.log := rfl
@[simp] theorem State.modLegacy_rigger (s : State) (f : Legacy → Legacy) : (s.modLegacy f).rigger = s.rigger := rfl
@[simp] theorem State.modLegacy_therm (s : State) (f : Legacy → Legacy) : (s.modLegacy f).therm = s.therm := rfl
@[simp] theorem State.modLegacy_clk (s : State) (f : Legacy → Legacy) : (s.modLegacy f).clk = s.clk := rfl
@[simp] theorem State.modLegacy_pwr (s : State) (f : Legacy → Legacy) : (s.modLegacy f).pwr = s.pwr := rfl
@[simp] theorem State.modLegacy_xmem (s : State) (f : Legacy → Legacy) : (s.modLegacy f).xmem = s.xmem := rfl
@[simp] theorem State.modLegacy_keep (s : State) (f : Legacy → Legacy) : (s.modLegacy f).keep = s.keep := rfl
@[simp] theorem State.modLegacy_crcu (s : State) (f : Legacy → Legacy) : (s.modLegacy f).crcu = s.crcu := rfl
@[simp] theorem State.modLegacy_tap (s : State) (f : Legacy → Legacy) : (s.modLegacy f).tap = s.tap := rfl
@[simp] theorem State.modLegacy_pins (s : State) (f : Legacy → Legacy) : (s.modLegacy f).pins = s.pins := rfl
@[simp] theorem State.modLegacy_ticks (s : State) (f : Legacy → Legacy) : (s.modLegacy f).ticks = s.ticks := rfl
@[simp] theorem State.modLegacy_base (s : State) (f : Legacy → Legacy) : (s.modLegacy f).base = s.base := rfl
@[simp] theorem State.modLegacy_freeCtr (s : State) (f : Legacy → Legacy) : (s.modLegacy f).freeCtr = s.freeCtr := rfl
@[simp] theorem State.modLegacy_lastStatus (s : State) (f : Legacy → Legacy) : (s.modLegacy f).lastStatus = s.lastStatus := rfl
@[simp] theorem State.modLegacy_lastRead (s : State) (f : Legacy → Legacy) : (s.modLegacy f).lastRead = s.lastRead := rfl
@[simp] theorem State.modLegacy_pending (s : State) (f : Legacy → Legacy) : (s.modLegacy f).pending = s.pending := rfl
@[simp] theorem State.modLegacy_legacy (s : State) (f : Legacy → Legacy) : (s.modLegacy f).legacy = f s.legacy := rfl

@[simp] theorem State.modXmem_mode (s : State) (f : Xmem → Xmem) : (s.modXmem f).mode = s.mode := rfl
@[simp] theorem State.modXmem_scan (s : State) (f : Xmem → Xmem) : (s.modXmem f).scan = s.scan := rfl
@[simp] theorem State.modXmem_arr (s : State) (f : Xmem → Xmem) : (s.modXmem f).arr = s.arr := rfl
@[simp] theorem State.modXmem_engA (s : State) (f : Xmem → Xmem) : (s.modXmem f).engA = s.engA := rfl
@[simp] theorem State.modXmem_engB (s : State) (f : Xmem → Xmem) : (s.modXmem f).engB = s.engB := rfl
@[simp] theorem State.modXmem_store (s : State) (f : Xmem → Xmem) : (s.modXmem f).store = s.store := rfl
@[simp] theorem State.modXmem_diag (s : State) (f : Xmem → Xmem) : (s.modXmem f).diag = s.diag := rfl
@[simp] theorem State.modXmem_bstay (s : State) (f : Xmem → Xmem) : (s.modXmem f).bstay = s.bstay := rfl
@[simp] theorem State.modXmem_h0 (s : State) (f : Xmem → Xmem) : (s.modXmem f).h0 = s.h0 := rfl
@[simp] theorem State.modXmem_h1 (s : State) (f : Xmem → Xmem) : (s.modXmem f).h1 = s.h1 := rfl
@[simp] theorem State.modXmem_spi (s : State) (f : Xmem → Xmem) : (s.modXmem f).spi = s.spi := rfl
@[simp] theorem State.modXmem_cmd (s : State) (f : Xmem → Xmem) : (s.modXmem f).cmd = s.cmd := rfl
@[simp] theorem State.modXmem_flt (s : State) (f : Xmem → Xmem) : (s.modXmem f).flt = s.flt := rfl
@[simp] theorem State.modXmem_time (s : State) (f : Xmem → Xmem) : (s.modXmem f).time = s.time := rfl
@[simp] theorem State.modXmem_log (s : State) (f : Xmem → Xmem) : (s.modXmem f).log = s.log := rfl
@[simp] theorem State.modXmem_rigger (s : State) (f : Xmem → Xmem) : (s.modXmem f).rigger = s.rigger := rfl
@[simp] theorem State.modXmem_therm (s : State) (f : Xmem → Xmem) : (s.modXmem f).therm = s.therm := rfl
@[simp] theorem State.modXmem_clk (s : State) (f : Xmem → Xmem) : (s.modXmem f).clk = s.clk := rfl
@[simp] theorem State.modXmem_pwr (s : State) (f : Xmem → Xmem) : (s.modXmem f).pwr = s.pwr := rfl
@[simp] theorem State.modXmem_keep (s : State) (f : Xmem → Xmem) : (s.modXmem f).keep = s.keep := rfl
@[simp] theorem State.modXmem_crcu (s : State) (f : Xmem → Xmem) : (s.modXmem f).crcu = s.crcu := rfl
@[simp] theorem State.modXmem_legacy (s : State) (f : Xmem → Xmem) : (s.modXmem f).legacy = s.legacy := rfl
@[simp] theorem State.modXmem_tap (s : State) (f : Xmem → Xmem) : (s.modXmem f).tap = s.tap := rfl
@[simp] theorem State.modXmem_pins (s : State) (f : Xmem → Xmem) : (s.modXmem f).pins = s.pins := rfl
@[simp] theorem State.modXmem_ticks (s : State) (f : Xmem → Xmem) : (s.modXmem f).ticks = s.ticks := rfl
@[simp] theorem State.modXmem_base (s : State) (f : Xmem → Xmem) : (s.modXmem f).base = s.base := rfl
@[simp] theorem State.modXmem_freeCtr (s : State) (f : Xmem → Xmem) : (s.modXmem f).freeCtr = s.freeCtr := rfl
@[simp] theorem State.modXmem_lastStatus (s : State) (f : Xmem → Xmem) : (s.modXmem f).lastStatus = s.lastStatus := rfl
@[simp] theorem State.modXmem_lastRead (s : State) (f : Xmem → Xmem) : (s.modXmem f).lastRead = s.lastRead := rfl
@[simp] theorem State.modXmem_pending (s : State) (f : Xmem → Xmem) : (s.modXmem f).pending = s.pending := rfl
@[simp] theorem State.modXmem_xmem (s : State) (f : Xmem → Xmem) : (s.modXmem f).xmem = f s.xmem := rfl

@[simp] theorem State.eng_modEng_same (s : State) (e : Eng) (f : Engine → Engine) : (s.modEng e f).eng e = f (s.eng e) := by
  cases e <;> rfl
@[simp] theorem State.eng_modEng_other (s : State) (e : Eng) (f : Engine → Engine) :
    (s.modEng e f).eng (other e) = s.eng (other e) := by cases e <;> rfl
@[simp] theorem State.hport_modPort_same (s : State) (p : HPort) (f : Port → Port) : (s.modPort p f).hport p = f (s.hport p) := by
  cases p <;> rfl

end Sys2Proof.Machine
end

