-- ==== Sys2Proof/WellFormed.lean ====
section
/-! DEFINITION. Well-formed commands: what a CMD packet can carry (Tables 10.1 and 10.2), and events that name only tiles,
pixels, buffers and outcomes the block has. -/

namespace Sys2Proof

/-- A CMD packet: channel 0 to 12 and at most 1,024 payload words (R286, Table 10.2), with one of the three outcomes of a read
of Keep. -/
def commandOk (c : CmdCtx) (ws : List Word) : Bool := c.ch.toNat ≤ 12 && ws.length ≤ 1024 && c.keepEcc ≤ 2

/-- One rail voltage for each of the 256 tiles (R89). -/
def railsOk (rails : List Nat) : Bool := rails.length == 256

/-- Values of tiles: tile numbers below 256 (R18). -/
def tilePairs (l : List (Nat × Nat)) : Bool := l.all (fun p => p.1 < 256)

/-- Samples of pixels: pixel numbers 1024y + x below 1,048,576 (R18). -/
def nodesOk (l : List NodeSample) : Bool := l.all (fun n => n.pixel < 1048576)

/-- The legacy registers that a read clears: VERR, VDROP and the TFLT registers (R503). -/
def clearable (a : Nat) : Bool := a == 0x09 || a == 0x0A || (0x40 ≤ a && a < 0x60)

/-- What a boot meets: one of the three outcomes of the read of Keep, VLED in each of the eight strokes of the self-test, and
samples of pixels of the array in at most the six strokes that take any (R223, R474). -/
def envOk (b : BootEnv) : Bool :=
  b.keepEcc ≤ 2 && 8 ≤ b.tests.vled.length && b.tests.nodes.length ≤ 6 && b.tests.nodes.all nodesOk

/-- A command or event is well-formed. -/
def Instr.wellFormed (i : Instr) : Bool :=
  match i with
  | .ping c ws => commandOk c ws
  | .getStatus c ws => commandOk c ws
  | .getEvent c ws => commandOk c ws
  | .sessionOpen c ws => commandOk c ws
  | .sessionProve c ws => commandOk c ws
  | .modeNative c ws => commandOk c ws
  | .readReg c ws => commandOk c ws
  | .writeReg c ws => commandOk c ws
  | .modifyReg c ws => commandOk c ws
  | .registerWrite _ _ _ => true
  | .layerDefine c ws => commandOk c ws
  | .layerLoad c ws => commandOk c ws
  | .layerFree c ws => commandOk c ws
  | .layerArm c ws => commandOk c ws
  | .flip c ws => commandOk c ws
  | .fenceSignal c ws => commandOk c ws
  | .spritePlace c ws => commandOk c ws
  | .writeback c ws => commandOk c ws
  | .writebackStop c ws => commandOk c ws
  | .setLightNormal c ws => commandOk c ws
  | .setLightTrysail c ws => commandOk c ws
  | .setLightDark c ws => commandOk c ws
  | .setClass c ws => commandOk c ws
  | .setCeilingStage c ws => commandOk c ws
  | .setCeilingCommit c ws => commandOk c ws
  | .setAim c ws => commandOk c ws
  | .steerInput c ws => commandOk c ws
  | .gapless c ws => commandOk c ws
  | .diagRunBridge c ws => commandOk c ws
  | .diagRunSwtest c ws => commandOk c ws
  | .diagRunClearTile c ws => commandOk c ws
  | .diagRunClearMap c ws => commandOk c ws
  | .diagMapRead c ws => commandOk c ws
  | .timeSet c ws => commandOk c ws
  | .timeAdjustOffset c ws => commandOk c ws
  | .timeAdjustInc c ws => commandOk c ws
  | .pulseSetOneShot c ws => commandOk c ws
  | .pulseSetPeriodic c ws => commandOk c ws
  | .pulseSetOff c ws => commandOk c ws
  | .flipAt c ws => commandOk c ws
  | .powerState c ws => commandOk c ws
  | .dvfsSet c ws => commandOk c ws
  | .memRead c ws => commandOk c ws
  | .memWrite c ws => commandOk c ws
  | .memErase c ws => commandOk c ws
  | .fwUpdatePrepare c ws => commandOk c ws
  | .fwUpdateVerify c ws => commandOk c ws
  | .fwUpdateSelect c ws => commandOk c ws
  | .faultInjectArm c ws => commandOk c ws
  | .faultInjectDisarm c ws => commandOk c ws
  | .faultForceSet c ws => commandOk c ws
  | .faultForceClear c ws => commandOk c ws
  | .faultAck c ws => commandOk c ws
  | .fltStatusClear _ _ _ => true
  | .faultConfigReact c ws => commandOk c ws
  | .faultConfigEsc c ws => commandOk c ws
  | .clrFirst _ _ => true
  | .engineSwitch c ws => commandOk c ws
  | .engineHealthRead c ws => commandOk c ws
  | .engineHealthRunTest c ws => commandOk c ws
  | .engineHealthRetry c ws => commandOk c ws
  | .forwardCfg c ws => commandOk c ws
  | .scanCtrlWrite _ _ => true
  | .tileCtrlWrite _ _ _ => true
  | .arrayCtrlWrite _ _ => true
  | .lpRegWrite _ _ _ _ => true
  | .compositionRegWrite _ _ _ _ => true
  | .diagCtrlWrite _ _ => true
  | .bstayCfgWrite _ _ _ => true
  | .verdictPost _ => true
  | .hlyCtrlWrite _ _ _ => true
  | .retrain _ _ => true
  | .eraWrite _ _ _ => true
  | .timeNsRead _ _ => true
  | .thermRegWrite _ _ _ => true
  | .clkSelWrite _ _ => true
  | .clkGateWrite _ _ => true
  | .saveNow _ => true
  | .xmemReload _ _ => true
  | .fwConfirm _ => true
  | .watchdogKick _ _ => true
  | .watchdogArm _ _ => true
  | .watchdogToWrite _ _ => true
  | .pinClr _ => true
  | .crcuStart _ _ _ => true
  | .crcuFinish _ _ _ => true
  | .crcuStartFinish _ _ _ => true
  | .crcuCtrlNbytes _ _ _ => true
  | .crcuDataIn _ _ _ => true
  | .crcuDataOutRead _ _ => true
  | .crcuRunRead _ _ => true
  | .crcuRunWrite _ _ _ _ => true
  | .crcuCheckDone _ => true
  | .crcuKatRun _ => true
  | .strokeStart => true
  | .vledMeasure _ _ rails => railsOk rails
  | .gapStart heads peaks upset _ => tilePairs heads && tilePairs peaks && upset.all (· < 256)
  | .switchTest _ => true
  | .darkProbe l => nodesOk l
  | .capture l => nodesOk l
  | .readbackSweepDone => true
  | .flipInstant _ => true
  | .fenceTimeout _ _ => true
  | .rowComplete _ _ cal bad _ => cal.all (· < 1048576) && bad.all (fun p => p.1 < 66)
  | .compositionEnd _ _ => true
  | .segmentWrite _ _ _ _ => true
  | .trysailSegmentWrite _ _ _ => true
  | .tileOcTrip _ => true
  | .heartbeatStrobe => true
  | .heartbeatToken _ _ => true
  | .heartbeatWindowEnd => true
  | .engErrAssert _ _ => true
  | .mismatchDecideTimeout => true
  | .switchoverHandover => true
  | .switchoverOverlapEnd => true
  | .engineBlockResetDone _ => true
  | .engineSelfTestDone _ _ => true
  | .resyncCopyDone _ _ => true
  | .safeNLow => true
  | .trysailTakeover => true
  | .trysailLoadDone _ => true
  | .trysailScrub _ => true
  | .escalation => true
  | .paritySweep _ => true
  | .blockResetDone _ => true
  | .chipReset => true
  | .logEntryWrite n ecc => n ≤ 2 && ecc ≤ 2
  | .watchdogTimeout _ => true
  | .thermReading _ _ _ => true
  | .clkMonitorTrip _ => true
  | .pllUnlock _ => true
  | .pllRelockDone => true
  | .pllRelockTimeout _ => true
  | .fboscReady => true
  | .phyLoopTiming _ => true
  | .phyLoopReturn _ => true
  | .fboscFail => true
  | .rowMon => true
  | .dvfsSettled => true
  | .dvfsRampEnd => true
  | .dvfsSettleTimeout => true
  | .powerEntry => true
  | .wakePin _ => true
  | .wakeStageReady _ _ => true
  | .wakeStageTimeout => true
  | .saveSupervisorTrip _ => true
  | .presentNRemoved => true
  | .saveComplete _ _ _ => true
  | .porTrip => true
  | .porRelease _ => true
  | .vsupLow _ => true
  | .vsupOv _ => true
  | .vregFail _ => true
  | .parkedWake => true
  | .boot b => envOk b
  | .resetNAssert => true
  | .resetStuck => true
  | .resetNIgnoreEnd => true
  | .opsecTick => true
  | .presentNBootBlank => true
  | .presentNBootRestore => true
  | .testNLow => true
  | .extestLoad => true
  | .signalDetect _ => true
  | .detectBeacon _ => true
  | .portLeaveOff _ => true
  | .trainReceive _ => true
  | .bringupTimeout _ => true
  | .lcwReceive _ _ _ line => line != []
  | .lossOfSignal _ _ => true
  | .linkWake _ => true
  | .packetReceive _ line => line.lane0 != [] || line.lane1 != []
  | .cmdReceive _ => true
  | .slowPathExecute r => r.ecc ≤ 2 && r.keepEcc ≤ 2
  | .layerDataReceive _ => true
  | .recordLoadDone _ => true
  | .syncReceive _ => true
  | .pdelayReqReceive _ => true
  | .pdelayRespReceive _ => true
  | .pdelayReqSend _ => true
  | .leaderSyncSend => true
  | .flipNoticeReceive _ => true
  | .forwardReceive => true
  | .followerPacketWrap => true
  | .packetSend _ _ => true
  | .sessionIdleTimeout => true
  | .sessionLockoutEnd => true
  | .timeTick _ => true
  | .nsWrap _ => true
  | .syncTimeout _ => true
  | .tpulseRise _ => true
  | .tpulseFall _ => true
  | .tcaptEdge => true
  | .xmemWorkServe => true
  | .eraseSuspend => true
  | .logFlush _ _ => true
  | .deadmapWrite _ _ => true
  | .scrub _ => true
  | .memCmdTimeout _ => true
  | .keepMirrorWrite _ _ => true
  | .legacyFrame _ _ _ => true
  | .gcurWrite _ => true
  | .tcurWrite _ _ => true
  | .legacyModeWrite _ => true
  | .keyWrite _ => true
  | .faultRead => true
  | .legacyClearOnRead a => clearable a.toNat
  | .rowCellReceive line => line != []
  | .videoLockTimeout => true
  | .tunnelTransaction edges ws => ws.length == edges / 32 && 1 ≤ edges
  | .safeNHigh => true
  | .clkMonitorGood _ => true
  | .xmemOperationDone _ _ _ _ => true
  | .tapTckEdge _ _ => true
  | .vsupLowClear _ => true

end Sys2Proof
end

