-- ==== Sys2Proof/Tests/Slice0.lean ====
section
/-! SUPPORT. Tests of the model against the spec's own examples, the refusals of WellFormed, and witnesses of the
statements' hypotheses. -/

set_option Elab.async false

open Sys2Proof Sys2Proof.Machine

namespace Sys2Proof.Tests

/-- A running module: boot is done, nothing else has happened. -/
def up : State := { State.reset with pwr := { State.reset.pwr with ready := true, regGood := true, present := true, tested := true } }

/-- A command on the control SPI port without a session. -/
def ctx : CmdCtx := ⟨.spi, 0, 5, 0, false, 0⟩

/-- A command on the control SPI port with session 7. -/
def ctxS : CmdCtx := ⟨.spi, 0, 5, 7, false, 0⟩

/-- A session of the control SPI port is open. -/
def ses (s : State) : State := { s with cmd := { s.cmd with sessOpen := true, sessPort := .spi, sessId := 7 } }

/-- Trysail with SAFE_N latched. -/
def upTry : State := { up with bstay := { up.bstay with beam := .trysail, safeNLatch := true } }

/-- SAFE_N low, in a session. -/
def upSafeLow : State := ses { up with bstay := { up.bstay with safeNLevel := false } }

/-- Class HIGH. -/
def upHigh : State := { up with bstay := { up.bstay with cls := .high } }

/-- A steering input with SEQ 1 has been accepted. -/
def upSteer : State := { up with bstay := { up.bstay with steerFirst := false, steerSeq := 1 } }

/-- Word 1 of a STEER_INPUT with word 0 `w`. -/
def steerWord (w : Word) : Word := BitVec.ofNat 32 (steerCrc w)

/-- Buffer 3 is `u`. -/
def withBuf (u : Buffer) : State := { up with store := { up.store with bufs := up.store.bufs.set 3 u } }

/-- Layer `n` of both engines is `l`. -/
def withLayer (n : Nat) (l : Layer) (s : State) : State :=
  let f (x : Engine) : Engine := { x with comp := { x.comp with layers := x.comp.layers.set n l } }
  { s with engA := f s.engA, engB := f s.engB }

/-- Buffer 3 is complete and shown in layer 0. -/
def bufShown : State := withLayer 0 { actBuf := some 3 } up

/-- Buffer 3 holds a full frame of format 0. -/
def bufFull : State := withBuf { state := .complete, format := 0, w := 1024, h := 1024, pages := 32, size := 2097152 }

/-- Buffer 3 holds a sprite library of one sprite, in effect in sprite layer 2. -/
def bufSprites : State :=
  withLayer 2 { staged := { ctrl := 0x00FF0104 }, act := { ctrl := 0x00FF0104 }, actBuf := some 3 }
    (withBuf { state := .complete, format := 8, w := 8, h := 8, pages := 1, size := 64, bytes := [(0, 1), (8, 72), (12, 8), (14, 4)] })

/-- Write-back runs on buffers 5 and 6. -/
def wbOn : State :=
  let f (x : Engine) : Engine := { x with comp := { x.comp with wbCtrl := 0x0605000A, wbCur := some 5 } }
  { up with engA := f up.engA, engB := f up.engB }

/-- The module in plain compatibility mode. -/
def upCompat : State := { up with mode := { up.mode with ifMode := .compat }, pwr := { up.pwr with pstate := .s0 } }

/-- The module in extended compatibility mode. -/
def upExt : State := { up with mode := { up.mode with ifMode := .compatExt } }

/-- The module in power state `p`. -/
def inState (p : PState) : State := { up with pwr := { up.pwr with pstate := p } }

/-- The state much later. -/
def late (s : State) : State := { s with ticks := 10 ^ 10 }

/-- An event waits on the control SPI port. -/
def upEvent : State := { up with spi := { up.spi with events := { q := [{ code := 0x0801, sev := 1, words := [7] }], lost := true } } }

/-- Another port has a session. -/
def otherSession : State := { up with cmd := { up.cmd with sessOpen := true, sessPort := .h0, sessId := 9 } }

/-- A session of the control SPI port has been asked for; `n` proofs in a row have failed. -/
def proving (n : Nat) (locked : Bool) : State :=
  { up with
    keep := { up.keep with lock := if locked then 3 else 2 }
    cmd := { up.cmd with proving := true, sessPort := .spi, sessId := 7, challenge := 0x55, fails := n } }

/-- The right answer to that challenge. -/
def proofWords : List Word := bytesWords (aesCmac (keepBytes 0x800 16 (proving 0 true)) (proofMessage (proving 0 true)))

/-- H0 is the port of a follower. -/
def upFollower : State := { up with h0 := { up.h0 with role := .follower } }

/-- Tile 5 has its switch closed. -/
def tileClosed : State := up.modTile 5 (fun x => { x with on := true, swClosed := true })

/-- A full gap. -/
def inGapUp : State := { tileClosed with scan := { up.scan with inGap := true }, diag := { up.diag with swPtr := 5 } }

/-- The tile under test waits for its second test. -/
def inGapRetest : State := inGapUp.modDiagTile 5 (fun d => { d with retest := true })

/-- A sweep is in progress with classification off. -/
def sweepingUp : State := { up with diag := { up.diag with sweeping := true, ctrlAct := 0 } }

/-- A diagnostic run is in progress. -/
def upDiagBusy : State := { up with diag := { up.diag with runBusy := true } }

/-- Check-value unit 2 is `x`. -/
def unit2 (x : CrcUnit) : State := { up with crcu := { up.crcu with units := up.crcu.units.set 2 x } }

/-- Scan state `x`. -/
def scanUp (x : Scan) : State := { up with scan := x }

/-- The last gap of a frame, with a complete frame waiting. -/
def flipUp : State :=
  { up with
    scan := { up.scan with inGap := true, strokeInFrame := 8, ctrl := 0x12, nfAct := 7, leadAct := 0 }
    arr := { up.arr with next := [(0, ⟨4, 68⟩)] }
    engA := { up.engA with job := { up.engA.job with active := true, rows := 1024, ended := true } } }

/-- Engine `e` composes a frame of which `n` rows are complete. -/
def composing (e : Eng) (n : Nat) : State := up.modEng e (fun x => { x with job := { x.job with active := true, rows := n } })

/-- The other engine has failed. -/
def single (s : State) : State := s.modEng .main (fun x => { x with health := { x.health with role := .permFailed } })

/-- Write-back into buffer 3. -/
def wbFrame : State :=
  ((composing .fore 1024).modEng .fore (fun x => { x with comp := { x.comp with wbCtrl := 0x00010304, wbTarget := some 3 } })).modBuf 3
    (fun _ => { state := .loading, format := 3, w := 1024, h := 1024, pages := 16, size := 1048576, source := 2 })

/-- An arm that waits for fence 31 with TIMEOUT 1 and ACTION 2. -/
def fenceArm : Arm := { desc := { actTo := 0x201 }, buf := 3, useFence := true, fence := 31, waitVal := 0x7FFF }

/-- Layer 7 of Main has that arm. -/
def fenceWait : State := bufFull.modEng .main (fun x => x.modLayer 7 (fun l => { l with arm := some fenceArm }))

/-- Row 1023 of Fore is complete and its last segment is dirty. -/
def segReady : State :=
  (composing .fore 1024).modEng .fore (fun x => { x with dirty := [0, 16383], codes := [(1048575, ⟨44, 1006⟩)] })

/-- The Trysail writer owns the bus with segment 16383 dirty. -/
def tryWrites : State := { up with bstay := { up.bstay with beam := .trysail, tryOwns := true, tryDirty := [16383] } }

/-- A profile with a ceiling of one row above column 0. -/
def profile : Bstay := { up.bstay with ceilValid := true, ceilAct := [(0, 1024)], zlimAct := [(0, 6000)] }

/-- Heartbeats: Fore waits for its token after `n` misses. -/
def beating (n : Nat) : State :=
  up.modEng .fore (fun x => { x with health := { x.health with hbWaiting := true, hbMisses := n, hbPrev := some 255 } })

/-- Arbitration state `a`. -/
def arbUp (a : Arb) (s : State) : State := { s with bstay := { s.bstay with arb := a } }

/-- Engine Main with health `h`. -/
def mainHealth (h : Health) : State := up.modEng .main (fun x => { x with health := h })

/-- Domain D0 of TIME is `d`. -/
def dom0 (d : Domain) (s : State) : State := { s with time := { s.time with d0 := d } }

/-- D0 about to wrap. -/
def nearWrap : State := dom0 { ns := 0xFFFFFFFF, frac := 0xFFFFFFFF } up

/-- D0 and D1 with a software servo. -/
def softTime : State := { up with time := { up.time with ctrl := 0x00010312 } }

/-- TPULSE0 as `p`. -/
def pulse0 (p : Pulse) : State := { up with time := { up.time with p0 := p } }

/-- TCAPT enabled, with its last edge at `l`. -/
def tcaptUp (l : Option Nat) : State := { up with time := { up.time with ctrl := 0x00030012, tcaptLast := l } }

/-- Working time is synchronised and a flip instant lies ahead. -/
def syncedUp : State := { up with time := { up.time with wkSync := true } }

/-- H0 is ACTIVE towards a head-end, with packets `q` received. -/
def linkUp (q : List Packet) : State :=
  { up with h0 := { up.h0 with state := .active, role := .headEnd, rxq := q, sync := true, txLanes := 3, rxLanes := 3
                               rx0 := { locked := true, signal := true, deskewed := true }, rx1 := { locked := true, signal := true, deskewed := true } } }

/-- H0 faces a leader, with packets `q` received. -/
def followUp (q : List Packet) : State := { linkUp q with h0 := { (linkUp q).h0 with role := .follower } }

/-- H1 leads a follower, with packets `q` received on it. -/
def leadUp (q : List Packet) : State :=
  { linkUp [] with h1 := { up.h1 with state := .active, role := .leader, cfgRole := .leader, rxq := q, sync := true
                                      rx0 := { locked := true, signal := true, deskewed := true }, rx1 := { locked := true, signal := true, deskewed := true } } }

/-- A TIME message received with stamp 1000. -/
def timeMsg (msg : Nat) (ws : List Word) : Packet := { timePacket msg false 9 ws with stamp := 1000 }

/-- A request of D0 with MSEQ 9 is in flight. -/
def askedUp (s : State) : State := { s with time := { s.time with d0 := { s.time.d0 with pdSeq := some 9 } } }

/-- The mean path delay of D0 is known. -/
def delayKnown (s : State) : State := { s with time := { s.time with d0 := { s.time.d0 with mpdValid := true, mpd := 7 } } }

/-- Source `n` of block `b` is set and forced as the masks say. -/
def faultUp (b : Nat) (m f : Word) (s : State) : State := s.modWin b (fun w => { w with status := m, real := m, force := f })

/-- The watchdogs are armed and have run for 1/4 (`k` = 1) to the whole (`k` = 4) of the safety timeout of 20 ms. -/
def dogs (k extra : Nat) (second : Bool) : State :=
  { up with
    ticks := 1250000 * k + extra
    rigger := { up.rigger with safeW := { en := true, second := second }, wdogTo := 0x00140014, svcW := { en := true } } }

/-- The escalation runs on NO_SUPPLY of tile 3. -/
def escUp (r : Word) : State := up.modWin 8 (fun w => { w with status := 1, real := 1, escRun := true, esc := r })

/-- Block `b` is in its reset. -/
def resettingUp (b : Nat) : State := up.modWin b (fun w => { w with resetting := true })

/-- A reaction register of THERM whose parity has failed unseen. -/
def hiddenBad : State := up.modWin 16 (fun w => { w with parHid := [0xFF20] })

/-- A chip reset is owed. -/
def chipUp : State := { up with pwr := { up.pwr with chipPend := true } }

/-- A loaded Trysail image. -/
def tryLoaded : State := { up with bstay := { up.bstay with tryBuf := some { px := [(5, 15)], levels := List.replicate 16 0x4044 } } }

/-- The load of Trysail image 1 runs. -/
def tryLoad : State := { up with xmem := { up.xmem with busy := some (.trysail 1) }, bstay := { up.bstay with tryLoading := true } }

/-- The beam is Trysail and the engines still own the bus. -/
def tryNew : State := { up with bstay := { up.bstay with beam := .trysail } }

/-- CLK is `c`. -/
def clkUp (c : Clk) : State := { up with clk := c }

/-- PWR is `p` of a running module. -/
def pwrUp (f : Pwr → Pwr) : State := { up with pwr := f up.pwr }

/-- A record waits for the log writer. -/
def logRec : LogRec := { w0 := 0x04000002, w1 := 1 }

/-- It is the only one. -/
def logUp (used : Nat) (r : LogRec) : State := { up with log := { up.log with q := [r], pinUsed := used, head := 2047 } }

/-- A self-test that finds nothing: every rail of stroke 1 is off, and the tiles of stroke 2 pull theirs down. -/
def quietTests : SelfTestEnv := { stuck := [], test := [], retest := [], vled := List.replicate 8 (4300, 4300), nodes := [] }

/-- What a boot with nothing outside meets. -/
def bareBoot (t : Bool) : BootEnv :=
  { compat := true, testN := t, present := true, probe0 := none, probe1 := none, step0 := true, step1 := true, factory0 := []
    factory1 := [], scan := [], tests := quietTests, keepEcc := 0 }

/-- A save of cause `k` runs. -/
def savingUp (k : Nat) : State := { up with pwr := { up.pwr with saving := some k } }

/-- Port H0 in state `st` with `n` TRAIN packets received. -/
def training (st : PortState) (n : Nat) (q : List Packet) : State :=
  { up with h0 := { up.h0 with state := st, role := .headEnd, trains := n, lockedSent := true, rxq := q, txLanes := 3, rxLanes := 3, tryRate := 2
                               rx0 := { locked := true, signal := true }, rx1 := { locked := true, signal := true } } }

/-- A TRAIN packet with LOCKED. -/
def trainPkt : Packet := { ptype := .train, ch := 15, payload := [0x2000, 0] }

/-- A CMD packet. -/
def cmdPkt (code : Nat) (ws : List Word) : Packet := { ptype := .cmd, flags := 0x80, hw1 := put 24 code, payload := ws }

/-- A slow-path command at the head of its queue. -/
def slowCmd (code : BitVec 8) (ws : List Word) : SlowCmd := { opcode := code, payload := ws }

/-- It waits. -/
def slowUp (x : SlowCmd) (s : State) : State := { s with cmd := { s.cmd with slow := [x] } }

/-- LAYER_DATA of 8 bytes for buffer 3 at offset `o`. -/
def layerPkt (b o : Nat) : Packet := { ptype := .layerData, hw1 := put 24 b ||| put 0 o, payload := [1, 2] }

/-- Buffer 3 is loading from the link, and the packet has been received on H0. -/
def layerUp (k : Packet) : State :=
  { linkUp [k] with store := (withBuf { state := .loading, format := 0, w := 8, h := 8, pages := 1, size := 128 }).store }

/-- A NOR device of 1 MiB with 4 KiB erase units on CS0 and slot A and B and a buffer record in the directory. -/
def memUp : State :=
  { up with xmem := { up.xmem with
      cs0 := { dtype := 1, suspend := true, eraseLog2 := 12, pageLog2 := 8, capLog2 := 20 }, manUsed := 1
      dir := [{ recId := 0x0100, offset := 0x10000, length := 0x10000 }, { recId := 0x0200, offset := 0x20000, length := 0x10000 },
              { recId := 0x5000, region := true, offset := 0x40000, length := 0x4000 },
              { recId := 0x7000, region := true, offset := 0x50000, length := 0x4000 }] } }

/-- XMEM with work `k` busy. -/
def busyUp (k : XKind) (s : State) : State := { s with xmem := { s.xmem with busy := some k } }

/-- A memory command is being executed. -/
def memCmdUp (code : BitVec 8) (ws : List Word) : State := busyUp .memCmd (slowUp { slowCmd code ws with started := true } memUp)

/-- A FORWARD packet with a CMD packet inside. -/
def fwdPkt : Packet := { ptype := .forward, flags := 0x80, payload := [0x20800000, 0, 5] }

/-- A FORWARD packet whose inner packet is of a type that is not passed on. -/
def fwdBad : Packet := { ptype := .forward, flags := 0x80, payload := [0x60800000, 0, 5] }

/-- A reply that waits on H0. -/
def replyPkt : Packet := { ptype := .reply }

/-- H0 with that reply. -/
def linkReply : State := { linkUp [] with h0 := { (linkUp []).h0 with replies := [replyPkt] } }

/-- A leader that has received a FORWARD. -/
def leadFwd : State := { leadUp [] with h0 := { (linkUp []).h0 with rxq := [fwdPkt] } }

/-- A packet that closes a gap in its sequence. -/
def gapPkt : Packet := { cmdPkt 0 [1, 2] with gap := true }

/-- Entry of firmware slot A, and of slot B. -/
def slotA : DirEntry := { recId := 0x0100, offset := 0x10000, length := 0x10000 }

/-- The entry of firmware slot B. -/
def slotB : DirEntry := { recId := 0x0200, offset := 0x20000, length := 0x10000 }

/-- Slot A runs and slot B is verified. -/
def fwReady : State :=
  ses { memUp with keep := { up.keep with running := 1 }, xmem := { memUp.xmem with fwVerified := [false, true] } }

/-- An erase is in progress and foreground work waits. -/
def eraseUp : State :=
  { busyUp (.regionErase 0x5000) memUp with xmem := { (busyUp (.regionErase 0x5000) memUp).xmem with queue := [.logFlush, .trysail 2] } }

/-- An erase is suspended. -/
def suspendedUp : State := { memUp with xmem := { memUp.xmem with suspended := some (.regionErase 0x5000) } }

/-- A sensor that has failed once. -/
def sensorBad : State :=
  { up with therm := { up.therm with tiles := up.therm.tiles.set 5 { fails := 1, shutdown := true } } }

/-- REFOSC is good. -/
def refGood : State := { up with clk := { up.clk with refOk := true } }

/-- The session attempts are locked out. -/
def lockedOut : State := { up with cmd := { up.cmd with lockout := true } }


/-- A NAND device of 1 MiB with 64 KiB erase units and 2 KiB pages on CS0. -/
def nandUp : State :=
  { up with xmem := { up.xmem with
      cs0 := { dtype := 4, suspend := false, eraseLog2 := 16, pageLog2 := 11, capLog2 := 20 } } }
/-- Plain compatibility mode with legacy state `l`. -/
def legacyUp (f : Legacy → Legacy) : State := { upCompat with h0 := { up.h0 with state := .active, role := .headEnd }, legacy := f up.legacy }

/-- A row of legacy video. -/
def rowWords : List Word := List.replicate 256 0x01020304

/-- A memory in canonical form. -/
def memSome : State :=
  { memUp with
    keep := { up.keep with bytes := [(0x10, 1), (0x12, 5)] }
    xmem := { memUp.xmem with cs0 := { memUp.xmem.cs0 with bytes := [(3, 0), (5, 7), (9, 1)] } } }

/-- The placement used below is acceptable. -/
theorem placements_ok : ∀ p ∈ pairs [(0x00008000 : Word), 0x00100010],
    within p.1 0xFFFF9FFF = true ∧ within p.2 0x1FFF1FFF = true ∧
    bits p.1 0 8 < libSize (curLayer (bits (0x0102 : Word) 0 3) bufSprites) bufSprites := by
  intro p hp
  simp only [pairs, List.mem_cons, List.not_mem_nil, or_false] at hp
  subst hp
  decide +kernel


/-- Extended compatibility mode with the reset of MODE_NATIVE marked. -/
def nativeMarked : State := { upExt with mode := { upExt.mode with forceNative := true } }

/-- A session that has been open for a long time. -/
def sesOld : State := { ses up with ticks := 10 ^ 12 }

/-- Tile 5 was declared in the present clock. -/
def declaredUp : State := up.modTile 5 (fun x => { x with tileBad := true })

/-- The sweep of a capture in which pixel 330 did not light. -/
def sweepNode (known : Bool) : State :=
  { up with diag := { up.diag with
      sweeping := true, captVledOk := true, capture := [(330, 3)], cand := if known then [(330, 2)] else [] } }

/-- An arm that waits for fence 31 with TIMEOUT 1 and ACTION 0. -/
def fenceArm0 : Arm := { fenceArm with desc := { actTo := 0x001 } }

/-- Layer 7 of Main has the arm `a` at a compose point. -/
def fenceDue (a : Arm) : State :=
  { bufFull.modEng .main (fun x => x.modLayer 7 (fun l => { l with arm := some a })) with
    scan := { up.scan with strokeInFrame := 5, nfAct := 7, leadAct := 2 } }

/-- Main has passed its test while both engines are lost. -/
def mainPassed : State :=
  (mainHealth { role := .failed, testResult := 1 }).modEng .fore (fun x => { x with health := { x.health with role := .permFailed } })

/-- D0 is LOCKED with its last SYNC used at tick 0, at tick `t`. -/
def lockedDom (t : Nat) : State := { dom0 { dstate := .locked, syncAt := some 0 } up with ticks := t }

/-- The directory entry of a verified record `id`. -/
def recEnt (id : Nat) : DirEntry := { recId := id, offset := 0x60000, length := 0x100, verified := true }

/-- Record `id` with payload `bs`. -/
def recBytes (id : Nat) (bs : List Byte) : List Byte :=
  withCrc32c (natBytes 4 0x524E5053 ++ natBytes 4 id ++ natBytes 4 bs.length ++ natBytes 4 1 ++ bs)

/-- External memory holds that record, and does the work `k`. -/
def recUp (k : XKind) (id : Nat) (bs : List Byte) : State :=
  { up with xmem := { memUp.xmem with
      busy := some k
      dir := recEnt id :: memUp.xmem.dir
      cs0 := { memUp.xmem.cs0 with bytes := Sys2Proof.Machine.memWrite 0xFF [] 0x60000 (recBytes id bs) } } }

/-- A self-test in which tile 3 stays on, tile 4 fails its switch test and pixel 330 does not light. -/
def testsBad : SelfTestEnv :=
  { quietTests with stuck := [(3, 5000)], test := [(4, 10)], nodes := [[{ pixel := 330, mv := 4200, probeLost := true }]] }

/-- A receiver in step with the transmitter of a lane after reset. -/
def rxSync : RxLine := { scr := ({} : TxLane).scr, got := 58 }

/-- Both lanes of H0 are in step with such transmitters and deskewed, a while after its state was entered. -/
def heard (s : State) : State :=
  { s with
    ticks := s.ticks + 5
    h0 := { s.h0 with
      rx0 := { s.h0.rx0 with signal := true, line := rxSync, deskewed := true }
      rx1 := { s.h0.rx1 with signal := true, line := rxSync, deskewed := true } } }

/-- The line bits that such a transmitter sends for `ws`. -/
def lineOf (ws : List Word) : List Bool := (ws.foldl putLine {}).line.reverse

/-- A status LCW that is valid. -/
def lcwGood : Word := withCrc8 0x5A000000

/-- H0 with lane 0 alone. -/
def oneLane (q : List Packet) : State :=
  let s := heard (linkUp q)
  { s with h0 := { s.h0 with rx1 := {}, txLanes := 1, rxLanes := 1 } }

/-- A buffer that `k` completes. -/
def layerLast (k : Packet) : State :=
  { linkUp [k] with store := (withBuf { state := .loading, format := 0, w := 2, h := 2, pages := 1, size := 8 }).store }

/-- A write-once block of Keep is locked. -/
def keepLocked : State := ses { up with keep := { up.keep with lock := 2 ^ 5 } }

/-- One entry of Keep's log waits for the LOG region, and the flush runs. -/
def flushUp : State :=
  let s := busyUp .logFlush memUp
  { s with
    log := { s.log with head := 4, lseq := 5 }
    keep := { s.keep with bytes := Sys2Proof.Machine.memWrite 0 [] (ringAt 3) (entryBytes { logRec with w0 := 0x40000002 } 5) }
    xmem := { s.xmem with dir := { recId := 0x6000, region := true, offset := 0x70000, length := 0x1000 } :: s.xmem.dir } }

/-- Buffer 3 loads from record 0x3000. -/
def recordLoad : State :=
  { recUp (.layerLoad 3 0x3000 0) 0x3000 [1, 2, 3, 4, 5, 6, 7, 8] with
    store := (withBuf { state := .loading, format := 0, w := 2, h := 2, pages := 1, size := 8, source := 1 }).store }

/-- A scrub pass of a directory with one record. -/
def scrubOne : State :=
  let s := recUp .scrub 0x1000 [1, 2, 3, 4]
  { s with xmem := { s.xmem with dir := [recEnt 0x1000] } }

/-- The dead map waits for its write, or is being written. -/
def deadUp (b : Option XKind) : State :=
  { memUp with
    diag := { up.diag with mapDirty := true }
    xmem := { memUp.xmem with busy := b, queue := if b.isNone then [.deadmap] else [] } }

/-- Legacy video has the header and pixels of row `row` and of a lane in step. -/
def rowUp (row : Nat) (f : Legacy → Legacy) : State :=
  let s := heard (legacyUp f)
  { s with h0 := { s.h0 with rxWords := withCrc8 (put 24 0xC5 ||| put 8 row) :: rowWords } }

/-- The trailer of that row. -/
def rowTrailer : Word := 2774625421

/-- The running CRC-32 of a message, each value worked out before the next byte. -/
def crcRun (l : List Byte) : Nat → Nat :=
  l.foldr (fun b k a => match a with
    | 0 => k (crcByte crc32P 0 b)
    | n + 1 => k (crcByte crc32P (n + 1) b)) id

theorem crcRun_eq (l : List Byte) (a : Nat) : crcRun l a = l.foldl (crcByte crc32P) a := by
  induction l generalizing a with
  | nil => rfl
  | cons b l ih => cases a <;> exact ih _

/-- It is the CRC-32 of the row's bytes. -/
theorem row_crc : crc32 (wordsBytes rowWords) = 2774625421 := by
  rw [crc32, crc, ← crcRun_eq]
  decide +kernel

/-- A flip instant that is a compose point: LEAD is not below NF. -/
def flipLate : State := { flipUp with scan := { flipUp.scan with ctrl := 0x7072 } }

/-- A profile that moves up to its targets, a committed one. -/
def moving : State :=
  { up with
    therm := { up.therm with globTgt := 65536, tileTgt := [] }
    bstay := { up.bstay with ceilTgt := [(0, 100)], zlimTgt := [(0, 9000)], commitCeil := [(7, 3)], commitZlim := [(7, 50)], commitPend := true }
    engA := { up.engA with lp := { up.engA.lp with freshStart := false, deepExit := false, rGlobAct := 60000, bAct := 10, bTgt := 5000, rTileAct := [(9, 60000)] } } }

/-- One that moves down. -/
def movingBack : State :=
  { moving with
    therm := { up.therm with globTgt := 3000, tileTgt := [(9, 200)] }
    bstay := { up.bstay with ceilAct := [(0, 100), (7, 1)], ceilPrev := [(0, 100), (7, 1)], zlimAct := [(0, 9000), (7, 5)] }
    engA := { moving.engA with lp := { moving.engA.lp with bAct := 9000 } } }

/-- An arm that is ready. -/
def readyArm : Arm := { desc := {}, buf := 3 }

/-- Layer 7 has it. -/
def withReady : State := withLayer 7 { arm := some readyArm } bufFull

/-- The verdicts at a compose point: `n` compose points without a post, and the hardware's word 0 is the frame's or not. -/
def verdictUp (n : Nat) (posted : Bool) : State :=
  { up with bstay := { up.bstay with
      firstCompose := false, verdMissing := n, verdPosted := posted, verdHw := if n = 0 then [0, 0, 0] else [1, 0, 0] } }

/-- SET_CLASS HIGH with session 7. -/
def clsPkt : Packet := { cmdPkt 0x31 [3] with hw1 := 0x31000007 }

/-- The compose point of the frame in hand has passed, in full, and the last flip instant is now. -/
def flipPast : State :=
  { syncedUp with
    scan := { up.scan with strokeInFrame := 7, leadAct := 5, nfAct := 7, inGap := true } }
theorem witness_SetLightActsOnBeam :
    (∃ (c : CmdCtx) (w : Word) (s : State), within w 3 = true ∧ fastReady 48 c [w] s = true ∧ inSession c s = true ∧
      normalRefused s = false) ∧
    (∃ (c : CmdCtx) (w : Word) (s : State), within w 3 = true ∧ fastReady 48 c [w] s = true ∧ deep s.pwr.pstate = false) ∧
    (∃ (c : CmdCtx) (w : Word) (s : State), within w 3 = true ∧ fastReady 48 c [w] s = true ∧ inSession c s = false) ∧
    (∃ (c : CmdCtx) (w : Word) (s : State), within w 3 = true ∧ fastReady 48 c [w] s = true ∧ inSession c s = true ∧
      (s.bstay.safeNLevel = false ∨ estate s = 3 ∨ s.pwr.pstate ≠ PState.s0 ∨ lightHeld s = true)) :=
  ⟨⟨ctxS, (3 : Word), ses up, by decide +kernel⟩,
   ⟨ctx, (3 : Word), up, by decide +kernel⟩,
   ⟨ctx, (3 : Word), up, by decide +kernel⟩,
   ⟨ctxS, (3 : Word), upSafeLow, by decide +kernel⟩⟩

theorem witness_BeamDimensionCommandsSetTargets :
    (∃ (c : CmdCtx) (w : Word) (s : State), slowReady 49 c [w] s = true ∧ within w 3 = true ∧ s.bstay.beam = Beam.normal)
      ∧
    (∃ (c : CmdCtx) (ws : List Word) (s : State), slowReady 50 c (stamp 31 1 1 ws) s = true ∧ ceilingOk (stamp 31 1 1 ws)
      = true) ∧
    (∃ (c : CmdCtx) (ws : List Word) (s : State), slowReady 50 c (stamp 31 1 0 ws) s = true ∧ ceilingOk (stamp 31 1 0 ws)
      = true) ∧
    (∃ (c : CmdCtx) (w : Word) (s : State), fastReady 51 c [w] s = true ∧ -64 ≤ signed 16 (bits w 16 16) ∧ signed 16 (bits
      w 16 16) ≤ 63 ∧ -128 ≤ signed 16 (bits w 0 16) ∧ signed 16 (bits w 0 16) ≤ 127) ∧
    (∃ (c : CmdCtx) (w : Word) (s : State), fastReady 53 c [w] s = true ∧ within w 1 = true ∧ blockOff 7 s = false ∧ (bit
      w 0 = true → s.bstay.cls = BClass.high ∧ s.bstay.beam ≠ Beam.trysail ∧ s.compat = false)) :=
  ⟨⟨ctxS, (1 : Word), ses up, by decide +kernel⟩,
   ⟨ctxS, [(0:Word), 0], ses up, by decide +kernel⟩,
   ⟨ctxS, [(0:Word), 0], ses up, by decide +kernel⟩,
   ⟨ctx, (1 : Word), ses up, by decide +kernel⟩,
   ⟨ctx, (1 : Word), upHigh, by decide +kernel⟩⟩

theorem witness_SteerInputAcceptedOrCounted :
    (∃ (c : CmdCtx) (w0 : Word) (w1 : Word) (s : State), fastReady 52 c [w0, w1] s = true ∧ within w1 65535 = true ∧ fails
      10 3 false s = false ∧ steerCrc w0 = bits w1 0 16 ∧ (signed 16 (bits w0 16 16)).natAbs ≤ 9000 ∧
      (s.bstay.steerFirst = true ∨ 1 ≤ (bits w0 0 16 + 65536 - s.bstay.steerSeq.toNat) % 65536 ∧ (bits w0 0 16 + 65536
      - s.bstay.steerSeq.toNat) % 65536 ≤ 32767)) ∧
    (∃ (c : CmdCtx) (w0 : Word) (w1 : Word) (s : State), fastReady 52 c [w0, w1] s = true ∧ within w1 65535 = true ∧ fails
      10 3 false s = false ∧ (steerCrc w0 ≠ bits w1 0 16 ∨ 9000 < (signed 16 (bits w0 16 16)).natAbs ∨
      s.bstay.steerFirst = false ∧ ((bits w0 0 16 + 65536 - s.bstay.steerSeq.toNat) % 65536 = 0 ∨ 32767 < (bits w0 0
      16 + 65536 - s.bstay.steerSeq.toNat) % 65536))) :=
  ⟨⟨ctx, (0x03E80001:Word), steerWord 0x03E80001, up, by decide +kernel⟩,
   ⟨ctx, (0x03E80001:Word), steerWord 0x03E80001, upSteer, by decide +kernel⟩⟩

theorem witness_BuffersAreLoadedFreedAndKept :
    (∃ (c : CmdCtx) (w0 : Word) (w1 : Word) (w2 : Word) (w3 : Word) (w4 : Word) (s : State), fastReady 33 c (stamp 31 1 0
      [w0, w1, w2, w3, w4]) s = true ∧ s.compat = false ∧ deep s.pwr.pstate = false ∧ within (setField w0 31 1 0)
      2467233855 = true ∧ within w1 1073692671 = true ∧ within w3 65535 = true ∧ loadCodesOk (setField w0 31 1 0) =
      true ∧ loadOk (stamp 31 1 0 [w0, w1, w2, w3, w4]) s = true ∧ bufInUse (bits (setField w0 31 1 0) 0 6) s = false
      ∧ pagesOf (bufSize (bits (setField w0 31 1 0) 16 4) (bits w1 0 14) (bits w1 16 14)) ≤ pagesFree s + (s.buf (bits
      (setField w0 31 1 0) 0 6)).pages) ∧
    (∃ (c : CmdCtx) (w0 : Word) (w1 : Word) (w2 : Word) (w3 : Word) (w4 : Word) (s : State), fastReady 33 c (stamp 31 1 1
      [w0, w1, w2, w3, w4]) s = true ∧ s.compat = false ∧ deep s.pwr.pstate = false ∧ within (setField w0 31 1 1)
      2467233855 = true ∧ within w1 1073692671 = true ∧ within w3 65535 = true ∧ loadCodesOk (setField w0 31 1 1) =
      true ∧ bufInUse (bits (setField w0 31 1 1) 0 6) s = false) ∧
    (∃ (c : CmdCtx) (w0 : Word) (w1 : Word) (w2 : Word) (w3 : Word) (w4 : Word) (s : State), fastReady 33 c (stamp 31 1 1
      [w0, w1, w2, w3, w4]) s = true ∧ s.compat = false ∧ deep s.pwr.pstate = false ∧ within (setField w0 31 1 1)
      2467233855 = true ∧ within w1 1073692671 = true ∧ within w3 65535 = true ∧ loadCodesOk (setField w0 31 1 1) =
      true ∧ bufInUse (bits (setField w0 31 1 1) 0 6) s = true ∧ loadOk (stamp 31 1 0 [w0, w1, w2, w3, w4]) s = true ∧
      within (setField w0 31 1 0) 2467233855 = true) :=
  ⟨⟨ctx, (3:Word), (0x00200040:Word), (0:Word), (0:Word), (0:Word), up, by decide +kernel⟩,
   ⟨ctx, (3:Word), (0x00200040:Word), (0:Word), (0:Word), (0:Word), up, by decide +kernel⟩,
   ⟨ctx, (3:Word), (0x00200040:Word), (0:Word), (0:Word), (0:Word), bufShown, by decide +kernel⟩⟩

theorem witness_LayersAreDefinedArmedAndFenced :
    (∃ (c : CmdCtx) (g0 : Word) (g1 : Word) (g2 : Word) (g3 : Word) (g4 : Word) (g5 : Word) (g6 : Word) (g7 : Word) (s :
      State), fastReady 32 c [g0, g1, g2, g3, g4, g5, g6, g7] s = true ∧ s.compat = false ∧ deep s.pwr.pstate = false
      ∧ within g0 7 = true ∧ within g1 lyrCtrlMask = true ∧ within g2 536813567 = true ∧ within g3 1073692671 = true ∧
      within g4 536813567 = true ∧ within g5 536813567 = true ∧ within g6 65535 = true ∧ within g7 4290772992 = true ∧
      lyrCtrlOk (curLayer (bits g0 0 3) s) g1 = true ∧ srcSizeOk g3 = true ∧ dstSizeOk g5 = true ∧ bits g7 30 2 ≠ 3) ∧
    (∃ (c : CmdCtx) (w0 : Word) (w1 : Word) (s : State), fastReady 34 c [w0, w1] s = true ∧ s.compat = false ∧ deep
      s.pwr.pstate = false ∧ within w0 2180071175 = true ∧ within w1 65535 = true ∧ ((s.buf (bits w0 8 6)).state =
      BufState.loading ∨ (s.buf (bits w0 8 6)).state = BufState.complete) ∧ ((s.buf (bits w0 8 6)).format == 8) =
      (curLayer (bits w0 0 3) s).staged.sprite ∧ ((curLayer (bits w0 0 3) s).staged.sprite = true ∨ armGeometryOk
      (curLayer (bits w0 0 3) s).staged (s.buf (bits w0 8 6)) = true)) ∧
    (∃ (c : CmdCtx) (w : Word) (s : State), fastReady 35 c [w] s = true ∧ s.compat = false ∧ deep s.pwr.pstate = false ∧
      within w 255 = true) ∧
    (∃ (c : CmdCtx) (w : Word) (s : State), fastReady 36 c [w] s = true ∧ s.compat = false ∧ deep s.pwr.pstate = false ∧
      within w 2097151 = true) ∧
    (∃ (c : CmdCtx) (w0 : Word) (rest : List Word) (s : State), fastReady 37 c (w0 :: rest) s = true ∧ s.compat = false ∧
      deep s.pwr.pstate = false ∧ within w0 7943 = true ∧ bits w0 8 5 = (pairs rest).length % 32 ∧ (pairs rest).length
      ≤ 32 ∧ (∀ p ∈ pairs rest, within p.1 4294942719 = true ∧ within p.2 536813567 = true ∧ bits p.1 0 8 < libSize
      (curLayer (bits w0 0 3) s) s) ∧ (curLayer (bits w0 0 3) s).staged.sprite = true) :=
  ⟨⟨ctx, (7:Word), (0x02800100:Word), (0x00100020:Word), (0x20002000:Word), (0x1FFF0001:Word), (0x01000200:Word),
      (0xFFFF:Word), (0x80400000:Word), up, by decide +kernel⟩,
   ⟨ctx, (0x81110300:Word), (5:Word), bufFull, by decide +kernel⟩,
   ⟨ctx, (0x55:Word), up, by decide +kernel⟩,
   ⟨ctx, (0x55:Word), up, by decide +kernel⟩,
   ⟨ctx, (0x0102:Word), [(0x00008000:Word), (0x00100010:Word)], bufSprites, by decide +kernel, by decide +kernel,
      by decide +kernel, by decide +kernel, by decide +kernel, by decide +kernel, placements_ok, by decide +kernel⟩⟩

theorem witness_WritebackConfiguresAndStops :
    (∃ (c : CmdCtx) (w : Word) (s : State), slowReady 38 c [w] s = true ∧ s.compat = false ∧ deep s.pwr.pstate = false ∧
      within w 4294967054 = true ∧ (bits w 2 2 = 1 ∨ bits w 2 2 = 2) ∧ bits w 8 8 ≠ bits w 16 8 ∧ bits w 8 8 < 64 ∧
      bits w 16 8 < 64 ∧ bufInUse (bits w 8 8) s = false ∧ bufInUse (bits w 16 8) s = false ∧ 2 * pagesOf (bufSize (if
      bit w 1 = true then 0 else 3) 1024 1024) ≤ pagesFree s + (s.buf (bits w 8 8)).pages + (s.buf (bits w 16
      8)).pages) ∧
    (∃ (c : CmdCtx) (w : Word) (s : State), slowReady 38 c [setField w 2 2 0] s = true ∧ s.compat = false ∧ deep
      s.pwr.pstate = false ∧ within w 4294967054 = true) :=
  ⟨⟨ctx, (0x003F0004:Word), up, by decide +kernel⟩,
   ⟨ctx, (0x003F0004:Word), up, by decide +kernel⟩⟩

theorem witness_CompositionRegisterReachesBothEngines :
    (∃ (src : RegSrc) (e : Eng) (v : Word) (s : State), regReady (engBlk e) src s = true ∧ fails (engBlk e) 1 false s =
      false ∧ s.compat = false ∧ bits v 24 8 ≠ 0) ∧
    (∃ (src : RegSrc) (e : Eng) (v : Word) (s : State), regReady (engBlk e) src s = true ∧ fails (engBlk e) 1 false s =
      false ∧ s.compat = false ∧ bits v 24 8 = 0) ∧
    (∃ (src : RegSrc) (e : Eng) (v : Word) (s : State), regReady (engBlk e) src s = true ∧ fails (engBlk e) 1 false s =
      false ∧ s.compat = false ∧ ∃ (n : Fin 8), lyrCtrlOk (curLayer (↑n) s) v = true) ∧
    (∃ (src : RegSrc) (e : Eng) (v : Word) (s : State), regReady (engBlk e) src s = true ∧ fails (engBlk e) 1 false s =
      false ∧ s.compat = false ∧ 1 ≤ bits v 0 14 ∧ bits v 0 14 ≤ 8192 ∧ 1 ≤ bits v 16 14 ∧ bits v 16 14 ≤ 8192) ∧
    (∃ (src : RegSrc) (e : Eng) (v : Word) (s : State), regReady (engBlk e) src s = true ∧ fails (engBlk e) 1 false s =
      false ∧ s.compat = false ∧ 1 ≤ bits v 0 13 ∧ 1 ≤ bits v 16 13) ∧
    (∃ (src : RegSrc) (e : Eng) (v : Word) (s : State), regReady (engBlk e) src s = true ∧ fails (engBlk e) 1 false s =
      false ∧ s.compat = false ∧ bits v 30 2 ≠ 3) ∧
    (∃ (src : RegSrc) (e : Eng) (v : Word) (s : State), regReady (engBlk e) src s = true ∧ fails (engBlk e) 1 false s =
      false ∧ s.compat = false ∧ ∃ (n : Fin 8), lyrCtrlOk (curLayer (↑n) s) v = false) ∧
    (∃ (src : RegSrc) (e : Eng) (v : Word) (s : State), regReady (engBlk e) src s = true ∧ fails (engBlk e) 1 false s =
      false ∧ s.compat = false ∧ (bits v 0 14 = 0 ∨ 8192 < bits v 0 14 ∨ bits v 16 14 = 0 ∨ 8192 < bits v 16 14)) ∧
    (∃ (src : RegSrc) (e : Eng) (v : Word) (s : State), regReady (engBlk e) src s = true ∧ fails (engBlk e) 1 false s =
      false ∧ s.compat = false ∧ (bits v 0 13 = 0 ∨ bits v 16 13 = 0)) ∧
    (∃ (src : RegSrc) (e : Eng) (v : Word) (s : State), regReady (engBlk e) src s = true ∧ fails (engBlk e) 1 false s =
      false ∧ s.compat = false ∧ bits v 30 2 = 3) ∧
    (∃ (src : RegSrc) (e : Eng) (s : State), regReady (engBlk e) src s = true ∧ fails (engBlk e) 1 false s = false ∧
      s.compat = true ∧ ∃ (off : BitVec 16), off.toNat % 4 = 0 ∧ (off.toNat < 32 ∨ 256 ≤ off.toNat ∧ off.toNat < 512 ∨
      4096 ≤ off.toNat ∧ off.toNat < 6144)) ∧
    (∃ (src : RegSrc) (e : Eng) (s : State), regReady (engBlk e) src s = true ∧ fails (engBlk e) 1 false s = false ∧ ∃
      (off : BitVec 16), off.toNat % 4 = 0 ∧ (32 ≤ off.toNat ∧ off.toNat < 256 ∨ 512 ≤ off.toNat ∧ off.toNat < 4096 ∨
      6144 ≤ off.toNat ∧ off.toNat < 32768)) :=
  ⟨⟨RegSrc.service, Eng.fore, (0x01000000:Word), up, by decide +kernel⟩,
   ⟨RegSrc.service, Eng.fore, 0x00FF0100, up, by decide +kernel⟩,
   ⟨RegSrc.service, Eng.fore, (0x01000000:Word), up, by decide +kernel, by decide +kernel, by decide +kernel, (2 : Fin 8),
      by decide +kernel⟩,
   ⟨RegSrc.service, Eng.fore, 0x00FF0100, up, by decide +kernel, by decide +kernel, by decide +kernel, by decide +kernel⟩,
   ⟨RegSrc.service, Eng.fore, 0x00FF0100, up, by decide +kernel, by decide +kernel, by decide +kernel, by decide +kernel⟩,
   ⟨RegSrc.service, Eng.fore, (0x01000000:Word), up, by decide +kernel, by decide +kernel, by decide +kernel,
      by decide +kernel⟩,
   ⟨RegSrc.service, Eng.fore, 0x00FFFFFF, up, by decide +kernel, by decide +kernel, by decide +kernel, (2 : Fin 8),
      by decide +kernel⟩,
   ⟨RegSrc.service, Eng.fore, (0x01000000:Word), up, by decide +kernel, by decide +kernel, by decide +kernel,
      by decide +kernel⟩,
   ⟨RegSrc.service, Eng.fore, (0x01000000:Word), up, by decide +kernel, by decide +kernel, by decide +kernel,
      by decide +kernel⟩,
   ⟨RegSrc.service, Eng.fore, 0xC0000000, up, by decide +kernel, by decide +kernel, by decide +kernel, by decide +kernel⟩,
   ⟨RegSrc.service, Eng.fore, upExt, by decide +kernel, by decide +kernel, by decide +kernel, 0x10, by decide +kernel⟩,
   ⟨RegSrc.service, Eng.fore, up, by decide +kernel, by decide +kernel, (0x7FFC : BitVec 16), by decide +kernel⟩⟩

theorem witness_StatusCommandsAnswer :
    (∃ (c : CmdCtx) (s : State) (ws : List Word), ws.length ≤ 16 ∧ fastReady 0 c ws s = true) ∧
    (∃ (c : CmdCtx) (s : State), fastReady 1 c [] s = true) ∧
    (∃ (c : CmdCtx) (s : State), fastReady 2 c [] s = true ∧ (evQueue c.port s).q = []) ∧
    (∃ (c : CmdCtx) (s : State), fastReady 2 c [] s = true ∧ ∃ (e : Event) (rest : List Event), (evQueue c.port s).q = e
      :: rest) :=
  ⟨⟨ctx, up, [], by decide +kernel⟩,
   ⟨ctx, up, by decide +kernel⟩,
   ⟨ctx, up, by decide +kernel⟩,
   ⟨ctx, upEvent, by decide +kernel, ({ code := 0x0801, sev := 1, words := [7] } : Event), ([] : List Event),
      by decide +kernel⟩⟩

theorem witness_SessionOpenDrawsChallenge :
    (∃ (c : CmdCtx) (s : State), fastReady 3 c [] s = true ∧ deep s.pwr.pstate = true) ∧
    (∃ (c : CmdCtx) (s : State), fastReady 3 c [] s = true ∧ deep s.pwr.pstate = false ∧ (s.cmd.sessOpen = true ∨
      s.cmd.proving = true) ∧ s.cmd.sessPort ≠ c.port) ∧
    (∃ (c : CmdCtx) (s : State), fastReady 3 c [] s = true ∧ deep s.pwr.pstate = false ∧ (s.cmd.sessOpen = false ∧
      s.cmd.proving = false ∨ s.cmd.sessPort = c.port) ∧ s.cmd.lockout = true) ∧
    (∃ (c : CmdCtx) (s : State), fastReady 3 c [] s = true ∧ deep s.pwr.pstate = false ∧ (s.cmd.sessOpen = false ∧
      s.cmd.proving = false ∨ s.cmd.sessPort = c.port) ∧ s.cmd.lockout = false) :=
  ⟨⟨ctx, inState .s2, by decide +kernel⟩,
   ⟨ctx, otherSession, by decide +kernel⟩,
   ⟨ctx, lockedOut, by decide +kernel⟩,
   ⟨ctx, up, by decide +kernel⟩⟩

theorem witness_SessionProveOpensOrFails :
    (∃ (c : CmdCtx) (ws : List Word) (s : State), slowReady 4 c ws s = true ∧ s.keep.lock.getLsbD 0 = true ∧ s.ticks -
      s.cmd.openedAt ≤ 250000000 ∧ wordsBytes ws = aesCmac (keepBytes 2048 16 s) (proofMessage s)) ∧
    (∃ (c : CmdCtx) (ws : List Word) (s : State), slowReady 4 c ws s = true ∧ (s.keep.lock.getLsbD 0 = false ∨ 250000000 <
      s.ticks - s.cmd.openedAt ∨ wordsBytes ws ≠ aesCmac (keepBytes 2048 16 s) (proofMessage s)) ∧ s.flt.length = 18) :=
  ⟨⟨ctxS, proofWords, proving 0 true, by decide +kernel⟩,
   ⟨ctxS, proofWords, proving 0 false, by decide +kernel⟩⟩

theorem witness_SessionEndsAndModeCommands :
    (∃ (s : State), s.cmd.sessOpen = true ∧ s.cmd.sessAt + s.cmd.idle.toNat * 250000 ≤ s.ticks) ∧
    (∃ (s : State), s.ticks < s.cmd.sessAt + s.cmd.idle.toNat * 250000) ∧
    (∃ (s : State), s.cmd.lockAt + 2500000000 ≤ s.ticks) ∧
    (∃ (s : State), s.ticks < s.cmd.lockAt + 2500000000) ∧
    (∃ (s : State) (c : CmdCtx), fastReady 5 c [] s = true ∧ s.mode.ifMode = IfMode.native) ∧
    (∃ (s : State) (c : CmdCtx), fastReady 5 c [] s = true ∧ s.mode.ifMode = IfMode.compatExt) ∧
    (∃ (s : State) (edges : ℕ) (ws : List Word), spiOn s = true ∧ s.mode.ifMode = IfMode.compatExt ∧ s.mode.forceNative =
      true ∧ 8 ≤ edges ∧ isTunnel (ws.getD 0 0) = true ∧ (clockOut (edges / 32 - 1) s).1.spi.replies = [] ∧ (clockOut
      (edges / 32 - 1) s).1.spi.out = []) ∧
    (∃ (s : State) (c : CmdCtx) (w : Word), fastReady 160 c [w] s = true ∧ within w 3 = true ∧ bits w 0 2 ≠ 3 ∧ (s.h0.role
      = PRole.follower ∨ s.compat = true) ∧ bits w 0 2 ≠ 0) ∧
    (∃ (s : State) (c : CmdCtx) (w : Word), fastReady 160 c [w] s = true ∧ within w 3 = true ∧ bits w 0 2 ≠ 3 ∧ (s.compat
      = false ∧ s.h0.role ≠ PRole.follower ∨ bits w 0 2 = 0) ∧ fwdRole (bits w 0 2) ≠ roleAsked s) ∧
    (∃ (s : State) (c : CmdCtx) (w : Word), fastReady 160 c [w] s = true ∧ within w 3 = true ∧ bits w 0 2 ≠ 3 ∧ (s.compat
      = false ∧ s.h0.role ≠ PRole.follower ∨ bits w 0 2 = 0) ∧ fwdRole (bits w 0 2) = roleAsked s) :=
  ⟨⟨sesOld, by decide +kernel⟩,
   ⟨up, by decide +kernel⟩,
   ⟨sesOld, by decide +kernel⟩,
   ⟨up, by decide +kernel⟩,
   ⟨up, ctx, by decide +kernel⟩,
   ⟨upExt, ctx, by decide +kernel⟩,
   ⟨nativeMarked, (64:Nat), [tunnelHeader 3], by decide +kernel⟩,
   ⟨upExt, ctx, 2, by decide +kernel⟩,
   ⟨up, ctx, 2, by decide +kernel⟩,
   ⟨up, ctx, (0 : Word), by decide +kernel⟩⟩

theorem witness_RegisterAccessesAreChecked :
    (∃ (c : CmdCtx) (ws : List Word) (s : State), fastReady 16 c ws s = true) ∧
    (∃ (c : CmdCtx) (ws : List Word) (s : State), fastReady 17 c ws s = true) ∧
    (∃ (a : Word), 17 < bits a 16 8 ∨ bits a 24 8 ≠ 0 ∨ bits a 0 2 ≠ 0) ∧
    (∃ (a : Word) (s : State), bits a 24 8 = 0 ∧ bits a 0 2 = 0 ∧ bits a 16 8 ≤ 17 ∧ blockOff (bits a 16 8) s = true) ∧
    (∃ (c : CmdCtx) (m : Word) (v : Word) (s : State), fastReady 18 c [4, m, v] s = true ∧ blockOff 0 s = false ∧ 10 ≤
      (BitVec.setWidth 16 (BitVec.setWidth 32 s.cmd.idle &&& ~~~m ||| v &&& m)).toNat ∧ (BitVec.setWidth 16
      (BitVec.setWidth 32 s.cmd.idle &&& ~~~m ||| v &&& m)).toNat ≤ 60000) ∧
    (∃ (c : CmdCtx) (m : Word) (v : Word) (s : State), fastReady 18 c [4, m, v] s = true ∧ blockOff 0 s = false ∧
      ((BitVec.setWidth 16 (BitVec.setWidth 32 s.cmd.idle &&& ~~~m ||| v &&& m)).toNat < 10 ∨ 60000 < (BitVec.setWidth
      16 (BitVec.setWidth 32 s.cmd.idle &&& ~~~m ||| v &&& m)).toNat)) ∧
    (∃ (src : RegSrc) (v : Word) (s : State), regReady 0 src s = true ∧ 10 ≤ bits v 0 16 ∧ bits v 0 16 ≤ 60000) ∧
    (∃ (src : RegSrc) (v : Word) (s : State), regReady 0 src s = true ∧ (bits v 0 16 < 10 ∨ 60000 < bits v 0 16)) :=
  ⟨⟨ctx, [(0x00000000:Word), 0x00120000], up, by decide +kernel⟩,
   ⟨ctx, [(0x00000000:Word), 0x00120000], up, by decide +kernel⟩,
   ⟨(0x00120000 : Word), by decide +kernel⟩,
   ⟨(0x00020000 : Word), up, by decide +kernel⟩,
   ⟨ctx, (0xFFFF : Word), (10:Word), up, by decide +kernel⟩,
   ⟨ctx, (0xFFFF : Word), 60001, up, by decide +kernel⟩,
   ⟨(RegSrc.port .spi), (10:Word), up, by decide +kernel⟩,
   ⟨(RegSrc.port .spi), 60001, up, by decide +kernel⟩⟩

theorem witness_TileControlKeepsCurrentLimit :
    (∃ (src : RegSrc) (t : Fin 256) (v : Word) (s : State), regReady 8 src s = true ∧ (s.tile ↑t).parityBad = false ∧
      fails 8 1 false s = false ∧ (s.compat = false ∨ bits v 4 2 = (s.tile ↑t).range.toNat ∧ bits v 8 8 = (s.tile
      ↑t).ttrim.toNat) ∧ 5 * (bits v 4 2 + 1) * (s.arr.gtrim.toNat + 128) * (bits v 8 8 + 384) ≤ 3200000) ∧
    (∃ (src : RegSrc) (t : Fin 256) (v : Word) (s : State), regReady 8 src s = true ∧ (s.tile ↑t).parityBad = false ∧
      fails 8 1 false s = false ∧ (s.compat = false ∨ bits v 4 2 = (s.tile ↑t).range.toNat ∧ bits v 8 8 = (s.tile
      ↑t).ttrim.toNat) ∧ 3200000 < 5 * (bits v 4 2 + 1) * (s.arr.gtrim.toNat + 128) * (bits v 8 8 + 384)) ∧
    (∃ (src : RegSrc) (t : Fin 256) (v : Word) (s : State), regReady 8 src s = true ∧ (s.tile ↑t).parityBad = false ∧
      fails 8 1 false s = false ∧ s.compat = true ∧ ¬(bits v 4 2 = (s.tile ↑t).range.toNat ∧ bits v 8 8 = (s.tile
      ↑t).ttrim.toNat)) ∧
    (∃ (src : RegSrc) (v : Word) (s : State), regReady 8 src s = true ∧ s.compat = false ∧ ∀ x ∈ s.arr.tiles, 5 *
      (x.range.toNat + 1) * (bits v 0 8 + 128) * (x.ttrim.toNat + 384) ≤ 3200000) ∧
    (∃ (src : RegSrc) (v : Word) (s : State), regReady 8 src s = true ∧ s.compat = false ∧ ∃ x ∈ s.arr.tiles, 3200000 < 5
      * (x.range.toNat + 1) * (bits v 0 8 + 128) * (x.ttrim.toNat + 384)) :=
  ⟨⟨(RegSrc.port .spi), (5 : Fin 256), (0xF131:Word), up, by decide +kernel⟩,
   ⟨(RegSrc.port .spi), (5 : Fin 256), (0xF231 : Word), up, by decide +kernel⟩,
   ⟨(RegSrc.port .spi), (5 : Fin 256), (0xF131:Word), upExt, by decide +kernel⟩,
   ⟨(RegSrc.port .spi), (0xF131:Word), up, by decide +kernel⟩,
   ⟨(RegSrc.port .spi), 0xB9, up, by decide +kernel⟩⟩

theorem witness_ArraySupplyIsMeasured :
    (∃ (t : Fin 256) (s : State), arrayOn s = true ∧ ((s.tile ↑t).swClosed = true ∨ (s.tile ↑t).swStuck = true)) ∧
    (∃ (die : ℕ) (sense : ℕ) (s : State), arrayOn s = true ∧ 2000 < sense ∧ distance sense die ≤ 250 ∧ 2900 ≤ sense ∧
      sense ≤ 4750) ∧
    (∃ (die : ℕ) (sense : ℕ) (s : State), arrayOn s = true ∧ 2000 < sense ∧ distance sense die ≤ 250 ∧ sense < 2900) :=
  ⟨⟨(5 : Fin 256), tileClosed, by decide +kernel⟩,
   ⟨4300, 4300, tileClosed, by decide +kernel⟩,
   ⟨2899, 2899, tileClosed, by decide +kernel⟩⟩

theorem witness_LightRegistersReachBothPipelines :
    (∃ (src : RegSrc) (e : Eng) (v : Word) (s : State), regReady (engBlk e) src s = true ∧ fails (engBlk e) 1 false s =
      false ∧ s.compat = false ∧ bits v 0 6 ≠ 0) ∧
    (∃ (src : RegSrc) (e : Eng) (s : State), regReady (engBlk e) src s = true ∧ fails (engBlk e) 1 false s = false ∧
      s.compat = true) ∧
    (∃ (src : RegSrc) (e : Eng) (v : Word) (s : State), regReady (engBlk e) src s = true ∧ fails (engBlk e) 1 false s =
      false ∧ s.compat = false ∧ bits v 0 6 = 0) ∧
    (∃ (src : RegSrc) (e : Eng) (v : Word) (s : State), regReady (engBlk e) src s = true ∧ fails (engBlk e) 1 false s =
      false ∧ 100 ≤ bits v 0 14 ∧ bits v 0 14 ≤ 8000) ∧
    (∃ (src : RegSrc) (e : Eng) (v : Word) (s : State), regReady (engBlk e) src s = true ∧ fails (engBlk e) 1 false s =
      false ∧ (bits v 0 14 < 100 ∨ 8000 < bits v 0 14)) ∧
    (∃ (src : RegSrc) (e : Eng) (v : Word) (s : State), regReady (engBlk e) src s = true ∧ fails (engBlk e) 1 false s =
      false ∧ 1 ≤ bits v 0 17 ∧ bits v 0 17 ≤ 65536) ∧
    (∃ (src : RegSrc) (e : Eng) (v : Word) (s : State), regReady (engBlk e) src s = true ∧ fails (engBlk e) 1 false s =
      false ∧ (bits v 0 17 = 0 ∨ 65536 < bits v 0 17)) :=
  ⟨⟨(RegSrc.port .spi), Eng.fore, (1:Word), up, by decide +kernel⟩,
   ⟨(RegSrc.port .spi), Eng.fore, upExt, by decide +kernel⟩,
   ⟨(RegSrc.port .spi), Eng.fore, 8000, up, by decide +kernel⟩,
   ⟨(RegSrc.port .spi), Eng.fore, 100, up, by decide +kernel⟩,
   ⟨(RegSrc.port .spi), Eng.fore, (1:Word), up, by decide +kernel⟩,
   ⟨(RegSrc.port .spi), Eng.fore, (1:Word), up, by decide +kernel⟩,
   ⟨(RegSrc.port .spi), Eng.fore, 0, up, by decide +kernel⟩⟩

theorem witness_DiagRunStartsItsTest :
    (∃ (c : CmdCtx) (w : Word) (s : State), lit s = true ∧ blockOff 9 s = false ∧ within w 65283 = true ∧ s.diag.runBusy =
      false ∧ fastReady 64 c [setField w 0 2 0, 0, 0] s = true) ∧
    (∃ (c : CmdCtx) (w : Word) (s : State), lit s = true ∧ blockOff 9 s = false ∧ within w 65283 = true ∧ s.diag.runBusy =
      false ∧ fastReady 64 c [setField w 0 2 1, 0, 0] s = true) ∧
    (∃ (c : CmdCtx) (w : Word) (s : State), lit s = true ∧ blockOff 9 s = false ∧ within w 65283 = true ∧ s.diag.runBusy =
      false ∧ fastReady 64 c [setField w 0 2 2, 0, 0] s = true ∧ declaredNow (bits w 8 8) s = true) ∧
    (∃ (c : CmdCtx) (w : Word) (s : State), lit s = true ∧ blockOff 9 s = false ∧ within w 65283 = true ∧ s.diag.runBusy =
      false ∧ fastReady 64 c [setField w 0 2 2, 0, 0] s = true ∧ declaredNow (bits w 8 8) s = false) ∧
    (∃ (c : CmdCtx) (w : Word) (w1 : Word) (w2 : Word) (s : State), lit s = true ∧ blockOff 9 s = false ∧ within w 65283 =
      true ∧ s.diag.runBusy = false ∧ fastReady 64 c [setField w 0 2 3, w1, w2] s = true ∧ within w1 67044351 = true ∧
      within w2 67044351 = true ∧ bits w1 0 10 ≤ bits w2 0 10 ∧ bits w1 16 10 ≤ bits w2 16 10) ∧
    (∃ (c : CmdCtx) (w : Word) (s : State), lit s = true ∧ blockOff 9 s = false ∧ within w 65283 = true ∧ s.diag.runBusy =
      true ∧ fastReady 64 c [setField w 0 2 0, 0, 0] s = true) ∧
    (∃ (c : CmdCtx) (w : Word) (s : State), lit s = false ∧ blockOff 9 s = false ∧ within w 65283 = true ∧ fastReady 64 c
      [setField w 0 2 0, 0, 0] s = true) ∧
    (∃ (c : CmdCtx) (w : Word) (s : State), fastReady 65 c [w] s = true ∧ within w 1023 = true ∧ blockOff 9 s = false) ∧
    (∃ (c : CmdCtx) (w : Word) (s : State), fastReady 65 c [w] s = true ∧ within w 1023 = true ∧ blockOff 9 s = true) ∧
    (∃ (src : RegSrc) (v : Word) (s : State), regReady 9 src s = true ∧ bits v 8 2 ≠ 3 ∧ (srcSession src s = true ∨
      s.diag.ctrl &&& 15 &&& ~~~v = 0)) ∧
    (∃ (src : RegSrc) (v : Word) (s : State), regReady 9 src s = true ∧ bits v 8 2 ≠ 3 ∧ srcSession src s = false ∧
      s.diag.ctrl &&& 15 &&& ~~~v ≠ 0) :=
  ⟨⟨ctx, (0x0503:Word), up, by decide +kernel⟩,
   ⟨ctx, (0x0503:Word), up, by decide +kernel⟩,
   ⟨ctx, (0x0503:Word), declaredUp, by decide +kernel⟩,
   ⟨ctx, (0x0503:Word), up, by decide +kernel⟩,
   ⟨ctx, (0x0503:Word), (0x00010002:Word), (0x03FF0002:Word), up, by decide +kernel⟩,
   ⟨ctx, (0x0503:Word), upDiagBusy, by decide +kernel⟩,
   ⟨ctx, (0x0503:Word), inState .s2, by decide +kernel⟩,
   ⟨ctx, 0x3FF, up, by decide +kernel⟩,
   ⟨ctx, 0x3FF, inState .s3, by decide +kernel⟩,
   ⟨(RegSrc.port .spi), 0xFFFFFCFF, up, by decide +kernel⟩,
   ⟨(RegSrc.port .spi), (0:Word), up, by decide +kernel⟩⟩

theorem witness_GapMeasurementsAreTaken :
    (∃ (rail : ℕ) (t : ℕ) (s : State), inFullGap s = true ∧ swtestOn s = true ∧ s.diag.bridgePhase = 0 ∧ s.diag.testTile =
      none ∧ s.diag.runBusy = false ∧ (testChoice s).1 = t ∧ (s.tile t).swClosed = true ∧ rail < vOff s) ∧
    (∃ (rail : ℕ) (t : ℕ) (s : State), inFullGap s = true ∧ swtestOn s = true ∧ s.diag.bridgePhase = 0 ∧ s.diag.testTile =
      none ∧ s.diag.runBusy = false ∧ (testChoice s).1 = t ∧ (s.tile t).swClosed = true ∧ vOff s ≤ rail ∧ (s.dtile
      t).retest = false) ∧
    (∃ (rail : ℕ) (t : ℕ) (s : State), inFullGap s = true ∧ swtestOn s = true ∧ s.diag.bridgePhase = 0 ∧ s.diag.testTile =
      none ∧ s.diag.runBusy = false ∧ (testChoice s).1 = t ∧ (s.tile t).swClosed = true ∧ vOff s ≤ rail ∧ (s.dtile
      t).retest = true) ∧
    (∃ (s : State), lit s = true ∧ s.scan.inGap = true ∧ s.diag.sweeping = false ∧ s.diag.bridgePhase = 0) ∧
    (∃ (s : State), lit s = true ∧ s.diag.sweeping = true ∧ s.diag.captLast = false ∧ (classifyOn s = false ∨
      s.diag.captVledOk = false)) ∧
    (∃ (s : State), lit s = true ∧ s.diag.sweeping = true ∧ s.diag.captLast = false ∧ ∃ (k : ℕ), classifyOn s = true ∧
      s.diag.captVledOk = true ∧ s.diag.captPhase = 0 ∧ s.diag.capture = [(k, 3)] ∧ (s.dtile (tileOfPix k)).exclCapt =
      false ∧ spGet s.diag.deadMap k 0 = 0 ∧ spGet s.diag.cand k 0 ≠ 2) ∧
    (∃ (s : State), lit s = true ∧ s.diag.sweeping = true ∧ s.diag.captLast = false ∧ ∃ (k : ℕ), classifyOn s = true ∧
      s.diag.captVledOk = true ∧ s.diag.captPhase = 0 ∧ s.diag.capture = [(k, 3)] ∧ (s.dtile (tileOfPix k)).exclCapt =
      false ∧ spGet s.diag.deadMap k 0 = 0 ∧ spGet s.diag.cand k 0 = 2) :=
  ⟨⟨999, 5, inGapUp, by decide +kernel⟩,
   ⟨1000, 5, inGapUp, by decide +kernel⟩,
   ⟨1000, 5, inGapRetest, by decide +kernel⟩,
   ⟨inGapUp, by decide +kernel⟩,
   ⟨sweepingUp, by decide +kernel⟩,
   ⟨sweepNode false, by decide +kernel, by decide +kernel, by decide +kernel, (330 : Nat), by decide +kernel⟩,
   ⟨sweepNode true, by decide +kernel, by decide +kernel, by decide +kernel, (330 : Nat), by decide +kernel⟩⟩

theorem witness_CheckUnitControl :
    (∃ (src : RegSrc) (u : Fin 4) (s : State), regReady 11 src s = true ∧ unitDenied src ↑u = false ∧ (s.crcUnit
      ↑u).active = true ∧ (s.crcUnit ↑u).inFifo = [] ∧ (s.crcUnit ↑u).mode = 0 ∧ s.crcu.units.length = 4) ∧
    (∃ (src : RegSrc) (u : Fin 4) (v : Word) (s : State), regReady 11 src s = true ∧ unitDenied src ↑u = false ∧ ctrlBad v
      = false ∧ (s.crcUnit ↑u).active = false) ∧
    (∃ (src : RegSrc) (u : Fin 4) (v : Word) (s : State), regReady 11 src s = true ∧ unitDenied src ↑u = false ∧ ctrlBad v
      = false ∧ (s.crcUnit ↑u).active = true ∧ ctrlSame (s.crcUnit ↑u) v = true) ∧
    (∃ (src : RegSrc) (u : Fin 4) (v : Word) (s : State), regReady 11 src s = true ∧ unitDenied src ↑u = false ∧ ctrlBad v
      = false ∧ (s.crcUnit ↑u).active = true ∧ ctrlSame (s.crcUnit ↑u) v = false) :=
  ⟨⟨(RegSrc.port .spi), (2 : Fin 4), unit2 { active := true, run := 0x12345678 }, by decide +kernel⟩,
   ⟨(RegSrc.port .spi), (2 : Fin 4), (0x00320320 : Word), up, by decide +kernel⟩,
   ⟨(RegSrc.port .spi), (2 : Fin 4), (0x00320320 : Word), unit2 {active := true, mode := 2}, by decide +kernel⟩,
   ⟨(RegSrc.port .spi), (2 : Fin 4), (0x00320320 : Word), unit2 { active := true, run := 0x12345678 }, by decide +kernel⟩⟩

theorem witness_CheckUnitData :
    (∃ (u : Fin 4) (s : State), s.crcu.units.length = 4 ∧ ∃ (src : RegSrc), regReady 11 src s = true ∧ unitDenied src ↑u =
      false ∧ (s.crcUnit ↑u).active = true ∧ (s.crcUnit ↑u).mode = 0 ∧ (s.crcUnit ↑u).inFifo = [] ∧ (s.crcUnit
      ↑u).finishing = false ∧ 1 ≤ (s.crcUnit ↑u).width ∧ (s.crcUnit ↑u).width ≤ 64) ∧
    (∃ (u : Fin 4) (s : State), s.crcu.units.length = 4 ∧ ∃ (src : RegSrc), regReady 11 src s = true ∧ (s.crcUnit
      ↑u).outFifo.length < 4) ∧
    (∃ (u : Fin 4) (s : State), s.crcu.units.length = 4 ∧ ∃ (src : RegSrc), regReady 11 src s = true ∧ 4 ≤ (s.crcUnit
      ↑u).outFifo.length ∧ (s.crcUnit ↑u).inFifo = [] ∧ (s.crcUnit ↑u).finishing = false) :=
  ⟨⟨(2 : Fin 4), unit2 { active := true, run := 0xFFFFFFFF, outFifo := [1,2,3,4,5] }, by decide +kernel, (RegSrc.port .spi),
      by decide +kernel⟩,
   ⟨(2 : Fin 4), up, by decide +kernel, (RegSrc.port .spi), by decide +kernel⟩,
   ⟨(2 : Fin 4), unit2 { active := true, run := 0xFFFFFFFF, outFifo := [1,2,3,4,5] }, by decide +kernel, (RegSrc.port .spi),
      by decide +kernel⟩⟩

theorem witness_CheckUnitVerdicts :
    (∃ (u : Fin 4) (s : State), blockOff 11 s = false ∧ s.crcu.units.length = 4 ∧ (s.crcUnit ↑u).active = true ∧
      (s.crcUnit ↑u).mode = 2 ∧ (s.crcUnit ↑u).count.toNat = (s.crcUnit ↑u).len.toNat ∧ checkLen (s.crcUnit ↑u) ≤
      (s.crcUnit ↑u).len.toNat) ∧
    (∃ (s : State), blockOff 11 s = false ∧ fails 11 0 false s = false) :=
  ⟨⟨(2 : Fin 4), unit2 { active := true, mode := 2, len := 4, count := 4, strip := [0,0,0,0], run := 0xFFFFFFFF },
      by decide +kernel⟩,
   ⟨up, by decide +kernel⟩⟩

theorem witness_StrokesAndGapsAreCounted :
    (∃ (s : State), strokesRun s = true ∧ s.scan.inGap = false ∧ s.scan.strokeInFrame ≠ 0 ∧ (leadNow s = nfNow s ∨
      s.scan.strokeInFrame ≠ nfNow s - leadNow s)) ∧
    (∃ (s : State), strokesRun s = true ∧ s.scan.inGap = false ∧ s.scan.strokeInFrame ≠ 0 ∧ leadNow s < nfNow s ∧
      s.scan.strokeInFrame = nfNow s - leadNow s) ∧
    (∃ (bad : Bool) (s : State), (s.pwr.pstate = PState.s0 ∨ s.pwr.pstate = PState.s1) ∧ s.mode.ifMode ≠ IfMode.compat ∧
      (composePoint bad s).scan.gaplessSmp = true) ∧
    (∃ (s : State), (s.pwr.pstate = PState.s0 ∨ s.pwr.pstate = PState.s1) ∧ s.mode.ifMode ≠ IfMode.compat ∧ s.pwr.pstate =
      PState.s0) :=
  ⟨⟨scanUp { strokeInFrame := 1, leadAct := 0 }, by decide +kernel⟩,
   ⟨scanUp { strokeInFrame := 5, nfAct := 7, leadAct := 2 }, by decide +kernel⟩,
   ⟨true, { up with scan := { up.scan with ctrl := 0x107072 }, bstay := { up.bstay with cls := .high } }, by decide +kernel⟩,
   ⟨up, by decide +kernel⟩⟩

theorem witness_FlipShowsTheWholeFrame :
    (∃ (s : State), strokesRun s = true ∧ flipDue s = true ∧ s.compat = false ∧ bits s.scan.ctrl 12 5 < bits s.scan.ctrl 4
      5) ∧
    (∃ (s : State), strokesRun s = true ∧ flipDue s = true ∧ s.compat = false ∧ bits s.scan.ctrl 4 5 ≤ bits s.scan.ctrl 12
      5) ∧
    (∃ (bad : Bool) (s : State), s.pwr.pstate = PState.s0 ∧ fails 10 6 bad s = false ∧ s.bstay.discarded = false ∧
      s.bstay.commitPend = false) ∧
    (∃ (bad : Bool) (s : State), s.pwr.pstate = PState.s0 ∧ fails 10 6 bad s = false ∧ s.bstay.discarded = false ∧
      s.bstay.commitPend = true) ∧
    (∃ (bad : Bool) (s : State), s.pwr.pstate = PState.s0 ∧ fails 10 6 bad s = false ∧ s.bstay.discarded = false ∧ ∃ (k :
      Fin 1024), spGet s.bstay.ceilAct (↑k) 0 < spGet (composePoint bad s).bstay.ceilTgt (↑k) 0) ∧
    (∃ (bad : Bool) (s : State), s.pwr.pstate = PState.s0 ∧ fails 10 6 bad s = false ∧ s.bstay.discarded = false ∧ ∃ (k :
      Fin 1024), spGet (composePoint bad s).bstay.ceilTgt (↑k) 0 ≤ spGet s.bstay.ceilAct (↑k) 0) ∧
    (∃ (bad : Bool) (s : State), s.pwr.pstate = PState.s0 ∧ fails 10 6 bad s = false ∧ s.bstay.discarded = false ∧ ∃ (k :
      Fin 1024), spGet (composePoint bad s).bstay.zlimTgt (↑k) 0 < spGet s.bstay.zlimAct (↑k) 0) ∧
    (∃ (bad : Bool) (s : State), s.pwr.pstate = PState.s0 ∧ fails 10 6 bad s = false ∧ s.bstay.discarded = false ∧ ∃ (k :
      Fin 1024), spGet s.bstay.zlimAct (↑k) 0 ≤ spGet (composePoint bad s).bstay.zlimTgt (↑k) 0) ∧
    (∃ (s : State), s.bstay.normalPend = true ∧ normalRefused s = true) ∧
    (∃ (s : State), s.bstay.normalPend = true ∧ normalRefused s = false) ∧
    (∃ (e : Eng) (s : State), (s.eng e).lp.freshStart = false ∧ (s.eng e).lp.deepExit = false ∧ (s.eng e).lp.rGlobAct <
      s.therm.globTgt) ∧
    (∃ (e : Eng) (s : State), (s.eng e).lp.freshStart = false ∧ (s.eng e).lp.deepExit = false ∧ s.therm.globTgt ≤ (s.eng
      e).lp.rGlobAct) ∧
    (∃ (e : Eng) (s : State), (s.eng e).lp.freshStart = false ∧ (s.eng e).lp.deepExit = false ∧ (s.eng e).lp.bAct < (s.eng
      e).lp.bTgt) ∧
    (∃ (e : Eng) (s : State), (s.eng e).lp.freshStart = false ∧ (s.eng e).lp.deepExit = false ∧ (s.eng e).lp.bTgt ≤ (s.eng
      e).lp.bAct) ∧
    (∃ (e : Eng) (s : State), (s.eng e).lp.freshStart = false ∧ (s.eng e).lp.deepExit = false ∧ ∃ (t : Fin 256), spGet
      (s.eng e).lp.rTileAct (↑t) 65536 < spGet s.therm.tileTgt (↑t) 65536) ∧
    (∃ (e : Eng) (s : State), (s.eng e).lp.freshStart = false ∧ (s.eng e).lp.deepExit = false ∧ ∃ (t : Fin 256), spGet
      s.therm.tileTgt (↑t) 65536 ≤ spGet (s.eng e).lp.rTileAct (↑t) 65536) ∧
    (∃ (e : Eng) (n : Fin 8) (a : Arm) (s : State), (s.eng e).comp.layers.length = 8 ∧ ((s.eng e).layer ↑n).arm = some a ∧
      armReady s a = true ∧ a.desc.group = 0 ∧ a.desc.wbSrc = false) ∧
    (∃ (s : State), s.bstay.firstCompose = false ∧ s.flt.length = 18 ∧ s.bstay.verdPosted = true ∧ s.bstay.verdHw ≠
      s.bstay.verdFw) ∧
    (∃ (s : State), s.bstay.firstCompose = false ∧ s.flt.length = 18 ∧ s.bstay.verdPosted = true ∧ s.bstay.verdHw =
      s.bstay.verdFw ∧ fails 10 4 false s = false) ∧
    (∃ (s : State), s.bstay.firstCompose = false ∧ s.flt.length = 18 ∧ s.bstay.verdPosted = false ∧ s.bstay.verdMissing =
      0) ∧
    (∃ (s : State), s.bstay.firstCompose = false ∧ s.flt.length = 18 ∧ s.bstay.verdPosted = false ∧ 1 ≤
      s.bstay.verdMissing) :=
  ⟨⟨flipUp, by decide +kernel⟩,
   ⟨flipLate, by decide +kernel⟩,
   ⟨false, flipUp, by decide +kernel⟩,
   ⟨false, moving, by decide +kernel⟩,
   ⟨false, moving, by decide +kernel, by decide +kernel, by decide +kernel, (0 : Fin 1024), by decide +kernel⟩,
   ⟨false, flipUp, by decide +kernel, by decide +kernel, by decide +kernel, (0 : Fin 1024), by decide +kernel⟩,
   ⟨false, movingBack, by decide +kernel, by decide +kernel, by decide +kernel, (0 : Fin 1024), by decide +kernel⟩,
   ⟨false, flipUp, by decide +kernel, by decide +kernel, by decide +kernel, (0 : Fin 1024), by decide +kernel⟩,
   ⟨{ inState .s1 with bstay := { up.bstay with normalPend := true } }, by decide +kernel⟩,
   ⟨{ upTry with bstay := { upTry.bstay with normalPend := true } }, by decide +kernel⟩,
   ⟨Eng.fore, moving, by decide +kernel⟩,
   ⟨Eng.fore, movingBack, by decide +kernel⟩,
   ⟨Eng.fore, moving, by decide +kernel⟩,
   ⟨Eng.fore, movingBack, by decide +kernel⟩,
   ⟨Eng.fore, moving, by decide +kernel, by decide +kernel, (9 : Fin 256), by decide +kernel⟩,
   ⟨Eng.fore, movingBack, by decide +kernel, by decide +kernel, (9 : Fin 256), by decide +kernel⟩,
   ⟨Eng.fore, (7 : Fin 8), readyArm, withReady, by decide +kernel⟩,
   ⟨verdictUp 1 true, by decide +kernel⟩,
   ⟨verdictUp 0 true, by decide +kernel⟩,
   ⟨verdictUp 0 false, by decide +kernel⟩,
   ⟨verdictUp 1 false, by decide +kernel⟩⟩

theorem witness_ScanControlIsCheckedOnReceipt :
    (∃ (src : RegSrc) (v : Word) (s : State), regReady 7 src s = true ∧ s.compat = false ∧ bits v 0 2 ≠ 3 ∧ 2 * 2 ^ bits v
      0 2 ≤ bits v 4 5 + 1 ∧ (bit v 20 = true → s.bstay.cls = BClass.high ∧ s.bstay.beam ≠ Beam.trysail)) ∧
    (∃ (src : RegSrc) (v : Word) (s : State), regReady 7 src s = true ∧ s.compat = false ∧ (bits v 0 2 = 3 ∨ bits v 4 5 +
      1 < 2 * 2 ^ bits v 0 2)) ∧
    (∃ (src : RegSrc) (v : Word) (s : State), regReady 7 src s = true ∧ s.compat = false ∧ bits v 0 2 ≠ 3 ∧ 2 * 2 ^ bits v
      0 2 ≤ bits v 4 5 + 1 ∧ bit v 20 = true ∧ (s.bstay.cls ≠ BClass.high ∨ s.bstay.beam = Beam.trysail)) ∧
    (∃ (src : RegSrc) (s : State), regReady 7 src s = true ∧ s.compat = true) ∧
    (∃ (s : State), s.compat = true ∧ blockOff 7 s = false) :=
  ⟨⟨(RegSrc.port .spi), (0x7072 : Word), up, by decide +kernel⟩,
   ⟨(RegSrc.port .spi), 0x03107032, up, by decide +kernel⟩,
   ⟨(RegSrc.port .spi), 0x00100010, up, by decide +kernel⟩,
   ⟨(RegSrc.port .spi), upExt, by decide +kernel⟩,
   ⟨upExt, by decide +kernel⟩⟩

theorem witness_RowsAndFencesComplete :
    (∃ (e : Eng) (s : State), rowsRun e s = true ∧ (s.win 4).inject.getLsbD 0 = false ∧ (s.win 4).inject.getLsbD 1 = false
      ∧ fails (engBlk e) 16 false s = false ∧ fails (engBlk e) 0 false s = false ∧ pairing s = none) ∧
    (∃ (e : Eng) (s : State), s.pwr.pstate = PState.s0 ∧ (s.eng e).job.active = true ∧ (s.eng e).job.rows = 1024 ∧ (s.eng
      e).job.ended = false ∧ (e ≠ composer s ∨ s.compat = true ∨ (s.eng e).comp.wbTarget = none)) ∧
    (∃ (e : Eng) (s : State), s.pwr.pstate = PState.s0 ∧ (s.eng e).job.active = true ∧ (s.eng e).job.rows = 1024 ∧ (s.eng
      e).job.ended = false ∧ ∃ (b : ℕ), e = composer s ∧ s.compat = false ∧ (s.eng e).comp.wbTarget = some b ∧ b <
      s.store.bufs.length ∧ wbTargetCode (s.eng e).comp ≠ 2) ∧
    (∃ (e : Eng) (n : Fin 8) (a : Arm) (s : State), composeDue s = true ∧ mayCompose e s = true ∧ s.compat = false ∧
      timeoutDue e (↑n) s = true ∧ ((s.eng e).layer ↑n).arm = some a ∧ dueMates e (↑n) s = [↑n] ∧ a.desc.action ≠ 0) ∧
    (∃ (e : Eng) (n : Fin 8) (a : Arm) (s : State), composeDue s = true ∧ mayCompose e s = true ∧ s.compat = false ∧
      timeoutDue e (↑n) s = true ∧ ((s.eng e).layer ↑n).arm = some a ∧ dueMates e (↑n) s = [↑n] ∧ a.desc.action = 0) ∧
    (∃ (e : Eng) (n : Fin 8) (s : State), composeDue s = false ∨ timeoutDue e (↑n) s = false) :=
  ⟨⟨Eng.fore, single (composing .fore 1023), by decide +kernel⟩,
   ⟨Eng.fore, single (composing .fore 1024), by decide +kernel⟩,
   ⟨Eng.fore, wbFrame, by decide +kernel, by decide +kernel, by decide +kernel, by decide +kernel, (3:Nat), by decide +kernel⟩,
   ⟨.main, (7 : Fin 8), fenceArm, fenceDue fenceArm, by decide +kernel⟩,
   ⟨.main, (7 : Fin 8), fenceArm0, fenceDue fenceArm0, by decide +kernel⟩,
   ⟨Eng.fore, (7 : Fin 8), fenceDue fenceArm, by decide +kernel⟩⟩

theorem witness_SegmentWritesAreCheckedAndNoted :
    (∃ (e : Eng) (g : Fin 16384) (s : State), mayWrite e s = true ∧ (s.eng e).job.active = true ∧ (s.eng e).dirty.contains
      ↑g = true ∧ ↑g / 16 < (s.eng e).job.rows ∧ writeTurn s.bstay.arb.overlap (s.eng e) ↑g = true ∧ fails 10 6 false
      s = false) ∧
    (∃ (g : Fin 16384) (s : State), s.bstay.tryOwns = true ∧ s.bstay.tryDirty.contains ↑g = true ∧ busClosed s = false ∧
      fails 10 6 false s = false ∧ fails 10 8 false s = false) ∧
    (∃ (cut : Bool) (s : State), cut = true ∨ busClosed s = true) :=
  ⟨⟨Eng.fore, (16383 : Fin 16384), segReady, by decide +kernel⟩,
   ⟨(16383 : Fin 16384), tryWrites, by decide +kernel⟩,
   ⟨true, segReady, by decide +kernel⟩⟩

theorem witness_SlpClampsAboveTheCeiling :
    (∃ (b : Bstay) (p : ℤ × ℤ) (x : Code), (b.ceilValid && b.cls != BClass.high && decide (0 ≤ p.1 ∧ p.1 < 1024 ∧ 0 ≤ p.2
      ∧ p.2 < 1024) && decide (p.2.toNat < spGet b.ceilAct p.1.toNat 0)) = true ∧ ((if b.cls = BClass.signal then 0
      else spGet b.zlimAct (32 * (p.2.toNat / 32) + p.1.toNat / 32) 0) * 64449 + 32767) / 65535 + x.c.toNat / 2 <
      x.c.toNat * x.d.toNat) ∧
    (∃ (b : Bstay) (p : ℤ × ℤ) (x : Code), (b.ceilValid && b.cls != BClass.high && decide (0 ≤ p.1 ∧ p.1 < 1024 ∧ 0 ≤ p.2
      ∧ p.2 < 1024) && decide (p.2.toNat < spGet b.ceilAct p.1.toNat 0)) = true ∧ x.c.toNat * x.d.toNat ≤ ((if b.cls =
      BClass.signal then 0 else spGet b.zlimAct (32 * (p.2.toNat / 32) + p.1.toNat / 32) 0) * 64449 + 32767) / 65535 +
      x.c.toNat / 2) ∧
    (∃ (b : Bstay) (p : ℤ × ℤ), (b.ceilValid && b.cls != BClass.high && decide (0 ≤ p.1 ∧ p.1 < 1024 ∧ 0 ≤ p.2 ∧ p.2 <
      1024) && decide (p.2.toNat < spGet b.ceilAct p.1.toNat 0)) = false) ∧
    (∃ (e : Eng) (g : Fin 16384) (s : State), mayWrite e s = true ∧ (s.eng e).job.active = true ∧ (s.eng e).dirty.contains
      ↑g = true ∧ ↑g / 16 < (s.eng e).job.rows ∧ writeTurn s.bstay.arb.overlap (s.eng e) ↑g = true ∧ fails 10 6 false
      s = false) ∧
    (∃ (g : Fin 16384) (s : State), s.bstay.tryOwns = true ∧ s.bstay.tryDirty.contains ↑g = true ∧ busClosed s = false ∧
      fails 10 6 false s = false ∧ fails 10 8 false s = false) :=
  ⟨⟨profile, ((0 : Int), (0:Int)), (⟨44, 1006⟩ : Code), by decide +kernel⟩,
   ⟨profile, ((0 : Int), (0:Int)), ⟨0,5⟩, by decide +kernel⟩,
   ⟨profile, (-1, 0), by decide +kernel⟩,
   ⟨Eng.fore, (16383 : Fin 16384), segReady, by decide +kernel⟩,
   ⟨(16383 : Fin 16384), tryWrites, by decide +kernel⟩⟩

theorem witness_HeartbeatLossSwitchesOver :
    (∃ (e : Eng) (q : BitVec 8) (p : BitVec 8) (s : State), supervised e s = true ∧ tokensForced e s = false ∧ errLine e s
      = false ∧ (s.eng e).health.hbWaiting = true ∧ (s.eng e).health.hbPrev = some p ∧ q = p + 1) ∧
    (∃ (e : Eng) (s : State), supervised Eng.fore s = true ∧ supervised Eng.main s = true ∧ NoErrorLine s ∧ (s.eng
      e).health.hbWaiting = true ∧ (s.eng e).health.hbMisses = 0 ∧ (s.eng (other e)).health.hbWaiting = false) ∧
    (∃ (a : Eng) (s : State), s.pwr.pstate = PState.s0 ∧ s.bstay.arb.s1Pend = false ∧ s.bstay.arb.undecided = false ∧
      activeEng s = some a ∧ (s.eng (other a)).health.role =
      Role.standby ∧ errLine Eng.fore s = false ∧ errLine Eng.main s = false ∧ (s.eng a).health.hbWaiting = true ∧
      (s.eng a).health.hbMisses = 1 ∧ (s.eng (other a)).health.hbWaiting = false) ∧
    (∃ (a : Eng) (s : State), s.pwr.pstate = PState.s0 ∧ s.bstay.arb.s1Pend = false ∧ s.bstay.arb.undecided = false ∧
      activeEng s = some a ∧ (s.eng (other a)).health.role =
      Role.standby ∧ errLine Eng.fore s = false ∧ errLine Eng.main s = false ∧ (s.eng (other a)).health.hbWaiting =
      true ∧ (s.eng (other a)).health.hbMisses = 1 ∧ (s.eng a).health.hbWaiting = false) :=
  ⟨⟨Eng.fore, (0 : BitVec 8), 255, beating 0, by decide +kernel⟩,
   ⟨Eng.fore, beating 0, by decide +kernel, by decide +kernel, by intro e; cases e <;> decide +kernel, by decide +kernel,
      by decide +kernel, by decide +kernel⟩,
   ⟨Eng.fore, beating 1, by decide +kernel⟩,
   ⟨Eng.fore, mainHealth { role := .standby, hbWaiting := true, hbMisses := 1 }, by decide +kernel⟩⟩

theorem witness_EngineErrorsAndUndecidedMismatch :
    (∃ (e : Eng) (s : State), blockOff (engBlk e) s = false ∧ fails (engBlk e) 0 false s = false ∧ fails (engBlk e) 1
      false s = false) ∧
    (∃ (a : Eng) (s : State), s.bstay.arb.undecided = true ∧ s.bstay.arb.undecidedAt + 4000 ≤ s.ticks ∧ s.pwr.pstate =
      PState.s0 ∧ activeEng s = some a ∧ (s.eng (other a)).health.role =
      Role.standby ∧ errLine Eng.fore s = false ∧ errLine Eng.main s = false) ∧
    (∃ (s : State), s.bstay.arb.undecided = true ∧ s.bstay.arb.undecidedAt + 4000 ≤ s.ticks ∧ s.pwr.pstate = PState.s1 ∧
      s.bstay.arb.s1Pend = false ∧ s.bstay.arb.planned = [] ∧ s.bstay.arb.recovery = []) ∧
    (∃ (s : State), s.bstay.arb.undecided = false ∨ s.ticks < s.bstay.arb.undecidedAt + 4000) :=
  ⟨⟨Eng.fore, up, by decide +kernel⟩,
   ⟨Eng.fore, late (arbUp {undecided := true} up), by decide +kernel⟩,
   ⟨late (arbUp {undecided := true} (inState .s1)), by decide +kernel⟩,
   ⟨up, by decide +kernel⟩⟩

theorem witness_SwitchOverAndResynchronisation :
    (∃ (a : Eng) (s : State), s.bstay.arb.handover = true ∧ s.bstay.arb.overlap = false ∧ activeEng s = some a) ∧
    (∃ (a : Eng) (s : State), s.bstay.arb.handover = true ∧ s.bstay.arb.overlap = true ∧ activeEng s = some a) ∧
    (∃ (e : Eng) (s : State), (s.eng e).health.role = Role.failed ∧ s.pwr.pstate = PState.s0 ∧ (s.eng e).health.step = 1 ∧
      tokensForced e s = false) ∧
    (∃ (e : Eng) (s : State), (s.eng e).health.role = Role.failed ∧ s.pwr.pstate = PState.s0 ∧ (s.eng e).health.step = 1 ∧
      (s.eng e).health.attempts < 2) ∧
    (∃ (e : Eng) (s : State), (s.eng e).health.role = Role.failed ∧ s.pwr.pstate = PState.s0 ∧ (s.eng e).health.step = 1 ∧
      2 ≤ (s.eng e).health.attempts) ∧
    (∃ (e : Eng) (s : State), (s.eng e).health.role = Role.failed ∧ s.pwr.pstate = PState.s0 ∧ (s.eng e).health.step = 2 ∧
      estate s ≠ 3) ∧
    (∃ (e : Eng) (s : State), (s.eng e).health.role = Role.failed ∧ s.pwr.pstate = PState.s0 ∧ (s.eng e).health.step = 2 ∧
      (s.eng e).health.attempts < 2) ∧
    (∃ (e : Eng) (s : State), (s.eng e).health.role = Role.failed ∧ s.pwr.pstate = PState.s0 ∧ (s.eng e).health.step = 2 ∧
      2 ≤ (s.eng e).health.attempts) ∧
    (∃ (e : Eng) (s : State), (s.eng e).health.role = Role.failed ∧ s.pwr.pstate = PState.s0 ∧ ∃ (a : Eng), (s.eng
      e).health.step = 3 ∧ activeEng s = some a) ∧
    (∃ (e : Eng) (s : State), (s.eng e).health.role ≠ Role.failed) :=
  ⟨⟨Eng.fore, arbUp {handover := true} (mainHealth {role := .failed, step := 0}), by decide +kernel⟩,
   ⟨Eng.fore, arbUp {handover := true, overlap := true} (mainHealth {role := .failed, step := 0}), by decide +kernel⟩,
   ⟨.main, mainHealth {role := .failed, step := 1, resetErr := true}, by decide +kernel⟩,
   ⟨.main, mainHealth {role := .failed, step := 1, resetErr := true}, by decide +kernel⟩,
   ⟨.main, mainHealth {role := .failed, step := 1, attempts := 2}, by decide +kernel⟩,
   ⟨.main, mainHealth {role := .failed, step := 2}, by decide +kernel⟩,
   ⟨.main, mainHealth {role := .failed, step := 2}, by decide +kernel⟩,
   ⟨.main, mainHealth {role := .failed, step := 2, attempts := 2}, by decide +kernel⟩,
   ⟨.main, mainHealth {role := .failed, step := 3}, by decide +kernel, by decide +kernel, Eng.fore, by decide +kernel⟩,
   ⟨Eng.fore, arbUp {handover := true} (mainHealth {role := .failed, step := 0}), by decide +kernel⟩⟩

theorem witness_EngineCommandsAct :
    (∃ (c : CmdCtx) (w : Word) (s : State), fastReady 144 c [w] s = true ∧ within w 1 = true ∧ s.pwr.pstate = PState.s0 ∧
      estate s ≤ 1 ∧ (s.eng (engOf (bit w 0))).health.role = Role.standby ∧ 16 ≤ (s.eng (engOf (bit w
      0))).health.matchRun) ∧
    (∃ (c : CmdCtx) (w : Word) (s : State), fastReady 144 c [w] s = true ∧ within w 1 = true ∧ s.pwr.pstate = PState.s0 ∧
      passedBoth (engOf (bit w 0)) s = true) ∧
    (∃ (c : CmdCtx) (w : Word) (s : State), fastReady 144 c [w] s = true ∧ within w 1 = true ∧ s.pwr.pstate = PState.s0 ∧
      estate s ≤ 1 ∧ (s.eng (engOf (bit w 0))).health.matchRun < 16) ∧
    (∃ (c : CmdCtx) (w : Word) (s : State), fastReady 144 c [w] s = true ∧ within w 1 = true ∧ s.pwr.pstate ≠ PState.s0) ∧
    (∃ (c : CmdCtx) (w : Word) (s : State), within w 259 = true ∧ fastReady 145 c [setField w 0 2 0] s = true ∧ blockOff 5
      s = false ∧ blockOff 6 s = false ∧ blockOff 10 s = false ∧ activeEng s ≠ none) ∧
    (∃ (c : CmdCtx) (w : Word) (s : State), within w 259 = true ∧ fastReady 145 c [setField w 0 2 0] s = true ∧ blockOff 5
      s = false ∧ blockOff 6 s = false ∧ blockOff 10 s = false ∧ activeEng s = none) ∧
    (∃ (c : CmdCtx) (w : Word) (s : State), within w 259 = true ∧ fastReady 145 c [setField w 0 2 0] s = true ∧ (blockOff
      5 s = true ∨ blockOff 6 s = true ∨ blockOff 10 s = true)) ∧
    (∃ (c : CmdCtx) (w : Word) (s : State), within w 259 = true ∧ fastReady 145 c [setField w 0 2 1] s = true ∧ inSession
      c s = false) ∧
    (∃ (c : CmdCtx) (w : Word) (s : State), within w 259 = true ∧ fastReady 145 c [setField w 0 2 1] s = true ∧ inSession
      c s = true ∧ ∀ (a : Eng), activeEng s = some a → (s.eng (other a)).health.role ≠ Role.standby) ∧
    (∃ (c : CmdCtx) (w : Word) (s : State), within w 259 = true ∧ fastReady 145 c [setField w 0 2 2] s = true ∧ inSession
      c s = false) ∧
    (∃ (c : CmdCtx) (w : Word) (s : State), within w 259 = true ∧ ∃ (a : Eng), fastReady 145 c [setField w 0 2 1] s = true
      ∧ inSession c s = true ∧ activeEng s = some a ∧ (s.eng (other a)).health.role = Role.standby) ∧
    (∃ (c : CmdCtx) (w : Word) (s : State), within w 259 = true ∧ fastReady 145 c [setField w 0 2 2] s = true ∧ inSession
      c s = true ∧ (s.eng (engOf (bit w 8))).health.role = Role.permFailed) ∧
    (∃ (c : CmdCtx) (w : Word) (s : State), within w 259 = true ∧ fastReady 145 c [setField w 0 2 2] s = true ∧ inSession
      c s = true ∧ (s.eng (engOf (bit w 8))).health.role ≠ Role.permFailed) :=
  ⟨⟨ctxS, (1:Word), ses (mainHealth {role := .standby, matchRun := 16}), by decide +kernel⟩,
   ⟨ctxS, (1:Word), ses mainPassed, by decide +kernel⟩,
   ⟨ctxS, (1:Word), ses up, by decide +kernel⟩,
   ⟨ctxS, (1:Word), ses (inState .s1), by decide +kernel⟩,
   ⟨ctx, (1:Word), up, by decide +kernel⟩,
   ⟨ctx, (1:Word), ses mainPassed, by decide +kernel⟩,
   ⟨ctx, (1:Word), ses (inState .s1), by decide +kernel⟩,
   ⟨ctx, (1:Word), up, by decide +kernel⟩,
   ⟨ctxS, (1:Word), ses (mainHealth {role := .permFailed}), by decide +kernel⟩,
   ⟨ctx, (1:Word), up, by decide +kernel⟩,
   ⟨ctxS, (1:Word), ses up, by decide +kernel, Eng.fore, by decide +kernel⟩,
   ⟨ctxS, (1:Word), ses mainPassed, by decide +kernel⟩,
   ⟨ctxS, (1:Word), ses up, by decide +kernel⟩⟩

theorem witness_TicksAdvanceBothCounters :
    (∃ (s : State), timeOn s = true ∧ ∀ w ∈ s.flt, w.force = 0) ∧
    (∃ (s : State), timeOn s = false ∧ ∀ w ∈ s.flt, w.force = 0) ∧
    (∃ (k : Bool) (s : State), timeOn s = true ∧ 0 < (s.dom k).inc.toNat) :=
  ⟨⟨up, by decide +kernel⟩,
   ⟨inState .s3, by decide +kernel⟩,
   ⟨true, up, by decide +kernel⟩⟩

theorem witness_TimeRegistersLatchAndAnchor :
    (∃ (src : RegSrc) (k : Bool) (s : State), regReady 3 src s = true ∧ (s.dom k).wrapAt ≠ some s.ticks) ∧
    (∃ (src : RegSrc) (k : Bool) (s : State), regReady 3 src s = true ∧ (s.dom k).wrapAt = some s.ticks) :=
  ⟨⟨(RegSrc.port .spi), true, up, by decide +kernel⟩,
   ⟨(RegSrc.port .spi), false, dom0 { wrapAt := some 0, wrapPend := true} up, by decide +kernel⟩⟩

theorem witness_TimeCommandsNeedSoftwareServo :
    (∃ (c : CmdCtx) (w0 : Word) (ns : Word) (frac : Word) (w3 : Word) (s : State), slowReady 80 c [w0, ns, frac, w3] s =
      true ∧ blockOff 3 s = false ∧ within w0 1 = true ∧ within w3 65535 = true ∧ softServo (bit w0 0) s = false) ∧
    (∃ (c : CmdCtx) (w0 : Word) (ns : Word) (frac : Word) (w3 : Word) (s : State), slowReady 80 c [w0, ns, frac, w3] s =
      true ∧ blockOff 3 s = false ∧ within w0 1 = true ∧ within w3 65535 = true ∧ softServo (bit w0 0) s = true ∧
      s.compat = false) ∧
    (∃ (w0 : Word) (w3 : Word) (s : State), s.mode.ifMode = IfMode.compat ∧ srcOn RegSrc.service s = true ∧ blockOff 3 s =
      false ∧ within w0 1 = true ∧ within w3 65535 = true) ∧
    (∃ (c : CmdCtx) (w0 : Word) (v : Word) (s : State), blockOff 3 s = false ∧ within (setField w0 8 2 0) 769 = true ∧
      fastReady 81 c [setField w0 8 2 0, v, 0] s = true ∧ softServo (bit (setField w0 8 2 0) 0) s = true) ∧
    (∃ (c : CmdCtx) (w0 : Word) (hi : Word) (lo : Word) (s : State), blockOff 3 s = false ∧ within (setField w0 8 2 1) 769
      = true ∧ fastReady 81 c [setField w0 8 2 1, hi, lo] s = true ∧ softServo (bit (setField w0 8 2 1) 0) s = true ∧
      distance (BitVec.toNat hi * 2 ^ 32 + BitVec.toNat lo) (4 * 2 ^ 32) * 1000000 ≤ 500 * (4 * 2 ^ 32)) ∧
    (∃ (c : CmdCtx) (w0 : Word) (hi : Word) (lo : Word) (s : State), blockOff 3 s = false ∧ within (setField w0 8 2 1) 769
      = true ∧ fastReady 81 c [setField w0 8 2 1, hi, lo] s = true ∧ softServo (bit (setField w0 8 2 1) 0) s = true ∧
      500 * (4 * 2 ^ 32) < distance (BitVec.toNat hi * 2 ^ 32 + BitVec.toNat lo) (4 * 2 ^ 32) * 1000000) :=
  ⟨⟨ctx, (0 : Word), (5 : Word), (6 : Word), (7 : Word), up, by decide +kernel⟩,
   ⟨ctx, (0 : Word), (5 : Word), (6 : Word), (7 : Word), softTime, by decide +kernel⟩,
   ⟨(0 : Word), (7 : Word), upCompat, by decide +kernel⟩,
   ⟨ctx, (0 : Word), (0x80000000 : Word), softTime, by decide +kernel⟩,
   ⟨ctx, (0 : Word), (4 : Word), (0x83126E : Word), softTime, by decide +kernel⟩,
   ⟨ctx, (0 : Word), (4 : Word), 0x83126F, softTime, by decide +kernel⟩⟩

theorem witness_PulsesCapturesAndTimedFlips :
    (∃ (c : CmdCtx) (w0 : Word) (w1 : Word) (w2 : Word) (w3 : Word) (w4 : Word) (s : State), blockOff 3 s = false ∧ within
      w2 65535 = true ∧ ∃ (m : ℕ), (m = 1 ∨ m = 2) ∧ within (setField w0 8 2 m) 769 = true ∧ fastReady 82 c [setField
      w0 8 2 m, w1, w2, w3, w4] s = true ∧ pulseBad m (time48 w1 w2) (BitVec.toNat w3) (BitVec.toNat w4) s = true) ∧
    (∃ (c : CmdCtx) (w0 : Word) (w1 : Word) (w2 : Word) (w3 : Word) (w4 : Word) (s : State), blockOff 3 s = false ∧ within
      w2 65535 = true ∧ ∃ (m : ℕ), (m = 1 ∨ m = 2) ∧ within (setField w0 8 2 m) 769 = true ∧ fastReady 82 c [setField
      w0 8 2 m, w1, w2, w3, w4] s = true ∧ pulseBad m (time48 w1 w2) (BitVec.toNat w3) (BitVec.toNat w4) s = false ∧
      (s.pulse (bit (setField w0 8 2 m) 0)).level = false) ∧
    (∃ (c : CmdCtx) (w0 : Word) (w1 : Word) (w2 : Word) (w3 : Word) (w4 : Word) (s : State), blockOff 3 s = false ∧ within
      w2 65535 = true ∧ ∃ (m : ℕ), (m = 1 ∨ m = 2) ∧ within (setField w0 8 2 m) 769 = true ∧ fastReady 82 c [setField
      w0 8 2 m, w1, w2, w3, w4] s = true ∧ pulseBad m (time48 w1 w2) (BitVec.toNat w3) (BitVec.toNat w4) s = false ∧
      (s.pulse (bit (setField w0 8 2 m) 0)).level = true) ∧
    (∃ (c : CmdCtx) (w0 : Word) (w1 : Word) (w2 : Word) (w3 : Word) (w4 : Word) (s : State), blockOff 3 s = false ∧ within
      w2 65535 = true ∧ within (setField w0 8 2 0) 769 = true ∧ fastReady 82 c [setField w0 8 2 0, w1, w2, w3, w4] s =
      true) ∧
    (∃ (o : Bool) (s : State), timeOn s = true ∧ (s.pulse o).level = false ∧ ((s.pulse o).mode = 2 ∨ (s.pulse o).mode = 1
      ∧ (s.pulse o).k = 0) ∧ ahead (riseAt (s.pulse o)) s ≤ 0) ∧
    (∃ (o : Bool) (s : State), timeOn s = true ∧ (s.pulse o).level = true ∧ ↑(s.pulse o).width.toNat * 2 ^ 32 ≤ (s.pulse
      o).high ∧ (s.pulse o).mode ≠ 1) ∧
    (∃ (o : Bool) (s : State), timeOn s = true ∧ (s.pulse o).level = true ∧ ↑(s.pulse o).width.toNat * 2 ^ 32 ≤ (s.pulse
      o).high ∧ (s.pulse o).mode = 1) ∧
    (∃ (o : Bool) (s : State), timeOn s = true ∧ (s.pulse o).level = true ∧ (s.pulse o).high < ↑(s.pulse o).width.toNat *
      2 ^ 32) ∧
    (∃ (s : State), timeOn s = true ∧ bit s.time.ctrl 17 = true ∧ s.time.tcaptLast = none) ∧
    (∃ (s : State), timeOn s = true ∧ bit s.time.ctrl 17 = true ∧ ∃ (l : ℕ), s.time.tcaptLast = some l ∧ s.ticks < l +
      250) ∧
    (∃ (c : CmdCtx) (w0 : Word) (w1 : Word) (s : State), fastReady 83 c [w0, w1] s = true ∧ blockOff 3 s = false ∧ within
      w1 65535 = true ∧ 2 ^ 32 < ahead (time48 w0 w1).toNat s) ∧
    (∃ (c : CmdCtx) (w0 : Word) (w1 : Word) (s : State), fastReady 83 c [w0, w1] s = true ∧ blockOff 3 s = false ∧ within
      w1 65535 = true ∧ ahead (time48 w0 w1).toNat s ≤ 2 ^ 32 ∧ s.time.wkSync = false) ∧
    (∃ (c : CmdCtx) (w0 : Word) (w1 : Word) (s : State), fastReady 83 c [w0, w1] s = true ∧ blockOff 3 s = false ∧ within
      w1 65535 = true ∧ ahead (time48 w0 w1).toNat s ≤ 2 ^ 32 ∧ after3 (time48 w0 w1).toNat s.scan.lastFlip3 ≤ 0) ∧
    (∃ (c : CmdCtx) (w0 : Word) (w1 : Word) (s : State), fastReady 83 c [w0, w1] s = true ∧ blockOff 3 s = false ∧ within
      w1 65535 = true ∧ ahead (time48 w0 w1).toNat s ≤ 2 ^ 32 ∧ composePassed s = true ∧ after3 (time48 w0 w1).toNat
      (nextFlip3 s) ≤ 0) ∧
    (∃ (c : CmdCtx) (w0 : Word) (w1 : Word) (s : State), fastReady 83 c [w0, w1] s = true ∧ blockOff 3 s = false ∧ within
      w1 65535 = true ∧ ahead (time48 w0 w1).toNat s ≤ 2 ^ 32 ∧ s.time.wkSync = true ∧ 0 < after3 (time48 w0 w1).toNat
      s.scan.lastFlip3 ∧ (composePassed s = false ∨ 0 < after3 (time48 w0 w1).toNat (nextFlip3 s))) :=
  ⟨⟨ctx, (1 : Word), (500:Word), (0:Word), (100:Word), 93, up, by decide +kernel, by decide +kernel, 2, by decide +kernel⟩,
   ⟨ctx, (1 : Word), (500:Word), (0:Word), (100:Word), (8:Word), up, by decide +kernel, by decide +kernel, (1:Nat),
      by decide +kernel⟩,
   ⟨ctx, 0, (500:Word), (0:Word), (100:Word), (8:Word), pulse0 {level := true, mode := 2}, by decide +kernel,
      by decide +kernel, (1:Nat), by decide +kernel⟩,
   ⟨ctx, (1 : Word), (500:Word), (0:Word), (100:Word), (8:Word), up, by decide +kernel⟩,
   ⟨false, pulse0 { mode := 1, width := 8 }, by decide +kernel⟩,
   ⟨false, pulse0 {mode := 2, level := true}, by decide +kernel⟩,
   ⟨false, pulse0 {mode := 1, level := true}, by decide +kernel⟩,
   ⟨false, pulse0 {mode := 1, level := true, width := 8}, by decide +kernel⟩,
   ⟨tcaptUp none, by decide +kernel⟩,
   ⟨tcaptUp (some 281474976709657), by decide +kernel, by decide +kernel, (281474976709657 : Nat), by decide +kernel⟩,
   ⟨ctx, 100, 1, up, by decide +kernel⟩,
   ⟨ctx, (0 : Word), (0:Word), up, by decide +kernel⟩,
   ⟨ctx, (0 : Word), (0:Word), up, by decide +kernel⟩,
   ⟨ctx, (0 : Word), (0:Word), flipPast, by decide +kernel⟩,
   ⟨ctx, (0 : Word), 1, flipPast, by decide +kernel⟩⟩

theorem witness_TimePacketsMeasureAndNotify :
    (∃ (p : HPort) (k : Packet) (s : State) (s1 : State), timeOn s = true ∧ takeRx p (isTime 1) s = some (k, s1)) ∧
    (∃ (p : HPort) (k : Packet) (s : State) (s1 : State), timeOn s = true ∧ takeRx p (isTime 2) s = some (k, s1) ∧ (s.dom
      k.domain).pdSeq = some k.mseq ∧ s.ticks ≤ (s.dom k.domain).pdAt + 2500000) ∧
    (∃ (p : HPort) (k : Packet) (s : State) (s1 : State), timeOn s = true ∧ takeRx p (isTime 0) s = some (k, s1) ∧ (s.dom
      k.domain).mpdValid = false) ∧
    (∃ (p : HPort) (k : Packet) (s : State) (s1 : State), timeOn s = true ∧ takeRx p (isTime 0) s = some (k, s1) ∧ (s.dom
      k.domain).mpdValid = true) ∧
    (∃ (p : HPort) (s : State), (s.hport p).state = PortState.active ∧ timeOn s = true ∧ portServes p false s = true ∧
      portServes p true s = false) ∧
    (∃ (s : State), s.h1.role = PRole.leader ∧ s.h1.state = PortState.active ∧ timeOn s = true) ∧
    (∃ (k : Bool) (at_ : ℕ) (s : State), timeOn s = true ∧ (s.dom k).dstate = DState.locked ∧ (s.dom k).syncAt = some at_
      ∧ at_ + bits s.time.syncCfg 16 16 * 250000 ≤ s.ticks ∧ ∀ x ∈ s.h0.rxq ++ s.h1.rxq, isTime 0 x = true → x.domain
      ≠ k) ∧
    (∃ (k : Bool) (at_ : ℕ) (s : State), timeOn s = true ∧ (s.dom k).dstate = DState.locked ∧ (s.dom k).syncAt = some at_
      ∧ s.ticks < at_ + bits s.time.syncCfg 16 16 * 250000) ∧
    (∃ (p : HPort) (k : Packet) (s : State) (s1 : State), timeOn s = true ∧ takeRx p (isTime 3) s = some (k, s1) ∧ ahead
      (wordsStamp (k.payload.getD 0 0) (k.payload.getD 1 0) / 256).toNat s < 0) ∧
    (∃ (p : HPort) (k : Packet) (s : State) (s1 : State), timeOn s = true ∧ takeRx p (isTime 3) s = some (k, s1) ∧ 0 ≤
      ahead (wordsStamp (k.payload.getD 0 0) (k.payload.getD 1 0) / 256).toNat s ∧ 3000 < after3 (wordsStamp
      (k.payload.getD 0 0) (k.payload.getD 1 0) / 256).toNat (nextFlip3 s) % ↑(nfNow s * p3 s) ∧ after3 (wordsStamp
      (k.payload.getD 0 0) (k.payload.getD 1 0) / 256).toNat (nextFlip3 s) % ↑(nfNow s * p3 s) < ↑(nfNow s * p3 s) -
      3000) ∧
    (∃ (p : HPort) (k : Packet) (s : State) (s1 : State), timeOn s = true ∧ takeRx p (isTime 3) s = some (k, s1) ∧ 0 ≤
      ahead (wordsStamp (k.payload.getD 0 0) (k.payload.getD 1 0) / 256).toNat s ∧ (after3 (wordsStamp (k.payload.getD
      0 0) (k.payload.getD 1 0) / 256).toNat (nextFlip3 s) % ↑(nfNow s * p3 s) ≤ 3000 ∨ ↑(nfNow s * p3 s) - 3000 ≤
      after3 (wordsStamp (k.payload.getD 0 0) (k.payload.getD 1 0) / 256).toNat (nextFlip3 s) % ↑(nfNow s * p3 s))) :=
  ⟨⟨HPort.p0, timeMsg 1 [], linkUp [timeMsg 1 []], linkUp [], by decide +kernel⟩,
   ⟨HPort.p0, timeMsg 2 [1,0,2,0], askedUp (linkUp [timeMsg 2 [1,0,2,0]]), askedUp (linkUp []), by decide +kernel⟩,
   ⟨HPort.p0, timeMsg 0 [1,0,0], linkUp [timeMsg 0 [1,0,0]], linkUp [], by decide +kernel⟩,
   ⟨HPort.p0, timeMsg 0 [1,0,0], delayKnown (linkUp [timeMsg 0 [1,0,0]]), delayKnown (linkUp []), by decide +kernel⟩,
   ⟨HPort.p0, linkUp [], by decide +kernel⟩,
   ⟨leadUp [], by decide +kernel⟩,
   ⟨false, (0:Nat), lockedDom (10 ^ 12), by decide +kernel⟩,
   ⟨false, (0:Nat), lockedDom 4, by decide +kernel⟩,
   ⟨HPort.p0, timeMsg 3 [0xFFFFFFFF,0xFFFF0000,9], followUp [timeMsg 3 [0xFFFFFFFF,0xFFFF0000,9]], followUp [],
      by decide +kernel⟩,
   ⟨HPort.p0, timeMsg 3 [5000,0,9], followUp [timeMsg 3 [5000,0,9]], followUp [], by decide +kernel⟩,
   ⟨HPort.p0, timeMsg 3 [4158666,0,9], followUp [timeMsg 3 [4158666,0,9]], followUp [], by decide +kernel⟩⟩

theorem witness_FaultCommandsAct :
    (∃ (c : CmdCtx) (b : Fin 18) (n : Fin 32) (s : State), fastReady 128 c [put 16 ↑b ||| put 0 ↑n] s = true ∧ injMask ↑b
      &&& putb (↑n) true ≠ 0 ∧ injOff s = false ∧ blockOff (↑b) s = false) ∧
    (∃ (c : CmdCtx) (b : Fin 18) (n : Fin 32) (s : State), fastReady 128 c [put 16 ↑b ||| put 0 ↑n] s = true ∧ injMask ↑b
      &&& putb (↑n) true = 0) ∧
    (∃ (c : CmdCtx) (b : Fin 18) (n : Fin 32) (s : State), fastReady 128 c [put 16 ↑b ||| put 0 ↑n] s = true ∧ forceMask
      ↑b &&& putb (↑n) true ≠ 0 ∧ inSession c s = true ∧ injOff s = false ∧ blockOff (↑b) s = false) ∧
    (∃ (c : CmdCtx) (b : Fin 18) (n : Fin 32) (s : State), fastReady 128 c [put 16 ↑b ||| put 0 ↑n] s = true ∧ forceMask
      ↑b &&& putb (↑n) true ≠ 0 ∧ inSession c s = false) ∧
    (∃ (c : CmdCtx) (b : Fin 18) (s : State) (k : Word), blockOff (↑b) s = false ∧ s.flt.length = 18 ∧ fastReady 129 c
      [put 16 ↑b, k] s = true) ∧
    (∃ (b : Fin 18) (s : State), blockOff (↑b) s = false ∧ s.flt.length = 18 ∧ ∃ (src : RegSrc), regReady (↑b) src s =
      true ∧ (s.win ↑b).status &&& ~~~(s.base.win ↑b).status = 0) ∧
    (∃ (c : CmdCtx) (b : Fin 18) (n : Fin 32) (s : State) (r : BitVec 8), slowReady 130 c [put 16 ↑b ||| put 0 ↑n, put 0
      r.toNat] s = true ∧ blockOff (↑b) s = false ∧ reactOkFor (↑b) (↑n) r = true) ∧
    (∃ (c : CmdCtx) (b : Fin 18) (n : Fin 32) (s : State) (r : BitVec 8), slowReady 130 c [put 16 ↑b ||| put 0 ↑n, put 0
      r.toNat] s = true ∧ blockOff (↑b) s = false ∧ reactOkFor (↑b) (↑n) r = false) ∧
    (∃ (c : CmdCtx) (s : State) (v : Word), slowReady 130 c [put 16 8 ||| putb 8 true, v] s = true ∧ blockOff 8 s = false
      ∧ within v 4278321151 = true ∧ escOk v = true) ∧
    (∃ (c : CmdCtx) (s : State) (v : Word), slowReady 130 c [put 16 8 ||| putb 8 true, v] s = true ∧ blockOff 8 s = false
      ∧ within v 4278321151 = true ∧ escOk v = false) :=
  ⟨⟨ctx, (5 : Fin 18), (0 : Fin 32), up, by decide +kernel⟩,
   ⟨ctx, (5 : Fin 18), 2, up, by decide +kernel⟩,
   ⟨ctxS, (5 : Fin 18), 2, ses up, by decide +kernel⟩,
   ⟨ctx, (5 : Fin 18), 2, up, by decide +kernel⟩,
   ⟨ctx, (5 : Fin 18), up, (0xFFFFFFFF : Word), by decide +kernel⟩,
   ⟨(5 : Fin 18), up, by decide +kernel, by decide +kernel, (RegSrc.port .spi), by decide +kernel⟩,
   ⟨ctxS, (5 : Fin 18), (0 : Fin 32), ses up, (0x42 : BitVec 8), by decide +kernel⟩,
   ⟨ctxS, (5 : Fin 18), (0 : Fin 32), ses up, 0x20, by decide +kernel⟩,
   ⟨ctxS, ses up, (0xC0000032 : Word), by decide +kernel⟩,
   ⟨ctxS, ses up, 0x31, by decide +kernel⟩⟩

theorem witness_WatchdogsWatchTheCores :
    (∃ (safety : Bool) (v : Word) (s : State), regReady 17 (if safety = true then RegSrc.safety else RegSrc.service) s =
      true ∧ bit v 31 = safety ∧ (s.wdog safety).en = true ∧ (bits v 0 16 = if (s.wdog safety).second = true then
      42300 else 23235) ∧ wdogTicks safety s ≤ 4 * (s.ticks - (s.wdog safety).from_) ∧ s.ticks - (s.wdog safety).from_
      ≤ wdogTicks safety s) ∧
    (∃ (safety : Bool) (v : Word) (s : State), regReady 17 (if safety = true then RegSrc.safety else RegSrc.service) s =
      true ∧ bit v 31 = safety ∧ (s.wdog safety).en = true ∧ (bits v 0 16 = if (s.wdog safety).second = true then
      42300 else 23235) ∧ (4 * (s.ticks - (s.wdog safety).from_) < wdogTicks safety s ∨ wdogTicks safety s < s.ticks -
      (s.wdog safety).from_)) ∧
    (∃ (safety : Bool) (v : Word) (s : State), regReady 17 (if safety = true then RegSrc.safety else RegSrc.service) s =
      true ∧ bit v 31 = safety ∧ (s.wdog safety).en = true ∧ bits v 0 16 ≠ if (s.wdog safety).second = true then 42300
      else 23235) ∧
    (∃ (safety : Bool) (v : Word) (s : State), regReady 17 (if safety = true then RegSrc.safety else RegSrc.service) s =
      true ∧ bit v 31 = safety ∧ (s.wdog safety).en = false) ∧
    (∃ (p : CmdPort) (s : State), regReady 17 (RegSrc.port p) s = true) ∧
    (∃ (src : RegSrc) (v : Word) (s : State), regReady 17 src s = true ∧ (bits v 16 16 = 0 ∨ 1000 < bits v 16 16 ∨ bits v
      0 16 = 0 ∨ 10000 < bits v 0 16)) ∧
    (∃ (src : RegSrc) (v : Word) (s : State), regReady 17 src s = true ∧ 1 ≤ bits v 16 16 ∧ bits v 16 16 ≤ 1000 ∧ 1 ≤ bits
      v 0 16 ∧ bits v 0 16 ≤ 10000 ∧ (s.rigger.safeW.en = true → bits v 16 16 = bits s.rigger.wdogTo 16 16) ∧
      (s.rigger.svcW.en = true → bits v 0 16 = bits s.rigger.wdogTo 0 16)) ∧
    (∃ (src : RegSrc) (v : Word) (s : State), regReady 17 src s = true ∧ 1 ≤ bits v 16 16 ∧ bits v 16 16 ≤ 1000 ∧ 1 ≤ bits
      v 0 16 ∧ bits v 0 16 ≤ 10000 ∧ (s.rigger.safeW.en = true ∧ bits v 16 16 ≠ bits s.rigger.wdogTo 16 16 ∨
      s.rigger.svcW.en = true ∧ bits v 0 16 ≠ bits s.rigger.wdogTo 0 16)) ∧
    (∃ (safety : Bool) (s : State), (s.wdog safety).en = true ∧ vault s.pwr.pstate = false ∧ (s.wdog safety).from_ +
      wdogTicks safety s ≤ s.ticks) ∧
    (∃ (safety : Bool) (s : State), (s.wdog safety).en = true ∧ vault s.pwr.pstate = false ∧ s.ticks < (s.wdog
      safety).from_ + wdogTicks safety s) :=
  ⟨⟨true, (0x80005AC3 : Word), dogs 1 0 false, by decide +kernel⟩,
   ⟨true, (0x80005AC3 : Word), dogs 0 0 false, by decide +kernel⟩,
   ⟨true, (0x80005AC3 : Word), dogs 2 0 true, by decide +kernel⟩,
   ⟨true, (0x80005AC3 : Word), up, by decide +kernel⟩,
   ⟨CmdPort.spi, up, by decide +kernel⟩,
   ⟨(RegSrc.port .spi), (0x80005AC3 : Word), up, by decide +kernel⟩,
   ⟨(RegSrc.port .spi), 0x00140014, up, by decide +kernel⟩,
   ⟨(RegSrc.port .spi), 0x03E82710, dogs 1 0 false, by decide +kernel⟩,
   ⟨true, dogs 4 0 false, by decide +kernel⟩,
   ⟨true, dogs 1 0 false, by decide +kernel⟩⟩

theorem witness_EscalationSweepAndResets :
    (∃ (s : State), s.ticks < (s.win 8).escAt + bits (s.win 8).esc 0 17 * 250) ∧
    (∃ (s : State), (s.win 8).escRun = true ∧ arrayMajor s = true ∧ (s.win 8).escAt + bits (s.win 8).esc 0 17 * 250 ≤
      s.ticks ∧ (BitVec.ofNat 8 (bits (s.win 8).esc 24 8)).getLsbD 2 = false ∧ (BitVec.ofNat 8 (bits (s.win 8).esc 24
      8)).getLsbD 3 = false ∧ (BitVec.ofNat 8 (bits (s.win 8).esc 24 8)).getLsbD 6 = false ∧ (BitVec.ofNat 8 (bits
      (s.win 8).esc 24 8)).getLsbD 7 = false) ∧
    (∃ (s : State), (s.win 8).escRun = true ∧ arrayMajor s = true ∧ (s.win 8).escAt + bits (s.win 8).esc 0 17 * 250 ≤
      s.ticks ∧ (BitVec.ofNat 8 (bits (s.win 8).esc 24 8)).getLsbD 2 = false ∧ (BitVec.ofNat 8 (bits (s.win 8).esc 24
      8)).getLsbD 3 = false ∧ (BitVec.ofNat 8 (bits (s.win 8).esc 24 8)).getLsbD 6 = true ∧ (BitVec.ofNat 8 (bits
      (s.win 8).esc 24 8)).getLsbD 7 = false) ∧
    (∃ (s : State), (s.win 8).escRun = true ∧ arrayMajor s = true ∧ (s.win 8).escAt + bits (s.win 8).esc 0 17 * 250 ≤
      s.ticks ∧ (BitVec.ofNat 8 (bits (s.win 8).esc 24 8)).getLsbD 2 = false ∧ (BitVec.ofNat 8 (bits (s.win 8).esc 24
      8)).getLsbD 3 = false ∧ (BitVec.ofNat 8 (bits (s.win 8).esc 24 8)).getLsbD 6 = false ∧ (BitVec.ofNat 8 (bits
      (s.win 8).esc 24 8)).getLsbD 7 = true) ∧
    (∃ (s : State), (∀ w ∈ s.flt, w.parBad = [] ∧ w.parHid = [] ∧ w.parErr = false) ∧ ∃ (b : Fin 18) (off : BitVec 16),
      blockOff (↑b) s = false ∧ off.toNat ∈ reactRegs ↑b ∧ s.flt.length = 18) ∧
    (∃ (b : Fin 18) (off : BitVec 16) (s : State), blockOff (↑b) s = false ∧ off.toNat ∈ reactRegs ↑b ∧ s.flt.length = 18
      ∧ off.toNat ∈ (s.win ↑b).parHid) ∧
    (∃ (s : State), (s.win 3).resetting = true) ∧
    (∃ (s : State), (s.win 4).resetting = true) ∧
    (∃ (s : State), (s.win 7).resetting = true) ∧
    (∃ (s : State), (s.win 11).resetting = true) ∧
    (∃ (s : State), (s.win 16).resetting = true) ∧
    (∃ (s : State), s.pwr.chipPend = false ∨ (∃ r ∈ s.log.q, r.at_ ≤ s.pwr.chipAt) ∨ s.pwr.saving.isSome = true) ∧
    (∃ (s : State), s.pwr.chipPend = true ∧ (∀ r ∈ s.log.q, s.pwr.chipAt < r.at_) ∧ s.pwr.saving = none) :=
  ⟨⟨up, by decide +kernel⟩,
   ⟨{ escUp 0x10002710 with ticks := 10 ^ 7 }, by decide +kernel⟩,
   ⟨{ escUp 0x50002710 with ticks := 10 ^ 7 }, by decide +kernel⟩,
   ⟨{ escUp 0x80002710 with ticks := 10 ^ 7 }, by decide +kernel⟩,
   ⟨up, by decide +kernel, (8 : Fin 18), (0xFF20 : BitVec 16), by decide +kernel⟩,
   ⟨16, (0xFF20 : BitVec 16), hiddenBad, by decide +kernel⟩,
   ⟨resettingUp 3, by decide +kernel⟩,
   ⟨resettingUp 4, by decide +kernel⟩,
   ⟨resettingUp 7, by decide +kernel⟩,
   ⟨resettingUp 11, by decide +kernel⟩,
   ⟨resettingUp 16, by decide +kernel⟩,
   ⟨up, by decide +kernel⟩,
   ⟨chipUp, by decide +kernel⟩⟩

theorem witness_SafeInputTrysailAndBackstay :
    (∃ (s : State), vault s.pwr.pstate = false) ∧
    (∃ (s : State), vault s.pwr.pstate = true) ∧
    (∃ (s : State), s.bstay.beam = Beam.trysail ∧ s.bstay.tryOwns = false ∧ (s.pwr.pstate = PState.s0 ∨ s.pwr.pstate =
      PState.s1)) ∧
    (∃ (n : ℕ) (s : State), blockOff 10 s = false ∧ fails 10 8 false s = false ∧ n < 2) ∧
    (∃ (n : ℕ) (s : State), blockOff 10 s = false ∧ fails 10 8 false s = false ∧ 2 ≤ n ∧ s.bstay.tryBuf = none) ∧
    (∃ (n : ℕ) (s : State), blockOff 10 s = false ∧ fails 10 8 false s = false ∧ 2 ≤ n ∧ s.bstay.tryBuf ≠ none) ∧
    (∃ (i : ℕ) (e : DirEntry) (r : DirEntry × ℕ) (s : State), blockOff 12 s = false ∧ s.xmem.busy = some (XKind.trysail i)
      ∧ s.pwr.restoring = false ∧ dirFind (recId (32 + i)) { s with xmem := { s.xmem with busy := none } } = some e ∧
      e.verified = true ∧ findRecord (recId (32 + i)) { s with xmem := { s.xmem with busy := none } } = some r) ∧
    (∃ (i : ℕ) (s : State), blockOff 12 s = false ∧ s.xmem.busy = some (XKind.trysail i) ∧ dirFind (recId (32 + i)) s =
      none ∧ s.pwr.restoring = false) ∧
    (∃ (src : RegSrc) (v : Word) (s : State), regReady 10 src s = true ∧ srcSession src s = true ∧ bits v 0 4 ≠ 0 ∧ bits v
      8 5 ≠ 0) ∧
    (∃ (src : RegSrc) (v : Word) (s : State), regReady 10 src s = true ∧ srcSession src s = true ∧ (bits v 0 4 = 0 ∨ bits
      v 8 5 = 0)) ∧
    (∃ (src : RegSrc) (v : Word) (s : State), regReady 10 src s = true ∧ srcSession src s = true ∧ bits v 0 3 ≤ 4 ∧ bits v
      4 3 ≤ 4 ∧ bits v 8 3 ≤ 4 ∧ bits v 12 3 ≤ 4) ∧
    (∃ (src : RegSrc) (s : State), regReady 10 src s = true ∧ srcSession src s = false ∧ ∃ (off : BitVec 16), off = 4 ∨
      off = 8 ∨ off = 96) ∧
    (∃ (s : State), regReady 10 RegSrc.safety s = true) :=
  ⟨⟨up, by decide +kernel⟩,
   ⟨inState .s4, by decide +kernel⟩,
   ⟨tryNew, by decide +kernel⟩,
   ⟨(1 : Nat), up, by decide +kernel⟩,
   ⟨2, up, by decide +kernel⟩,
   ⟨2, tryLoaded, by decide +kernel⟩,
   ⟨(1:Nat), recEnt 0x2100, (recEnt 0x2100, (0x60000 : Nat)), recUp (.trysail 1) 0x2100 (List.replicate 40 0x12),
      by decide +kernel⟩,
   ⟨(1:Nat), tryLoad, by decide +kernel⟩,
   ⟨(RegSrc.port .spi), (0x00C80402:Word), ses up, by decide +kernel⟩,
   ⟨(RegSrc.port .spi), 0x00C80400, ses up, by decide +kernel⟩,
   ⟨(RegSrc.port .spi), (0x00C80402:Word), ses up, by decide +kernel⟩,
   ⟨(RegSrc.port .spi), up, by decide +kernel, by decide +kernel, (4 : BitVec 16), by decide +kernel⟩,
   ⟨up, by decide +kernel⟩⟩

theorem witness_ClockSupplyAndMemoryRegisters :
    (∃ (src : RegSrc) (v : Word) (s : State), regReady 14 src s = true ∧ bits v 0 2 = 0 ∧ s.clk.refOk = true) ∧
    (∃ (src : RegSrc) (v : Word) (s : State), regReady 14 src s = true ∧ bits v 0 2 = 0 ∧ s.clk.refOk = false) ∧
    (∃ (src : RegSrc) (v : Word) (s : State), regReady 14 src s = true ∧ bits v 0 2 = 1 ∧ linkGood HPort.p0 s = false) ∧
    (∃ (src : RegSrc) (v : Word) (s : State), regReady 14 src s = true ∧ bits v 0 2 = 3) ∧
    (∃ (src : RegSrc) (v : Word) (s : State), regReady 14 src s = true ∧ s.mode.ifMode ≠ IfMode.compat ∧ ∀ n < 6,
      BitVec.getLsbD v n = true → s.clk.gate.getLsbD n = true ∨ mayStop n (BitVec.setWidth 6 v) s = true) ∧
    (∃ (src : RegSrc) (s : State), regReady 14 src s = true ∧ s.mode.ifMode = IfMode.compat) ∧
    (∃ (src : RegSrc) (s : State), regReady 15 src s = true ∧ s.pwr.inReset = false ∧ s.pwr.porHeld = false ∧ s.pwr.saving
      = none ∧ s.pwr.pstate ≠ PState.s5) ∧
    (∃ (src : RegSrc) (s : State), regReady 12 src s = true ∧ s.pwr.pstate = PState.s0) ∧
    (∃ (src : RegSrc) (s : State), regReady 12 src s = true ∧ s.xmem.queue.contains (XKind.reload 1) = false ∧ s.xmem.busy
      ≠ some (XKind.reload 1)) ∧
    (∃ (src : RegSrc) (s : State), regReady 17 src s = true ∧ (src = RegSrc.safety ∨ src = RegSrc.service) ∧
      s.keep.running ≠ 0) ∧
    (∃ (src : RegSrc) (s : State), regReady 17 src s = true ∧ ∃ (p : CmdPort), src = RegSrc.port p) ∧
    (∃ (src : RegSrc) (s : State), regReady 17 src s = true ∧ srcSession src s = false) ∧
    (∃ (src : RegSrc) (s : State), regReady 17 src s = true ∧ srcSession src s = true) :=
  ⟨⟨(RegSrc.port .spi), (0:Word), refGood, by decide +kernel⟩,
   ⟨(RegSrc.port .spi), (0:Word), up, by decide +kernel⟩,
   ⟨(RegSrc.port .spi), 1, up, by decide +kernel⟩,
   ⟨(RegSrc.port .spi), 3, up, by decide +kernel⟩,
   ⟨(RegSrc.port .spi), (0:Word), up, by decide +kernel⟩,
   ⟨.service, upCompat, by decide +kernel⟩,
   ⟨(RegSrc.port .spi), up, by decide +kernel⟩,
   ⟨(RegSrc.port .spi), up, by decide +kernel⟩,
   ⟨(RegSrc.port .spi), up, by decide +kernel⟩,
   ⟨.service, { up with keep := { up.keep with running := 1, trial := 1 } }, by decide +kernel⟩,
   ⟨(RegSrc.port .spi), up, by decide +kernel, CmdPort.spi, by decide +kernel⟩,
   ⟨(RegSrc.port .spi), up, by decide +kernel⟩,
   ⟨(RegSrc.port .spi), ses up, by decide +kernel⟩⟩

theorem witness_HeatAndLinkRegisters :
    (∃ (s : State), s.pwr.inReset = false ∧ s.therm.tiles.length = 256 ∧ s.arr.tiles.length = 256 ∧ (s.pwr.pstate =
      PState.s0 ∨ s.pwr.pstate = PState.s1) ∧ ∃ (v : ℤ), -880 ≤ v ∧ v ≤ 3200) ∧
    (∃ (t : Fin 256) (s : State), s.pwr.inReset = false ∧ s.therm.tiles.length = 256 ∧ s.arr.tiles.length = 256 ∧
      (s.pwr.pstate = PState.s0 ∨ s.pwr.pstate = PState.s1) ∧ 1 ≤ (s.therm.tiles.getD ↑t { }).fails) ∧
    (∃ (s : State), s.pwr.inReset = false ∧ s.therm.tiles.length = 256 ∧ s.arr.tiles.length = 256 ∧ s.pwr.pstate =
      PState.s2) ∧
    (∃ (v : ℤ) (s : State), s.pwr.inReset = false ∧ s.therm.dies.length = 4 ∧ (s.pwr.pstate = PState.s0 ∨ s.pwr.pstate =
      PState.s1 ∨ s.pwr.pstate = PState.s2) ∧ -880 ≤ v ∧ v ≤ 3200) ∧
    (∃ (s : State), s.pwr.inReset = false ∧ vault s.pwr.pstate = false) ∧
    (∃ (s : State), s.pwr.inReset = false ∧ vault s.pwr.pstate = true) ∧
    (∃ (src : RegSrc) (v : Word) (s : State), regReady 16 src s = true ∧ srcSession src s = true ∧ 1 ≤ bits v 0 17 ∧ bits
      v 0 17 ≤ 65536) ∧
    (∃ (src : RegSrc) (v : Word) (s : State), regReady 16 src s = true ∧ srcSession src s = true ∧ (bits v 0 17 = 0 ∨
      65536 < bits v 0 17)) ∧
    (∃ (src : RegSrc) (s : State), regReady 16 src s = true ∧ srcSession src s = false) ∧
    (∃ (src : RegSrc) (v : Word) (s : State), regReady 16 src s = true ∧ bits v 0 16 ≠ 0 ∧ bits v 16 16 ≠ 0) ∧
    (∃ (src : RegSrc) (p : HPort) (s : State), regReady (portBlk p) src s = true ∧ s.h0.retrainPend = false ∧
      s.h1.retrainPend = false ∧ s.h1.roleChange = none ∧ s.compat = true) ∧
    (∃ (src : RegSrc) (p : HPort) (v : Word) (s : State), regReady (portBlk p) src s = true ∧ s.h0.retrainPend = false ∧
      s.h1.retrainPend = false ∧ s.h1.roleChange = none ∧ s.compat = false ∧ bits v 20 4 = 0) ∧
    (∃ (src : RegSrc) (p : HPort) (v : Word) (s : State), regReady (portBlk p) src s = true ∧ s.h0.retrainPend = false ∧
      s.h1.retrainPend = false ∧ s.h1.roleChange = none ∧ s.compat = false ∧ bits v 20 4 = 15 ∧ bits v 12 2 ≠ 0 ∧ bit
      v 4 = false ∧ bit v 1 = false) ∧
    (∃ (src : RegSrc) (p : HPort) (v : Word) (s : State), regReady (portBlk p) src s = true ∧ s.h0.retrainPend = false ∧
      s.h1.retrainPend = false ∧ s.h1.roleChange = none ∧ s.compat = false ∧ bits v 20 4 = 15 ∧ bits v 12 2 ≠ 0 ∧ bit
      v 4 = true ∧ ((s.hport p).role = PRole.leader ∨ (s.hport p).role = PRole.follower ∨ (s.hport p).cfgRole =
      PRole.leader)) ∧
    (∃ (src : RegSrc) (p : HPort) (s : State), regReady (portBlk p) src s = true ∧ s.h0.retrainPend = false ∧
      s.h1.retrainPend = false ∧ s.h1.roleChange = none ∧ s.compat = false ∧ bits (s.hport p).ctrl 20 4 = 15 ∧ bits
      (s.hport p).ctrl 12 2 ≠ 0 ∧ bit (s.hport p).ctrl 4 = false ∧ src = RegSrc.service ∧ (s.hport p).state =
      PortState.active) ∧
    (∃ (src : RegSrc) (p : HPort) (s : State), regReady (portBlk p) src s = true ∧ s.h0.retrainPend = false ∧
      s.h1.retrainPend = false ∧ s.h1.roleChange = none ∧ s.compat = false ∧ bits (s.hport p).ctrl 20 4 = 15 ∧ bits
      (s.hport p).ctrl 12 2 ≠ 0 ∧ bit (s.hport p).ctrl 4 = false ∧ src = RegSrc.port (cmdPort p) ∧ owed (cmdPort p) s
      ≠ []) :=
  ⟨⟨up, by decide +kernel, by decide +kernel, by decide +kernel, by decide +kernel, (-880 : Int), by decide +kernel⟩,
   ⟨(5 : Fin 256), sensorBad, by decide +kernel⟩,
   ⟨inState .s2, by decide +kernel⟩,
   ⟨(-880 : Int), up, by decide +kernel, by decide +kernel⟩,
   ⟨up, by decide +kernel⟩,
   ⟨inState .s4, by decide +kernel⟩,
   ⟨(RegSrc.port .spi), (1:Word), ses up, by decide +kernel⟩,
   ⟨(RegSrc.port .spi), 0x00F13014, ses up, by decide +kernel⟩,
   ⟨(RegSrc.port .spi), up, by decide +kernel⟩,
   ⟨(RegSrc.port .spi), 0x00F13014, up, by decide +kernel⟩,
   ⟨(RegSrc.port .spi), HPort.p0, upExt, by decide +kernel⟩,
   ⟨(RegSrc.port .spi), HPort.p0, (1:Word), up, by decide +kernel⟩,
   ⟨(RegSrc.port .spi), HPort.p0, 0x00F13004, up, by decide +kernel⟩,
   ⟨(RegSrc.port .spi), HPort.p0, 0x00F13014, upFollower, by decide +kernel⟩,
   ⟨.service, HPort.p0, linkUp [], by decide +kernel⟩,
   ⟨.port .h0, HPort.p0, linkReply, by decide +kernel⟩⟩

theorem witness_ClocksTripCoastAndRelock :
    (∃ (s : State), monitorOn MonClk.refosc s = true ∧ fails 14 0 false s = false ∧ s.clk.sel = 0 ∧ s.clk.onFb = false) ∧
    (∃ (s : State), monitorOn MonClk.lposc s = true ∧ fails 14 6 false s = false) ∧
    (∃ (s : State), monitorOn MonClk.fbosc s = true) ∧
    (∃ (s : State), monitorOn MonClk.plla s = true ∧ ∃ (b : Bool), fails 14 (if b = true then 5 else 4) false s = false) ∧
    (∃ (s : State), monitorOn MonClk.plla s = true ∧ s.clk.relocking = true ∧ s.clk.failsA + 1 < 3) ∧
    (∃ (s : State), monitorOn MonClk.plla s = true ∧ s.clk.relocking = true ∧ s.clk.failsB + 1 = 3) ∧
    (∃ (s : State), monitorOn MonClk.plla s = true ∧ fails 14 3 false s = false ∧ (s.clk.coast = false ∨ s.clk.coastFrom +
      6250 < s.ticks)) ∧
    (∃ (s : State), monitorOn MonClk.plla s = true ∧ fails 14 3 false s = false ∧ s.clk.coast = true ∧ s.ticks ≤
      s.clk.coastFrom + 6250) ∧
    (∃ (p : HPort) (s : State), (s.hport p).state = PortState.active ∧ (s.hport p).rx0.locked = true ∧ s.clk.refOk =
      false) ∧
    (∃ (s : State), s.clk.refOk = true ∧ s.clk.refFrom + 250000 ≤ s.ticks) ∧
    (∃ (s : State), s.clk.refOk = false ∨ s.ticks < s.clk.refFrom + 250000) :=
  ⟨⟨up, by decide +kernel⟩,
   ⟨up, by decide +kernel⟩,
   ⟨up, by decide +kernel⟩,
   ⟨up, by decide +kernel, true, by decide +kernel⟩,
   ⟨clkUp {relocking := true, coast := true, toFb := true, failsB := 2}, by decide +kernel⟩,
   ⟨clkUp {relocking := true, coast := true, toFb := true, failsB := 2}, by decide +kernel⟩,
   ⟨up, by decide +kernel⟩,
   ⟨clkUp {relocking := true, coast := true, toFb := true, failsB := 2}, by decide +kernel⟩,
   ⟨HPort.p0, linkUp [], by decide +kernel⟩,
   ⟨late (clkUp {refOk := true}), by decide +kernel⟩,
   ⟨up, by decide +kernel⟩⟩

theorem witness_OperatingPointsAreChangedInSteps :
    (∃ (c : CmdCtx) (op : Fin 4) (s : State), slowReady 97 c [put 0 ↑op] s = true ∧ loadFits (↑op) s = false) ∧
    (∃ (c : CmdCtx) (op : Fin 4) (s : State), slowReady 97 c [put 0 ↑op] s = true ∧ loadFits (↑op) s = true ∧
      s.clk.opAct.toNat = ↑op) ∧
    (∃ (c : CmdCtx) (op : Fin 4) (s : State), slowReady 97 c [put 0 ↑op] s = true ∧ loadFits (↑op) s = true ∧ ↑op <
      s.clk.opAct.toNat) ∧
    (∃ (c : CmdCtx) (op : Fin 4) (s : State), slowReady 97 c [put 0 ↑op] s = true ∧ loadFits (↑op) s = true ∧
      s.clk.opAct.toNat < ↑op) ∧
    (∃ (s : State), s.clk.coast = false ∧ s.clk.dvfsStep = 1) ∧
    (∃ (s : State), s.clk.coast = false ∧ s.clk.dvfsStep = 4) ∧
    (∃ (s : State), s.clk.coast = false ∧ s.clk.dvfsStep = 5) ∧
    (∃ (s : State), s.clk.coast = false ∧ s.clk.dvfsStep = 2 ∧ s.clk.settleFrom + s.clk.settleTo.toNat * 250 ≤ s.ticks) ∧
    (∃ (s : State), s.clk.coast = false ∧ s.clk.dvfsStep = 2 ∧ s.ticks < s.clk.settleFrom + s.clk.settleTo.toNat * 250) :=
  ⟨⟨ctx, 1, {up with engA := { up.engA with comp := { up.engA.comp with loadArmed := 8388608 } }}, by decide +kernel⟩,
   ⟨ctx, (0 : Fin 4), up, by decide +kernel⟩,
   ⟨ctx, (0 : Fin 4), clkUp {opAct := 1}, by decide +kernel⟩,
   ⟨ctx, 1, up, by decide +kernel⟩,
   ⟨clkUp {dvfsStep := 1}, by decide +kernel⟩,
   ⟨clkUp {dvfsStep := 4}, by decide +kernel⟩,
   ⟨clkUp {dvfsStep := 5}, by decide +kernel⟩,
   ⟨late (clkUp {dvfsStep := 2}), by decide +kernel⟩,
   ⟨clkUp {dvfsStep := 2}, by decide +kernel⟩⟩

theorem witness_PowerStatesAreEnteredAndLeft :
    (∃ (c : CmdCtx) (dst : PState) (s : State), fastReady 96 c [put 0 (pstateNo dst)] s = true ∧ dst = s.pwr.pstate) ∧
    (∃ (c : CmdCtx) (dst : PState) (s : State), fastReady 96 c [put 0 (pstateNo dst)] s = true ∧ dst ≠ s.pwr.pstate ∧
      pwrBusy s = true) ∧
    (∃ (c : CmdCtx) (dst : PState) (s : State), fastReady 96 c [put 0 (pstateNo dst)] s = true ∧ pstateNo s.pwr.pstate <
      pstateNo dst ∧ pwrBusy s = false ∧ (s.mode.ifMode ≠ IfMode.compat ∨ pstateNo dst ≤ 2)) ∧
    (∃ (c : CmdCtx) (dst : PState) (s : State), fastReady 96 c [put 0 (pstateNo dst)] s = true ∧ dst = PState.s0 ∧
      s.pwr.pstate = PState.s1 ∧ pwrBusy s = false ∧ s.mode.ifMode ≠ IfMode.compat) ∧
    (∃ (c : CmdCtx) (dst : PState) (s : State), fastReady 96 c [put 0 (pstateNo dst)] s = true ∧ ∃ (v : Word), 5 < bits v
      0 3 ∧ fastReady 96 c [v] s = true) ∧
    (∃ (dst : PState) (s : State), s.pwr.entryTo = some dst ∧ dst ≠ PState.s0 ∧ mayEnter dst s = true ∧ s.pwr.wakeLatched
      = none ∧ (s.pwr.pstate = PState.s0 ∨ s.pwr.pstate = PState.s1)) ∧
    (∃ (n : Fin 4) (high : Bool) (s : State), s.pwr.inReset = false ∧ (s.pwr.wakeCtrl.getLsbD ↑n = false ∨
      s.pwr.wakeCtrl.getLsbD (↑n + 4) ≠ high)) ∧
    (∃ (n : Fin 4) (high : Bool) (s : State), s.pwr.inReset = false ∧ s.pwr.wakeCtrl.getLsbD ↑n = true ∧
      s.pwr.wakeCtrl.getLsbD (↑n + 4) = high ∧ s.pwr.pstate = PState.s2 ∧ s.pwr.saving = none ∧ s.pwr.wakeStage = 0 ∧
      s.pwr.entryTo = none) ∧
    (∃ (s : State), s.pwr.inReset = false ∧ s.h0.state = PortState.slack ∧ s.pwr.wakeCtrl.getLsbD 8 = true ∧ s.pwr.pstate
      = PState.s2 ∧ s.pwr.saving = none ∧ s.pwr.wakeStage = 0 ∧ s.pwr.entryTo = none) ∧
    (∃ (s : State), 1 ≤ s.pwr.wakeStage ∧ s.pwr.wakeStage < 5 ∧ ∀ n ∈ s.pwr.stageAt, n ≤ s.ticks) ∧
    (∃ (i : Bool) (s : State), s.pwr.wakeStage = 5 ∧ (s.pwr.pstate = PState.s2 ∨ s.pwr.pstate = PState.s3 ∧ i = true ∧
      s.pwr.image.isSome = true) ∧ ∀ n ∈ s.pwr.stageAt, n ≤ s.ticks) ∧
    (∃ (i : Bool) (s : State), s.pwr.wakeStage = 5 ∧ s.pwr.pstate = PState.s3 ∧ (i = false ∨ s.pwr.image.isSome = false) ∧
      ∀ n ∈ s.pwr.stageAt, n ≤ s.ticks) ∧
    (∃ (n : ℕ) (s : State), s.pwr.wakeStage ≠ 0 ∧ s.pwr.stageAt = some n ∧ s.ticks < n + stageTicks s.pwr.wakeStage) ∧
    (∃ (n : ℕ) (s : State), s.pwr.wakeStage ≠ 0 ∧ s.pwr.stageAt = some n ∧ n + stageTicks s.pwr.wakeStage ≤ s.ticks ∧
      s.pwr.wakeTries < 2) ∧
    (∃ (n : ℕ) (s : State), s.pwr.wakeStage ≠ 0 ∧ s.pwr.stageAt = some n ∧ n + stageTicks s.pwr.wakeStage ≤ s.ticks ∧ 2 ≤
      s.pwr.wakeTries ∧ s.pwr.pstate = PState.s2) :=
  ⟨⟨ctx, PState.s0, up, by decide +kernel⟩,
   ⟨ctx, PState.s0, pwrUp (fun p => { p with wakeStage := 4, pstate := .s3 }), by decide +kernel⟩,
   ⟨ctx, .s2, up, by decide +kernel⟩,
   ⟨ctx, PState.s0, inState .s1, by decide +kernel⟩,
   ⟨ctx, PState.s0, up, by decide +kernel, (6:Word), by decide +kernel⟩,
   ⟨.s2, pwrUp (fun p => { p with entryTo := some .s2 }), by decide +kernel⟩,
   ⟨(0 : Fin 4), true, up, by decide +kernel⟩,
   ⟨(0 : Fin 4), false, pwrUp (fun p => { p with wakeCtrl := 0x00F, pstate := .s2 }), by decide +kernel⟩,
   ⟨{ inState .s2 with h0 := { up.h0 with state := .slack } }, by decide +kernel⟩,
   ⟨pwrUp (fun p => { p with wakeStage := 4, pstate := .s3 }), by decide +kernel⟩,
   ⟨true, pwrUp (fun p => { p with wakeStage := 5, pstate := .s2, wakeTries := 2 }), by decide +kernel⟩,
   ⟨true, pwrUp (fun p => { p with wakeStage := 5, wakeTo := .s1, pstate := .s3, stageAt := some 0 }), by decide +kernel⟩,
   ⟨(0 : Nat), pwrUp (fun p => { p with wakeStage := 5, wakeTo := .s1, pstate := .s3, stageAt := some 0 }), by decide +kernel⟩,
   ⟨(0 : Nat), late (pwrUp (fun p => { p with wakeStage := 5, wakeTo := .s1, pstate := .s3, stageAt := some 0 })),
      by decide +kernel⟩,
   ⟨(0 : Nat), late (pwrUp (fun p => { p with wakeStage := 5, pstate := .s2, wakeTries := 2, stageAt := some 0 })),
      by decide +kernel⟩⟩

theorem witness_SavesParkAndCountSeconds :
    (∃ (s : State), s.pwr.inReset = false ∧ s.pwr.porHeld = false ∧ s.pwr.saving = none ∧ s.pwr.pstate ≠ PState.s5 ∧
      s.pwr.ready = true) ∧
    (∃ (s : State), s.pwr.inReset = false ∧ s.pwr.porHeld = false ∧ ∃ (k : ℕ), s.pwr.saving = some k) ∧
    (∃ (s : State), s.pwr.inReset = false ∧ s.pwr.porHeld = false ∧ s.pwr.ready = false) ∧
    (∃ (cause : ℕ) (s : State), s.pwr.saving = some cause ∧ fails 15 4 false s = false ∧ s.pwr.resetHeld = false ∧
      s.pwr.slots.length = 2) ∧
    (∃ (s : State), s.pwr.pstate = PState.s5 ∧ s.pwr.inReset = false ∧ s.pwr.wakeStage = 0 ∧ s.pwr.parked = some 1 ∧
      s.pwr.s5Image.isSome = true) ∧
    (∃ (s : State), s.pwr.pstate = PState.s5 ∧ s.pwr.inReset = false ∧ s.pwr.wakeStage = 0 ∧ s.pwr.parked = some 1 ∧
      s.pwr.s5Image = none) ∧
    (∃ (s : State), s.pwr.presentBlank = true) ∧
    (∃ (s : State), s.pwr.porHeld = false ∧ (s.pwr.opsec + 1).toNat % 256 ≠ 0) ∧
    (∃ (s : State), s.pwr.porHeld = false ∧ (s.pwr.opsec + 1).toNat % 256 = 0) :=
  ⟨⟨up, by decide +kernel⟩,
   ⟨savingUp 1, by decide +kernel, by decide +kernel, (1:Nat), by decide +kernel⟩,
   ⟨pwrUp (fun p => { p with ready := false }), by decide +kernel⟩,
   ⟨(1:Nat), savingUp 1, by decide +kernel⟩,
   ⟨pwrUp (fun p => {p with pstate := .s5, parked := some 1, s5Image := some {} }), by decide +kernel⟩,
   ⟨pwrUp (fun p => {p with pstate := .s5, parked := some 1}), by decide +kernel⟩,
   ⟨pwrUp (fun p => { p with presentBlank := true, opsec := 255 }), by decide +kernel⟩,
   ⟨up, by decide +kernel⟩,
   ⟨pwrUp (fun p => { p with presentBlank := true, opsec := 255 }), by decide +kernel⟩⟩

theorem witness_LogEntriesReachTheRing :
    (∃ (s : State), s.log.q = []) ∧
    (∃ (s : State) (r : LogRec) (rest : List LogRec), s.log.q = r :: rest ∧ fails 13 0 false s = false ∧ fails 13 1 false
      s = false) :=
  ⟨⟨up, by decide +kernel⟩,
   ⟨logUp 15 logRec, logRec, ([] : List LogRec), by decide +kernel⟩⟩

theorem witness_SupervisorsResetsAndBoot :
    (∃ (s : State), s.pwr.porHeld = true) ∧
    (∃ (s : State), s.pwr.porHeld = false ∧ fails 15 0 false s = false) ∧
    (∃ (s : State), s.pwr.porHeld = false ∧ fails 15 1 false s = false) ∧
    (∃ (s : State), s.pwr.porHeld = false ∧ fails 15 2 false s = false) ∧
    (∃ (s : State), s.pwr.ignore = false ∧ s.pwr.porHeld = false ∧ s.pwr.saving = none) ∧
    (∃ (s : State), s.pwr.ignore = false ∧ s.pwr.porHeld = false ∧ s.pwr.saving ≠ none) ∧
    (∃ (s : State), s.pwr.ignore = true) ∧
    (∃ (s : State), s.ticks < s.pwr.lowAt + 1212500000) ∧
    (∃ (s : State), s.pwr.inReset = true ∧ s.pwr.resetLvl = false ∧ s.pwr.porHeld = false ∧ s.pwr.lowAt + 1212500000 ≤
      s.ticks) ∧
    (∃ (s : State), booting s = false) ∧
    (∃ (s : State), booting s = true ∧ s.pwr.bootFrom4 = true ∧ s.mode.testHeld = false) ∧
    (∃ (b : BootEnv) (s : State), booting s = true ∧ s.pwr.bootFrom4 = false ∧ b.testN = true ∧ s.mode.testHeld = false) ∧
    (∃ (b : BootEnv) (s : State), booting s = true ∧ s.pwr.bootFrom4 = false ∧ b.testN = false) :=
  ⟨⟨pwrUp (fun p => { p with porHeld := true, ready := false }), by decide +kernel⟩,
   ⟨up, by decide +kernel⟩,
   ⟨up, by decide +kernel⟩,
   ⟨up, by decide +kernel, by decide +kernel⟩,
   ⟨up, by decide +kernel⟩,
   ⟨savingUp 1, by decide +kernel⟩,
   ⟨pwrUp (fun p => { p with ignore := true, resetLvl := false }), by decide +kernel⟩,
   ⟨up, by decide +kernel⟩,
   ⟨late (pwrUp (fun p => { p with inReset := true, resetLvl := false, ready := false })), by decide +kernel⟩,
   ⟨up, by decide +kernel⟩,
   ⟨{ State.reset with pwr := { State.reset.pwr with bootFrom4 := true } }, by decide +kernel⟩,
   ⟨bareBoot true, State.reset, by decide +kernel⟩,
   ⟨bareBoot false, State.reset, by decide +kernel⟩⟩

theorem witness_TestContactsHoldTheLight :
    (∃ (s : State), s.pwr.saving = none) ∧
    (∃ (s : State), s.pwr.saving.isSome = true) ∧
    (∃ (s : State), tapOn s = true ∧ ∃ (tms : Bool), tms = false ∨ s.tap.tmsHigh < 4) ∧
    (∃ (s : State), tapOn s = true ∧ 4 ≤ s.tap.tmsHigh) :=
  ⟨⟨up, by decide +kernel⟩,
   ⟨savingUp 1, by decide +kernel⟩,
   ⟨up, by decide +kernel, true, by decide +kernel⟩,
   ⟨{ up with tap := { up.tap with st := .shDr, tmsHigh := 4 } }, by decide +kernel⟩⟩

theorem witness_LinkComesUpAndLosesLanes :
    (∃ (t : TxLane) (x : RxLine), t.run < 24 ∧ x.scr = t.scr ∧ x.run = t.run ∧ x.lastBit = t.lastBit ∧ x.got = 58) ∧
    (∃ (p : HPort) (s : State), linkOn p s = true ∧ (s.hport p).state = PortState.detect ∧ (s.hport p).beaconOff = false)
      ∧
    (∃ (p : HPort) (s : State), mayLeaveOff p s = true ∧ bit (hlyCtrl p s) 4 = false) ∧
    (∃ (p : HPort) (s : State), mayLeaveOff p s = true ∧ bit (hlyCtrl p s) 4 = true ∧ (s.hport p).beaconOff = false ∧
      (s.hport p).role = PRole.off ∧ (p = HPort.p0 ∨ s.h1.cfgRole ≠ PRole.leader)) ∧
    (∃ (p : HPort) (s : State), mayLeaveOff p s = true ∧ p = HPort.p1 ∧ s.h1.cfgRole = PRole.leader) ∧
    (∃ (p : HPort) (s : State) (k : Packet) (rest : List Packet), (s.hport p).rxq = k :: rest ∧ k.ptype = PType.train ∧
      (s.hport p).state = PortState.base ∧ (s.hport p).trains < 15) ∧
    (∃ (p : HPort) (s : State) (k : Packet) (rest : List Packet), (s.hport p).rxq = k :: rest ∧ k.ptype = PType.train ∧
      (s.hport p).trains = 16 ∧ (s.hport p).rx0.locked = true ∧ (s.hport p).rx1.locked = true ∧ (s.hport
      p).rx0.deskewed = true ∧ (s.hport p).rx1.deskewed = true ∧ bit (k.payload.getD 0 0) 13 = true ∧ (s.hport
      p).state = PortState.base ∧ (s.hport p).lockedSent = true) ∧
    (∃ (p : HPort) (s : State) (k : Packet) (rest : List Packet), (s.hport p).rxq = k :: rest ∧ k.ptype = PType.train ∧
      (s.hport p).trains = 16 ∧ (s.hport p).rx0.locked = true ∧ (s.hport p).rx1.locked = true ∧ (s.hport
      p).rx0.deskewed = true ∧ (s.hport p).rx1.deskewed = true ∧ bit (k.payload.getD 0 0) 13 = true ∧ (s.hport
      p).state = PortState.step ∧ (s.hport p).peerLstate = 0) ∧
    (∃ (p : HPort) (s : State), s.ticks < (s.hport p).enteredAt + bringupTicks (s.hport p).state) ∧
    (∃ (p : HPort) (s : State), linkOn p s = true ∧ (s.hport p).enteredAt + bringupTicks (s.hport p).state ≤ s.ticks ∧
      ((s.hport p).state = PortState.base ∨ (s.hport p).state = PortState.negotiate) ∧ bit (hlyCtrl p s) 4 = false) ∧
    (∃ (p : HPort) (s : State), linkOn p s = true ∧ (s.hport p).enteredAt + bringupTicks (s.hport p).state ≤ s.ticks ∧
      (s.hport p).state = PortState.blind ∧ s.compat = false) ∧
    (∃ (p : HPort) (s : State), linkOn p s = true ∧ (s.hport p).enteredAt + bringupTicks (s.hport p).state ≤ s.ticks ∧
      (s.hport p).state = PortState.step ∧ (s.hport p).tryRate ≠ 0) ∧
    (∃ (p : HPort) (s : State), linkOn p s = true ∧ lanesOn (s.hport p) = true ∧ s.compat = false ∧ ∃ (lane : Fin 2),
      (s.hport p).state = PortState.active ∧ ((s.hport p).rx (laneIx (s.hport p) ↑lane)).locked = true ∧ ((s.hport
      p).rx (1 - laneIx (s.hport p) ↑lane)).locked = true ∧ (s.hport p).peerLstate = 0) ∧
    (∃ (p : HPort) (s : State), linkOn p s = true ∧ lanesOn (s.hport p) = true ∧ s.compat = false ∧ ∃ (lane : Fin 2),
      (s.hport p).state = PortState.active ∧ ((s.hport p).rx (laneIx (s.hport p) ↑lane)).locked = true ∧ ((s.hport
      p).rx (1 - laneIx (s.hport p) ↑lane)).locked = false ∧ (s.hport p).retrainPend = false ∧ s.h1.roleChange = none)
      ∧
    (∃ (p : HPort) (s : State), linkOn p s = true ∧ lanesOn (s.hport p) = true ∧ s.compat = false ∧ ∃ (lane : Fin 2) (w :
      Word) (lead : List Bool) (line : List Bool), (hear p (↑lane) line (hear p (↑lane) lead s).1).2 = [w] ∧ ((s.hport
      p).rx (laneIx (s.hport p) ↑lane)).locked = true ∧ ((s.hport p).rx (laneIx (s.hport p) ↑lane)).inverted = false ∧
      lcwValid w = false ∧ ((s.hport p).rx (laneIx (s.hport p) ↑lane)).badRun < 3) ∧
    (∃ (p : HPort) (s : State), linkOn p s = true ∧ lanesOn (s.hport p) = true ∧ s.compat = false ∧ ∃ (lane : Fin 2) (w :
      Word) (lead : List Bool) (line : List Bool), (hear p (↑lane) line (hear p (↑lane) lead s).1).2 = [w] ∧ ((s.hport
      p).rx (laneIx (s.hport p) ↑lane)).locked = true ∧ ((s.hport p).rx (laneIx (s.hport p) ↑lane)).inverted = false ∧
      lcwValid w = true ∧ isMarker w = false ∧ (s.hport p).state = PortState.base ∧ ((s.hport p).rx (laneIx (s.hport
      p) ↑lane)).badMarkers < 2) :=
  ⟨⟨({} : TxLane), rxSync, by decide +kernel⟩,
   ⟨HPort.p0, training .detect 0 [], by decide +kernel⟩,
   ⟨HPort.p0, training .off 0 [], by decide +kernel⟩,
   ⟨HPort.p0, { up with h0 := { up.h0 with ctrl := 0x00F13014 } }, by decide +kernel⟩,
   ⟨.p1, { up with h1 := { up.h1 with ctrl := 0x00F13014, cfgRole := .leader } }, by decide +kernel⟩,
   ⟨HPort.p0, training .base 14 [trainPkt], trainPkt, ([] : List Packet), by decide +kernel⟩,
   ⟨HPort.p0, heard (training .base 16 [trainPkt]), trainPkt, ([] : List Packet), by decide +kernel⟩,
   ⟨HPort.p0, heard (training .step 16 [trainPkt]), trainPkt, ([] : List Packet), by decide +kernel⟩,
   ⟨HPort.p0, training .detect 0 [], by decide +kernel⟩,
   ⟨HPort.p0, late (training .base 16 []), by decide +kernel⟩,
   ⟨HPort.p0, late (training .blind 0 []), by decide +kernel⟩,
   ⟨HPort.p0, late (training .step 16 []), by decide +kernel⟩,
   ⟨HPort.p0, linkUp [], by decide +kernel, by decide +kernel, by decide +kernel, (0 : Fin 2), by decide +kernel⟩,
   ⟨HPort.p0, oneLane [], by decide +kernel, by decide +kernel, by decide +kernel, (0 : Fin 2), by decide +kernel⟩,
   ⟨HPort.p0, heard (training .base 16 [trainPkt]), by decide +kernel, by decide +kernel, by decide +kernel, (0 : Fin 2),
      (0x12345678 : Word), ([] : List Bool), lineOf [0x12345678], by decide +kernel⟩,
   ⟨HPort.p0, heard (training .base 16 [trainPkt]), by decide +kernel, by decide +kernel, by decide +kernel, (0 : Fin 2),
      lcwGood, ([] : List Bool), lineOf [lcwGood], by decide +kernel⟩⟩

theorem witness_PacketsArriveAndLeave :
    (∃ (k : Packet) (l : LaneBits) (s : State), streamOn HPort.p0 s = true ∧ s.h0.state = PortState.active ∧ leads s =
      false ∧ (arrive HPort.p0 l s).1 = packetWords k ∧ k.ptype = PType.cmd ∧ k.ch.toNat ≤ 12 ∧ k.payload.length ≤
      1024 ∧ k.gap = false ∧ k.stamp = ({} : Packet).stamp ∧ (k.flags.getLsbD 7 = true ∨ expected s.h0.expect
      k.ch.toNat = some k.seq)) ∧
    (∃ (w : Word) (l : LaneBits) (s : State), streamOn HPort.p0 s = true ∧ s.h0.sync = true ∧ headerOk w = false ∧ (arrive
      HPort.p0 l s).1 = [w]) ∧
    (∃ (s : State), linkOn HPort.p0 s = true ∧ s.compat = false ∧ (s.h0.state = PortState.base ∨ s.h0.state =
      PortState.negotiate)) ∧
    (∃ (s : State), linkOn HPort.p0 s = true ∧ s.compat = false ∧ s.h0.state = PortState.blind) ∧
    (∃ (start : ℕ) (s : State), linkOn HPort.p0 s = true ∧ s.compat = false ∧ s.h0.state = PortState.active ∧
      s.h0.retrainPend = false ∧ s.h1.roleChange = none ∧ ∃ (k : Packet) (rest : List Packet), s.h0.replies = k ::
      rest ∧ start ≤ 8000) ∧
    (∃ (s : State), linkOn HPort.p0 s = true ∧ s.compat = false ∧ s.h0.state = PortState.active ∧ s.h0.retrainPend = false
      ∧ s.h1.roleChange = none ∧ s.h0.replies = [] ∧ s.h0.times = [] ∧ s.h0.events.q = [] ∧ s.h0.forwards = [] ∧
      s.h0.inner = [] ∧ s.h0.layers = []) ∧
    (∃ (k : Packet) (rest : List Packet) (s : State), s.h0.rxq = k :: rest ∧ k.ptype = PType.forward ∧ leads s = true ∧
      s.h1.state = PortState.active ∧ innerOk k.payload = true) ∧
    (∃ (k : Packet) (rest : List Packet) (s : State), s.h0.rxq = k :: rest ∧ k.ptype = PType.forward ∧ innerOk k.payload =
      false) ∧
    (∃ (k : Packet) (rest : List Packet) (s : State), s.h1.rxq = k :: rest ∧ k.ptype = PType.forward) :=
  ⟨⟨cmdPkt 0 [1,2], (⟨lineOf (packetWords (cmdPkt 0 [1,2])), []⟩ : LaneBits), oneLane [], by decide +kernel⟩,
   ⟨(0x00098C27 : Word), ⟨lineOf [0x00098C27], []⟩, oneLane [], by decide +kernel⟩,
   ⟨training .base 0 [], by decide +kernel⟩,
   ⟨training .blind 0 [], by decide +kernel⟩,
   ⟨(0:Nat), linkReply, by decide +kernel, by decide +kernel, by decide +kernel, by decide +kernel, by decide +kernel,
      replyPkt, ([] : List Packet), by decide +kernel⟩,
   ⟨oneLane [], by decide +kernel⟩,
   ⟨fwdPkt, ([] : List Packet), leadFwd, by decide +kernel⟩,
   ⟨fwdBad, ([] : List Packet), linkUp [fwdBad], by decide +kernel⟩,
   ⟨fwdPkt, ([] : List Packet), leadUp [fwdPkt], by decide +kernel⟩⟩

theorem witness_ReceivedCommandsAct :
    (∃ (p : HPort) (k : Packet) (rest : List Packet) (s : State), (s.hport p).rxq = k :: rest ∧ k.ptype = PType.cmd ∧
      k.gap = true ∧ reachable (cmdPort p) s = true) ∧
    (∃ (p : HPort) (k : Packet) (rest : List Packet) (s : State), (s.hport p).rxq = k :: rest ∧ k.ptype = PType.cmd ∧
      k.gap = false ∧ opInfo (bits k.hw1 24 8) = none ∧ reachable (cmdPort p) s = true ∧ (owed (cmdPort p) s).length <
      8) ∧
    (∃ (p : HPort) (k : Packet) (rest : List Packet) (s : State), (s.hport p).rxq = k :: rest ∧ k.ptype = PType.cmd ∧
      k.gap = false ∧ bits k.hw1 24 8 = 0 ∧ k.payload.length ≤ 16 ∧ fastReady 0 (packetCtx (cmdPort p) k) k.payload
      (s.modPort p fun (h : Port) => { h with rxq := rest }) = true) ∧
    (∃ (p : HPort) (k : Packet) (rest : List Packet) (s : State), (s.hport p).rxq = k :: rest ∧ k.ptype = PType.cmd ∧
      k.gap = false ∧ bits k.hw1 24 8 = 16 ∧ fastReady 16 (packetCtx (cmdPort p) k) k.payload (s.modPort p fun (h :
      Port) => { h with rxq := rest }) = true) ∧
    (∃ (p : HPort) (k : Packet) (rest : List Packet) (s : State), (s.hport p).rxq = k :: rest ∧ k.ptype = PType.cmd ∧
      k.gap = false ∧ bits k.hw1 24 8 = 17 ∧ fastReady 17 (packetCtx (cmdPort p) k) k.payload (s.modPort p fun (h :
      Port) => { h with rxq := rest }) = true) ∧
    (∃ (p : HPort) (k : Packet) (rest : List Packet) (s : State), (s.hport p).rxq = k :: rest ∧ k.ptype = PType.cmd ∧
      k.gap = false ∧ ∃ (w : Word), k.payload = [w] ∧ bits k.hw1 24 8 = 35 ∧ fastReady 35 (packetCtx (cmdPort p) k)
      [w] (s.modPort p fun (h : Port) => { h with rxq := rest }) = true ∧ s.compat = false ∧ deep s.pwr.pstate = false
      ∧ within w 255 = true) ∧
    (∃ (p : HPort) (k : Packet) (rest : List Packet) (s : State), (s.hport p).rxq = k :: rest ∧ k.ptype = PType.cmd ∧
      k.gap = false ∧ ∃ (w : Word), k.payload = [w] ∧ bits k.hw1 24 8 = 51 ∧ fastReady 51 (packetCtx (cmdPort p) k)
      [w] (s.modPort p fun (h : Port) => { h with rxq := rest }) = true ∧ -64 ≤ signed 16 (bits w 16 16) ∧ signed 16
      (bits w 16 16) ≤ 63 ∧ -128 ≤ signed 16 (bits w 0 16) ∧ signed 16 (bits w 0 16) ≤ 127) ∧
    (∃ (p : HPort) (k : Packet) (rest : List Packet) (s : State), (s.hport p).rxq = k :: rest ∧ k.ptype = PType.cmd ∧
      k.gap = false ∧ ∃ (w : Word), k.payload = [w] ∧ bits k.hw1 24 8 = 49 ∧ slowReady 49 (packetCtx (cmdPort p) k)
      [w] (s.modPort p fun (h : Port) => { h with rxq := rest }) = true ∧ within w 3 = true ∧ s.bstay.beam =
      Beam.normal) ∧
    (∃ (p : HPort) (k : Packet) (rest : List Packet) (s : State), (s.hport p).rxq = k :: rest ∧ k.ptype = PType.cmd ∧
      k.gap = false ∧ ∃ (w : Word), k.payload = [w] ∧ bits k.hw1 24 8 = 96 ∧ fastReady 96 (packetCtx (cmdPort p) k)
      [w] (s.modPort p fun (h : Port) => { h with rxq := rest }) = true ∧ w = put 0 (pstateNo s.pwr.pstate)) ∧
    (∃ (p : HPort) (k : Packet) (rest : List Packet) (s : State), (s.hport p).rxq = k :: rest ∧ k.ptype = PType.cmd ∧
      k.gap = false ∧ ∃ (b : Fin 18) (m : Word), bits k.hw1 24 8 = 129 ∧ k.payload = [put 16 ↑b, m] ∧ fastReady 129
      (packetCtx (cmdPort p) k) [put 16 ↑b, m] (s.modPort p fun (h : Port) => { h with rxq := rest }) = true ∧
      blockOff (↑b) (s.modPort p fun (h : Port) => { h with rxq := rest }) = false) ∧
    (∃ (x : SlowCmd) (rest : List SlowCmd) (s : State), s.cmd.slow = x :: rest ∧ x.finished = false ∧ x.started = false ∧
      vault s.pwr.pstate = false ∧ s.pwr.inReset = false ∧ fails 17 2 false s = false ∧ fails 17 3 false s = false ∧ ∃
      (k : Fin 4), x.opcode = 49 ∧ x.payload = [put 0 ↑k] ∧ s.bstay.beam = Beam.normal) ∧
    (∃ (x : SlowCmd) (rest : List SlowCmd) (s : State), s.cmd.slow = x :: rest ∧ x.finished = false ∧ x.started = false ∧
      vault s.pwr.pstate = false ∧ s.pwr.inReset = false ∧ fails 17 2 false s = false ∧ fails 17 3 false s = false ∧
      x.opcode = 49 ∧ ∃ (k : Fin 4), x.payload = [put 0 ↑k] ∧ s.bstay.beam ≠ Beam.normal) ∧
    (∃ (k : Packet) (s : State), spiOn s = true ∧ s.mode.ifMode = IfMode.native ∧ s.spi.out = [] ∧ s.spi.replies = [] ∧
      k.ptype = PType.cmd ∧ k.ch.toNat ≤ 12 ∧ k.payload.length ≤ 1024 ∧ k.gap = false ∧ k.flags.getLsbD 7 = true) ∧
    (∃ (p : HPort) (k : Packet) (rest : List Packet) (s : State), (s.hport p).rxq = k :: rest ∧ k.ptype = PType.layerData
      ∧ 64 ≤ bits k.hw1 24 8) ∧
    (∃ (p : HPort) (k : Packet) (rest : List Packet) (s : State), (s.hport p).rxq = k :: rest ∧ k.ptype = PType.layerData
      ∧ bits k.hw1 24 8 < 64 ∧ (s.buf (bits k.hw1 24 8)).state = BufState.loading ∧ (s.buf (bits k.hw1 24 8)).source =
      0 ∧ 4 * bits k.hw1 0 24 = (s.buf (bits k.hw1 24 8)).fill ∧ (s.buf (bits k.hw1 24 8)).fill + (wordsBytes
      k.payload).length < (s.buf (bits k.hw1 24 8)).size ∧ s.store.bufs.length = 64) ∧
    (∃ (p : HPort) (k : Packet) (rest : List Packet) (s : State), (s.hport p).rxq = k :: rest ∧ k.ptype = PType.layerData
      ∧ bits k.hw1 24 8 < 64 ∧ (s.buf (bits k.hw1 24 8)).state = BufState.loading ∧ (s.buf (bits k.hw1 24 8)).source =
      0 ∧ 4 * bits k.hw1 0 24 = (s.buf (bits k.hw1 24 8)).fill ∧ (s.buf (bits k.hw1 24 8)).fill + (wordsBytes
      k.payload).length = (s.buf (bits k.hw1 24 8)).size ∧ (s.buf (bits k.hw1 24 8)).expect = none ∧
      s.store.bufs.length = 64) ∧
    (∃ (p : HPort) (k : Packet) (rest : List Packet) (s : State), (s.hport p).rxq = k :: rest ∧ k.ptype = PType.layerData
      ∧ bits k.hw1 24 8 < 64 ∧ (s.buf (bits k.hw1 24 8)).state = BufState.loading ∧ (s.buf (bits k.hw1 24 8)).source =
      0 ∧ 4 * bits k.hw1 0 24 ≠ (s.buf (bits k.hw1 24 8)).fill) :=
  ⟨⟨HPort.p0, gapPkt, ([] : List Packet), linkUp [gapPkt], by decide +kernel⟩,
   ⟨HPort.p0, cmdPkt 0x7F [], ([] : List Packet), linkUp [cmdPkt 0x7F []], by decide +kernel⟩,
   ⟨HPort.p0, cmdPkt 0 [1,2], ([] : List Packet), linkUp [cmdPkt 0 [1,2]], by decide +kernel⟩,
   ⟨HPort.p0, cmdPkt 0x10 [0], ([] : List Packet), linkUp [cmdPkt 0x10 [0]], by decide +kernel⟩,
   ⟨HPort.p0, cmdPkt 0x11 [4, 20], ([] : List Packet), linkUp [cmdPkt 0x11 [4, 20]], by decide +kernel⟩,
   ⟨HPort.p0, cmdPkt 0x23 [1], ([] : List Packet), linkUp [cmdPkt 0x23 [1]], by decide +kernel, by decide +kernel,
      by decide +kernel, 1, by decide +kernel⟩,
   ⟨HPort.p0, cmdPkt 0x33 [0], ([] : List Packet), linkUp [cmdPkt 0x33 [0]], by decide +kernel, by decide +kernel,
      by decide +kernel, (0 : Word), by decide +kernel⟩,
   ⟨HPort.p0, clsPkt, ([] : List Packet),
      { linkUp [clsPkt] with cmd := { up.cmd with sessOpen := true, sessPort := .h0, sessId := 7 } }, by decide +kernel,
      by decide +kernel, by decide +kernel, 3, by decide +kernel⟩,
   ⟨HPort.p0, cmdPkt 0x60 [0], ([] : List Packet), linkUp [cmdPkt 0x60 [0]], by decide +kernel, by decide +kernel,
      by decide +kernel, (0 : Word), by decide +kernel⟩,
   ⟨HPort.p0, cmdPkt 0x81 [0xA0000, 1], ([] : List Packet), linkUp [cmdPkt 0x81 [0xA0000, 1]], by decide +kernel,
      by decide +kernel, by decide +kernel, 10, (1 : Word), by decide +kernel⟩,
   ⟨slowCmd 0x31 [3], ([] : List SlowCmd), slowUp (slowCmd 0x31 [3]) up, by decide +kernel, by decide +kernel,
      by decide +kernel, by decide +kernel, by decide +kernel, by decide +kernel, by decide +kernel, (3 : Fin 4),
      by decide +kernel⟩,
   ⟨slowCmd 0x31 [3], ([] : List SlowCmd), slowUp (slowCmd 0x31 [3]) upTry, by decide +kernel, by decide +kernel,
      by decide +kernel, by decide +kernel, by decide +kernel, by decide +kernel, by decide +kernel, by decide +kernel, (3 :
      Fin 4), by decide +kernel⟩,
   ⟨cmdPkt 0 [1,2], up, by decide +kernel⟩,
   ⟨HPort.p0, layerPkt 64 0, ([] : List Packet), layerUp (layerPkt 64 0), by decide +kernel⟩,
   ⟨HPort.p0, layerPkt 3 0, ([] : List Packet), layerUp (layerPkt 3 0), by decide +kernel⟩,
   ⟨HPort.p0, layerPkt 3 0, ([] : List Packet), layerLast (layerPkt 3 0), by decide +kernel⟩,
   ⟨HPort.p0, layerPkt 3 4, ([] : List Packet), layerUp (layerPkt 3 4), by decide +kernel⟩⟩

theorem witness_MemoryCommandsComplete :
    (∃ (c : CmdCtx) (cs : Bool) (a : Word) (n : Word) (s : State), blockOff 12 s = false ∧ slowReady 112 c [if cs = true
      then 1 else 0, a, n] s = true ∧ 4 ≤ BitVec.toNat n ∧ BitVec.toNat n ≤ 256 ∧ BitVec.toNat n % 4 = 0 ∧ usable cs s
      < BitVec.toNat a + BitVec.toNat n) ∧
    (∃ (c : CmdCtx) (cs : Bool) (a : Word) (s : State), blockOff 12 s = false ∧ ∃ (bs : List Word), slowReady 113 c ((if
      cs = true then 1 else 0) :: a :: bs) s = true ∧ BitVec.toNat a + 4 * bs.length ≤ usable cs s ∧ protected_
      (inSession c s) cs (BitVec.toNat a) (4 * bs.length) s = true) ∧
    (∃ (c : CmdCtx) (cs : Bool) (a : Word) (n : Word) (s : State), blockOff 12 s = false ∧ slowReady 114 c [if cs = true
      then 1 else 0, a, n] s = true ∧ protected_ (inSession c s) cs (BitVec.toNat a) (BitVec.toNat n) s = true) ∧
    (∃ (c : CmdCtx) (cs : Bool) (a : Word) (n : Word) (s : State), blockOff 12 s = false ∧ s.xmem.queue = [] ∧ s.xmem.busy
      = none ∧ s.xmem.suspended = none ∧ Memory.wf erased (s.mdev cs).bytes = true ∧ pageOf cs s = none ∧ slowReady
      112 c [if cs = true then 1 else 0, a, n] s = true ∧ 4 ≤ BitVec.toNat n ∧ BitVec.toNat n ≤ 256 ∧ BitVec.toNat n %
      4 = 0 ∧ BitVec.toNat a + BitVec.toNat n ≤ usable cs s) ∧
    (∃ (c : CmdCtx) (cs : Bool) (a : Word) (s : State), blockOff 12 s = false ∧ s.xmem.queue = [] ∧ s.xmem.busy = none ∧
      s.xmem.suspended = none ∧ Memory.wf erased (s.mdev cs).bytes = true ∧ pageOf cs s = none ∧ ∃ (bs : List Word),
      slowReady 113 c ((if cs = true then 1 else 0) :: a :: bs) s = true ∧ BitVec.toNat a + 4 * bs.length ≤ usable cs
      s ∧ protected_ (inSession c s) cs (BitVec.toNat a) (4 * bs.length) s = false ∧ isNand cs s = false) ∧
    (∃ (c : CmdCtx) (cs : Bool) (a : Word) (s : State), blockOff 12 s = false ∧ s.xmem.queue = [] ∧ s.xmem.busy = none ∧
      s.xmem.suspended = none ∧ Memory.wf erased (s.mdev cs).bytes = true ∧ pageOf cs s = none ∧ ∃ (bs : List Word),
      slowReady 113 c ((if cs = true then 1 else 0) :: a :: bs) s = true ∧ BitVec.toNat a + 4 * bs.length ≤ usable cs
      s ∧ protected_ (inSession c s) cs (BitVec.toNat a) (4 * bs.length) s = false ∧ isNand cs s = true ∧ BitVec.toNat
      a % 2 ^ (s.mdev cs).pageLog2 + 4 * bs.length ≤ 2 ^ (s.mdev cs).pageLog2 ∧ 0 < bs.length ∧ 4 * bs.length < 2 ^
      (s.mdev cs).pageLog2) ∧
    (∃ (c : CmdCtx) (cs : Bool) (a : Word) (n : Word) (s : State), blockOff 12 s = false ∧ s.xmem.queue = [] ∧ s.xmem.busy
      = none ∧ s.xmem.suspended = none ∧ Memory.wf erased (s.mdev cs).bytes = true ∧ pageOf cs s = none ∧ slowReady
      114 c [if cs = true then 1 else 0, a, n] s = true ∧ BitVec.toNat a + BitVec.toNat n ≤ usable cs s ∧ BitVec.toNat
      a % eraseUnit cs s = 0 ∧ BitVec.toNat n % eraseUnit cs s = 0 ∧ protected_ (inSession c s) cs (BitVec.toNat a)
      (BitVec.toNat n) s = false) ∧
    (∃ (c : CmdCtx) (b : Bool) (e : DirEntry) (size : Word) (s : State), blockOff 12 s = false ∧ pageOf e.cs1 s = none ∧
      s.xmem.queue = [] ∧ s.xmem.busy = none ∧ s.xmem.suspended = none ∧ s.xmem.fwVerified.length = 2 ∧
      (s.keep.running ≠ if b = true then 2 else 1) ∧ dirFind (fwId b) s = some e ∧ Memory.wf erased (s.mdev
      e.cs1).bytes = true ∧ BitVec.toNat size ≤ e.length ∧ slowReady 115 c [setField (if b = true then 256 else 0) 0 2
      0, size] s = true) ∧
    (∃ (c : CmdCtx) (b : Bool) (e : DirEntry) (s : State), blockOff 12 s = false ∧ pageOf e.cs1 s = none ∧ s.xmem.queue =
      [] ∧ s.xmem.busy = none ∧ s.xmem.suspended = none ∧ s.xmem.fwVerified.length = 2 ∧ (s.keep.running ≠ if b = true
      then 2 else 1) ∧ dirFind (fwId b) s = some e ∧ Memory.wf erased (s.mdev e.cs1).bytes = true ∧ slowReady 115 c
      [setField (if b = true then 256 else 0) 0 2 1, 0] s = true) ∧
    (∃ (c : CmdCtx) (s : State) (a : Word) (n : Word), slowReady 112 c [2, a, n] s = true ∧ 4 ≤ BitVec.toNat n ∧
      BitVec.toNat n ≤ 256 ∧ BitVec.toNat n % 4 = 0 ∧ BitVec.toNat a + BitVec.toNat n ≤ keepSize ∧ c.keepEcc = 0 ∧
      fails 13 0 false s = false ∧ fails 13 1 false s = false) ∧
    (∃ (c : CmdCtx) (s : State) (a : Word) (bs : List Word), slowReady 113 c (2 :: a :: bs) s = true ∧ 40960 ≤
      BitVec.toNat a ∧ BitVec.toNat a + 4 * bs.length ≤ 65536 ∧ inSession c s = true) ∧
    (∃ (c : CmdCtx) (s : State) (a : Word) (bs : List Word), slowReady 113 c (2 :: a :: bs) s = true ∧ 40960 ≤
      BitVec.toNat a ∧ BitVec.toNat a + 4 * bs.length ≤ 65536 ∧ inSession c s = false) ∧
    (∃ (c : CmdCtx) (s : State) (b : Fin 64) (v0 : Word) (v1 : Word) (v2 : Word) (v3 : Word), slowReady 113 c [2, put 0
      (2048 + 16 * ↑b), v0, v1, v2, v3] s = true ∧ inSession c s = true ∧ s.keep.lock.getLsbD ↑b = false) ∧
    (∃ (c : CmdCtx) (s : State) (b : Fin 64) (v0 : Word) (v1 : Word) (v2 : Word) (v3 : Word), slowReady 113 c [2, put 0
      (2048 + 16 * ↑b), v0, v1, v2, v3] s = true ∧ s.keep.lock.getLsbD ↑b = true) ∧
    (∃ (c : CmdCtx) (b : Bool) (s : State), (s.keep.running ≠ if b = true then 2 else 1) ∧ slowReady 115 c [setField (if b
      = true then 256 else 0) 0 2 2, 0] s = true ∧ s.xmem.fwVerified.getD (if b = true then 1 else 0) false = true) ∧
    (∃ (c : CmdCtx) (b : Bool) (s : State), (s.keep.running ≠ if b = true then 2 else 1) ∧ slowReady 115 c [setField (if b
      = true then 256 else 0) 0 2 2, 0] s = true ∧ s.xmem.fwVerified.getD (if b = true then 1 else 0) false = false) ∧
    (∃ (c : CmdCtx) (b : Bool) (s : State), (s.keep.running = if b = true then 2 else 1) ∧ slowReady 115 c [setField (if b
      = true then 256 else 0) 0 2 0, 0] s = true) ∧
    (∃ (x : SlowCmd) (a : Word) (n : Word) (s : State), blockOff 12 s = false ∧ memStarted s = some x ∧ s.xmem.busy = some
      XKind.memCmd ∧ x.opcode = 112 ∧ x.payload = [put 0 (if cmdCs x s = true then 1 else 0), a, n]) ∧
    (∃ (x : SlowCmd) (a : Word) (bs : List Word) (s : State), blockOff 12 s = false ∧ memStarted s = some x ∧ s.xmem.busy
      = some XKind.memCmd ∧ x.opcode = 113 ∧ x.payload = put 0 (if cmdCs x s = true then 1 else 0) :: a :: bs) ∧
    (∃ (x : SlowCmd) (a : Word) (n : Word) (s : State), blockOff 12 s = false ∧ memStarted s = some x ∧ s.xmem.busy = some
      XKind.memCmd ∧ x.opcode = 114 ∧ x.payload = [put 0 (if cmdCs x s = true then 1 else 0), a, n]) ∧
    (∃ (x : SlowCmd) (s : State), memStarted s = some x ∧ x.opcode = 112 ∧ s.xmem.busy = some XKind.memCmd ∧
      s.xmem.queue.contains XKind.memCmd = false ∧ s.xmem.suspended = none ∧ s.xmem.eraseSusp = false ∧ s.ticks <
      x.startedAt + 50000000) ∧
    (∃ (x : SlowCmd) (s : State), memStarted s = some x ∧ x.opcode = 112 ∧ s.xmem.busy = some XKind.memCmd ∧
      s.xmem.queue.contains XKind.memCmd = false ∧ s.xmem.suspended = none ∧ s.xmem.eraseSusp = false ∧ x.startedAt +
      50000000 ≤ s.ticks) :=
  ⟨⟨ctx, true, (0:Word), (4:Word), memUp, by decide +kernel⟩,
   ⟨ctx, false, (0:Word), memUp, by decide +kernel, [(1:Word)], by decide +kernel⟩,
   ⟨ctx, false, (0:Word), (4:Word), memUp, by decide +kernel⟩,
   ⟨ctx, false, (0:Word), (4:Word), memUp, by decide +kernel⟩,
   ⟨ctx, false, 0x1000, memUp, by decide +kernel, by decide +kernel, by decide +kernel, by decide +kernel, by decide +kernel,
      by decide +kernel, [(1:Word), 0xFFFFFFFF], by decide +kernel⟩,
   ⟨ctx, false, 0x1000, nandUp, by decide +kernel, by decide +kernel, by decide +kernel, by decide +kernel, by decide +kernel,
      by decide +kernel, [(1:Word), 0xFFFFFFFF], by decide +kernel⟩,
   ⟨ctx, false, 0x1000, 0x1000, memUp, by decide +kernel⟩,
   ⟨ctxS, true, slotB, (0x10000:Word), ses memUp, by decide +kernel⟩,
   ⟨ctxS, true, slotB, ses memUp, by decide +kernel⟩,
   ⟨ctx, up, (0xA000:Word), (4:Word), by decide +kernel⟩,
   ⟨ctxS, ses up, (0xA000:Word), [(1:Word)], by decide +kernel⟩,
   ⟨ctx, up, (0xA000:Word), [(1:Word)], by decide +kernel⟩,
   ⟨ctxS, ses up, (5 : Fin 64), (1 : Word), (2 : Word), (3 : Word), (4 : Word), by decide +kernel⟩,
   ⟨ctx, up, 1, (1 : Word), (2 : Word), (3 : Word), (4 : Word), by decide +kernel⟩,
   ⟨ctxS, true, fwReady, by decide +kernel⟩,
   ⟨ctxS, true, ses memUp, by decide +kernel⟩,
   ⟨ctxS, false, fwReady, by decide +kernel⟩,
   ⟨{ slowCmd 0x70 [0, 0x1000, 4] with started := true }, (0x1000:Word), (4:Word), memCmdUp 0x70 [0, 0x1000, 4],
      by decide +kernel⟩,
   ⟨{ slowCmd 0x71 [0, 0x1000, 1] with started := true }, (0x1000:Word), [(1:Word)], memCmdUp 0x71 [0, 0x1000, 1],
      by decide +kernel⟩,
   ⟨{ slowCmd 0x72 [0, 0x1000, 0x1000] with started := true }, (0x1000:Word), 0x1000, memCmdUp 0x72 [0, 0x1000, 0x1000],
      by decide +kernel⟩,
   ⟨{ slowCmd 0x70 [0, 0x1000, 4] with started := true }, memCmdUp 0x70 [0, 0x1000, 4], by decide +kernel⟩,
   ⟨{ slowCmd 0x70 [0, 0x1000, 4] with started := true }, late (memCmdUp 0x70 [0, 0x1000, 4]), by decide +kernel⟩⟩

theorem witness_ExternalMemoryWorkRuns :
    (∃ (s : State), blockOff 12 s = false ∧ s.xmem.busy = none ∧ s.xmem.suspended = none ∧ ∃ (k : XKind) (cs : Bool),
      nextWork s = some k ∧ (workCs s k).contains cs = true) ∧
    (∃ (s : State), blockOff 12 s = false ∧ s.xmem.busy = none ∧ s.xmem.suspended = none ∧ s.xmem.partialPage = [] ∧ ∃ (k
      : XKind), nextWork s = some k ∧ k ≠ XKind.deadmap ∧ k ≠ XKind.scrub) ∧
    (∃ (s : State), blockOff 12 s = false ∧ s.xmem.busy = none ∧ s.xmem.suspended = none ∧ s.xmem.partialPage = [] ∧
      nextWork s = some XKind.scrub ∧ s.xmem.scrubAt = none) ∧
    (∃ (s : State), blockOff 12 s = false ∧ s.xmem.busy = none ∧ s.xmem.suspended = none ∧ s.xmem.partialPage = [] ∧
      nextWork s = some XKind.deadmap ∧ s.xmem.deadOn = false) ∧
    (∃ (s : State), blockOff 12 s = false ∧ s.xmem.busy = none ∧ s.xmem.suspended = none ∧ s.xmem.partialPage = [] ∧
      nextWork s = none) ∧
    (∃ (s : State), blockOff 12 s = false ∧ ∃ (b : ℕ) (id : ℕ) (off : ℕ) (e : DirEntry) (r : DirEntry × ℕ), s.xmem.busy =
      some (XKind.layerLoad b id off) ∧ dirFind id { s with xmem := { s.xmem with busy := none } } = some e ∧
      findRecord id { s with xmem := { s.xmem with busy := none } } = some r ∧ off + (s.buf b).size ≤ plenAt r.1.cs1
      r.2 { s with xmem := { s.xmem with busy := none } } ∧ (e.verified = true ∨ recordBad e
      { s with xmem := { s.xmem with busy := none } } = false ∧ fails 12 1 false
      { s with xmem := { s.xmem with busy := none } } = false)) ∧
    (∃ (s : State), blockOff 12 s = false ∧ ∃ (k : XKind) (cs : Bool), s.xmem.busy = some k ∧ s.xmem.suspended = none ∧
      erasing s k = some cs ∧ foreground s = true ∧ (s.mdev cs).suspend = true) ∧
    (∃ (s : State), blockOff 12 s = false ∧ ∃ (k : XKind), s.xmem.busy = none ∧ s.xmem.suspended = some k ∧ foreground s =
      false) ∧
    (∃ (s : State), blockOff 12 s = false ∧ ∃ (b : ℕ) (id : ℕ) (off : ℕ), s.xmem.busy = some (XKind.layerLoad b id off) ∧
      dirFind id s = none) ∧
    (∃ (s : State), blockOff 12 s = false ∧ s.xmem.busy = some XKind.logFlush ∧ unflushed s = []) ∧
    (∃ (s : State), blockOff 12 s = false ∧ ∃ (k : ℕ), s.xmem.busy = some XKind.logFlush ∧ (unflushed s).getLast? = some k
      ∧ hasRegion (recId 96) s = true) ∧
    (∃ (s : State), blockOff 12 s = false ∧ s.xmem.busy = some XKind.deadmap ∧ (dirFind (recId 80) s).isSome = true ∧
      s.xmem.declaredSince = false) ∧
    (∃ (s : State), blockOff 12 s = false ∧ s.xmem.busy = some XKind.deadmap ∧ hasRegion (recId 80) s = true ∧
      s.diag.mapDirty = true) ∧
    (∃ (s : State), blockOff 12 s = false ∧ s.xmem.busy = some XKind.scrub ∧ ∃ (e : DirEntry), s.xmem.dir = [e] ∧ e.region
      = false ∧ recordBad e s = false ∧ fails 12 1 false s = false ∧ (e.recId < recId 32 ∨ recId 35 < e.recId)) ∧
    (∃ (s : State), blockOff 12 s = false ∧ s.xmem.busy = some XKind.mirror ∧ (dirFind (recId 112) s).isSome = true ∧
      fails 13 0 false s = false ∧ fails 13 1 false s = false) :=
  ⟨⟨memUp, by decide +kernel, by decide +kernel, by decide +kernel, XKind.scrub, true, by decide +kernel⟩,
   ⟨{ memUp with xmem := { memUp.xmem with queue := [.mirror] } }, by decide +kernel, by decide +kernel, by decide +kernel,
      by decide +kernel, .mirror, by decide +kernel⟩,
   ⟨memUp, by decide +kernel⟩,
   ⟨deadUp none, by decide +kernel⟩,
   ⟨up, by decide +kernel⟩,
   ⟨recordLoad, by decide +kernel, (3:Nat), (0x3000 : Nat), (0:Nat), recEnt 0x3000, (recEnt 0x3000, (0x60000 : Nat)),
      by decide +kernel⟩,
   ⟨eraseUp, by decide +kernel, .regionErase 0x5000, false, by decide +kernel⟩,
   ⟨suspendedUp, by decide +kernel, .regionErase 0x5000, by decide +kernel⟩,
   ⟨busyUp (.layerLoad 3 0x3000 0) memUp, by decide +kernel, (3:Nat), (0x3000 : Nat), (0:Nat), by decide +kernel⟩,
   ⟨busyUp .logFlush memUp, by decide +kernel⟩,
   ⟨flushUp, by decide +kernel, (3 : Nat), by decide +kernel⟩,
   ⟨deadUp (some .deadmap), by decide +kernel⟩,
   ⟨deadUp (some .deadmap), by decide +kernel⟩,
   ⟨scrubOne, by decide +kernel, by decide +kernel, recEnt 0x1000, by decide +kernel⟩,
   ⟨busyUp .mirror memUp, by decide +kernel⟩⟩

theorem witness_LegacyFramesAct :
    (∃ (s : State), spiOn s = true ∧ s.mode.ifMode = IfMode.compat ∧ s.legacy.keyHalf = true) ∧
    (∃ (s : State), spiOn s = true ∧ s.mode.ifMode = IfMode.compat ∧ ∃ (v : BitVec 16), blockOff 8 s = false ∧ (∀ x ∈
      s.arr.tiles, x.parityBad = false) ∧ fails 8 1 false s = false ∧ s.arr.tiles.length = 256 ∧ ∀ x ∈ s.arr.tiles, 5
      * (v.toNat / 16384 + 1) * (v.toNat % 256 + 128) * (x.ttrim.toNat + 384) ≤ 3200000) ∧
    (∃ (s : State), spiOn s = true ∧ s.mode.ifMode = IfMode.compat ∧ ∃ (v : BitVec 16), blockOff 8 s = false ∧ (∀ x ∈
      s.arr.tiles, x.parityBad = false) ∧ fails 8 1 false s = false ∧ s.arr.tiles.length = 256 ∧ ∃ x ∈ s.arr.tiles,
      3200000 < 5 * (v.toNat / 16384 + 1) * (v.toNat % 256 + 128) * (x.ttrim.toNat + 384)) ∧
    (∃ (s : State), spiOn s = true ∧ s.mode.ifMode = IfMode.compat ∧ ∃ (v : BitVec 16), blockOff 8 s = false ∧ (∀ x ∈
      s.arr.tiles, x.parityBad = false) ∧ fails 8 1 false s = false ∧ s.arr.tiles.length = 256 ∧ s.legacy.tcur.length
      = 32 ∧ ∀ k < 8, tcurCode v.toNat k = 0 ∨ currentAllowed s.legacy.range.toNat s.legacy.gtrim.toNat (64 * tcurCode
      v.toNat k) = true) ∧
    (∃ (s : State), spiOn s = true ∧ s.mode.ifMode = IfMode.compat ∧ ∃ (v : BitVec 16), blockOff 8 s = false ∧ (∀ x ∈
      s.arr.tiles, x.parityBad = false) ∧ fails 8 1 false s = false ∧ s.arr.tiles.length = 256 ∧ s.legacy.tcur.length
      = 32 ∧ ∃ k < 8, tcurCode v.toNat k ≠ 0 ∧ currentAllowed s.legacy.range.toNat s.legacy.gtrim.toNat (64 * tcurCode
      v.toNat k) = false) ∧
    (∃ (s : State), spiOn s = true ∧ s.mode.ifMode = IfMode.compat ∧ s.pwr.pstate = PState.s0 ∧ pwrBusy s = false) :=
  ⟨⟨legacyUp (fun l => { l with keyHalf := true, fault := 0x81, verr := 7 }), by decide +kernel⟩,
   ⟨upCompat, by decide +kernel, by decide +kernel, 0x0050, by decide +kernel⟩,
   ⟨upCompat, by decide +kernel, by decide +kernel, (0xC0FF : BitVec 16), by decide +kernel⟩,
   ⟨upCompat, by decide +kernel, by decide +kernel, (0xC0FF : BitVec 16), by decide +kernel⟩,
   ⟨legacyUp (fun l => { l with range := 3, gtrim := 200 }), by decide +kernel, by decide +kernel, (0xC0FF : BitVec 16),
      by decide +kernel, by decide +kernel, by decide +kernel, by decide +kernel, by decide +kernel, (0:Nat),
      by decide +kernel⟩,
   ⟨upCompat, by decide +kernel⟩⟩

theorem witness_LegacyRowsFillTheFrame :
    (∃ (row : Fin 1024) (px : List Word) (line : List Bool) (s : State), videoOn s = true ∧ px.length = 256 ∧
      s.legacy.pending = false ∧ (↑row = 0 ∧ s.legacy.rx.inFrame = false ∨ ↑row ≠ 0 ∧ s.legacy.rx.inFrame = true ∧
      ↑row = s.legacy.rx.lastRow + 1) ∧ s.h0.rxWords ++ (hear HPort.p0 0 line s).2 = withCrc8 (put 24 197 ||| put 8
      ↑row) :: px ++ [BitVec.ofNat 32 (crc32 (wordsBytes px))]) ∧
    (∃ (row : Fin 1024) (px : List Word) (line : List Bool) (s : State), videoOn s = true ∧ px.length = 256 ∧
      s.legacy.pending = false ∧ s.legacy.rx.inFrame = true ∧ s.h0.rxWords ++ (hear HPort.p0 0 line s).2 = withCrc8
      (put 24 197 ||| put 8 ↑row) :: px ++ [BitVec.ofNat 32 (crc32 (wordsBytes px)) + 1]) ∧
    (∃ (s : State), s.compat = true ∧ s.legacy.rx.vidLock = true ∧ s.legacy.rx.headAt + 2500000 ≤ s.ticks) ∧
    (∃ (s : State), s.compat = true ∧ s.legacy.rx.vidLock = true ∧ s.ticks < s.legacy.rx.headAt + 2500000) :=
  ⟨⟨(0 : Fin 1024), rowWords, lineOf [rowTrailer], rowUp 0 id, by decide +kernel, by decide +kernel, by decide +kernel,
      by decide +kernel, by rw [row_crc]; decide +kernel⟩,
   ⟨1023, rowWords, lineOf [rowTrailer + 1], rowUp 1023 (fun l =>
      { l with rx := { l.rx with inFrame := true, lastRow := 1022, vidLock := true } }), by decide +kernel,
      by decide +kernel, by decide +kernel, by decide +kernel, by rw [row_crc]; decide +kernel⟩,
   ⟨{ legacyUp (fun l => { l with rx := { l.rx with vidLock := true } }) with ticks := 10 ^ 7 }, by decide +kernel⟩,
   ⟨rowUp 1023 (fun l => { l with rx := { l.rx with inFrame := true, lastRow := 1022, vidLock := true } }), by decide +kernel⟩⟩

theorem witness_MemoryWritesTouchOnlyTheirBytes :
    (∃ (cs : Bool) (a : ℕ) (bs : List Byte) (s : State), Memory.wf erased (s.mdev cs).bytes = true ∧ ∃ (k : ℕ), k < a ∨ a
      + bs.length ≤ k) ∧
    (∃ (cs : Bool) (a : ℕ) (n : ℕ) (s : State), Memory.wf erased (s.mdev cs).bytes = true ∧ ∃ (k : ℕ), k < a ∨ a + n ≤ k)
      ∧
    (∃ (a : ℕ) (bs : List Byte) (s : State), Memory.wf 0 s.keep.bytes = true ∧ ∃ (k : ℕ), k < a ∨ a + bs.length ≤ k) :=
  ⟨⟨false, (4:Nat), [(1:Byte), 0xFF, 7], memSome, by decide +kernel, (0:Nat), by decide +kernel⟩,
   ⟨false, (4:Nat), (3 : Nat), memSome, by decide +kernel, (0:Nat), by decide +kernel⟩,
   ⟨(0x11:Nat), [(1:Byte), 0, 7], memSome, by decide +kernel, (0:Nat), by decide +kernel⟩⟩

/-- The state after reset is safe, and the block idles there. -/
theorem witness_EveryStepKeepsTheSafeState :
    (∃ s : State, Safe s ∧ step s = .next s) ∧ (∃ s : State, Safe s ∧ deep s.pwr.pstate = true) ∧
    (∃ s : State, Safe s ∧ estate s = 3) ∧
    (∃ s : State, Safe s ∧ ∃ x ∈ s.arr.tiles, x.shutdown = true ∨ x.ocTrip = true ∨ x.swFail = true ∨ x.on = false) ∧
    (∃ s : State, Safe s ∧ ∃ p, p ∈ s.arr.live) :=
  ⟨⟨settle State.reset, settle_safe _, rfl⟩,
   ⟨settle (inState .s2), settle_safe _, by decide +kernel⟩,
   ⟨settle ((mainHealth { role := .failed }).modEng .fore (fun x => { x with health := { x.health with role := .failed } })),
     settle_safe _, by decide +kernel⟩,
   ⟨settle up, settle_safe _, by decide +kernel⟩,
   ⟨settle { tileClosed with arr := { tileClosed.arr with live := [(330, ⟨1, 2⟩)] } }, settle_safe _, (330, ⟨1, 2⟩), by decide +kernel⟩⟩

/-- States whose evaluation ends Dark, not NORMAL, and with a closed switch. -/
theorem witness_EvaluationEndKeepsTheRest :
    (∃ (b : Nat) (s : State), b ≠ 2 ∨ h1Off s = false ∨ s.h1.cfgRole = .off) ∧
    (∃ s : State, s.bstay.beam = .dark) ∧ (∃ s : State, s.bstay.beam ≠ .normal) ∧
    (∃ (k : Nat) (s : State), ((settle s).tile k).swClosed = true ∧ ((settle s).tile k).on = true) :=
  ⟨⟨1, up, by decide +kernel⟩, ⟨{ up with bstay := { up.bstay with beam := .dark } }, by decide +kernel⟩, ⟨upTry, by decide +kernel⟩,
   ⟨5, tileClosed, by decide +kernel⟩⟩

/-- A state with a command at the front of its queue, and one with none. -/
theorem witness_StepRunsTheFrontCommand : (∃ s : State, s.pending = []) ∧ (∃ s : State, s.pending = [.safeNLow]) :=
  ⟨⟨up, rfl⟩, ⟨{ up with pending := [.safeNLow] }, rfl⟩⟩
/-! ### Ill-formed commands and events are refused -/

theorem test_command_form : Instr.wellFormed (.ping ctx [0xCAFE]) = true ∧
    Instr.wellFormed (.ping { ctx with ch := 13 } []) = false ∧
    Instr.wellFormed (.ping { ctx with keepEcc := 3 } []) = false ∧
    Instr.wellFormed (.ping ctx (List.replicate 1025 0)) = false := by decide +kernel

theorem test_rail_count : Instr.wellFormed (.vledMeasure 0 900 (List.replicate 256 3900)) = true ∧
    Instr.wellFormed (.vledMeasure 0 900 [3900]) = false := by decide +kernel

theorem test_gap_tiles : Instr.wellFormed (.gapStart [(255, 300)] [] [] false) = true ∧
    Instr.wellFormed (.gapStart [(256, 300)] [] [] false) = false ∧
    Instr.wellFormed (.gapStart [] [(256, 300)] [] false) = false ∧
    Instr.wellFormed (.gapStart [] [] [256] false) = false := by decide +kernel

/-- A sample of a pixel. -/
def sample (pixel : Nat) : NodeSample := { pixel := pixel, mv := 2000, probeLost := false }

theorem test_latch_pixels : Instr.wellFormed (.darkProbe [sample 1048575]) = true ∧
    Instr.wellFormed (.darkProbe [sample 1048576]) = false ∧
    Instr.wellFormed (.capture [sample 1048576]) = false := by decide +kernel

theorem test_row_errors : Instr.wellFormed (.rowComplete .main [] [1048575] [(65, 0)] 0) = true ∧
    Instr.wellFormed (.rowComplete .main [] [1048576] [] 0) = false ∧
    Instr.wellFormed (.rowComplete .main [] [] [(66, 0)] 0) = false := by decide +kernel

theorem test_read_outcomes : Instr.wellFormed (.logEntryWrite 2 2) = true ∧
    Instr.wellFormed (.logEntryWrite 3 0) = false ∧ Instr.wellFormed (.logEntryWrite 0 3) = false ∧
    Instr.wellFormed (.slowPathExecute ⟨2, 2, []⟩) = true ∧
    Instr.wellFormed (.slowPathExecute ⟨3, 0, []⟩) = false ∧ Instr.wellFormed (.slowPathExecute ⟨0, 3, []⟩) = false := by decide +kernel

theorem test_boot_form : Instr.wellFormed (.boot (bareBoot true)) = true ∧
    Instr.wellFormed (.boot { bareBoot true with keepEcc := 3 }) = false ∧
    Instr.wellFormed (.boot { bareBoot true with tests := { quietTests with vled := List.replicate 7 (4300, 4300) } }) = false ∧
    Instr.wellFormed (.boot { bareBoot true with tests := { quietTests with nodes := List.replicate 7 [] } }) = false ∧
    Instr.wellFormed (.boot { bareBoot true with tests := { quietTests with nodes := [[sample 1048576]] } }) = false := by
  decide +kernel

theorem test_serial_forms : Instr.wellFormed (.legacyClearOnRead 0x0B) = false ∧
    Instr.wellFormed (.legacyClearOnRead 0x09) = true ∧ Instr.wellFormed (.packetReceive .p0 ⟨[], []⟩) = false ∧
    Instr.wellFormed (.rowCellReceive []) = false ∧ Instr.wellFormed (.tunnelTransaction 64 [0]) = false ∧
    Instr.wellFormed (.tunnelTransaction 0 []) = false ∧ Instr.wellFormed (.tunnelTransaction 64 [0, 0]) = true := by
  decide +kernel

/-! ### Values the spec works out -/

/-- The bytes of "123456789", over which Table 18.1 gives its check values. -/
def digits : List Byte := [0x31, 0x32, 0x33, 0x34, 0x35, 0x36, 0x37, 0x38, 0x39]

/-- The check values of Table 18.1. -/
theorem test_crc_check_values : crc8 digits = 0x20 ∧ crc16 digits = 0x29B1 ∧ crc32 digits = 0xCBF43926 ∧
    crc32c digits = 0xE3069283 := by decide +kernel

/-- The first two vectors of RFC 4493 (outside the spec, log entry 50). -/
theorem test_cmac_vectors :
    let k : List Byte := [0x2b, 0x7e, 0x15, 0x16, 0x28, 0xae, 0xd2, 0xa6, 0xab, 0xf7, 0x15, 0x88, 0x09, 0xcf, 0x4f, 0x3c]
    let m : List Byte := [0x6b, 0xc1, 0xbe, 0xe2, 0x2e, 0x40, 0x9f, 0x96, 0xe9, 0x3d, 0x7e, 0x11, 0x73, 0x93, 0x17, 0x2a]
    aesCmac k [] = [0xbb, 0x1d, 0x69, 0x29, 0xe9, 0x59, 0x37, 0x28, 0x7f, 0xa3, 0x7d, 0x12, 0x9b, 0x75, 0x67, 0x46] ∧
    aesCmac k m = [0x07, 0x0a, 0x16, 0xb4, 0x6b, 0x4d, 0x41, 0x44, 0xf7, 0x9b, 0xdd, 0x9d, 0xd0, 0x4a, 0x28, 0x7c] := by
  decide +kernel

/-- The core header of a PLI of 9, worked out in chapter 18. -/
theorem test_core_header : coreHeader 9 = 0x00098C26 := by decide +kernel

/-- Legacy frames worked out in chapter 19. -/
theorem test_legacy_frames : writeFrame 0x7F 0x5A5A = 0xFF5A5A88 ∧ writeFrame 0x7F 0xA5A5 = 0xFFA5A572 ∧
    readFrame 3 = 0x0300007B ∧ writeFrame 1 0 = 0x810000AA ∧ legacyReply false 0x7F 0 = 0x7F0000CD ∧
    legacyReply false 0x7F 0xA5A5 = 0x7FA5A5BF := by decide +kernel

/-- The example of R83: 184 is the greatest GCUR for code 3 with TTRIM 128. -/
theorem test_current_limit : currentAllowed 3 184 128 = true ∧ currentAllowed 3 185 128 = false := by decide +kernel

/-- Worked conversions (R123, R124). -/
theorem test_hybrid_examples : driveUnits 100 = 98 ∧ hybrid 16 98 = mkCode 16 6 ∧ hybrid 1 98 = mkCode 1 98 ∧
    driveUnits 5 = 5 ∧ hybrid 16 16368 = ⟨16, 1023⟩ ∧ hybrid 16 16369 = ⟨17, 963⟩ ∧ codeWord ⟨40, 300⟩ = 0xA12C := by
  decide +kernel

/-- The worked clamp of R234: limit 6000 and the pair (44, 1006). -/
theorem test_clamp_example : limitUnits 6000 = 5901 ∧ clampCode 6000 ⟨44, 1006⟩ = some ⟨44, 134⟩ := by decide +kernel

/-- A tile number and a junction temperature worked out in chapters 03 and 14. -/
theorem test_tile_and_junction : tileOfPix (1024 * 130 + 700) = 42 ∧ junction 320 2048 3900 60000 = 2123 := by
  decide +kernel

/-- The entry of TILE_OC worked out in chapter 13. -/
theorem test_log_words : (faultRec 1 8 0 42 true false 2 0x21 1 0 up).w0 = 0x1A080021 ∧
    (faultRec 1 8 0 42 true false 2 0x21 1 0 up).w1 = 0x002A0001 := by decide +kernel

/-- Line bits ahead of an LCW keep the descrambler in step (R260, R261). -/
theorem test_lcw_lead :
    let bits := lineOf [0xC0FFEE00, lcwGood]
    let s := heard (linkUp [])
    (hear .p0 0 (bits.drop 32) (hear .p0 0 (bits.take 32) s).1).2 = [lcwGood] := by decide +kernel

end Sys2Proof.Tests
end

section
/-! What the end of an evaluation keeps, field by field, and that it forces no fault source. -/

namespace Sys2Proof.Machine

/-! ### What the end of an evaluation keeps -/

/-- What `untouched` shows of a state is the same in two states that it makes equal. -/
theorem keeps_of_untouched {α : Type} (g : State → α) (hg : ∀ u, g (untouched u) = g u) {s t : State}
    (h : untouched t = untouched s) : g t = g s := by
  rw [← hg t, h, hg]

/-- What `untouched` shows of a state is the same after the end of an evaluation. -/
theorem settle_keeps {α : Type} (g : State → α) (hg : ∀ u, g (untouched u) = g u) (s : State) : g (settle s) = g s :=
  keeps_of_untouched g hg (untouched_settle s)

@[simp] theorem settle_mode (s : State) : (settle s).mode = s.mode := settle_keeps (fun u => u.mode) (fun _ => rfl) s
@[simp] theorem settle_time (s : State) : (settle s).time = s.time := settle_keeps (fun u => u.time) (fun _ => rfl) s
@[simp] theorem settle_keep (s : State) : (settle s).keep = s.keep := settle_keeps (fun u => u.keep) (fun _ => rfl) s
@[simp] theorem settle_pending (s : State) : (settle s).pending = s.pending := settle_keeps (fun u => u.pending) (fun _ => rfl) s
@[simp] theorem settle_sessOpen (s : State) : (settle s).cmd.sessOpen = s.cmd.sessOpen :=
  settle_keeps (fun u => u.cmd.sessOpen) (fun _ => rfl) s
@[simp] theorem settle_sessId (s : State) : (settle s).cmd.sessId = s.cmd.sessId :=
  settle_keeps (fun u => u.cmd.sessId) (fun _ => rfl) s
@[simp] theorem settle_stageCeil (s : State) : (settle s).bstay.stageCeil = s.bstay.stageCeil :=
  settle_keeps (fun u => u.bstay.stageCeil) (fun _ => rfl) s
@[simp] theorem settle_stageZlim (s : State) : (settle s).bstay.stageZlim = s.bstay.stageZlim :=
  settle_keeps (fun u => u.bstay.stageZlim) (fun _ => rfl) s
@[simp] theorem settle_rstCause (s : State) : (settle s).pwr.rstCause = s.pwr.rstCause :=
  settle_keeps (fun u => u.pwr.rstCause) (fun _ => rfl) s
@[simp] theorem settle_ready (s : State) : (settle s).pwr.ready = s.pwr.ready :=
  settle_keeps (fun u => u.pwr.ready) (fun _ => rfl) s

/-! ### Force bits through the end of an evaluation -/

/-- The force bits of the fault windows (R377). -/
def forces (s : State) : List Word := s.flt.map FltWin.force

theorem forces_foldl {α : Type} (f : State → α → State) (h : ∀ s a, forces (f s a) = forces s) (l : List α) (s : State) :
    forces (l.foldl f s) = forces s := by
  induction l generalizing s with
  | nil => rfl
  | cons a l ih => rw [List.foldl_cons, ih, h]

theorem forces_modWin (b : Nat) (f : FltWin → FltWin) (s : State) (h : ∀ w, (f w).force = w.force) :
    forces (s.modWin b f) = forces s := map_modAt FltWin.force _ _ _ h

@[simp] theorem hitIf_flt (c : Bool) (b o n : Nat) (s : State) : (s.hitIf c b o n).flt = s.flt := by
  unfold State.hitIf; split <;> rfl

@[simp] theorem pushEvent_flt (e : Event) (s : State) : (pushEvent e s).flt = s.flt := by
  unfold pushEvent
  split
  · exact hitIf_flt _ _ _ _ _
  · rfl

theorem forces_pushEvent (e : Event) (s : State) : forces (pushEvent e s) = forces s := by simp [forces]

theorem forces_queueEvent (c v : Nat) (ws : List Word) (s : State) : forces (queueEvent c v ws s) = forces s :=
  forces_pushEvent _ s

theorem forces_legacyMark (b n i : Nat) (r : Bool) (s : State) : forces (legacyMark b n i r s) = forces s := by
  unfold legacyMark; split <;> rfl

theorem forces_onceReact (b : Nat) (r : BitVec 8) (s : State) : forces (onceReact b r s) = forces s := by
  unfold onceReact
  extract_lets s0 s1 s2 s3 s4 s5 a6 s6
  have e1 : forces s1 = forces s := by simp only [s1]; split <;> rfl
  have e2 : forces s2 = forces s1 := by simp only [s2]; split <;> rfl
  have e3 : forces s3 = forces s2 := by
    simp only [s3]; split
    · exact forces_modWin _ _ _ (fun _ => rfl)
    · rfl
  have e4 : forces s4 = forces s3 := by simp only [s4]; split <;> rfl
  have e5 : forces s5 = forces s4 := by simp only [s5]; split <;> rfl
  have e6 : forces s6 = forces s5 := by simp only [s6]; split <;> rfl
  rw [← e1, ← e2, ← e3, ← e4, ← e5, ← e6]
  split <;> rfl

theorem forces_raiseFault (b n i : Nat) (x y : Bool) (s : State) : forces (raiseFault b n i x y s) = forces s := by
  unfold raiseFault
  extract_lets stays w rising again sev h r count off timed logged applied f bitn s1 l2 s2 s3 s4
  have e1 : forces s1 = forces s := forces_modWin _ _ _ (fun _ => rfl)
  have e3 : forces s3 = forces s1 := by simp only [s3]; split <;> rfl
  have e4 : forces s4 = forces s3 := forces_legacyMark _ _ _ _ _
  split
  · rw [forces_onceReact, e4, e3, e1]
  · rw [e4, e3, e1]

theorem forces_cancelSwitch (s : State) : forces (cancelSwitch s) = forces s :=
  forces_foldl _ (fun s _ => forces_pushEvent _ s) _ s

theorem forces_wbAbort (s : State) : forces (wbAbort s) = forces s := by
  unfold wbAbort; extract_lets; split <;> rfl

theorem forces_modEng (e : Eng) (f : Engine → Engine) (s : State) : forces (s.modEng e f) = forces s := by
  cases e <;> rfl

theorem forces_startStep1 (e : Eng) (s : State) : forces (startStep1 e s) = forces s := by
  unfold startStep1
  split
  · rw [forces_modWin _ _ _ (fun _ => by rfl), forces_modEng]
  · exact forces_modEng _ _ _

theorem forces_failEng (e : Eng) (n : Nat) (s : State) : forces (failEng e n s) = forces s := forces_modEng _ _ _

theorem forces_markChange (c : Nat) (s : State) : forces (markChange c s) = forces s := rfl

theorem forces_reqTrysail (c : Nat) (s : State) : forces (reqTrysail c s) = forces s := rfl

theorem forces_setRole (e : Eng) (r : Role) (s : State) : forces (setRole e r s) = forces s := forces_modEng _ _ _

theorem forces_bothLost (c : Nat) (x y : Bool) (s : State) : forces (bothLost c x y s) = forces s := by
  unfold bothLost
  extract_lets lf drop s1 b2 a2 s2 s3
  have hd (e : Eng) (n : Nat) (s : State) : forces (drop e n s) = forces s := by
    simp only [drop]
    split <;> split <;> simp only [forces_startStep1, forces_failEng]
  have e1 : forces s1 = forces s := by
    simp only [s1, forces_markChange, hd, forces_cancelSwitch, forces_wbAbort]
  clear_value s1
  have e2 : forces s2 = forces s1 := rfl
  rw [forces_reqTrysail, forces_queueEvent]
  simp only [s3]
  rw [forces_raiseFault, e2, e1]

theorem forces_switchOver (e : Eng) (c : Nat) (s : State) : forces (switchOver e c s) = forces s := by
  unfold switchOver
  extract_lets s0 s1
  have e1 : forces s1 = forces s := by
    simp only [s1, s0, forces_markChange, forces_setRole, forces_failEng, forces_cancelSwitch, forces_wbAbort]
  exact e1

theorem forces_standbyFails (e : Eng) (c : Nat) (s : State) : forces (standbyFails e c s) = forces s := by
  unfold standbyFails
  extract_lets s1
  have e1 : forces s1 = forces s := by
    simp only [s1, forces_markChange, forces_startStep1, forces_failEng, forces_cancelSwitch]
  exact e1

theorem forces_arbApply (a : Eng) (x y : Bool) (c : Nat) (p q : Bool) (s : State) :
    forces (arbApply a x y c p q s) = forces s := by
  unfold arbApply
  repeat' split
  all_goals simp only [forces_bothLost, forces_switchOver, forces_standbyFails]

theorem forces_arbitrate (x y : Bool) (s : State) : forces (arbitrate x y s) = forces s := by
  unfold arbitrate
  extract_lets hb
  split
  · rfl
  · split
    · rfl
    · extract_lets
      split
      · rfl
      · split
        · exact forces_cancelSwitch s
        · exact forces_arbApply _ _ _ _ _ _ _

theorem forces_pushLog (r : LogRec) (s : State) : forces (pushLog r s) = forces s := by
  unfold pushLog; split <;> rfl

theorem forces_takeFirst (l : List Fresh) (s : State) : forces (takeFirst l s) = forces s := by
  refine forces_foldl _ (fun s f => ?_) l s
  split <;> refine forces_modWin _ _ _ (fun w => ?_) <;> split <;> rfl

theorem forces_flushFresh (s : State) : forces (flushFresh s) = forces s := by
  unfold flushFresh
  split
  · rfl
  · extract_lets l g s1
    have e1 : forces s1 = forces s := forces_takeFirst _ _
    rw [forces_foldl _ (fun s f => ?_) l s1, e1]
    simp only []
    split <;> split <;> simp only [forces_queueEvent, forces_pushLog]

theorem forces_raiseTimes (b n k : Nat) (s : State) : forces (raiseTimes b n k s) = forces s := by
  induction k generalizing s with
  | zero => rfl
  | succ k ih => rw [raiseTimes, ih, forces_raiseFault]

theorem forces_raiseLost (s : State) : forces (raiseLost s) = forces s := by
  unfold raiseLost
  rw [forces_raiseTimes]
  exact forces_raiseTimes _ _ _ _

theorem forces_reportLost (k : Nat) (s : State) : forces (reportLost k s) = forces s := by
  induction k generalizing s with
  | zero => rfl
  | succ k ih => rw [reportLost, ih, forces_flushFresh, forces_raiseLost]

theorem forces_reportBeam (s : State) : forces (reportBeam s) = forces s := by
  unfold reportBeam
  split
  · rfl
  · exact forces_queueEvent _ _ _ s

theorem forces_clearNow (s : State) : forces (clearNow s) = forces s := rfl

/-- Where no source is forced, the forcing rules force none. -/
theorem noForce_force {s : State} (h : ∀ w ∈ s.flt, w.force = 0) : ∀ w ∈ (force s).flt, w.force = 0 := by
  have hl (x : FltWin) (hx : x ∈ if injOff s then s.flt.map (fun w => { w with inject := 0, force := 0 }) else s.flt) :
      x.force = 0 := by
    split at hx
    · obtain ⟨v, -, rfl⟩ := List.mem_map.mp hx; rfl
    · exact h x hx
  intro w hw
  have hw' : w ∈ forcedWindows s := hw
  unfold forcedWindows at hw'
  extract_lets l at hw'
  split at hw'
  · rcases mem_modAt _ _ _ _ hw' with hm | ⟨_, rfl⟩
    · exact hl w hm
    · rfl
  · exact hl w hw'

theorem noForce_iff (s : State) : (∀ w ∈ s.flt, w.force = 0) ↔ ∀ x ∈ forces s, x = 0 := by
  simp [forces]

theorem noForce_of_forces {s t : State} (e : forces t = forces s) (h : ∀ w ∈ s.flt, w.force = 0) : ∀ w ∈ t.flt, w.force = 0 := by
  rw [noForce_iff, e, ← noForce_iff]; exact h

/-- The end of an evaluation forces no source. -/
theorem noForce_settle {s : State} (h : ∀ w ∈ s.flt, w.force = 0) : ∀ w ∈ (settle s).flt, w.force = 0 := by
  rw [settle_eq]
  have h1 : forces (clearNow (reportLost 5 (flushFresh (arbitrate false false s)))) = forces s := by
    rw [forces_clearNow, forces_reportLost, forces_flushFresh, forces_arbitrate]
  generalize clearNow (reportLost 5 (flushFresh (arbitrate false false s))) = u at h1
  have h2 := noForce_force (noForce_of_forces h1 h)
  have h3 := noForce_force (noForce_of_forces (forces_reportBeam _) h2)
  exact h3

end Sys2Proof.Machine
end

section
/-! The state after reset is at rest. -/

namespace Sys2Proof.Machine

theorem reset_tiles {x : Tile} (h : x ∈ State.reset.arr.tiles) : x = {} :=
  List.eq_of_mem_replicate h

theorem modeForced_reset : ModeForced State.reset :=
  ⟨by decide, by decide, by decide⟩

theorem injectionForced_reset : InjectionForced State.reset := by
  intro h; exact absurd h (by decide)

theorem tilesSafe_reset : TilesSafe State.reset := by
  refine ⟨fun x hx _ => ?_, fun p hp => ?_, fun p hp => ?_⟩
  · rw [reset_tiles hx]; exact ⟨rfl, rfl⟩
  · cases hp
  · cases hp

theorem settled_reset : Settled State.reset := ⟨rfl, rfl, rfl, by decide⟩

theorem noErrorLine_reset : NoErrorLine State.reset := by
  intro e _
  cases e <;> decide

theorem pinsFollow_reset : PinsFollow State.reset := by
  unfold PinsFollow; decide +kernel

theorem calm_reset : Calm State.reset :=
  ⟨rfl, by decide, modeForced_reset, injectionForced_reset, tilesSafe_reset, settled_reset, noErrorLine_reset, rfl, rfl⟩

theorem atRest_reset : AtRest State.reset := ⟨calm_reset, pinsFollow_reset⟩

theorem beamForced_reset : BeamForced State.reset := ⟨by decide, by decide⟩

theorem safe_reset : Safe State.reset :=
  ⟨beamForced_reset, modeForced_reset, injectionForced_reset, tilesSafe_reset, pinsFollow_reset, settled_reset⟩

/-- Settles O57: the reset state is calm and drives its contacts as Table 20.4 gives them, so that an evaluation leaves it. -/
theorem resetIsSafeAndAtRest : Obligations.ResetIsSafeAndAtRest := by
  refine ⟨rfl, safe_reset, atRest_reset, settle_atRest _ atRest_reset, rfl, rfl, rfl, rfl, rfl, rfl, fun x hx => ?_, rfl, rfl, rfl⟩
  rw [reset_tiles hx]; exact ⟨rfl, rfl⟩

end Sys2Proof.Machine
end

section
/-! Writes of the composition part of an engine window (R143, R174, R175). -/

namespace Sys2Proof.Machine

/-- A composition register write that is made and meets no parity error is `cmpWrite` and the closing of the evaluation. -/
theorem exec_compositionRegWrite {src : RegSrc} {e : Eng} {s : State} (hr : regReady (engBlk e) src s = true)
    (hq : fails (engBlk e) 1 false s = false) {off : BitVec 16} (v : Word) (ha : off.toNat % 4 = 0) (hi : off.toNat < 0x8000) :
    exec (.compositionRegWrite src e off v) s =
      .next (settle { (cmpWrite off.toNat v s).1 with lastStatus := (cmpWrite off.toNat v s).2 }) := by
  show done _ = _
  rw [writeAt_ready _ _ _ _ _ hr ha]
  simp [done, inCmp, hi, engAccess, check_quiet _ _ _ _ _ hq]

theorem cmpWrite_unassigned {off : Nat} (h : cmpAssigned off = false) (v : Word) (s : State) : cmpWrite off v s = (s, stOk) := by
  simp [cmpWrite, h]

theorem cmpWrite_compat {off : Nat} (h : cmpAssigned off = true) (v : Word) {s : State} (hc : s.compat = true) :
    cmpWrite off v s = (s, stBadState) := by
  simp [cmpWrite, h, hc]

theorem cmpWrite_ctrl (v : Word) {s : State} (hc : s.compat = false) :
    cmpWrite 0 v s = if bits v 24 8 = 0 then (s, stBadParam)
      else (s.modBoth (fun x => x.modComp (fun c => { c with ctrl := v &&& 0xFF01FFFF, pend := true })), stOk) := by
  simp [cmpWrite, cmpAssigned, hc]

theorem cmpWrite_layer {n o : Nat} (hn : n < 8) (ho : o < 0x20) (v : Word) {s : State} (hc : s.compat = false) :
    cmpWrite (0x100 + 0x20 * n + o) v s = layerWrite n o v s := by
  have hd : (0x100 + 0x20 * n + o - 0x100) / 0x20 = n := by omega
  have hm : (0x100 + 0x20 * n + o) % 0x20 = o := by omega
  have ha : cmpAssigned (0x100 + 0x20 * n + o) = true := by simp [cmpAssigned]; omega
  have h14 : ¬ 0x100 + 0x20 * n + o = 0x14 := by omega
  have h18 : ¬ 0x100 + 0x20 * n + o = 0x18 := by omega
  have h0 : ¬ 0x100 + 0x20 * n + o = 0 := by omega
  have hr : 0x100 ≤ 0x100 + 0x20 * n + o ∧ 0x100 + 0x20 * n + o < 0x200 := by omega
  simp only [cmpWrite, ha, hc, hd, hm, if_neg h0, if_neg h14, if_neg h18, if_pos hr, Bool.not_true, Bool.false_eq_true, if_false]

theorem cmpWrite_placement {n m o : Nat} (hn : n < 8) (hm : m < 32) (ho : o < 8) (v : Word) {s : State} (hc : s.compat = false) :
    cmpWrite (0x1000 + 0x100 * n + 8 * m + o) v s =
      (placeSprite n m (if o = 0 then { spGet (curLayer n s).sprReg m {} with w0 := v &&& 0xFFFF80FF }
        else { spGet (curLayer n s).sprReg m {} with w1 := v &&& 0x1FFF1FFF }) s, stOk) := by
  have hd : (0x1000 + 0x100 * n + 8 * m + o - 0x1000) / 0x100 = n := by omega
  have hm' : (0x1000 + 0x100 * n + 8 * m + o) % 0x100 / 8 = m := by omega
  have ho' : (0x1000 + 0x100 * n + 8 * m + o) % 8 = o := by omega
  have ha : cmpAssigned (0x1000 + 0x100 * n + 8 * m + o) = true := by simp [cmpAssigned]; omega
  have h0 : ¬ 0x1000 + 0x100 * n + 8 * m + o = 0 := by omega
  have h14 : ¬ 0x1000 + 0x100 * n + 8 * m + o = 0x14 := by omega
  have h18 : ¬ 0x1000 + 0x100 * n + 8 * m + o = 0x18 := by omega
  have hl : ¬ (0x100 ≤ 0x1000 + 0x100 * n + 8 * m + o ∧ 0x1000 + 0x100 * n + 8 * m + o < 0x200) := by omega
  have hr : 0x1000 ≤ 0x1000 + 0x100 * n + 8 * m + o ∧ 0x1000 + 0x100 * n + 8 * m + o < 0x1800 := by omega
  simp only [cmpWrite, ha, hc, hd, hm', ho', if_neg h0, if_neg h14, if_neg h18, if_neg hl, if_pos hr, Bool.not_true,
    Bool.false_eq_true, if_false]

/-- A layer register write through a window, in native mode. -/
theorem exec_layerRegWrite {src : RegSrc} {e : Eng} {s : State} (hr : regReady (engBlk e) src s = true)
    (hq : fails (engBlk e) 1 false s = false) (hc : s.compat = false) (v : Word) (n : Fin 8) {o : Nat} (ho : o < 0x20)
    (h4 : o % 4 = 0) :
    exec (.compositionRegWrite src e (BitVec.ofNat 16 (0x100 + 0x20 * n.val + o)) v) s =
      .next (settle { (layerWrite n o v s).1 with lastStatus := (layerWrite n o v s).2 }) := by
  have hn := n.isLt
  have hoff : (BitVec.ofNat 16 (0x100 + 0x20 * n.val + o)).toNat = 0x100 + 0x20 * n.val + o := by
    simp only [BitVec.toNat_ofNat]; omega
  rw [exec_compositionRegWrite hr hq v (by omega) (by omega), hoff, cmpWrite_layer hn ho v hc]

/-- A placement register write through a window, in native mode. -/
theorem exec_placementRegWrite {src : RegSrc} {e : Eng} {s : State} (hr : regReady (engBlk e) src s = true)
    (hq : fails (engBlk e) 1 false s = false) (hc : s.compat = false) (v : Word) (n : Fin 8) (m : Fin 32) {o : Nat} (ho : o < 8)
    (h4 : o % 4 = 0) :
    exec (.compositionRegWrite src e (BitVec.ofNat 16 (0x1000 + 0x100 * n.val + 8 * m.val + o)) v) s =
      .next (settle { placeSprite n m (if o = 0 then { spGet (curLayer n s).sprReg m {} with w0 := v &&& 0xFFFF80FF }
        else { spGet (curLayer n s).sprReg m {} with w1 := v &&& 0x1FFF1FFF }) s with lastStatus := stOk }) := by
  have hn := n.isLt
  have hm := m.isLt
  have hoff : (BitVec.ofNat 16 (0x1000 + 0x100 * n.val + 8 * m.val + o)).toNat = 0x1000 + 0x100 * n.val + 8 * m.val + o := by
    simp only [BitVec.toNat_ofNat]; omega
  rw [exec_compositionRegWrite hr hq v (by omega) (by omega), hoff, cmpWrite_placement hn hm ho v hc]

theorem srcSizeOk_iff (v : Word) :
    srcSizeOk v = true ↔ 1 ≤ bits v 0 14 ∧ bits v 0 14 ≤ 8192 ∧ 1 ≤ bits v 16 14 ∧ bits v 16 14 ≤ 8192 := by
  simp [srcSizeOk, and_assoc]

theorem dstSizeOk_iff (v : Word) : dstSizeOk v = true ↔ 1 ≤ bits v 0 13 ∧ 1 ≤ bits v 16 13 := by
  simp [dstSizeOk]


/-- Settles O7: each register is one branch of `cmpWrite`, reached through either window in the same way. -/
theorem compositionRegisterReachesBothEngines : Obligations.CompositionRegisterReachesBothEngines := by
  intro src e v s hr hq
  refine ⟨fun hc hv => ?_, fun hc hv => ?_, fun hc n => ?_, fun hc off ha ho => ?_, fun off ha ho => ?_⟩
  · rw [exec_compositionRegWrite hr hq v (by decide) (by decide)]
    show Host.Outcome.next (settle { (cmpWrite 0 v s).1 with lastStatus := (cmpWrite 0 v s).2 }) = _
    rw [cmpWrite_ctrl v hc, if_neg hv]; rfl
  · rw [exec_compositionRegWrite hr hq v (by decide) (by decide)]
    show Host.Outcome.next (settle { (cmpWrite 0 v s).1 with lastStatus := (cmpWrite 0 v s).2 }) = _
    rw [cmpWrite_ctrl v hc, if_pos hv]
  · have hl {o : Nat} (ho : o < 0x20) (h4 : o % 4 = 0) := exec_layerRegWrite hr hq hc v n ho h4
    refine ⟨fun h => ?_, hl (o := 4) (by decide) rfl, fun h1 h2 h3 h4 => ?_, hl (o := 0xC) (by decide) rfl, fun h1 h2 => ?_,
      hl (o := 0x14) (by decide) rfl, hl (o := 0x18) (by decide) rfl, fun h => ?_, fun h => ?_, fun h => ?_, fun h => ?_,
      fun h => ?_, fun m => ⟨?_, ?_⟩⟩
    · rw [hl (o := 0) (by decide) rfl]; simp only [layerWrite, if_pos h]; rfl
    · rw [hl (o := 8) (by decide) rfl]; simp only [layerWrite, if_pos ((srcSizeOk_iff v).2 ⟨h1, h2, h3, h4⟩)]; rfl
    · rw [hl (o := 0x10) (by decide) rfl]; simp only [layerWrite, if_pos ((dstSizeOk_iff v).2 ⟨h1, h2⟩)]; rfl
    · rw [hl (o := 0x1C) (by decide) rfl]; simp only [layerWrite, if_neg h]; rfl
    · rw [hl (o := 0) (by decide) rfl]; simp only [layerWrite, h]; rfl
    · rw [hl (o := 8) (by decide) rfl]
      have : ¬ srcSizeOk v = true := by rw [srcSizeOk_iff]; omega
      simp only [layerWrite, if_neg this]
    · rw [hl (o := 0x10) (by decide) rfl]
      have : ¬ dstSizeOk v = true := by rw [dstSizeOk_iff]; omega
      simp only [layerWrite, if_neg this]
    · rw [hl (o := 0x1C) (by decide) rfl]; simp only [layerWrite, if_pos h]
    · exact exec_placementRegWrite hr hq hc v n m (o := 0) (by decide) rfl
    · have h := exec_placementRegWrite hr hq hc v n m (o := 4) (by decide) rfl
      rw [show 0x1004 + 0x100 * n.val + 8 * m.val = 0x1000 + 0x100 * n.val + 8 * m.val + 4 by omega]
      exact h
  · have h : cmpAssigned off.toNat = true := by simp [cmpAssigned]; omega
    rw [exec_compositionRegWrite hr hq v ha (by omega), cmpWrite_compat h v hc]
  · have h : cmpAssigned off.toNat = false := by simp [cmpAssigned]; omega
    rw [exec_compositionRegWrite hr hq v ha (by omega), cmpWrite_unassigned h]

end Sys2Proof.Machine
end

section
/-! The end of a session, MODE_NATIVE and FORWARD_CFG (R41, R282, R307, R308, R512). -/

namespace Sys2Proof.Machine

/-! ### The end of a session -/

theorem pushEvent_bstay (e : Event) (s : State) : (pushEvent e s).bstay = s.bstay := by
  unfold pushEvent State.hitIf
  extract_lets n s1
  split
  · split <;> rfl
  · rfl

/-- The state in which the end of an open session leaves force bits and staging copy. -/
theorem endSession_open (c : Nat) {s : State} (h : s.cmd.sessOpen = true) :
    (endSession c s).bstay.stageCeil = [] ∧ (endSession c s).bstay.stageZlim = [] ∧ ∀ w ∈ (endSession c s).flt, w.force = 0 := by
  simp only [endSession, h, if_true, queueEvent, pushEvent_bstay, pushEvent_flt, List.mem_map, true_and]
  rintro w ⟨v, -, rfl⟩
  rfl

theorem sessionIdle_iff (s : State) :
    sessionIdle s = true ↔ s.cmd.sessOpen = true ∧ s.cmd.sessAt + s.cmd.idle.toNat * 250000 ≤ s.ticks := by
  simp only [sessionIdle, Bool.and_eq_true, decide_eq_true_eq]; rfl

theorem exec_sessionIdleTimeout (s : State) :
    exec .sessionIdleTimeout s = .next (settle (if sessionIdle s then endSession 1 s else s)) := rfl

/-! ### MODE_NATIVE and the tunnel -/

theorem exec_modeNative {c : CmdCtx} {s : State} (h : fastReady 0x05 c [] s = true) :
    exec (.modeNative c []) s = .next (answered 0x05 c []
      (if s.mode.ifMode = .compatExt then { s with mode := { s.mode with forceNative := true } } else s)) :=
  congrArg (fun t => Host.Outcome.next (settle t)) (submit_fast_fin opModeNative 0x05 c [] s _ stOk [] h rfl)

/-- Clocking words out changes the control SPI port alone. -/
theorem clockOut_spi (n : Nat) (s : State) : ∃ x, (clockOut n s).1 = { s with spi := x } := by
  have hone (s : State) : ∃ x, (nextOut s).1 = { s with spi := x } := by
    unfold nextOut
    split
    · exact ⟨_, rfl⟩
    · split
      · exact ⟨_, rfl⟩
      · exact ⟨_, rfl⟩
  induction n generalizing s with
  | zero => exact ⟨_, rfl⟩
  | succ n ih =>
    obtain ⟨x, hx⟩ := hone s
    obtain ⟨y, hy⟩ := ih (nextOut s).1
    exact ⟨y, by rw [clockOut, hy, hx]⟩

/-- The tunnel transaction that clocks out the last word of MODE_NATIVE's reply resets the module (R512). -/
theorem tunnelPeriod_native {edges : Nat} {ws : List Word} {early : Bool} {s : State} (hm : s.mode.ifMode = .compatExt)
    (hf : s.mode.forceNative = true) (hr : (clockOut (edges / 32 - 1) s).1.spi.replies = [])
    (ho : (clockOut (edges / 32 - 1) s).1.spi.out = []) :
    ∃ x, tunnelPeriod edges ws early s = resetTo 4 { s with spi := x } := by
  obtain ⟨x, hx⟩ := clockOut_spi (edges / 32 - 1) s
  have hc : streamRuns (ws.getD 0 0) s = true := by simp [streamRuns, State.compat, hm]
  rw [hx] at hr ho
  have hd (l : List Word) : nativeDue { s with spi := { x with lastSent := l } } = true := by
    simp [nativeDue, hm, hf, show x.replies = [] from hr, show x.out = [] from ho]
  simp only [tunnelPeriod, if_pos hc, hx, if_pos (hd _)]
  exact ⟨_, rfl⟩

/-! ### FORWARD_CFG -/

theorem exec_forwardCfg {c : CmdCtx} {w : Word} {s t : State} {st : BitVec 8} (h : fastReady 0xA0 c [w] s = true)
    (e : opForwardCfg c [w] s = (t, .fin st [])) : exec (.forwardCfg c [w]) s = .next (settle (reply c 0xA0 st [] t)) :=
  congrArg (fun t => Host.Outcome.next (settle t)) (submit_fast_fin opForwardCfg 0xA0 c [w] s _ st [] h e)

theorem fwdRole_eq_off (n : Nat) : fwdRole n = .off ↔ n = 0 := by
  unfold fwdRole; split <;> simp_all

/-- A valid FORWARD_CFG, by the role it asks for. -/
theorem opForwardCfg_valid (c : CmdCtx) {w : Word} {s : State} (hw : within w 3 = true) (h3 : bits w 0 2 ≠ 3) :
    opForwardCfg c [w] s =
      if (s.compat || s.h0.role == .follower) && fwdRole (bits w 0 2) != .off then endWith stBadState s
      else if fwdRole (bits w 0 2) = roleAsked s then endWith stOk s
      else endWith stOk { s with h1 := { s.h1 with roleChange := some (c.port, fwdRole (bits w 0 2)) } } := by
  simp only [opForwardCfg, List.getD_cons_zero, hw, Bool.not_true, Bool.false_or, beq_iff_eq, if_neg h3, State.modPort]


/-- Settles O11, row by row; that no source stays forced is `noForce_settle`. -/
theorem sessionEndsAndModeCommands : Obligations.SessionEndsAndModeCommands := by
  intro s
  refine ⟨fun ho ht => ?_, fun ht => ?_, fun ht => ?_, fun ht => ?_, fun c hc => ⟨fun hm => ?_, fun hm => ?_⟩,
    fun edges ws hon hm hf he hw hr hq => ?_, fun c w hc hw h3 => ⟨fun hs h0 => ?_, fun hs hn => ?_, fun hs hn => ?_⟩⟩
  · have hi : sessionIdle s = true := (sessionIdle_iff s).2 ⟨ho, ht⟩
    obtain ⟨h1, h2, h3⟩ := endSession_open 1 ho
    refine ⟨_, rfl, ?_, ?_, ?_, ?_, ?_, ?_⟩ <;> rw [if_pos hi]
    · simp [endSession]
    · simp [endSession]
    · simpa using h1
    · simpa using h2
    · exact noForce_settle h3
  · have hi : ¬ sessionIdle s = true := by rw [sessionIdle_iff]; omega
    rw [exec_sessionIdleTimeout, if_neg hi]
  · show Host.Outcome.next (settle (if s.cmd.lockAt + 10000 * ticksPerMs ≤ s.ticks then _ else _)) = _
    rw [if_pos (by unfold ticksPerMs; omega)]
  · show Host.Outcome.next (settle (if s.cmd.lockAt + 10000 * ticksPerMs ≤ s.ticks then _ else _)) = _
    rw [if_neg (by unfold ticksPerMs; omega)]
  · rw [exec_modeNative hc, if_neg (by simp [hm])]
  · rw [exec_modeNative hc, if_pos hm]
  · obtain ⟨x, hx⟩ := tunnelPeriod_native (ws := ws) (early := false) hm hf hr hq
    have hp : spiPeriod edges ws false s = resetTo 4 { s with spi := x } := by
      rw [spiPeriod, if_neg (by simp [hon]), if_pos (Or.inr ⟨hm, he, hw⟩), hx]
    refine ⟨settle (resetTo 4 { s with spi := x }), by rw [← hp]; rfl, ?_⟩
    simp [resetTo, keptPwr, keptKeep]
    rfl
  · refine exec_forwardCfg hc ?_
    rw [opForwardCfg_valid c hw h3, if_pos]
    · rfl
    · have : fwdRole (bits w 0 2) ≠ .off := by rw [Ne, fwdRole_eq_off]; exact h0
      rcases hs with hs | hs <;> simp [hs, this]
  all_goals
    have hb : ¬ ((s.compat || s.h0.role == .follower) && fwdRole (bits w 0 2) != .off) = true := by
      rcases hs with ⟨h1, h2⟩ | h
      · simp [h1, h2]
      · simp [(fwdRole_eq_off _).2 h]
  · refine exec_forwardCfg hc ?_
    rw [opForwardCfg_valid c hw h3, if_neg hb, if_neg hn]; rfl
  · refine exec_forwardCfg hc ?_
    rw [opForwardCfg_valid c hw h3, if_neg hb, if_pos hn]; rfl

end Sys2Proof.Machine
end

section
/-! TIME packets: path delay, SYNC, SYNC_TIMEOUT and FLIP_NOTICE (R340 to R345, R352). -/

namespace Sys2Proof.Machine

/-! ### Domains -/

theorem dom_congr {s t : State} (h : s.time = t.time) (k : Bool) : s.dom k = t.dom k := by
  cases k <;> simp [State.dom, h]

@[simp] theorem dom_modDom (k : Bool) (f : Domain → Domain) (s : State) : (s.modDom k f).dom k = f (s.dom k) := by
  cases k <;> rfl

@[simp] theorem dom_settle (k : Bool) (s : State) : (settle s).dom k = s.dom k := dom_congr (settle_time s) k

@[simp] theorem dom_modPort (p : HPort) (f : Port → Port) (k : Bool) (s : State) : (s.modPort p f).dom k = s.dom k :=
  dom_congr (by simp) k

/-- A change of a domain is a matter of the domain as it stands. -/
theorem modDom_congr {k : Bool} {f g : Domain → Domain} {s : State} (h : f (s.dom k) = g (s.dom k)) :
    s.modDom k f = s.modDom k g := by
  cases k
  · have h' : f s.time.d0 = g s.time.d0 := h
    simp [State.modDom, State.modTime, h']
  · have h' : f s.time.d1 = g s.time.d1 := h
    simp [State.modDom, State.modTime, h']

@[simp] theorem raiseFault_time (b n i : Nat) (x y : Bool) (s : State) : (raiseFault b n i x y s).time = s.time :=
  keeps_of_untouched State.time (fun _ => rfl) (untouched_raiseFault b n i x y s)

@[simp] theorem queueEvent_time (c v : Nat) (ws : List Word) (s : State) : (queueEvent c v ws s).time = s.time :=
  keeps_of_untouched State.time (fun _ => rfl) (untouched_queueEvent c v ws s)

/-! ### What a step of a domain leaves in it (R542) -/

/-- What a used SYNC has set in a domain, which a step of its counter leaves alone. -/
def sameSync (d e : Domain) : Prop :=
  d.syncRx = e.syncRx ∧ d.offset = e.offset ∧ d.syncAt = e.syncAt ∧ d.dstate = e.dstate

theorem sameSync.trans {a b c : Domain} (h : sameSync a b) (h' : sameSync b c) : sameSync a c := by
  obtain ⟨h1, h2, h3, h4⟩ := h
  obtain ⟨i1, i2, i3, i4⟩ := h'
  exact ⟨h1.trans i1, h2.trans i2, h3.trans i3, h4.trans i4⟩

theorem sameSync_of_eq {d e : Domain} (h : d = e) : sameSync d e := by
  rw [h]; exact ⟨rfl, rfl, rfl, rfl⟩

/-- Changes of TIME outside its domains. -/
theorem dom_modTime (k : Bool) (f : Time → Time) (s : State) (h0 : (f s.time).d0 = s.time.d0) (h1 : (f s.time).d1 = s.time.d1) :
    (s.modTime f).dom k = s.dom k := by
  cases k
  · exact h0
  · exact h1

theorem sameSync_settleLost (k : Bool) (s : State) : sameSync ((settleLost k s).dom k) (s.dom k) := by
  unfold settleLost
  split
  · rw [dom_congr (raiseFault_time _ _ _ _ _ _), dom_modTime _ _ _ rfl rfl, dom_modDom]
    exact ⟨rfl, rfl, rfl, rfl⟩
  · exact sameSync_of_eq rfl

theorem sameSync_nsWrapped (k : Bool) (a : Nat) (s : State) : sameSync ((nsWrapped k a s).dom k) (s.dom k) := by
  unfold nsWrapped
  extract_lets u
  rw [dom_congr (queueEvent_time _ _ _ _), dom_modDom]
  have hu : sameSync (u.dom k) (s.dom k) := by
    simp only [u]
    split
    · exact sameSync_of_eq rfl
    · exact sameSync_settleLost k s
  exact sameSync.trans ⟨rfl, rfl, rfl, rfl⟩ hu

theorem dom_absorbStep (k : Bool) (b : Nat) (s : State) : (absorbStep k b s).dom k = s.dom k := by
  unfold absorbStep
  extract_lets o
  split
  · rfl
  · split
    · exact dom_modTime _ _ _ rfl rfl
    · split
      · rw [dom_congr (raiseFault_time _ _ _ _ _ _)]
        exact dom_modTime _ _ _ rfl rfl
      · exact dom_modTime _ _ _ rfl rfl

theorem sameSync_stepDomain (k : Bool) (x : Int) (s : State) : sameSync ((stepDomain k x s).dom k) (s.dom k) := by
  unfold stepDomain
  extract_lets d before v n low s1 s2
  rw [dom_absorbStep]
  have h1 : sameSync (s1.dom k) (s.dom k) := by
    rw [show s1.dom k = _ from dom_modDom _ _ _]; exact ⟨rfl, rfl, rfl, rfl⟩
  refine sameSync.trans ?_ h1
  simp only [s2]
  split
  · refine sameSync.trans (sameSync_nsWrapped _ _ _) ?_
    rw [dom_modDom]; exact ⟨rfl, rfl, rfl, rfl⟩
  · split
    · rw [dom_modDom]; split <;> exact ⟨rfl, rfl, rfl, rfl⟩
    · exact sameSync_of_eq rfl

theorem dom_noteSync (k : Bool) (s : State) : (noteSync s).dom k = s.dom k := by
  unfold noteSync
  split
  · exact dom_modTime _ _ _ rfl rfl
  · rfl

/-! ### A used SYNC (R343 to R345) -/

/-- A used SYNC changes of a domain its state and lock count. -/
theorem nextDState_keeps (near far : Bool) (d : Domain) :
    (nextDState near far d).syncRx = d.syncRx ∧ (nextDState near far d).offset = d.offset ∧
    (nextDState near far d).syncAt = d.syncAt ∧ (nextDState near far d).ns = d.ns ∧ (nextDState near far d).frac = d.frac ∧
    (nextDState near far d).inc = d.inc := by
  unfold nextDState
  cases d.dstate <;> simp only <;> repeat' split
  all_goals simp only [and_self]

theorem nextDState_unsync (near far : Bool) {d : Domain} (h : d.dstate = .unsync) :
    (nextDState near far d).dstate = .acquire := by
  simp [nextDState, h]

/-- After a used SYNC a domain bears its time, and its offset and count as they stood; one that was UNSYNC is in ACQUIRE. -/
theorem useSync_dom (k : Bool) (x : Int) (s : State) :
    ((useSync k x s).dom k).syncRx = (s.dom k).syncRx ∧ ((useSync k x s).dom k).offset = (s.dom k).offset ∧
    ((useSync k x s).dom k).syncAt = some s.ticks ∧
    ((s.dom k).dstate = .unsync → ((useSync k x s).dom k).dstate = .acquire) := by
  unfold useSync
  extract_lets near far was s1 entered s2
  obtain ⟨n1, n2, n3, -⟩ := nextDState_keeps near far { s.dom k with syncAt := some s.ticks }
  have e1 : s1.dom k = nextDState near far { s.dom k with syncAt := some s.ticks } := dom_modDom _ _ _
  have e2 : sameSync (s2.dom k) (s1.dom k) := by
    simp only [s2]
    split
    · exact sameSync_of_eq rfl
    · split
      · exact sameSync_stepDomain _ _ _
      · rw [dom_modDom]; exact ⟨rfl, rfl, rfl, rfl⟩
  obtain ⟨h1, h2, h3, h4⟩ := e2
  rw [dom_noteSync, h1, h2, h3, h4, e1]
  exact ⟨n1, n2, n3, fun hu => nextDState_unsync _ _ hu⟩

/-- With a software servo a used SYNC leaves the counter of its domain alone (R346). -/
theorem useSync_soft {k : Bool} (x : Int) {s : State} (hs : softServo k s = true) :
    ((useSync k x s).dom k).ns = (s.dom k).ns ∧ ((useSync k x s).dom k).frac = (s.dom k).frac ∧
    ((useSync k x s).dom k).inc = (s.dom k).inc := by
  unfold useSync
  extract_lets near far was s1 entered s2
  obtain ⟨-, -, -, n4, n5, n6⟩ := nextDState_keeps near far { s.dom k with syncAt := some s.ticks }
  have hs1 : softServo k s1 = true := by cases k <;> exact hs
  have e2 : s2 = s1 := if_pos hs1
  have e1 : s1.dom k = nextDState near far { s.dom k with syncAt := some s.ticks } := dom_modDom _ _ _
  rw [dom_noteSync, e2, e1]
  exact ⟨n4, n5, n6⟩

/-! ### Packets taken from a port -/

/-- A packet taken from a port leaves the state without it. -/
theorem takeRx_some {p : HPort} {f : Packet → Bool} {s s1 : State} {k : Packet} (h : takeRx p f s = some (k, s1)) :
    ∃ g : Port → Port, s1 = s.modPort p g := by
  unfold takeRx at h
  split at h
  · cases h
  · cases h; exact ⟨_, rfl⟩

theorem onTime_some {p : HPort} {m : Nat} {s s1 : State} {k : Packet} (f : Packet → State → State) (ht : timeOn s = true)
    (h : takeRx p (isTime m) s = some (k, s1)) : onTime p m f s = f k s1 := by
  simp only [onTime, if_pos ht, h]

/-- A mean path delay from a matching response in time (R342). -/
theorem takeResp_match {k : Packet} {s : State} (h : (s.dom k.domain).pdSeq = some k.mseq)
    (ht : s.ticks ≤ (s.dom k.domain).pdAt + 2500000) :
    takeResp k s = s.modDom k.domain (fun d => { d with
      mpd := (stampDiff k.stamp d.pdT1 - stampDiff (wordsStamp (k.payload.getD 2 0) (k.payload.getD 3 0))
        (wordsStamp (k.payload.getD 0 0) (k.payload.getD 1 0)) + 1) / 2
      mpdValid := true, pdSeq := none }) := by
  have hc : ((s.dom k.domain).pdSeq == some k.mseq && decide (s.ticks ≤ (s.dom k.domain).pdAt + 2500000)) = true := by
    simp [h, ht]
  unfold takeResp
  extract_lets d g t2 t3 mpd
  rw [if_pos hc]
  exact modDom_congr rfl

theorem takeSync_unknown {p : HPort} {k : Packet} {s : State} (h : (s.dom k.domain).mpdValid = false) :
    takeSync p k s = s.modDom k.domain (fun d => { d with syncRx := satInc 32 d.syncRx }) := by
  simp [takeSync, h]

/-- The offset of a SYNC on a domain whose path delay is known (R343). -/
def syncOffset (p : HPort) (k : Packet) (s : State) : Int :=
  stampDiff k.stamp (wordsStamp (k.payload.getD 0 0) (k.payload.getD 1 0) + signed 32 (k.payload.getD 2 0).toNat +
    (s.dom k.domain).mpd + signed 32 (s.time.asym.getD (hportNo p) 0).toNat)

/-- The state in which a SYNC is used: it is counted, and its offset stands. -/
def syncNoted (p : HPort) (k : Packet) (s : State) : State :=
  (s.modDom k.domain (fun d => { d with syncRx := satInc 32 d.syncRx })).modDom k.domain
    (fun d => { d with offset := max (-(2 ^ 31)) (min (2 ^ 31 - 1) (syncOffset p k s)) })

theorem takeSync_known {p : HPort} {k : Packet} {s : State} (h : (s.dom k.domain).mpdValid = true) :
    takeSync p k s = useSync k.domain (syncOffset p k s) (syncNoted p k s) := by
  unfold takeSync
  extract_lets d s1 g asym offset
  exact if_pos h

theorem syncNoted_dom (p : HPort) (k : Packet) (s : State) :
    (syncNoted p k s).dom k.domain = { s.dom k.domain with
      syncRx := satInc 32 (s.dom k.domain).syncRx, offset := max (-(2 ^ 31)) (min (2 ^ 31 - 1) (syncOffset p k s)) } := by
  simp [syncNoted]

theorem syncNoted_softServo (p : HPort) (k : Packet) (s : State) :
    softServo k.domain (syncNoted p k s) = softServo k.domain s := by
  unfold syncNoted
  cases k.domain <;> rfl

theorem syncNoted_ticks (p : HPort) (k : Packet) (s : State) : (syncNoted p k s).ticks = s.ticks := rfl

/-! ### What a packet's place in a queue does not change -/

@[simp] theorem timeOn_modPort (p : HPort) (f : Port → Port) (s : State) : timeOn (s.modPort p f) = timeOn s := by cases p <;> rfl
@[simp] theorem softServo_modPort (k : Bool) (p : HPort) (f : Port → Port) (s : State) :
    softServo k (s.modPort p f) = softServo k s := by cases p <;> rfl
@[simp] theorem nextFlip3_modPort (p : HPort) (f : Port → Port) (s : State) : nextFlip3 (s.modPort p f) = nextFlip3 s := by
  cases p <;> rfl
@[simp] theorem nfNow_modPort (p : HPort) (f : Port → Port) (s : State) : nfNow (s.modPort p f) = nfNow s := by cases p <;> rfl
@[simp] theorem p3_modPort (p : HPort) (f : Port → Port) (s : State) : p3 (s.modPort p f) = p3 s := by cases p <;> rfl
@[simp] theorem ahead_modPort (t : Nat) (p : HPort) (f : Port → Port) (s : State) : ahead t (s.modPort p f) = ahead t s := by
  cases p <;> rfl
@[simp] theorem syncOffset_modPort (q : HPort) (k : Packet) (p : HPort) (f : Port → Port) (s : State) :
    syncOffset q k (s.modPort p f) = syncOffset q k s := by simp [syncOffset]

/-- A request queued takes the port's next sequence number. -/
theorem sendRequest_eq (p : HPort) (k : Bool) (s : State) :
    (sendTime p (timePacket 1 k (s.hport p).pdNext []) s).modPort p (fun h => { h with pdNext := h.pdNext + 1 }) =
      s.modPort p (fun h => { h with times := h.times ++ [timePacket 1 k h.pdNext []], pdNext := h.pdNext + 1 }) := by
  cases p <;> rfl

/-- Which domains a port serves is a matter of its role. -/
theorem portServes_modPort {p : HPort} {f : Port → Port} (k : Bool) (s : State) (h : (f (s.hport p)).role = (s.hport p).role) :
    portServes p k (s.modPort p f) = portServes p k s := by
  have hd : d1Port (s.modPort p f) = d1Port s := by simp [d1Port]
  simp [portServes, hd, h]

/-! ### Timeouts and notices -/

/-- SYNC_TO has gone, and no SYNC of the domain waits (R344). -/
theorem syncDue_iff {k : Bool} {s : State} {at_ : Nat} (h : (s.dom k).syncAt = some at_) :
    (at_ + bits s.time.syncCfg 16 16 * 250000 ≤ s.ticks → (∀ x ∈ s.h0.rxq ++ s.h1.rxq, isTime 0 x = true → x.domain ≠ k) →
      syncDue k s = true) ∧
    (s.ticks < at_ + bits s.time.syncCfg 16 16 * 250000 → syncDue k s = false) := by
  unfold syncDue
  simp only [h]
  refine ⟨fun ht hx => ?_, fun ht => ?_⟩
  · have hw (l : List Packet) (hl : ∀ x ∈ l, x ∈ s.h0.rxq ++ s.h1.rxq) :
        l.any (fun x => isTime 0 x && x.domain == k) = false := by
      rw [List.any_eq_false]
      intro x hm
      simpa using hx x (hl x hm)
    rw [hw s.h0.rxq (fun x => List.mem_append_left _), hw s.h1.rxq (fun x => List.mem_append_right _)]
    simpa using ht
  · simp [Nat.not_le.mpr ht]

theorem takeNotice_eq (k : Packet) (s : State) :
    takeNotice k s =
      let t := (wordsStamp (k.payload.getD 0 0) (k.payload.getD 1 0) / 256).toNat
      let frame : Int := (nfNow s * p3 s : Nat)
      let x := after3 t (nextFlip3 s) % frame
      if ahead t s < 0 then { s.hit 3 0x18 0 with time := { s.time with noticeLateCnt := satInc 8 s.time.noticeLateCnt } }
      else if x ≤ 3000 ∨ frame - 3000 ≤ x then s
      else raiseFault 3 5 0 true false { s with
        time := { s.time with notice := some (BitVec.ofNat 48 t, (k.payload.getD 2 0).setWidth 24) } } := rfl

/-- Settles O35: `onTime` hands the packet taken to the function of its message, for each of which a lemma says what it does. -/
theorem timePacketsMeasureAndNotify : Obligations.TimePacketsMeasureAndNotify := by
  refine ⟨⟨fun p k s s1 ht h => ?_, fun p k s s1 ht h hs hd => ?_, fun p k s s1 ht h hv => ?_, fun p k s s1 ht h hv => ?_,
    fun p s ha ht h0 h1 => ?_, fun s hr ha ht => ?_, fun k at_ s ht hl hat => ⟨fun hd hx => ?_, fun hd => ?_⟩⟩,
    fun p k s s1 ht h => ?_⟩
  · show Host.Outcome.next (settle (onTime p 1 _ s)) = _
    rw [onTime_some _ ht h]; rfl
  · obtain ⟨g, rfl⟩ := takeRx_some h
    show Host.Outcome.next (settle (onTime p 2 _ s)) = _
    rw [onTime_some _ ht h, takeResp_match (by simpa using hs) (by simpa using hd)]
  · obtain ⟨g, rfl⟩ := takeRx_some h
    show Host.Outcome.next (settle (onTime p 0 _ s)) = _
    rw [onTime_some _ ht h, takeSync_unknown (by simpa using hv)]
  · obtain ⟨g, rfl⟩ := takeRx_some h
    refine ⟨_, rfl, ?_⟩
    rw [onTime_some _ ht h, takeSync_known (by simpa using hv), dom_settle]
    obtain ⟨h1, h2, h3, h4⟩ := useSync_dom k.domain (syncOffset p k (s.modPort p g)) (syncNoted p k (s.modPort p g))
    rw [syncNoted_dom, dom_modPort] at h1 h2 h4
    refine ⟨h1, ?_, ?_, h4, fun hs => ?_⟩
    · rw [h2, syncOffset_modPort]; rfl
    · rw [h3, syncNoted_ticks, State.modPort_ticks]
    · have hu := useSync_soft (syncOffset p k (s.modPort p g)) (s := syncNoted p k (s.modPort p g))
        (by rw [syncNoted_softServo, softServo_modPort]; exact hs)
      rw [syncNoted_dom, dom_modPort] at hu
      exact hu
  · show Host.Outcome.next (settle (if (s.hport p).state == .active && timeOn s then _ else _)) = _
    rw [if_pos (by simp [ha, ht])]
    simp only [List.foldl_cons, List.foldl_nil, if_pos h0, sendRequest_eq]
    rw [if_neg (by rw [portServes_modPort true s rfl, h1]; decide)]
  · show Host.Outcome.next (settle (if s.h1.role == .leader && s.h1.state == .active && timeOn s then _ else _)) = _
    rw [if_pos (by simp [hr, ha, ht])]; rfl
  · show Host.Outcome.next (settle (if timeOn s && (s.dom k).dstate == .locked && syncDue k s then _ else _)) = _
    rw [if_pos (by simp [ht, hl, (syncDue_iff hat).1 hd hx])]
  · show Host.Outcome.next (settle (if timeOn s && (s.dom k).dstate == .locked && syncDue k s then _ else _)) = _
    rw [if_neg (by simp [(syncDue_iff hat).2 hd])]
  · obtain ⟨g, rfl⟩ := takeRx_some h
    intro t frame x
    have hn := takeNotice_eq k (s.modPort p g)
    simp only [ahead_modPort, nextFlip3_modPort, nfNow_modPort, p3_modPort] at hn
    have hx : exec (.flipNoticeReceive p) s = .next (settle (takeNotice k (s.modPort p g))) := by
      show Host.Outcome.next (settle (onTime p 3 _ s)) = _
      rw [onTime_some _ ht h]
    rw [hx, hn]
    refine ⟨fun hl => ?_, fun hl h1 h2 => ?_, fun hl h1 => ?_⟩
    · rw [if_pos hl]
    · have hx : ¬ (x ≤ 3000 ∨ frame - 3000 ≤ x) := by omega
      rw [if_neg (Int.not_lt.mpr hl), if_neg hx]
    · rw [if_neg (Int.not_lt.mpr hl), if_pos h1]

end Sys2Proof.Machine
end

section
/-! The entries to the power states, the exits and the wake stages (R315, R428 to R432). -/

namespace Sys2Proof.Machine

/-! ### What an entry leaves of PWR and of the session -/

/-- From `s` to `t` PWR stays as it is, and no session opens. -/
def PowerKept (s t : State) : Prop := t.pwr = s.pwr ∧ (s.cmd.sessOpen = false → t.cmd.sessOpen = false)

theorem PowerKept.refl (s : State) : PowerKept s s := ⟨rfl, id⟩

theorem PowerKept.trans {s t u : State} (h : PowerKept s t) (h' : PowerKept t u) : PowerKept s u :=
  ⟨h'.1.trans h.1, fun hs => h'.2 (h.2 hs)⟩

theorem PowerKept.of_eq {s t : State} (h : t.pwr = s.pwr) (hc : t.cmd = s.cmd) : PowerKept s t :=
  ⟨h, fun hs => by rw [hc]; exact hs⟩

theorem PowerKept.foldl {α : Type} (f : State → α → State) (h : ∀ s a, PowerKept s (f s a)) (l : List α) (s : State) :
    PowerKept s (l.foldl f s) := by
  induction l generalizing s with
  | nil => exact .refl s
  | cons a l ih => exact (h s a).trans (ih _)

theorem powerKept_modPort (p : HPort) (f : Port → Port) (s : State) : PowerKept s (s.modPort p f) := .of_eq (by simp) (by simp)

theorem powerKept_hitIf (c : Bool) (b o n : Nat) (s : State) : PowerKept s (s.hitIf c b o n) := by
  unfold State.hitIf; split <;> exact .of_eq rfl rfl

theorem powerKept_queueEvent (c v : Nat) (ws : List Word) (s : State) : PowerKept s (queueEvent c v ws s) := by
  unfold queueEvent pushEvent
  split
  · exact .trans ⟨rfl, id⟩ (powerKept_hitIf _ _ _ _ _)
  · exact .refl _

theorem powerKept_endSession (c : Nat) (s : State) : PowerKept s (endSession c s) := by
  refine ⟨?_, fun _ => rfl⟩
  cases h : s.cmd.sessOpen
  · simp [endSession, h]
  · simp only [endSession, h, if_true]
    exact (powerKept_queueEvent _ _ _ _).1

theorem powerKept_loseWindows (bs : List Nat) (s : State) : PowerKept s (loseWindows bs s) :=
  .foldl (fun s b => s.modWin b (fun _ => State.reset.win b)) (fun _ _ => .of_eq rfl rfl) bs s

theorem powerKept_leaveActive (p : HPort) (s : State) : PowerKept s (leaveActive p s) := by
  unfold leaveActive
  extract_lets s1
  have h1 : PowerKept s s1 := powerKept_modPort _ _ _
  split
  · exact h1.trans (powerKept_endSession _ _)
  · exact h1

theorem powerKept_quit (p : HPort) (s : State) : PowerKept s (quit p s) := by
  unfold quit; split
  · exact powerKept_leaveActive _ _
  · exact .refl _

theorem powerKept_enterOff (p : HPort) (s : State) : PowerKept s (enterOff p s) :=
  ((powerKept_quit p s).trans (powerKept_loseWindows _ _)).trans (powerKept_modPort _ _ _)

theorem powerKept_detectEntry (q : Bool) (p : HPort) (s : State) : PowerKept s (detectEntry q p s) :=
  ((powerKept_quit p s).trans (powerKept_hitIf _ _ _ _ _)).trans (powerKept_modPort _ _ _)

theorem powerKept_enterBlind (p : HPort) (s : State) : PowerKept s (enterBlind p s) := powerKept_modPort _ _ _

theorem powerKept_enterDetect (p : HPort) (s : State) : PowerKept s (enterDetect p s) := by
  unfold enterDetect
  extract_lets quiet s1
  refine (powerKept_detectEntry quiet p s).trans ?_
  split
  · exact powerKept_enterBlind _ _
  · exact .refl _

theorem powerKept_retrainNow (p : HPort) (s : State) : PowerKept s (retrainNow p s) := by
  unfold retrainNow
  split
  · exact powerKept_modPort _ _ _
  · exact powerKept_modPort _ _ _
  · exact powerKept_modPort _ _ _
  · exact powerKept_enterDetect _ _

theorem powerKept_changeRole (q : PRole) (s : State) : PowerKept s (changeRole q s) := by
  unfold changeRole
  extract_lets r s1
  have h1 : PowerKept s s1 := powerKept_modPort _ _ _
  refine h1.trans ?_
  split
  · exact powerKept_enterOff _ _
  · exact powerKept_enterDetect _ _

theorem powerKept_afterReplies (p : CmdPort) (s : State) : PowerKept s (afterReplies p s) := by
  unfold afterReplies
  split
  · exact .refl _
  · extract_lets s1
    have h1 : PowerKept s s1 := by
      cases p with
      | h0 => simp only [s1]; split
              · exact powerKept_retrainNow _ _
              · exact .refl _
      | h1 => simp only [s1]; split
              · exact powerKept_retrainNow _ _
              · exact .refl _
      | spi => exact .refl _
    refine h1.trans ?_
    split
    · split
      · exact powerKept_changeRole _ _
      · exact .refl _
    · exact .refl _

theorem powerKept_portDown (f : Bool) (p : HPort) (s : State) : PowerKept s (portDown f p s) := by
  unfold portDown
  split
  · exact .refl _
  · exact .refl _
  · exact (powerKept_modPort _ _ _).trans (powerKept_afterReplies _ _)
  · exact powerKept_modPort _ _ _
  · split
    · exact .refl _
    · exact (powerKept_detectEntry _ _ _).trans (powerKept_modPort _ _ _)
  · exact (powerKept_detectEntry _ _ _).trans (powerKept_modPort _ _ _)

theorem powerKept_modEng (e : Eng) (f : Engine → Engine) (s : State) : PowerKept s (s.modEng e f) := .of_eq (by simp) (by simp)

theorem powerKept_startStep1 (e : Eng) (s : State) : PowerKept s (startStep1 e s) := by
  unfold startStep1
  split
  · exact (powerKept_modEng e _ s).trans (.of_eq rfl rfl)
  · exact powerKept_modEng e _ s

theorem powerKept_endSwitchover (s : State) : PowerKept s (endSwitchover s) := by
  unfold endSwitchover
  split
  · split
    · exact .refl _
    · extract_lets s1 s2 s3
      have h1 : PowerKept s s1 := .of_eq rfl rfl
      have h2 : PowerKept s1 s2 := powerKept_modEng _ _ _
      exact ((h1.trans h2).trans (powerKept_queueEvent _ _ _ _)).trans (powerKept_startStep1 _ _)
  · exact .refl _

theorem powerKept_stopEngines (s : State) : PowerKept s (stopEngines s) := by
  unfold stopEngines
  extract_lets stop
  have h : PowerKept (dropTrims s) (bothEngs.foldl stop (dropTrims s)) :=
    .foldl stop (fun s e => (powerKept_modEng e _ s).trans (.of_eq rfl rfl)) _ _
  exact (PowerKept.of_eq rfl rfl).trans (h.trans (.of_eq rfl rfl))

theorem powerKept_stopHeartbeats (s : State) : PowerKept s (stopHeartbeats s) :=
  .foldl _ (fun s e => powerKept_modEng e _ s) _ s

/-- An entry to S2 or deeper ends the session; of PWR it changes at most the beam state held. -/
theorem goDeep_power (s : State) : (∃ b, (goDeep s).pwr = { s.pwr with heldBeam := b }) ∧ (goDeep s).cmd.sessOpen = false := by
  refine ⟨?_, rfl⟩
  have h (u : State) : (endSession 3 (stopHeartbeats (stopEngines (endSwitchover u)))).pwr = u.pwr :=
    (((powerKept_endSwitchover u).trans (powerKept_stopEngines _)).trans
      ((powerKept_stopHeartbeats _).trans (powerKept_endSession 3 _))).1
  unfold goDeep
  extract_lets s1
  rw [h]
  simp only [s1]
  split
  · exact ⟨s.pwr.heldBeam, rfl⟩
  · exact ⟨_, rfl⟩

/-- Both ports on the way down. -/
theorem powerKept_portsDown (f : Bool) (s : State) : PowerKept s (portDown f .p1 (portDown f .p0 s)) :=
  (powerKept_portDown f .p0 s).trans (powerKept_portDown f .p1 _)

/-- What stands after the domains of an entry have gone: the state it leaves, no entry asked for, no session. -/
def Entered (s t : State) : Prop :=
  t.pwr.pstate = s.pwr.pstate ∧ t.pwr.entryTo = s.pwr.entryTo ∧ t.cmd.sessOpen = false

theorem entered_enterS2 (s : State) : Entered s (enterS2 s) := by
  obtain ⟨⟨b, hb⟩, hs⟩ := goDeep_power s
  obtain ⟨hp, hc⟩ := powerKept_portsDown false (goDeep s)
  unfold Entered enterS2
  rw [hp, hb]
  exact ⟨rfl, rfl, hc hs⟩

theorem powerKept_offArray (s : State) : PowerKept s (offArray s) := (powerKept_loseWindows _ s).trans (.of_eq rfl rfl)

theorem entered_enterS3 (s : State) : Entered s (enterS3 s) := by
  obtain ⟨⟨b, hb⟩, hs⟩ := goDeep_power s
  unfold enterS3
  extract_lets s1 i
  obtain ⟨hp, hc⟩ := (powerKept_portsDown true (goDeep s)).trans (powerKept_offArray s1)
  have hk (u : State) : PowerKept u (stopStrokes (stopClocks (freezeTime u))) := .of_eq rfl rfl
  obtain ⟨hp', hc'⟩ := hk ((offArray s1).modPwr (fun p => { p with image := some i }))
  unfold Entered
  rw [hp', State.modPwr, hp, hb]
  exact ⟨rfl, rfl, hc' (hc hs)⟩

theorem offAll_pwr (s : State) : (offAll s).pwr = s.pwr :=
  ((powerKept_offArray s).trans (powerKept_loseWindows _ _)).1

theorem offAll_sessOpen (s : State) : (offAll s).cmd.sessOpen = false := by unfold offAll; rfl

theorem unpackS3_of_lit {s : State} (h : s.pwr.pstate ≠ .s3) : unpackS3 s = s := by
  unfold unpackS3
  split
  · exact if_neg h
  · rfl

/-- With every domain but the always-on one off no session is open, and PWR has changed as stated alone. -/
theorem asleep_power (f : Pwr → Pwr) (s : State) :
    ((sleepClocks (offAll s)).modPwr f).pwr = f s.pwr ∧ ((sleepClocks (offAll s)).modPwr f).cmd.sessOpen = false := by
  have hk (u : State) : ((sleepClocks u).modPwr f).pwr = f u.pwr ∧ ((sleepClocks u).modPwr f).cmd = u.cmd := ⟨rfl, rfl⟩
  obtain ⟨hp, hc⟩ := hk (offAll s)
  rw [hp, hc, offAll_pwr, offAll_sessOpen]
  exact ⟨rfl, rfl⟩

theorem entered_enterS4 {s : State} (h : s.pwr.pstate ≠ .s3) : Entered s (enterS4 s) := by
  obtain ⟨⟨b, hb⟩, -⟩ := goDeep_power s
  unfold enterS4 Entered
  rw [unpackS3_of_lit h]
  obtain ⟨hp, hc⟩ := asleep_power (fun p => { p with image := some (fullImage (goDeep s)), restoring := false }) (goDeep s)
  rw [hp, hb]
  exact ⟨rfl, rfl, hc⟩

theorem entered_enterS5 {s : State} (h : s.pwr.pstate ≠ .s3) : Entered s (enterS5 s) := by
  obtain ⟨⟨b, hb⟩, -⟩ := goDeep_power s
  unfold enterS5
  rw [unpackS3_of_lit h]
  generalize goDeep s = s1 at hb
  extract_lets u i s2
  have h2 : s2.pwr.pstate = s.pwr.pstate ∧ s2.pwr.entryTo = s.pwr.entryTo := by
    simp only [s2, u, putRecord, State.modPwr, hb, and_self]
  clear_value s2 i
  obtain ⟨hp, hc⟩ := asleep_power (fun p => { p with image := none, s5Image := some i, retFw := [], restoring := false })
    (s2.modKeep (fun k => { k with version := k.version + 1 }))
  refine ⟨?_, ?_, hc⟩
  · exact (congrArg Pwr.pstate hp).trans h2.1
  · exact (congrArg Pwr.entryTo hp).trans h2.2

/-- A change of state: the new state, the old one and the cause stand in PWR, all else of it as before (R430). -/
theorem changeState_pwr (c : Nat) (dst : PState) (s : State) :
    (changeState c dst s).pwr = { s.pwr with from_ := s.pwr.pstate, pstate := dst, lastCause := c } :=
  (powerKept_queueEvent _ _ _ (s.modPwr (fun p => { p with from_ := s.pwr.pstate, pstate := dst, lastCause := c }))).1

theorem changeState_sessOpen (c : Nat) {dst : PState} {s : State} (h : s.cmd.sessOpen = false) :
    (changeState c dst s).cmd.sessOpen = false :=
  (powerKept_queueEvent _ _ _ (s.modPwr _)).2 h

/-- An entry from S0 or S1 (R429, R430). -/
theorem enterState_power (c : Nat) {dst : PState} {s : State} (hd : dst ≠ .s0) (hs : s.pwr.pstate = .s0 ∨ s.pwr.pstate = .s1) :
    (enterState c dst s).pwr.pstate = dst ∧ (enterState c dst s).pwr.from_ = s.pwr.pstate ∧
    (enterState c dst s).pwr.lastCause = c ∧ (enterState c dst s).pwr.entryTo = none ∧
    (deep dst = true → (enterState c dst s).cmd.sessOpen = false) := by
  have h3 : s.pwr.pstate ≠ .s3 := by rcases hs with h | h <;> simp [h]
  have key {u : State} (h : Entered (s.modPwr (fun p => { p with entryTo := none })) u) (x : PState) :
      (changeState c x u).pwr.pstate = x ∧ (changeState c x u).pwr.from_ = s.pwr.pstate ∧
      (changeState c x u).pwr.lastCause = c ∧ (changeState c x u).pwr.entryTo = none ∧
      (deep x = true → (changeState c x u).cmd.sessOpen = false) := by
    obtain ⟨hp, he, hn⟩ := h
    rw [changeState_pwr]
    exact ⟨rfl, hp, rfl, he, fun _ => changeState_sessOpen c hn⟩
  cases dst with
  | s0 => exact absurd rfl hd
  | s1 =>
    have hk : enterState c .s1 s = changeState c .s1 (stopEngines (s.modPwr (fun p => { p with entryTo := none }))) := rfl
    rw [hk, changeState_pwr, (powerKept_stopEngines _).1]
    exact ⟨rfl, rfl, rfl, rfl, fun h => by cases h⟩
  | s2 => exact key (entered_enterS2 _) .s2
  | s3 => exact key (entered_enterS3 _) .s3
  | s4 => exact key (entered_enterS4 h3) .s4
  | s5 => exact key (entered_enterS5 h3) .s5

/-! ### Where an exit leads -/

/-- What PWR_STATUS says of the last change of power state (Table 16.12). -/
def lastChange (s : State) : PState × PState × Nat := (s.pwr.pstate, s.pwr.from_, s.pwr.lastCause)

theorem lastChange_of_untouched {s t : State} (h : untouched t = untouched s) : lastChange t = lastChange s :=
  keeps_of_untouched lastChange (fun _ => rfl) h

theorem lastChange_foldl {α : Type} (f : State → α → State) (h : ∀ s a, lastChange (f s a) = lastChange s) (l : List α)
    (s : State) : lastChange (l.foldl f s) = lastChange s := by
  induction l generalizing s with
  | nil => rfl
  | cons a l ih => rw [List.foldl_cons, ih, h]

theorem lastChange_raiseFault (b n i : Nat) (x y : Bool) (s : State) : lastChange (raiseFault b n i x y s) = lastChange s :=
  lastChange_of_untouched (untouched_raiseFault b n i x y s)

theorem lastChange_check (b n i : Nat) (c : Bool) (s : State) : lastChange (check b n i c s) = lastChange s := by
  unfold check
  extract_lets w inj frc s1
  have h1 : lastChange s1 = lastChange s := by simp only [s1]; split <;> rfl
  split
  · rw [lastChange_raiseFault, h1]
  · exact h1

theorem lastChange_crcCount (e : DirEntry) (w c : Bool) (s : State) : lastChange (crcCount e w c s) = lastChange s := by
  unfold crcCount; split <;> rfl

theorem lastChange_readRecord (b n i id : Nat) (x y : Bool) (s : State) :
    lastChange (readRecord b n i id x y s).1 = lastChange s := by
  unfold readRecord
  split
  · rfl
  · split
    · rfl
    · extract_lets cond wrong s1
      show lastChange (crcCount _ _ _ _) = _
      rw [lastChange_crcCount]
      exact lastChange_check _ _ _ _ _

theorem lastChange_loadDeadmap (s : State) : lastChange (loadDeadmap s) = lastChange s := lastChange_readRecord _ _ _ _ _ _ s

theorem lastChange_readManifest (s : State) : lastChange (readManifest s) = lastChange s := by
  unfold readManifest
  extract_lets n a count s0 s1
  have hc (s : State) (a : Nat) : lastChange (count s a) = lastChange s := by simp only [count]; split <;> rfl
  have h0 : lastChange s0 = lastChange s := (hc _ _).trans (hc _ _)
  have h1 : lastChange s1 = lastChange s0 := by
    simp only [s1]; split
    · rfl
    · exact lastChange_raiseFault _ _ _ _ _ _
  exact h1.trans h0

theorem lastChange_queueWork (k : XKind) (id : Nat) (s : State) : lastChange (queueWork k id s) = lastChange s := by
  unfold queueWork; split <;> rfl

theorem lastChange_modXmem (f : Xmem → Xmem) (s : State) : lastChange (s.modXmem f) = lastChange s := rfl

theorem lastChange_flushOwed (s : State) : lastChange (flushOwed s) = lastChange s := by
  unfold flushOwed
  extract_lets n s1
  have h1 : lastChange s1 = lastChange s := lastChange_modXmem _ s
  rw [← h1]
  split
  · exact Eq.refl (lastChange s1)
  · exact lastChange_queueWork _ _ _

theorem lastChange_setRecValid (k : Nat) (v : Bool) (s : State) : lastChange (setRecValid k v s) = lastChange s := rfl

theorem lastChange_recheckRecords (s : State) : lastChange (recheckRecords s) = lastChange s := by
  unfold recheckRecords
  refine lastChange_foldl _ (fun s p => ?_) _ s
  exact lastChange_setRecValid _ _ _

theorem lastChange_findMemory (s : State) : lastChange (findMemory s) = lastChange s := by
  unfold findMemory
  extract_lets s1
  have h1 : lastChange s1 = lastChange s := (lastChange_recheckRecords _).trans (lastChange_readManifest s)
  clear_value s1
  rw [lastChange_flushOwed, lastChange_modXmem, h1]

theorem lastChange_katRun (b : BitVec 4) (s : State) : lastChange (katRun b s) = lastChange s := by
  unfold katRun
  refine lastChange_foldl _ (fun s n => ?_) _ s
  extract_lets c ok s1 m
  exact lastChange_check 11 0 n c s

theorem lastChange_modBstay (f : Bstay → Bstay) (s : State) : lastChange (s.modBstay f) = lastChange s := rfl

theorem lastChange_romImage (s : State) : lastChange (romImage s).1 = lastChange s := by
  unfold romImage
  extract_lets s1 i
  have h1 : lastChange s1 = lastChange s := lastChange_modBstay _ s
  rw [← h1]
  clear_value s1
  split
  · exact lastChange_modBstay _ s1
  · exact Eq.refl (lastChange s1)

theorem lastChange_useRom (s : State) : lastChange (useRom s).1 = lastChange s := by
  have h := lastChange_romImage s
  unfold useRom
  generalize romImage s = r at h ⊢
  exact (lastChange_modBstay _ r.1).trans h

theorem lastChange_computeTry (s : State) : lastChange (computeTry s) = lastChange s := by
  unfold computeTry
  extract_lets lv0 img0
  split
  rename_i s1 tooMuch hm
  have h1 : lastChange s1 = lastChange s := by
    rw [show s1 = _ from (congrArg Prod.fst hm).symm]
    split
    · split
      · exact lastChange_useRom s
      · exact Eq.refl (lastChange s)
    · exact lastChange_useRom s
  clear hm
  clear_value lv0 img0
  split
  · rw [lastChange_raiseFault, lastChange_modBstay, h1]
  · rw [lastChange_modBstay, h1]

theorem lastChange_loadTry (s : State) : lastChange (loadTry s) = lastChange s := by
  have hk (u : State) (x : Xmem) : lastChange { u with xmem := x } = lastChange u := rfl
  unfold loadTry
  extract_lets i x s1 s2 b y
  have h1 : lastChange s1 = lastChange s := hk s _
  have h2 : lastChange s2 = lastChange s1 := (lastChange_computeTry _).trans (lastChange_useRom s1)
  have hb : lastChange b = lastChange s2 := lastChange_modBstay _ s2
  split
  · rw [hk, hb, h2, h1]
  · rw [lastChange_computeTry, lastChange_modBstay, lastChange_useRom, h1]

theorem lastChange_reloadRecord (k : Nat) (b : Bool) (s : State) : lastChange (reloadRecord k b s) = lastChange s := by
  unfold reloadRecord
  extract_lets id
  have h := lastChange_readRecord 12 1 id id b (k == 1 && calibBad s) s
  rcases hq : readRecord 12 1 id id b (k == 1 && calibBad s) s with ⟨s1, r⟩
  rw [hq] at h
  cases r with
  | none => exact h
  | some r =>
    simp only
    refine Eq.trans ?_ h
    show lastChange (if k = 0 then _ else if k = 1 then _ else _) = _
    split
    · rfl
    · split <;> rfl

theorem lastChange_startReloads (i : RetImage) (s : State) : lastChange (startReloads i s) = lastChange s := by
  have he (u : State) : lastChange (endRestore (u.modPwr (fun p => { p with restoring := true }))) = lastChange u := by
    unfold endRestore
    extract_lets left
    split <;> rfl
  have ht (k : Nat) (u : State) : lastChange (checkTry k false u).1 = lastChange u :=
    lastChange_readRecord 10 7 0 (recId (0x20 + k)) false false u
  unfold startReloads
  extract_lets s1 s2 s3 s4
  have h1 : lastChange s1 = lastChange s := lastChange_reloadRecord _ _ _
  have h3 : lastChange s3 = lastChange s1 :=
    (lastChange_foldl (fun s p => s.modBuf p.1 (fun _ => p.2)) (fun _ _ => rfl) i.reloads s1 : lastChange s2 = lastChange s1)
  have h4 : lastChange s4 = lastChange s3 := by
    refine (lastChange_loadTry _).trans (lastChange_foldl _ (fun u k => ?_) _ s3)
    split
    · exact ht k u
    · rfl
  rw [he, h4, h3, h1]

theorem lastChange_startEngines (s : State) : lastChange (startEngines s) = lastChange s := by
  refine lastChange_foldl _ (fun s e => ?_) _ s
  split
  · exact lastChange_of_untouched (untouched_startStep1 _ _)
  · rfl

theorem pushLog_pwr (r : LogRec) (s : State) : (pushLog r s).pwr = s.pwr := by
  unfold pushLog; split <;> rfl

theorem systemEntry_pwr (d : Nat) (s : State) : (systemEntry d s).pwr = s.pwr := pushLog_pwr _ s

theorem lastChange_writeOwed (s : State) : lastChange (writeOwed s) = lastChange s := by
  have hs (d : Nat) (u : State) : lastChange (systemEntry d u) = lastChange u := by
    simp only [lastChange, systemEntry_pwr]
  unfold writeOwed
  extract_lets s1 s2 s3
  have h1 : lastChange s1 = lastChange s := by simp only [s1]; split <;> simp only [hs]
  have h2 : lastChange s2 = lastChange s1 := by simp only [s2]; split <;> simp only [hs]
  have h3 : lastChange s3 = lastChange s2 := by simp only [s3]; split <;> simp only [hs]
  exact h3.trans (h2.trans h1)

theorem lastChange_startAnew (s : State) : lastChange (startAnew s) = lastChange s := rfl

theorem portUp_pwr (p : HPort) (s : State) : (portUp p s).pwr = s.pwr := by
  unfold portUp
  split
  · exact State.modPort_pwr _ _ _
  · extract_lets s1
    exact (State.modPort_pwr _ _ _).trans (State.modPort_pwr _ _ _)
  · extract_lets s1
    split
    · exact (State.modPort_pwr _ _ _).trans (State.modPort_pwr _ _ _)
    · exact State.modPort_pwr _ _ _
  · rfl

/-- After a change from `u` nothing that follows in an exit makes another. -/
theorem lastChange_changeState (c : Nat) (dst : PState) (s : State) :
    lastChange (changeState c dst s) = (dst, s.pwr.pstate, c) := by
  simp only [lastChange, changeState_pwr]

theorem lastChange_leaveS2 (c : Nat) (dst : PState) (s : State) :
    lastChange (leaveS2 c dst s) = (dst, s.pwr.pstate, c) := by
  unfold leaveS2
  extract_lets s1 s2
  have h1 : lastChange s1 = (dst, s.pwr.pstate, c) := by
    rw [show s1 = changeState _ _ _ from rfl, lastChange_changeState]
    simp only [wakeBeam, State.modBstay, portUp_pwr]
  have h2 : lastChange s2 = lastChange s1 := by
    simp only [s2]; split
    · rw [lastChange_startReloads, lastChange_loadDeadmap, lastChange_findMemory, lastChange_startAnew]
    · exact lastChange_startAnew _
  rw [lastChange_writeOwed, ← h1, ← h2]
  split
  · exact lastChange_startEngines _
  · rfl

theorem leaveS3_good (c : Nat) (dst : PState) {i : RetImage} {s : State} (h : s.pwr.image = some i) :
    leaveS3 c dst true s = writeOwed
      (let s2 := loadDeadmap (findMemory (startAnew (changeState c dst (wakeBeam (portUp .p1 (portUp .p0 (unsyncTime
        (applyRows i s))))))))
      let s3 := katRun 0 (if s.pwr.lostRows then startReloads {} s2 else s2)
      if dst = .s0 then startEngines s3 else s3) := by
  unfold leaveS3
  rw [h]
  exact if_neg (by decide)

theorem lastChange_leaveS3 (c : Nat) (dst : PState) {s : State} (h : s.pwr.image.isSome = true) :
    lastChange (leaveS3 c dst true s) = (dst, s.pwr.pstate, c) := by
  obtain ⟨i, hi⟩ := Option.isSome_iff_exists.mp h
  have hk (u : State) : (wakeBeam u).pwr = u.pwr := rfl
  have hu : (unsyncTime (applyRows i s)).pwr = s.pwr := rfl
  rw [leaveS3_good c dst hi, lastChange_writeOwed]
  extract_lets s2 s3
  have h2 : lastChange s2 = (dst, s.pwr.pstate, c) := by
    simp only [s2]
    rw [lastChange_loadDeadmap, lastChange_findMemory, lastChange_startAnew, lastChange_changeState, hk, portUp_pwr, portUp_pwr, hu]
  have h3 : lastChange s3 = lastChange s2 := by
    simp only [s3]
    rw [lastChange_katRun]
    split
    · exact lastChange_startReloads _ _
    · rfl
  rw [← h2, ← h3]
  split
  · exact lastChange_startEngines _
  · rfl

theorem lastChange_endExit (s : State) : lastChange (endExit s) = lastChange s := rfl

theorem backToBoot_pwr (full : Bool) (c : Nat) (s : State) :
    (backToBoot full c s).pwr = { s.pwr with
      from_ := s.pwr.pstate, pstate := .s0, lastCause := c, ready := false, bootFrom4 := full && s.pwr.ready
      bootStopped := false, image := none, s5Image := none } := by
  have hk (u : State) (f : Pwr → Pwr) : (u.modPwr f).pwr = f u.pwr := rfl
  have hb : (wakeBeam s).pwr = s.pwr := rfl
  unfold backToBoot
  rw [hk, changeState_pwr, hb]

/-- An image that fails leads back to boot, with RET_ERR and without an image (R434). -/
theorem imageBad_power (c : Nat) (s : State) :
    (imageBad c s).pwr.pstate = .s0 ∧ (imageBad c s).pwr.ready = false ∧ (imageBad c s).pwr.retErr = true ∧
    (imageBad c s).pwr.image.isSome = false := by
  have hk (u : State) : ((u.modPwr (fun p => { p with retErr := true })).hit 15 0x0400 1).pwr = { u.pwr with retErr := true } := rfl
  unfold imageBad
  rw [systemEntry_pwr, hk, backToBoot_pwr]
  exact ⟨rfl, rfl, rfl, rfl⟩

theorem leaveS3_bad (c : Nat) (dst : PState) {i : Bool} {s : State} (h : i = false ∨ s.pwr.image.isSome = false) :
    ∃ u, leaveS3 c dst i s = imageBad c u := by
  unfold leaveS3
  split
  · exact ⟨_, rfl⟩
  · rename_i j hj
    have hi : i = false := by rcases h with h | h
                              · exact h
                              · simp [hj] at h
    exact ⟨_, if_pos (by simp [hi])⟩

@[simp] theorem settle_pstate (s : State) : (settle s).pwr.pstate = s.pwr.pstate :=
  settle_keeps (fun u => u.pwr.pstate) (fun _ => rfl) s
@[simp] theorem settle_from (s : State) : (settle s).pwr.from_ = s.pwr.from_ :=
  settle_keeps (fun u => u.pwr.from_) (fun _ => rfl) s
@[simp] theorem settle_lastCause (s : State) : (settle s).pwr.lastCause = s.pwr.lastCause :=
  settle_keeps (fun u => u.pwr.lastCause) (fun _ => rfl) s
@[simp] theorem settle_entryTo (s : State) : (settle s).pwr.entryTo = s.pwr.entryTo :=
  settle_keeps (fun u => u.pwr.entryTo) (fun _ => rfl) s
@[simp] theorem settle_wakeStage (s : State) : (settle s).pwr.wakeStage = s.pwr.wakeStage :=
  settle_keeps (fun u => u.pwr.wakeStage) (fun _ => rfl) s
@[simp] theorem settle_wakeCause (s : State) : (settle s).pwr.wakeCause = s.pwr.wakeCause :=
  settle_keeps (fun u => u.pwr.wakeCause) (fun _ => rfl) s
@[simp] theorem settle_wakeTo (s : State) : (settle s).pwr.wakeTo = s.pwr.wakeTo :=
  settle_keeps (fun u => u.pwr.wakeTo) (fun _ => rfl) s
@[simp] theorem settle_wakeTries (s : State) : (settle s).pwr.wakeTries = s.pwr.wakeTries :=
  settle_keeps (fun u => u.pwr.wakeTries) (fun _ => rfl) s
@[simp] theorem settle_stageAt (s : State) : (settle s).pwr.stageAt = s.pwr.stageAt :=
  settle_keeps (fun u => u.pwr.stageAt) (fun _ => rfl) s
@[simp] theorem settle_lastSrc (s : State) : (settle s).pwr.lastSrc = s.pwr.lastSrc :=
  settle_keeps (fun u => u.pwr.lastSrc) (fun _ => rfl) s
@[simp] theorem settle_seen (s : State) : (settle s).pwr.seen = s.pwr.seen :=
  settle_keeps (fun u => u.pwr.seen) (fun _ => rfl) s
@[simp] theorem settle_wakeLevel (s : State) : (settle s).pwr.wakeLevel = s.pwr.wakeLevel :=
  settle_keeps (fun u => u.pwr.wakeLevel) (fun _ => rfl) s
@[simp] theorem settle_retErr (s : State) : (settle s).pwr.retErr = s.pwr.retErr :=
  settle_keeps (fun u => u.pwr.retErr) (fun _ => rfl) s
@[simp] theorem settle_image (s : State) : (settle s).pwr.image = s.pwr.image :=
  settle_keeps (fun u => u.pwr.image) (fun _ => rfl) s
@[simp] theorem settle_failAttempts (s : State) : (settle s).pwr.failAttempts = s.pwr.failAttempts :=
  settle_keeps (fun u => u.pwr.failAttempts) (fun _ => rfl) s
@[simp] theorem settle_failStage (s : State) : (settle s).pwr.failStage = s.pwr.failStage :=
  settle_keeps (fun u => u.pwr.failStage) (fun _ => rfl) s

/-! ### POWER_STATE -/

theorem exec_powerState {c : CmdCtx} {w : Word} {s t : State} {st : BitVec 8} (h : fastReady 0x60 c [w] s = true)
    (e : opPowerState c [w] s = (t, .fin st [])) : exec (.powerState c [w]) s = .next (settle (reply c 0x60 st [] t)) :=
  congrArg (fun t => Host.Outcome.next (settle t)) (submit_fast_fin opPowerState 0x60 c [w] s _ st [] h e)

/-- A POWER_STATE that names a state asks for it. -/
theorem opPowerState_named (c : CmdCtx) (dst : PState) (s : State) :
    opPowerState c [put 0 (pstateNo dst)] s = ((askState c.port dst s).1, .fin (askState c.port dst s).2 []) := by
  have h : within (put 0 (pstateNo dst)) 7 = true ∧ bits (put 0 (pstateNo dst)) 0 3 ≤ 5 ∧
      pstateOf (bits (put 0 (pstateNo dst)) 0 3) = dst := by cases dst <;> decide
  obtain ⟨hw, hb, hd⟩ := h
  simp only [opPowerState, List.getD_cons_zero, hw, Bool.not_true, Bool.false_or, decide_eq_true_eq, if_neg (Nat.not_lt.mpr hb), hd]
  rfl

theorem opPowerState_beyond (c : CmdCtx) {v : Word} (h : 5 < bits v 0 3) (s : State) :
    opPowerState c [v] s = endWith stBadParam s := by
  simp [opPowerState, h]

theorem exec_powerState_named {c : CmdCtx} {dst : PState} {s t : State} {st : BitVec 8}
    (h : fastReady 0x60 c [put 0 (pstateNo dst)] s = true) (e : askState c.port dst s = (t, st)) :
    exec (.powerState c [put 0 (pstateNo dst)]) s = .next (settle (reply c 0x60 st [] t)) :=
  exec_powerState h (by rw [opPowerState_named, e])

theorem reply_pwr (c : CmdCtx) (code : Nat) (st : BitVec 8) (ws : List Word) (s : State) : (reply c code st ws s).pwr = s.pwr := by
  have h (b : Bool) (k o n : Nat) (u : State) : (u.hitIf b k o n).pwr = u.pwr := by unfold State.hitIf; split <;> rfl
  unfold reply
  extract_lets u r busy
  split
  · exact h _ _ _ _ _
  · exact h _ _ _ _ _
  · rfl

/-- An exit ends as its state asks: from S1, S2 and S3. -/
theorem finishExit_s1 (i d : Bool) {s : State} (h : s.pwr.pstate = .s1) :
    finishExit i d s = endExit (leaveS1 s.pwr.wakeCause s) := by
  simp only [finishExit, h]

theorem finishExit_s2 (i d : Bool) {s : State} (h : s.pwr.pstate = .s2) :
    finishExit i d s = endExit (leaveS2 s.pwr.wakeCause s.pwr.wakeTo s) := by
  simp only [finishExit, h]

theorem finishExit_s3 (i d : Bool) {s : State} (h : s.pwr.pstate = .s3) :
    finishExit i d s = endExit (leaveS3 s.pwr.wakeCause s.pwr.wakeTo i s) := by
  simp only [finishExit, h]

/-- Leaving S1 is immediate (Table 16.4). -/
theorem startExit_s1 (c src : Nat) (dst : PState) {s : State} (h : s.pwr.pstate = .s1) :
    lastChange (startExit c src dst s) = (.s0, .s1, c) := by
  have hk (u : State) (c : Nat) : lastChange (endExit (leaveS1 c u)) = (.s0, u.pwr.pstate, c) := by
    rw [lastChange_endExit, leaveS1, lastChange_startEngines, lastChange_changeState]
  unfold startExit
  extract_lets s1
  have h1 : s1.pwr.pstate = .s1 := h
  rw [if_pos h, finishExit_s1 _ _ h1, hk, h1]
  rfl

theorem powerState_row (c : CmdCtx) (dst : PState) (s : State) (h : fastReady 0x60 c [put 0 (pstateNo dst)] s = true) :
    (dst = s.pwr.pstate → exec (.powerState c [put 0 (pstateNo dst)]) s = .next (answered 0x60 c [] s)) ∧
    (dst ≠ s.pwr.pstate → pwrBusy s = true →
      exec (.powerState c [put 0 (pstateNo dst)]) s = .next (settle (reply c 0x60 stBadState [] s))) ∧
    (pstateNo s.pwr.pstate < pstateNo dst → pwrBusy s = false → s.mode.ifMode ≠ .compat ∨ pstateNo dst ≤ 2 →
      exec (.powerState c [put 0 (pstateNo dst)]) s = .next (answered 0x60 c [] { s with
        pwr := { s.pwr with entryTo := some dst, entryTried := false, entryPort := c.port } })) ∧
    (dst = .s0 → s.pwr.pstate = .s1 → pwrBusy s = false →
      ∃ t, exec (.powerState c [put 0 (pstateNo dst)]) s = .next t ∧ t.pwr.pstate = .s0 ∧ t.pwr.from_ = .s1 ∧ t.pwr.lastCause = 1) := by
  refine ⟨fun hd => ?_, fun hd hb => ?_, fun hd hb hm => ?_, fun hd hs hb => ?_⟩
  · exact exec_powerState_named h (if_pos hd)
  · refine exec_powerState_named h ?_
    rw [askState, if_neg hd, if_pos (by simp [hb])]
  · refine exec_powerState_named h ?_
    have hne : dst ≠ s.pwr.pstate := fun e => by simp [e] at hd
    have hc : ¬ (pwrBusy s || (s.mode.ifMode == .compat && decide (pstateNo dst > 2))) = true := by
      rcases hm with hm | hm <;> simp [hb, hm]
    rw [askState, if_neg hne, if_neg hc, if_pos hd]
    rfl
  · subst hd
    refine ⟨_, exec_powerState_named (t := startExit 1 0 .s0 s) (st := stOk) h ?_, ?_⟩
    · rw [askState, if_neg (by simp [hs]), if_neg (by simp [hb, pstateNo]), if_neg (by simp [hs, pstateNo]), if_neg (by simp)]
    · have hl := startExit_s1 1 0 .s0 hs
      simp only [lastChange, Prod.mk.injEq] at hl
      simpa [reply_pwr] using hl

/-! ### The entries -/

theorem exec_powerEntry {dst : PState} {s : State} (he : s.pwr.entryTo = some dst) (hm : mayEnter dst s = true)
    (hl : s.pwr.wakeLatched = none) :
    exec .powerEntry s = .next (settle ((enterState 1 dst s).modPwr (fun p => { p with wakeLatched := none }))) := by
  show execPowerEntry s = _
  simp only [execPowerEntry, he, hm, hl, if_true, done]

theorem powerEntry_row (dst : PState) (s : State) (he : s.pwr.entryTo = some dst) (hd : dst ≠ .s0)
    (hm : mayEnter dst s = true) (hl : s.pwr.wakeLatched = none) (hs : s.pwr.pstate = .s0 ∨ s.pwr.pstate = .s1) :
    ∃ t, exec .powerEntry s = .next t ∧ t.pwr.pstate = dst ∧ t.pwr.from_ = s.pwr.pstate ∧ t.pwr.lastCause = 1 ∧
      t.pwr.entryTo = none ∧ (deep dst = true → t.bstay.beam = .dark ∧ t.cmd.sessOpen = false) := by
  obtain ⟨hp, hf, hc, hn, ho⟩ := enterState_power 1 hd hs
  rw [exec_powerEntry he hm hl]
  generalize enterState 1 dst s = u at hp hf hc hn ho
  obtain ⟨hb, -⟩ := settle_safe (u.modPwr (fun p => { p with wakeLatched := none }))
  refine ⟨_, rfl, by simpa using hp, by simpa using hf, by simpa using hc, by simpa using hn, fun h => ⟨hb.1 ?_, ?_⟩⟩
  · rw [settle_pstate, State.modPwr_pwr, hp, h]
  · simpa using ho h

/-! ### The wake sources -/

/-- A wake from S2 with no exit, entry or save under way. -/
theorem wake_s2 (c src : Nat) {s : State} (hr : s.pwr.inReset = false) (hp : s.pwr.pstate = .s2) (hs : s.pwr.saving = none)
    (hw : s.pwr.wakeStage = 0) (he : s.pwr.entryTo = none) :
    wake c (src + 1) s = s.modPwr (fun p => { p with
      wakeCause := c, wakeTo := .s0, wakeStage := 5, wakeTries := 0, stageAt := some s.ticks, lastSrc := src + 1 }) := by
  simp [wake, startExit, hr, hp, hs, hw, he, State.modPwr, firstStage]

theorem wakePin_row (n : Fin 4) (high : Bool) (s : State) (hr : s.pwr.inReset = false) (level : BitVec 4)
    (hv : level = if high then s.pwr.wakeLevel ||| wakeBit n else s.pwr.wakeLevel &&& ~~~ wakeBit n) :
    (s.pwr.wakeCtrl.getLsbD n.val = false ∨ s.pwr.wakeCtrl.getLsbD (n.val + 4) ≠ high →
      exec (.wakePin ⟨n, high⟩) s = .next (settle { s with pwr := { s.pwr with wakeLevel := level } })) ∧
    (s.pwr.wakeCtrl.getLsbD n.val = true → s.pwr.wakeCtrl.getLsbD (n.val + 4) = high → s.pwr.pstate = .s2 →
      s.pwr.saving = none → s.pwr.wakeStage = 0 → s.pwr.entryTo = none →
      ∃ t, exec (.wakePin ⟨n, high⟩) s = .next t ∧ t.pwr.wakeStage = 5 ∧ t.pwr.wakeCause = 2 ∧ t.pwr.wakeTo = .s0 ∧
        t.pwr.lastSrc = n.val + 1 ∧ t.pwr.seen = s.pwr.seen ||| wakeBit n ∧ t.pwr.wakeLevel = level) := by
  subst hv
  refine ⟨fun h => ?_, fun h1 h2 hp hs hw he => ?_⟩
  · show execWakePin ⟨n, high⟩ s = _
    unfold execWakePin
    extract_lets m s1
    rw [if_pos (by rcases h with h | h <;> simp [h])]
    rfl
  · refine ⟨_, rfl, ?_⟩
    rw [if_neg (by simp [hr, h1, h2]), wake_s2 2 n.val (by exact hr) (by exact hp) (by exact hs) (by exact hw) (by exact he)]
    simp

theorem linkWake_row (s : State) (hr : s.pwr.inReset = false) (h0 : s.h0.state = .slack) (hc : s.pwr.wakeCtrl.getLsbD 8 = true)
    (hp : s.pwr.pstate = .s2) (hs : s.pwr.saving = none) (hw : s.pwr.wakeStage = 0) (he : s.pwr.entryTo = none) :
    ∃ t, exec (.linkWake .p0) s = .next t ∧ t.pwr.wakeStage = 5 ∧ t.pwr.wakeCause = 3 ∧ t.pwr.lastSrc = 5 := by
  have e : exec (.linkWake .p0) s = .next (settle (wake 3 5 s)) :=
    congrArg (fun t => Host.Outcome.next (settle t)) (if_pos (by simp [State.hport, h0, hc]))
  refine ⟨_, e, ?_⟩
  rw [wake_s2 3 4 hr hp hs hw he]
  simp

/-! ### The wake stages -/

/-- A stage that has come up changes of PWR at most what the supervisors say of the regulators. -/
theorem stageUp_pwr (n : Nat) (s : State) : ∃ r v, (stageUp n s).pwr = { s.pwr with regGood := r, vregBad := v } := by
  unfold stageUp
  split
  · exact ⟨_, _, rfl⟩
  · split
    · exact ⟨_, _, rfl⟩
    · split <;> exact ⟨_, _, rfl⟩

theorem stageOff_false {s : State} (h : ∀ n ∈ s.pwr.stageAt, n ≤ s.ticks) : stageOff s = false := by
  unfold stageOff
  cases ha : s.pwr.stageAt with
  | none => rfl
  | some n => simp [h n ha]

theorem exec_wakeStageReady_mid (i d : Bool) {s : State} (h1 : 1 ≤ s.pwr.wakeStage) (h5 : s.pwr.wakeStage < 5)
    (ht : ∀ n ∈ s.pwr.stageAt, n ≤ s.ticks) :
    exec (.wakeStageReady i d) s = .next (settle ((stageUp s.pwr.wakeStage s).modPwr (fun p => { p with
      wakeStage := p.wakeStage + 1, wakeTries := 0, stageAt := some s.ticks }))) := by
  show execWakeStageReady i d s = _
  have h0 : s.pwr.wakeStage ≠ 0 := by omega
  unfold execWakeStageReady
  rw [if_neg (by simp [h0, stageOff_false ht]), if_neg (by omega)]
  rfl

theorem exec_wakeStageReady_last (i d : Bool) {s : State} (h5 : s.pwr.wakeStage = 5) (ht : ∀ n ∈ s.pwr.stageAt, n ≤ s.ticks) :
    exec (.wakeStageReady i d) s = .next (settle (finishExit i d (stageUp 5 s))) := by
  show execWakeStageReady i d s = _
  unfold execWakeStageReady
  rw [if_neg (by simp [h5, stageOff_false ht]), h5, if_pos (Nat.le_refl 5)]
  rfl

theorem endExit_wakeStage (s : State) : (endExit s).pwr.wakeStage = 0 := rfl

/-- The last stage of an exit from S2, or from S3 with a good image. -/
theorem finishExit_good (i d : Bool) {s : State}
    (h : s.pwr.pstate = .s2 ∨ (s.pwr.pstate = .s3 ∧ i = true ∧ s.pwr.image.isSome = true)) :
    lastChange (finishExit i d s) = (s.pwr.wakeTo, s.pwr.pstate, s.pwr.wakeCause) ∧ (finishExit i d s).pwr.wakeStage = 0 := by
  rcases h with h2 | ⟨h3, rfl, hi⟩
  · rw [finishExit_s2 i d h2, lastChange_endExit, endExit_wakeStage]
    exact ⟨lastChange_leaveS2 _ _ s, rfl⟩
  · rw [finishExit_s3 true d h3, lastChange_endExit, endExit_wakeStage]
    exact ⟨lastChange_leaveS3 _ _ hi, rfl⟩

/-- The last stage of an exit from S3 with a bad image or none. -/
theorem finishExit_bad (i d : Bool) {s : State} (h3 : s.pwr.pstate = .s3) (h : i = false ∨ s.pwr.image.isSome = false) :
    (finishExit i d s).pwr.wakeStage = 0 ∧ (finishExit i d s).pwr.pstate = .s0 ∧ (finishExit i d s).pwr.ready = false ∧
    (finishExit i d s).pwr.retErr = true ∧ (finishExit i d s).pwr.image.isSome = false := by
  obtain ⟨u, hu⟩ := leaveS3_bad s.pwr.wakeCause s.pwr.wakeTo h
  obtain ⟨hp, hr, he, hm⟩ := imageBad_power s.pwr.wakeCause u
  rw [finishExit_s3 i d h3, hu]
  generalize imageBad s.pwr.wakeCause u = v at hp hr he hm
  exact ⟨endExit_wakeStage v, hp, hr, he, hm⟩

theorem wakeStageReady_row (i d : Bool) (s : State) :
    (1 ≤ s.pwr.wakeStage → s.pwr.wakeStage < 5 → (∀ n ∈ s.pwr.stageAt, n ≤ s.ticks) →
      ∃ t, exec (.wakeStageReady i d) s = .next t ∧ t.pwr.wakeStage = s.pwr.wakeStage + 1 ∧ t.pwr.wakeTries = 0 ∧
        t.pwr.stageAt = some s.ticks ∧ t.pwr.pstate = s.pwr.pstate) ∧
    (s.pwr.wakeStage = 5 → s.pwr.pstate = .s2 ∨ (s.pwr.pstate = .s3 ∧ i = true ∧ s.pwr.image.isSome = true) →
      (∀ n ∈ s.pwr.stageAt, n ≤ s.ticks) →
      ∃ t, exec (.wakeStageReady i d) s = .next t ∧ t.pwr.wakeStage = 0 ∧ t.pwr.pstate = s.pwr.wakeTo ∧
        t.pwr.lastCause = s.pwr.wakeCause ∧ t.pwr.from_ = s.pwr.pstate) ∧
    (s.pwr.wakeStage = 5 → s.pwr.pstate = .s3 → i = false ∨ s.pwr.image.isSome = false →
      (∀ n ∈ s.pwr.stageAt, n ≤ s.ticks) →
      ∃ t, exec (.wakeStageReady i d) s = .next t ∧ t.pwr.wakeStage = 0 ∧ t.pwr.pstate = .s0 ∧ t.pwr.ready = false ∧
        t.pwr.retErr = true ∧ t.pwr.image.isSome = false) := by
  obtain ⟨r, v, hu⟩ := stageUp_pwr s.pwr.wakeStage s
  refine ⟨fun h1 h5 ht => ⟨_, exec_wakeStageReady_mid i d h1 h5 ht, ?_⟩, fun h5 hp ht => ⟨_, exec_wakeStageReady_last i d h5 ht, ?_⟩,
    fun h5 hp hi ht => ⟨_, exec_wakeStageReady_last i d h5 ht, ?_⟩⟩
  · simp [hu]
  · rw [h5] at hu
    obtain ⟨hl, hw⟩ := finishExit_good i d (s := stageUp 5 s) (by rw [hu]; exact hp)
    simp only [lastChange, hu, Prod.mk.injEq] at hl
    simp [hw, hl]
  · rw [h5] at hu
    simpa using finishExit_bad i d (s := stageUp 5 s) (by rw [hu]; exact hp) (by rw [hu]; exact hi)

/-! ### A stage that times out -/

theorem stageDue_iff {n : Nat} {s : State} (h : s.pwr.stageAt = some n) :
    stageDue s = true ↔ n + stageTicks s.pwr.wakeStage ≤ s.ticks := by
  simp [stageDue, h]

/-- A domain powered off again changes of PWR at most the mark of the lost rows. -/
theorem stageDown_pwr (n : Nat) (s : State) : ∃ l, (stageDown n s).pwr = { s.pwr with lostRows := l } := by
  have h : (loseWindows [4, 5, 6, 7] (offArray s)).pwr = s.pwr := ((powerKept_offArray s).trans (powerKept_loseWindows _ _)).1
  have hr : (offRows s).pwr = { s.pwr with lostRows := true } := by
    rw [← h]; rfl
  unfold stageDown
  split
  · exact ⟨_, rfl⟩
  · exact ⟨_, rfl⟩
  · exact ⟨_, rfl⟩
  · split
    · exact ⟨_, rfl⟩
    · exact ⟨_, hr⟩
  · exact ⟨_, rfl⟩

/-- The third failure of a stage of an exit from S2 leads to S4. -/
theorem wakeFails_s2 (n : Nat) {s : State} (h : s.pwr.pstate = .s2) :
    lastChange (wakeFails n s) = (.s4, .s2, 6) ∧ (wakeFails n s).pwr.failAttempts = 3 ∧ (wakeFails n s).pwr.failStage = n ∧
    (wakeFails n s).pwr.wakeStage = 0 := by
  have hf : fallToS4 s = changeState 6 .s4 (enterS4 s) := by simp only [fallToS4, h]
  obtain ⟨hp, -, -⟩ := entered_enterS4 (s := s) (by simp [h])
  have hl : lastChange (fallToS4 s) = (.s4, .s2, 6) := by rw [hf, lastChange_changeState, hp, h]
  have hr {α : Type} (g : Pwr → α) (hg : ∀ u : State, g (untouched u).pwr = g u.pwr) (u : State) :
      g (raiseFault 15 3 0 true false u).pwr = g u.pwr := keeps_of_untouched (fun u => g u.pwr) hg (untouched_raiseFault _ _ _ _ _ u)
  unfold wakeFails
  extract_lets s1
  refine ⟨?_, hr Pwr.failAttempts (fun _ => rfl) s1, hr Pwr.failStage (fun _ => rfl) s1, hr Pwr.wakeStage (fun _ => rfl) s1⟩
  rw [lastChange_raiseFault, ← hl]
  rfl

theorem wakeStageTimeout_row (n : Nat) (s : State) (hw : s.pwr.wakeStage ≠ 0) (hn : s.pwr.stageAt = some n) :
    (s.ticks < n + stageTicks s.pwr.wakeStage → exec .wakeStageTimeout s = .next (settle s)) ∧
    (n + stageTicks s.pwr.wakeStage ≤ s.ticks →
    (s.pwr.wakeTries < 2 →
      let u := stageDown s.pwr.wakeStage s
      exec .wakeStageTimeout s = .next (settle { u with
        pwr := { u.pwr with wakeTries := u.pwr.wakeTries + 1, stageAt := some (s.ticks + 25000) } })) ∧
    (2 ≤ s.pwr.wakeTries → s.pwr.pstate = .s2 →
      ∃ t, exec .wakeStageTimeout s = .next t ∧ t.pwr.pstate = .s4 ∧ t.pwr.lastCause = 6 ∧ t.pwr.failAttempts = 3 ∧
        t.pwr.failStage = s.pwr.wakeStage ∧ t.pwr.wakeStage = 0)) := by
  have hd := stageDue_iff hn
  have hx : exec .wakeStageTimeout s = execWakeStageTimeout s := rfl
  refine ⟨fun ht => ?_, fun ht => ⟨fun h2 => ?_, fun h2 hp => ?_⟩⟩
  · have : stageDue s = false := by rw [← Bool.not_eq_true, hd]; omega
    rw [hx, execWakeStageTimeout, if_pos (by simp [hw, this])]
    rfl
  · obtain ⟨l, hu⟩ := stageDown_pwr s.pwr.wakeStage s
    have hk : (stageDown s.pwr.wakeStage s).pwr.wakeStage ≠ 0 := by rw [hu]; exact hw
    intro u
    rw [hx, execWakeStageTimeout, if_neg (by simp [hw, hd.2 ht]), if_pos h2, State.modPwr, if_neg hk]
    rfl
  · obtain ⟨hl, ha, hf, hs⟩ := wakeFails_s2 s.pwr.wakeStage hp
    simp only [lastChange, Prod.mk.injEq] at hl
    have e : exec .wakeStageTimeout s = .next (settle (wakeFails s.pwr.wakeStage s)) := by
      rw [hx, execWakeStageTimeout, if_neg (by simp [hw, hd.2 ht]), if_neg (by omega), if_pos hw]
      rfl
    refine ⟨_, e, ?_⟩
    simp [hl, ha, hf, hs]

/-- Settles O44, row by row. -/
theorem powerStatesAreEnteredAndLeft : Obligations.PowerStatesAreEnteredAndLeft := by
  refine ⟨fun c dst s => ?_, powerEntry_row, fun n high s hr => wakePin_row n high s hr _ rfl,
    fun s hr h0 hc hp hs hw he => linkWake_row s hr h0 hc hp hs hw he, wakeStageReady_row, wakeStageTimeout_row⟩
  intro w h
  obtain ⟨h1, h2, h3, h4⟩ := powerState_row c dst s h
  exact ⟨h1, h2, h3, fun hd hs hb _ => h4 hd hs hb, fun v hv hf => exec_powerState hf (opPowerState_beyond c hv s)⟩

end Sys2Proof.Machine
end

section
/-! The loss of a lane while the re-striping after another is not complete (R274, R277). -/

namespace Sys2Proof.Machine

/-- H0 is ACTIVE with both lanes locked; lane 1, lost before, has lock again but has not rejoined, and the far end's STRIPE
still names it, so that the re-striping is not complete (R274, R277). -/
def oneLaneRejoining : State :=
  { State.reset with h0 := { State.reset.h0 with
      state := .active, rxLanes := 3, rx0 := { State.reset.h0.rx0 with locked := true }
      rx1 := { State.reset.h0.rx1 with locked := true, lost := true } } }

/-- The loss of lane 0 then takes the link down, although lane 1 stays locked. -/
theorem lossOfSignal_oneLaneRejoining :
    ∃ t, exec (.lossOfSignal .p0 0) oneLaneRejoining = .next t ∧ t.h0.state = .step :=
  ⟨_, rfl, by decide +kernel⟩

/-- Refutes O49: with the other lane locked but not rejoined, and still named by the far end's STRIPE, the loss of a lane
is not the loss of that lane alone; the model takes the link down to STEP, as R277 asks. -/
theorem not_linkComesUpAndLosesLanes : ¬ Obligations.LinkComesUpAndLosesLanes := by
  intro ⟨_, hport⟩
  obtain ⟨-, -, -, -, -, hlanes⟩ := hport .p0 oneLaneRejoining
  obtain ⟨-, hlost, -⟩ := hlanes (by decide +kernel) (by decide) (by decide)
  obtain ⟨hstays, -⟩ := hlost 0 rfl rfl
  obtain ⟨t, ht, hactive, -⟩ := hstays rfl rfl
  obtain ⟨u, hu, hstep⟩ := lossOfSignal_oneLaneRejoining
  have htu : t = u := Host.Outcome.next.inj (ht.symm.trans hu)
  have hcontra : PortState.active = .step := (htu ▸ hactive : u.h0.state = .active).symm.trans hstep
  cases hcontra

end Sys2Proof.Machine
end

section
/-! Every command ends with the end of an evaluation, so every step from a safe state leads to one (R34, R35, R36, R78, R79). -/

namespace Sys2Proof.Machine

/-- Every command answers with the end of an evaluation. -/
theorem exec_settles (c : Instr) (s : State) : ∃ u, exec c s = .next (settle u) := by
  cases c <;> exact ⟨_, rfl⟩

theorem exec_safe (c : Instr) (s : State) : ∃ t, exec c s = .next t ∧ Safe t := by
  obtain ⟨u, hu⟩ := exec_settles c s
  exact ⟨settle u, hu, settle_safe u⟩

theorem step_nil {s : State} (h : s.pending = []) : step s = .next s := by simp [step, h]

theorem step_cons {s : State} {c : Instr} {l : List Instr} (h : s.pending = c :: l) : step s = exec c { s with pending := l } := by
  simp [step, h]

theorem step_keeps_safe {s s' : State} (hs : Safe s) (h : step s = .next s') : Safe s' := by
  cases hp : s.pending with
  | nil =>
    rw [step_nil hp] at h
    exact Host.Outcome.next.inj h ▸ hs
  | cons c l =>
    obtain ⟨t, ht, hsafe⟩ := exec_safe c { s with pending := l }
    rw [step_cons hp, ht] at h
    exact Host.Outcome.next.inj h ▸ hsafe

/-- The causes of a tile that measurements and settings give (Table 03.3). -/
theorem tileCause_of_off {s : State} {x : Tile} (h : x.shutdown = true ∨ x.ocTrip = true ∨ x.swFail = true ∨ x.on = false) :
    tileCause s x = true := by
  rcases h with h | h | h | h <;> simp [tileCause, h]

/-- In S2 to S5 the light of a safe state is gone (Table 01.7, R78). -/
theorem Safe.deep_dark {s : State} (h : Safe s) (hd : deep s.pwr.pstate = true) :
    s.bstay.beam = .dark ∧ ∀ x ∈ s.arr.tiles, x.swClosed = false := by
  obtain ⟨⟨hdark, -⟩, -, -, ⟨htiles, -, -⟩, -, -⟩ := h
  exact ⟨hdark hd, fun x hx => (htiles x hx (.inl (hdark hd))).1⟩

/-- Settles O58: every command ends in `settle`, whose result is safe by `settle_safe`. -/
theorem everyStepKeepsTheSafeState : Obligations.EveryStepKeepsTheSafeState := by
  refine ⟨fun s s' => step_keeps_safe, exec_safe, fun s hs => ⟨hs.deep_dark, ?_⟩⟩
  obtain ⟨⟨-, hlost⟩, -, -, ⟨htiles, hlive, -⟩, hpins, -⟩ := hs
  refine ⟨hlost, fun x hx hc => (htiles x hx (.inr (tileCause_of_off hc))).1, fun p hp => ?_, ?_⟩
  · have hd := hlive p hp
    rw [darkTile, Bool.or_eq_false_iff] at hd
    exact hd.2
  · rw [hpins]; rfl

end Sys2Proof.Machine
end

section
/-! The light and the fault sources through the end of an evaluation: the beam does not come back, no switch closes, no tile is
turned on, and a source that is set stays set, but for those of an H1 that is forced OFF (R34, R35, R36, R166, R186, R334). -/

namespace Sys2Proof.Machine

/-! ### The order of the light -/

/-- The beam states in the order in which only a request of the light leads back (R251). -/
def beamRank : Beam → Nat
  | .normal => 0
  | .trysail => 1
  | .dark => 2

/-- `t` gives no more light than `s`: its beam is as far from NORMAL or further, and a switch that is closed or a tile that is
on was so in `s`. -/
structure NoMoreLight (s t : State) : Prop where
  beam : beamRank s.bstay.beam ≤ beamRank t.bstay.beam
  closed : ∀ k, (t.tile k).swClosed = true → (s.tile k).swClosed = true
  on : ∀ k, (t.tile k).on = true → (s.tile k).on = true

namespace NoMoreLight

theorem of_eq {s t : State} (hb : t.bstay.beam = s.bstay.beam) (ht : t.arr.tiles = s.arr.tiles) : NoMoreLight s t := by
  have hk (k : Nat) : t.tile k = s.tile k := by rw [State.tile, ht]; rfl
  exact ⟨by rw [hb], fun k h => hk k ▸ h, fun k h => hk k ▸ h⟩

theorem trans {s t u : State} (h : NoMoreLight s t) (h' : NoMoreLight t u) : NoMoreLight s u where
  beam := h.beam.trans h'.beam
  closed k hk := h.closed k (h'.closed k hk)
  on k hk := h.on k (h'.on k hk)

theorem dark {s t : State} (h : NoMoreLight s t) (hs : s.bstay.beam = .dark) : t.bstay.beam = .dark := by
  have hb := h.beam
  rw [hs] at hb
  cases ht : t.bstay.beam <;> simp [beamRank, ht] at hb ⊢

theorem not_normal {s t : State} (h : NoMoreLight s t) (hs : s.bstay.beam ≠ .normal) : t.bstay.beam ≠ .normal := by
  intro ht
  have hb := h.beam
  rw [ht] at hb
  cases hn : s.bstay.beam <;> simp [beamRank, hn] at hb hs

end NoMoreLight

theorem getD_modAt {α : Type} (d : α) (l : List α) (n : Nat) (f : α → α) (k : Nat) :
    (modAt l n f).getD k d = l.getD k d ∨ (modAt l n f).getD k d = f (l.getD k d) := by
  induction l generalizing n k with
  | nil => exact Or.inl rfl
  | cons a l ih => cases n with
    | zero => cases k with
      | zero => exact Or.inr rfl
      | succ k => exact Or.inl rfl
    | succ n => cases k with
      | zero => exact Or.inl rfl
      | succ k => exact ih n k

/-! ### Sources that stay set -/

/-- What makes H1 OFF and whether it was OFF before (R34): mode, role of H0, configured role of H1. -/
def portRoles (s : State) : ModeSt × PRole × PRole := (s.mode, s.h0.role, s.h1.cfgRole)

/-- From `s` to `t` reports and arbitration only: no more light, no fault source is cleared, and the ports keep mode and
roles. -/
structure NoBetter (s t : State) : Prop extends NoMoreLight s t where
  sources : ∀ b, (s.win b).status &&& ~~~ (t.win b).status = 0
  roles : portRoles t = portRoles s

/-- What `NoBetter` speaks of. -/
def watched (s : State) : List FltWin × Beam × List Tile × ModeSt × PRole × PRole :=
  (s.flt, s.bstay.beam, s.arr.tiles, portRoles s)

theorem andNot_trans {a b c : Word} (h : a &&& ~~~ b = 0) (h' : b &&& ~~~ c = 0) : a &&& ~~~ c = 0 := by
  calc a &&& ~~~ c = (a &&& ~~~ b) &&& ~~~ c ||| a &&& (b &&& ~~~ c) := by
        have hbool : ∀ x y z : Bool, (x && !z) = ((x && !y && !z) || (x && (y && !z))) := by decide
        ext i hi
        simpa using hbool _ _ _
    _ = 0 := by rw [h, h']; simp

theorem andNot_or (a b : Word) : a &&& ~~~ (a ||| b) = 0 := by
  simp [BitVec.not_or, ← BitVec.and_assoc]

namespace NoBetter

theorem of_watched {s t : State} (h : watched t = watched s) : NoBetter s t := by
  simp only [watched, Prod.mk.injEq] at h
  obtain ⟨hf, hb, ht, hr⟩ := h
  exact ⟨.of_eq hb ht, fun b => by rw [State.win, State.win, hf, BitVec.and_not_self], hr⟩

theorem refl (s : State) : NoBetter s s := of_watched rfl

theorem trans {s t u : State} (h : NoBetter s t) (h' : NoBetter t u) : NoBetter s u :=
  ⟨h.toNoMoreLight.trans h'.toNoMoreLight, fun b => andNot_trans (h.sources b) (h'.sources b), h'.roles.trans h.roles⟩

theorem foldl {α : Type} (f : State → α → State) (h : ∀ s a, NoBetter s (f s a)) (l : List α) (s : State) :
    NoBetter s (l.foldl f s) := by
  induction l generalizing s with
  | nil => exact refl s
  | cons a l ih => exact (h s a).trans (ih _)

end NoBetter

theorem noBetter_modWin (b : Nat) (f : FltWin → FltWin) (s : State) (h : ∀ w, w.status &&& ~~~ (f w).status = 0) :
    NoBetter s (s.modWin b f) := by
  refine ⟨.of_eq rfl rfl, fun k => ?_, rfl⟩
  have hk : (s.modWin b f).win k = s.win k ∨ (s.modWin b f).win k = f (s.win k) :=
    getD_modAt ({} : FltWin) s.flt b f k
  rcases hk with e | e <;> rw [e]
  · exact BitVec.and_not_self _
  · exact h _

/-- A change of the tiles is no better where each tile stays as it was or loses light. -/
theorem noBetter_tiles (s : State) (l : List Tile) (f : Tile → Tile)
    (hl : ∀ k, l.getD k {} = s.tile k ∨ l.getD k {} = f (s.tile k))
    (hf : ∀ x, ((f x).swClosed = true → x.swClosed = true) ∧ ((f x).on = true → x.on = true)) :
    NoBetter s { s with arr := { s.arr with tiles := l } } := by
  refine ⟨⟨le_rfl, fun k hk => ?_, fun k hk => ?_⟩, fun _ => BitVec.and_not_self _, rfl⟩ <;> rcases hl k with h | h
  · exact h ▸ hk
  · exact (hf _).1 (h ▸ hk)
  · exact h ▸ hk
  · exact (hf _).2 (h ▸ hk)

theorem noBetter_modTile (t : Nat) (f : Tile → Tile) (s : State)
    (hf : ∀ x, ((f x).swClosed = true → x.swClosed = true) ∧ ((f x).on = true → x.on = true)) :
    NoBetter s (s.modTile t f) :=
  noBetter_tiles s _ f (getD_modAt {} s.arr.tiles t f) hf

/-! ### Events and requests -/

theorem watched_hitIf (c : Bool) (b o n : Nat) (s : State) : watched (s.hitIf c b o n) = watched s := by
  unfold State.hitIf; split <;> rfl

theorem watched_pushEvent (e : Event) (s : State) : watched (pushEvent e s) = watched s := by
  unfold pushEvent
  split
  · exact watched_hitIf _ _ _ _ _
  · rfl

theorem noBetter_pushEvent (e : Event) (s : State) : NoBetter s (pushEvent e s) := .of_watched (watched_pushEvent e s)

theorem noBetter_reqTrysail (c : Nat) (s : State) : NoBetter s (reqTrysail c s) := by
  refine ⟨⟨?_, fun _ => id, fun _ => id⟩, fun _ => BitVec.and_not_self _, rfl⟩
  cases h : s.bstay.beam <;> simp [reqTrysail, h, beamRank]

theorem noBetter_reqDark (s : State) : NoBetter s (reqDark s) := by
  refine ⟨⟨?_, fun _ => id, fun _ => id⟩, fun _ => BitVec.and_not_self _, rfl⟩
  cases h : s.bstay.beam <;> simp [reqDark, beamRank]

/-! ### The setting of a fault source -/

theorem noBetter_takeTileOff (b n t : Nat) (s : State) : NoBetter s (takeTileOff b n t s) :=
  noBetter_modTile t _ s (fun _ => ⟨id, id⟩)

theorem noBetter_onceReact (b : Nat) (r : BitVec 8) (s : State) : NoBetter s (onceReact b r s) := by
  unfold onceReact
  extract_lets s0 s1 s2 s3 s4 s5 a6 s6
  have e0 : NoBetter s s0 := .of_watched rfl
  have e1 : NoBetter s0 s1 := by
    simp only [s1]; split
    · exact noBetter_reqTrysail 3 s0
    · exact .refl s0
  have e2 : NoBetter s1 s2 := by
    simp only [s2]; split
    · exact noBetter_reqDark s1
    · exact .refl s1
  have e3 : NoBetter s2 s3 := by
    simp only [s3]; split
    · exact noBetter_modWin _ _ s2 (fun w => BitVec.and_not_self _)
    · exact .refl s2
  have e4 : NoBetter s3 s4 := .of_watched (by simp only [s4]; split <;> rfl)
  have e5 : NoBetter s4 s5 := .of_watched (by simp only [s5]; split <;> rfl)
  have e6 : NoBetter s5 s6 := by
    simp only [s6]; split
    · exact noBetter_tiles s5 _ (fun t => { t with on := false }) (getD_map_tile _ _) (fun _ => ⟨id, fun h => by cases h⟩)
    · exact .refl s5
  have e : NoBetter s s6 := e0.trans (e1.trans (e2.trans (e3.trans (e4.trans (e5.trans e6)))))
  split
  · exact e.trans (.of_watched rfl)
  · exact e

theorem noBetter_legacyMark (b n i : Nat) (r : Bool) (s : State) : NoBetter s (legacyMark b n i r s) :=
  .of_watched (by unfold legacyMark; split <;> rfl)

theorem noBetter_raiseFault (b n i : Nat) (x y : Bool) (s : State) : NoBetter s (raiseFault b n i x y s) := by
  unfold raiseFault
  extract_lets stays w rising again sev h r count off timed logged applied f bitn s1 l2 s2 s3 s4
  have e1 : NoBetter s s1 := noBetter_modWin _ _ _ (fun w => andNot_or _ _)
  have e2 : NoBetter s1 s2 := .of_watched rfl
  have e3 : NoBetter s2 s3 := by
    simp only [s3]; split
    · exact noBetter_takeTileOff _ _ _ _
    · exact .refl s2
  have e : NoBetter s s4 := e1.trans (e2.trans (e3.trans (noBetter_legacyMark _ _ _ _ _)))
  split
  · exact e.trans (noBetter_onceReact _ _ _)
  · exact e

/-! ### Arbitration -/

theorem noBetter_modEng (e : Eng) (f : Engine → Engine) (s : State) : NoBetter s (s.modEng e f) :=
  .of_watched (by cases e <;> rfl)

theorem noBetter_cancelSwitch (s : State) : NoBetter s (cancelSwitch s) := by
  unfold cancelSwitch
  exact (NoBetter.foldl _ (fun _ _ => noBetter_pushEvent _ _) _ s).trans (.of_watched rfl)

theorem noBetter_wbAbort (s : State) : NoBetter s (wbAbort s) :=
  .of_watched (by unfold wbAbort; extract_lets; split <;> rfl)

theorem noBetter_startStep1 (e : Eng) (s : State) : NoBetter s (startStep1 e s) := by
  unfold startStep1
  split
  · exact (noBetter_modEng e _ s).trans (noBetter_modWin _ _ _ (fun w => BitVec.and_not_self _))
  · exact noBetter_modEng e _ s

theorem noBetter_markChange (c : Nat) (s : State) : NoBetter s (markChange c s) := .of_watched rfl

theorem noBetter_bothLost (c : Nat) (x y : Bool) (s : State) : NoBetter s (bothLost c x y s) := by
  unfold bothLost
  extract_lets lf drop s1 b2 a2 s2 s3
  have hd (e : Eng) (n : Nat) (s : State) : NoBetter s (drop e n s) := by
    have hf : NoBetter s (if (s.eng e).health.role = .active ∨ (s.eng e).health.role = .standby then failEng e n s else s) := by
      split
      · exact noBetter_modEng e _ s
      · exact .refl s
    simp only [drop]
    generalize (if (s.eng e).health.role = .active ∨ (s.eng e).health.role = .standby then failEng e n s else s) = u at hf
    split
    · exact hf.trans (noBetter_startStep1 e u)
    · exact hf
  have e1 : NoBetter s s1 := (noBetter_wbAbort s).trans <| (noBetter_cancelSwitch _).trans <| (hd _ _ _).trans <|
    (hd _ _ _).trans (noBetter_markChange _ _)
  clear_value s1
  have e2 : NoBetter s1 s2 := .of_watched rfl
  have e3 : NoBetter s s3 := e1.trans (e2.trans (noBetter_raiseFault _ _ _ _ _ _))
  exact e3.trans ((noBetter_pushEvent _ _).trans (noBetter_reqTrysail _ _))

theorem noBetter_switchOver (e : Eng) (c : Nat) (s : State) : NoBetter s (switchOver e c s) := by
  unfold switchOver
  extract_lets s0 s1
  have e1 : NoBetter s s1 := (noBetter_wbAbort s).trans <| (noBetter_cancelSwitch _).trans <| (noBetter_modEng _ _ _).trans <|
    (noBetter_modEng _ _ _).trans (noBetter_markChange _ _)
  exact e1.trans (.of_watched rfl)

theorem noBetter_standbyFails (e : Eng) (c : Nat) (s : State) : NoBetter s (standbyFails e c s) := by
  unfold standbyFails
  extract_lets s1
  have e1 : NoBetter s s1 := (noBetter_cancelSwitch s).trans <| (noBetter_modEng _ _ _).trans <| (noBetter_startStep1 _ _).trans
    (noBetter_markChange _ _)
  exact e1.trans (.of_watched rfl)

theorem noBetter_arbApply (a : Eng) (x y : Bool) (c : Nat) (p q : Bool) (s : State) :
    NoBetter s (arbApply a x y c p q s) := by
  unfold arbApply
  split
  · split
    · exact noBetter_bothLost c p q s
    · split
      · exact noBetter_switchOver a c s
      · split
        · exact noBetter_standbyFails (other a) c s
        · exact .refl s
  · split
    · exact noBetter_bothLost c p q s
    · exact .refl s

theorem noBetter_arbitrate (x y : Bool) (s : State) : NoBetter s (arbitrate x y s) := by
  unfold arbitrate
  extract_lets hb
  split
  · exact .refl s
  · split
    · exact .refl s
    · extract_lets fa fo cause
      split
      · exact .refl s
      · split
        · exact (noBetter_cancelSwitch s).trans (.of_watched rfl)
        · exact noBetter_arbApply _ _ _ _ _ _ s

/-! ### Records and reports -/

theorem noBetter_pushLog (r : LogRec) (s : State) : NoBetter s (pushLog r s) :=
  .of_watched (by unfold pushLog; split <;> rfl)

theorem noBetter_takeFirst (l : List Fresh) (s : State) : NoBetter s (takeFirst l s) := by
  refine NoBetter.foldl _ (fun s f => ?_) l s
  split <;> refine noBetter_modWin _ _ _ (fun w => ?_) <;> split <;> exact BitVec.and_not_self _

theorem noBetter_flushFresh (s : State) : NoBetter s (flushFresh s) := by
  unfold flushFresh
  split
  · exact .refl s
  · extract_lets l g s1
    have e0 : NoBetter s { s with log := { s.log with fresh := [] } } := .of_watched rfl
    have e1 : NoBetter s s1 := e0.trans (noBetter_takeFirst l _)
    refine e1.trans (NoBetter.foldl _ (fun s f => ?_) l s1)
    extract_lets u
    have eu : NoBetter s u := by
      simp only [u]; split
      · exact noBetter_pushLog _ s
      · exact .refl s
    split
    · exact eu.trans (noBetter_pushEvent _ u)
    · exact eu

theorem noBetter_raiseTimes (b n k : Nat) (s : State) : NoBetter s (raiseTimes b n k s) := by
  induction k generalizing s with
  | zero => exact .refl s
  | succ k ih => exact (noBetter_raiseFault _ _ _ _ _ s).trans (ih _)

theorem noBetter_raiseLost (s : State) : NoBetter s (raiseLost s) := by
  have hl (u : State) : NoBetter u { u with cmd := { u.cmd with lostNow := 0 } } := .of_watched rfl
  have hd (u : State) : NoBetter u { u with log := { u.log with dropNow := 0 } } := .of_watched rfl
  exact (hl s).trans <| (noBetter_raiseTimes _ _ _ _).trans <| (hd _).trans (noBetter_raiseTimes _ _ _ _)

theorem noBetter_reportLost (k : Nat) (s : State) : NoBetter s (reportLost k s) := by
  induction k generalizing s with
  | zero => exact .refl s
  | succ k ih => exact (noBetter_raiseLost s).trans ((noBetter_flushFresh _).trans (ih _))

theorem noBetter_reportBeam (s : State) : NoBetter s (reportBeam s) := by
  unfold reportBeam
  split
  · exact .refl s
  · exact NoBetter.trans (noBetter_pushEvent _ s) (.of_watched rfl)

theorem noBetter_clearNow (s : State) : NoBetter s (clearNow s) := .of_watched rfl

/-- Arbitration, records and notices, up to the forcing rules. -/
theorem noBetter_reported (s : State) : NoBetter s (clearNow (reportLost 5 (flushFresh (arbitrate false false s)))) :=
  (noBetter_arbitrate _ _ s).trans <| (noBetter_flushFresh _).trans <| (noBetter_reportLost _ _).trans (noBetter_clearNow _)

/-! ### The forcing rules and the dark tiles -/

theorem noMoreLight_force (s : State) : NoMoreLight s (force s) := by
  refine ⟨?_, fun _ => id, fun _ => id⟩
  rw [force_beam]
  unfold forcedBeam
  split
  · cases s.bstay.beam <;> decide
  · split
    · rename_i h; rw [h.2]; decide
    · exact le_rfl

theorem tile_blank (s : State) (k : Nat) :
    (blank s).tile k = s.tile k ∨ (blank s).tile k = { s.tile k with swClosed := false, headValid := false } := by
  rcases getD_map_tile s.arr.tiles (fun t => if s.bstay.beam == .dark || tileCause s t then
    { t with swClosed := false, headValid := false } else t) k with h | h
  · exact .inl h
  · have h' : (blank s).tile k = _ := h
    rw [h']
    split
    · exact .inr rfl
    · exact .inl rfl

theorem noMoreLight_blank (s : State) : NoMoreLight s (blank s) := by
  refine ⟨le_rfl, fun k hk => ?_, fun k hk => ?_⟩ <;> rcases tile_blank s k with h | h <;> rw [h] at hk
  · exact hk
  · cases hk
  · exact hk
  · exact hk

/-- The forcing rules do not reset window `b`: it is not the port H1's, or H1 is not forced OFF or is OFF already. -/
def windowKept (b : Nat) (s : State) : Prop := b ≠ 2 ∨ h1Off s = false ∨ s.h1.cfgRole = .off

theorem windowKept_of_roles {b : Nat} {s t : State} (h : portRoles t = portRoles s) (hk : windowKept b s) : windowKept b t := by
  simp only [portRoles, Prod.mk.injEq] at h
  obtain ⟨hm, hr, hc⟩ := h
  unfold windowKept h1Off State.compat at *
  rwa [hm, hr, hc]

theorem h1Off_force (s : State) : h1Off (force s) = h1Off s := by
  have e : h1Off (force s) = (s.compat || (if s.compat then PRole.headEnd else s.h0.role) == .follower) := rfl
  rw [e, h1Off]
  cases s.compat <;> rfl

theorem windowKept_force {b : Nat} {s : State} (h : windowKept b s) : windowKept b (force s) := by
  have hc : (force s).h1.cfgRole = if h1Off s then .off else s.h1.cfgRole := rfl
  unfold windowKept
  rw [h1Off_force, hc]
  refine h.imp id (Or.imp id (fun h => ?_))
  rw [h, ite_self]

theorem status_force {b : Nat} {s : State} (h : windowKept b s) : ((force s).win b).status = (s.win b).status := by
  have hw : (force s).win b = (forcedWindows s).getD b {} := rfl
  rw [hw]
  unfold forcedWindows
  extract_lets l
  have hl : (l.getD b {}).status = (s.win b).status := by
    simp only [l, State.win]
    split
    · by_cases hb : b < s.flt.length <;> simp [List.getD_eq_getElem?_getD, hb]
    · rfl
  split
  · rename_i hc
    simp only [Bool.and_eq_true, bne_iff_ne, ne_eq] at hc
    have hb : b ≠ 2 := h.elim id (fun h => h.elim (fun h => by simp [h] at hc) (fun h => absurd h hc.2))
    rw [List.getD_eq_getElem?_getD, getElem?_modAt_ne _ _ _ _ (Ne.symm hb), ← List.getD_eq_getElem?_getD, hl]
  · exact hl

/-! ### The whole end of an evaluation -/

theorem noMoreLight_settle (s : State) : NoMoreLight s (settle s) := by
  rw [settle_eq]
  exact (noBetter_reported s).toNoMoreLight.trans <| (noMoreLight_force _).trans <|
    (noBetter_reportBeam _).toNoMoreLight.trans <| (noMoreLight_force _).trans <| (noMoreLight_blank _).trans (.of_eq rfl rfl)

/-- The end of an evaluation clears no source of a window that the forcing rules do not reset. -/
theorem sources_settle {b : Nat} {s : State} (h : windowKept b s) : (s.win b).status &&& ~~~ ((settle s).win b).status = 0 := by
  have h1 := noBetter_reported s
  rw [settle_eq]
  generalize clearNow (reportLost 5 (flushFresh (arbitrate false false s))) = u at h1 ⊢
  have hu : windowKept b u := windowKept_of_roles h1.roles h
  have h2 := noBetter_reportBeam (force u)
  generalize reportBeam (force u) = w at h2 ⊢
  have hw : windowKept b w := windowKept_of_roles h2.roles (windowKept_force hu)
  have h3 : (s.win b).status &&& ~~~ (w.win b).status = 0 := andNot_trans (h1.sources b) (status_force hu ▸ h2.sources b)
  have e : (driven (blank (force w))).win b = (force w).win b := rfl
  rw [e, status_force hw]
  exact h3

/-! ### What the end of an evaluation leaves alone -/

/-- The store but for the state of its buffers (R166). -/
theorem store_of_untouched {s t : State} (h : untouched t = untouched s) : { t.store with bufs := s.store.bufs } = s.store :=
  keeps_of_untouched (fun u => { u.store with bufs := s.store.bufs }) (fun _ => rfl) h

theorem bufs_of_untouched {s t : State} (h : untouched t = untouched s) :
    t.store.bufs.map bareBuffer = s.store.bufs.map bareBuffer := congrArg (fun u => u.store.bufs) h

/-- The cores' block but for the interrupts that wait (R334). -/
theorem rigger_of_untouched {s t : State} (h : untouched t = untouched s) :
    { t.rigger with irqs := s.rigger.irqs, nmis := s.rigger.nmis } = s.rigger :=
  keeps_of_untouched (fun u => { u.rigger with irqs := s.rigger.irqs, nmis := s.rigger.nmis }) (fun _ => rfl) h

@[simp] theorem settle_diag (s : State) : (settle s).diag = s.diag := settle_keeps (fun u => u.diag) (fun _ => rfl) s
@[simp] theorem settle_therm (s : State) : (settle s).therm = s.therm := settle_keeps (fun u => u.therm) (fun _ => rfl) s
@[simp] theorem settle_clk (s : State) : (settle s).clk = s.clk := settle_keeps (fun u => u.clk) (fun _ => rfl) s
@[simp] theorem settle_xmem (s : State) : (settle s).xmem = s.xmem := settle_keeps (fun u => u.xmem) (fun _ => rfl) s
@[simp] theorem settle_crcu (s : State) : (settle s).crcu = s.crcu := settle_keeps (fun u => u.crcu) (fun _ => rfl) s
@[simp] theorem settle_tap (s : State) : (settle s).tap = s.tap := settle_keeps (fun u => u.tap) (fun _ => rfl) s
@[simp] theorem settle_ticks (s : State) : (settle s).ticks = s.ticks := settle_keeps (fun u => u.ticks) (fun _ => rfl) s
@[simp] theorem settle_freeCtr (s : State) : (settle s).freeCtr = s.freeCtr :=
  settle_keeps (fun u => u.freeCtr) (fun _ => rfl) s
@[simp] theorem settle_lastStatus (s : State) : (settle s).lastStatus = s.lastStatus :=
  settle_keeps (fun u => u.lastStatus) (fun _ => rfl) s
@[simp] theorem settle_lastRead (s : State) : (settle s).lastRead = s.lastRead :=
  settle_keeps (fun u => u.lastRead) (fun _ => rfl) s
@[simp] theorem settle_h0Replies (s : State) : (settle s).h0.replies = s.h0.replies :=
  settle_keeps (fun u => u.h0.replies) (fun _ => rfl) s
@[simp] theorem settle_h1Replies (s : State) : (settle s).h1.replies = s.h1.replies :=
  settle_keeps (fun u => u.h1.replies) (fun _ => rfl) s
@[simp] theorem settle_spiReplies (s : State) : (settle s).spi.replies = s.spi.replies :=
  settle_keeps (fun u => u.spi.replies) (fun _ => rfl) s
@[simp] theorem settle_slow (s : State) : (settle s).cmd.slow = s.cmd.slow :=
  settle_keeps (fun u => u.cmd.slow) (fun _ => rfl) s
@[simp] theorem settle_frameCnt (s : State) : (settle s).scan.frameCnt = s.scan.frameCnt :=
  settle_keeps (fun u => u.scan.frameCnt) (fun _ => rfl) s

/-- Settles O59: what `untouched` keeps stays, the light by `noMoreLight_settle`, the sources by `sources_settle`. -/
theorem evaluationEndKeepsTheRest : Obligations.EvaluationEndKeepsTheRest := by
  intro s
  have hu : untouched (settle s) = untouched s := untouched_settle s
  have hl : NoMoreLight s (settle s) := noMoreLight_settle s
  exact ⟨⟨settle_mode s, store_of_untouched hu, bufs_of_untouched hu, settle_diag s, settle_time s, rigger_of_untouched hu,
      settle_therm s, settle_clk s, settle_xmem s, settle_keep s, settle_crcu s, settle_tap s, settle_ticks s, settle_freeCtr s,
      settle_lastStatus s, settle_lastRead s, settle_pending s⟩,
    ⟨settle_h0Replies s, settle_h1Replies s, settle_spiReplies s, settle_slow s, settle_sessOpen s, settle_pstate s,
      settle_frameCnt s⟩,
    fun _ hb => sources_settle hb, hl.dark, hl.not_normal, hl.closed, hl.on⟩

end Sys2Proof.Machine
end

section
/-! SAFE_N, the Trysail writer and the registers of Backstay's configuration (R37, R244, R245, R248 to R251, R257). -/

namespace Sys2Proof.Machine

/-! ### SAFE_N (R37, R249) -/

/-- A request of Trysail leaves no beam NORMAL, and the end of the evaluation keeps that (R249). -/
theorem beam_settle_reqTrysail (c : Nat) (s : State) : (settle (reqTrysail c s)).bstay.beam ≠ .normal := by
  refine (noMoreLight_settle _).not_normal ?_
  cases h : s.bstay.beam <;> simp [reqTrysail, h]

/-- The end of an evaluation and the setting of a source leave SAFE_N's latch and level (R37). -/
theorem safeN_of_untouched {s t : State} (h : untouched t = untouched s) :
    t.bstay.safeNLatch = s.bstay.safeNLatch ∧ t.bstay.safeNLevel = s.bstay.safeNLevel :=
  ⟨keeps_of_untouched (fun u => u.bstay.safeNLatch) (fun _ => rfl) h,
    keeps_of_untouched (fun u => u.bstay.safeNLevel) (fun _ => rfl) h⟩

/-- SAFE_N is low and latched. -/
def safeNLowered (s : State) : State := { s with bstay := { s.bstay with safeNLevel := false, safeNLatch := true } }

theorem exec_safeNLow_vault {s : State} (h : vault s.pwr.pstate = true) :
    exec .safeNLow s = .next (settle (reqTrysail 1 (safeNLowered s))) := by
  show done _ = _
  simp only [h, if_true]
  rfl

theorem exec_safeNLow_on {s : State} (h : vault s.pwr.pstate = false) :
    exec .safeNLow s = .next (settle (reqTrysail 1 (raiseFault 10 10 0 true false (safeNLowered s)))) := by
  show done _ = _
  simp only [h]
  rfl

theorem safeNLow_latches (s : State) :
    ∃ t, exec .safeNLow s = .next t ∧ t.bstay.beam ≠ .normal ∧ t.bstay.safeNLatch = true ∧ t.bstay.safeNLevel = false := by
  obtain ⟨u, hx, hu⟩ : ∃ u, exec .safeNLow s = .next (settle (reqTrysail 1 u)) ∧ untouched u = untouched (safeNLowered s) := by
    cases h : vault s.pwr.pstate with
    | true => exact ⟨_, exec_safeNLow_vault h, rfl⟩
    | false => exact ⟨_, exec_safeNLow_on h, untouched_raiseFault _ _ _ _ _ _⟩
  obtain ⟨hlatch, hlevel⟩ := safeN_of_untouched ((untouched_settle _).trans ((untouched_reqTrysail 1 u).trans hu))
  exact ⟨_, hx, beam_settle_reqTrysail 1 u, hlatch, hlevel⟩

/-! ### The Trysail writer (R245, R248, R250) -/

theorem exec_trysailTakeover {s : State} (hb : s.bstay.beam = .trysail) (ho : s.bstay.tryOwns = false)
    (hp : s.pwr.pstate = .s0 ∨ s.pwr.pstate = .s1) :
    exec .trysailTakeover s = .next (settle { s with bstay := { s.bstay with
      tryOwns := true, tryDirty := allSegs, trySegSig := [], tryClampSegs := [] } }) := by
  have hc : (s.bstay.beam == .trysail && !s.bstay.tryOwns && (s.pwr.pstate == .s0 || s.pwr.pstate == .s1)) = true := by
    simp [hb, ho, hp]
  have e : exec .trysailTakeover s = execTrysailTakeover s := rfl
  rw [e, execTrysailTakeover, if_pos hc]
  rfl

theorem readTry_good {s : State} (h : fails 10 8 false s = false) : readTry false s = s := by
  simp [readTry, h, check_quiet _ _ _ _ _ h]

theorem check_real {b n i : Nat} {s : State} (h : fails b n false s = false) :
    check b n i true s = raiseFault b n i true false s := by
  simp only [fails, Bool.or_eq_false_iff] at h
  simp [check, h]

theorem tryBuf_raiseFault (b n i : Nat) (x y : Bool) (s : State) : (raiseFault b n i x y s).bstay.tryBuf = s.bstay.tryBuf :=
  keeps_of_untouched (fun u => u.bstay.tryBuf) (fun _ => rfl) (untouched_raiseFault b n i x y s)

theorem readTry_bad {s : State} (h : fails 10 8 false s = false) :
    readTry true s = if s.bstay.tryBuf.isSome then computeTry (useRom (raiseFault 10 8 0 true false s)).1
      else raiseFault 10 8 0 true false s := by
  simp [readTry, check_real h, tryBuf_raiseFault, fails]

theorem exec_trysailScrub {n : Nat} {s : State} (h : blockOff 10 s = false) :
    exec (.trysailScrub n) s = .next (settle (readTry (decide (2 ≤ n)) s)) := by
  have e : exec (.trysailScrub n) s = execTrysailScrub n s := rfl
  rw [e, execTrysailScrub, h]
  rfl

/-! ### The end of a load (R245 to R248) -/

theorem restoring_of_untouched {s t : State} (h : untouched t = untouched s) : t.pwr.restoring = s.pwr.restoring :=
  keeps_of_untouched (fun u => u.pwr.restoring) (fun _ => rfl) h

theorem romImage_pwr (s : State) : (romImage s).1.pwr = s.pwr := by
  unfold romImage
  extract_lets s1 i
  have h1 : s1.pwr = s.pwr := State.modBstay_pwr s _
  clear_value s1 i
  split
  · exact (State.modBstay_pwr s1 _).trans h1
  · exact h1

theorem useRom_pwr (s : State) : (useRom s).1.pwr = s.pwr := by
  have h := romImage_pwr s
  unfold useRom
  generalize romImage s = r at h ⊢
  exact (State.modBstay_pwr r.1 _).trans h

theorem restoring_computeTry (s : State) : (computeTry s).pwr.restoring = s.pwr.restoring := by
  unfold computeTry
  extract_lets lv0 img0
  split
  rename_i s1 tooMuch hm
  have h1 : s1.pwr.restoring = s.pwr.restoring := by
    rw [show s1 = _ from (congrArg Prod.fst hm).symm]
    split
    · split
      · exact congrArg Pwr.restoring (useRom_pwr s)
      · rfl
    · exact congrArg Pwr.restoring (useRom_pwr s)
  clear hm
  extract_lets s2
  have h2 : s2.pwr.restoring = s.pwr.restoring := h1
  split
  · exact (restoring_of_untouched (untouched_raiseFault _ _ _ _ _ s2)).trans h2
  · exact h2

/-- Outside the restoring of an exit, the end of a load ends no exit (R431). -/
theorem endRestore_computeTry {s : State} (h : s.pwr.restoring = false) : endRestore (computeTry s) = computeTry s := by
  simp [endRestore, restoring_computeTry, h]

theorem exec_trysailLoadDone {i : Nat} {good : Bool} {l : List (Bool × Nat)} {s : State} (hb : blockOff 12 s = false)
    (hx : s.xmem.busy = some (.trysail i)) :
    exec (.trysailLoadDone ⟨good, l⟩) s =
      .next (settle (refreshAll l (endRestore (endTryLoad i (!good) { s with xmem := { s.xmem with busy := none } })))) := by
  have e : exec (.trysailLoadDone ⟨good, l⟩) s = execTrysailLoadDone ⟨good, l⟩ s := rfl
  simp [e, execTrysailLoadDone, hb, hx, done, endWork, State.modXmem]

/-- The Trysail buffer holds image `i`, as its record gives it (R245). -/
def imageTaken (i : Nat) (img : TryImg) (s : State) : State :=
  s.modBstay (fun b => { b with tryBuf := some img, levels := img.levels, tryImg := i, tryLoading := false, tryChanged := true })

theorem endTryLoad_verified {i : Nat} {e : DirEntry} {r : DirEntry × Nat} {s : State} (hd : dirFind (recId (0x20 + i)) s = some e)
    (hv : e.verified = true) (hr : findRecord (recId (0x20 + i)) s = some r) :
    endTryLoad i false s =
      computeTry (imageTaken i (tryImage (recPayload r (setTryValid i true s))) (setTryValid i true s)) := by
  simp [endTryLoad, checkTry, readRecord, hd, hv, hr, imageTaken]

theorem endTryLoad_missing {i : Nat} {bad : Bool} {s : State} (hd : dirFind (recId (0x20 + i)) s = none) :
    endTryLoad i bad s =
      computeTry ((useRom (setTryValid i false s)).1.modBstay (fun b => { b with tryLoading := false })) := by
  simp [endTryLoad, checkTry, readRecord, hd]

/-! ### Registers (R244, R257) -/

theorem exec_bstayCfgWrite {src : RegSrc} {s : State} (hr : regReady 10 src s = true) {off : BitVec 16} (v : Word)
    (ho : off = 4 ∨ off = 8 ∨ off = 0x60) :
    exec (.bstayCfgWrite src off v) s = .next (settle { (bstayCfgWrite (srcSession src s) off.toNat v s).1 with
      lastStatus := (bstayCfgWrite (srcSession src s) off.toNat v s).2 }) := by
  have ha : off.toNat % 4 = 0 := by rcases ho with rfl | rfl | rfl <;> rfl
  have hn : off.toNat = 0x0004 ∨ off.toNat = 0x0008 ∨ off.toNat = 0x0060 := by rcases ho with rfl | rfl | rfl <;> decide
  show done _ = _
  rw [writeAt_ready 10 src off _ s hr ha]
  simp only [hn, if_true]
  rfl

theorem exec_verdictPost (v : Word) {s : State} (hr : regReady 10 .safety s = true) :
    exec (.verdictPost v) s = .next (settle { postVerdict v s with lastStatus := stOk }) := by
  show done _ = _
  rw [writeRow_ready 10 .safety _ s hr]
  rfl

/-- BSTAY_CFG, BSTAY_SLP and BSTAY_TRY_MAP in a safety session, and all three without one. -/
theorem bstayCfgWrite_row (src : RegSrc) (v : Word) (s : State) (hr : regReady 10 src s = true) :
    (srcSession src s = true →
      (bits v 0 4 ≠ 0 → bits v 8 5 ≠ 0 → exec (.bstayCfgWrite src 4 v) s =
        .next (settle { s with bstay := { s.bstay with cfg := v &&& 0xFFFF9F0F }, lastStatus := stOk })) ∧
      (bits v 0 4 = 0 ∨ bits v 8 5 = 0 → exec (.bstayCfgWrite src 4 v) s =
        .next (settle { s with lastStatus := stBadParam })) ∧
      exec (.bstayCfgWrite src 8 v) s =
        .next (settle { s with bstay := { s.bstay with slp := v.setWidth 21 }, lastStatus := stOk }) ∧
      (bits v 0 3 ≤ 4 → bits v 4 3 ≤ 4 → bits v 8 3 ≤ 4 → bits v 12 3 ≤ 4 → exec (.bstayCfgWrite src 0x60 v) s =
        .next (settle { s with bstay := { s.bstay with tryMap := (v &&& 0x7777).setWidth 15 }, lastStatus := stOk }))) ∧
    (srcSession src s = false → ∀ off : BitVec 16, off = 4 ∨ off = 8 ∨ off = 0x60 →
      exec (.bstayCfgWrite src off v) s = .next (settle { s with lastStatus := stDenied })) := by
  refine ⟨fun hs => ⟨fun h0 h8 => ?_, fun h => ?_, ?_, fun h0 h4 h8 h12 => ?_⟩, fun hs off ho => ?_⟩
  · rw [exec_bstayCfgWrite hr v (.inl rfl)]
    simp [bstayCfgWrite, hs, h0, h8, State.modBstay]
  · rw [exec_bstayCfgWrite hr v (.inl rfl)]
    simp [bstayCfgWrite, hs, h]
  · rw [exec_bstayCfgWrite hr v (.inr (.inl rfl))]
    simp [bstayCfgWrite, hs, State.modBstay]
  · rw [exec_bstayCfgWrite hr v (.inr (.inr rfl))]
    simp [bstayCfgWrite, hs, tryMapOk, h0, h4, h8, h12, State.modBstay]
  · rw [exec_bstayCfgWrite hr v ho]
    simp [bstayCfgWrite, hs]

/-- Settles O39, row by row. -/
theorem safeInputTrysailAndBackstay : Obligations.SafeInputTrysailAndBackstay := by
  refine ⟨⟨fun s => ?_, fun s => exec_trysailTakeover, fun n s h hf => ⟨fun hn => ?_, fun hn ht => ?_, fun hn ht => ?_⟩,
    fun i e r s hb hx hp => ?_, fun i good l s hb hx hd hp => ?_⟩, fun src v s => bstayCfgWrite_row src v s, fun v s hr => ?_⟩
  · exact ⟨safeNLow_latches s, exec_safeNLow_on, exec_safeNLow_vault, rfl⟩
  · rw [exec_trysailScrub h, decide_eq_false (by omega), readTry_good hf]
  · rw [exec_trysailScrub h, decide_eq_true hn, readTry_bad hf, ht]
    rfl
  · rw [exec_trysailScrub h, decide_eq_true hn, readTry_bad hf, if_pos (Option.isSome_iff_ne_none.mpr ht)]
  · intro s1 hd hv hr s2 img l
    rw [exec_trysailLoadDone hb hx, Bool.not_true, endTryLoad_verified hd hv hr, endRestore_computeTry (by exact hp)]
    rfl
  · intro s1
    have hd1 : dirFind (recId (0x20 + i)) { s with xmem := { s.xmem with busy := none } } = none := hd
    rw [exec_trysailLoadDone hb hx, endTryLoad_missing hd1,
      endRestore_computeTry (by rw [State.modBstay_pwr, useRom_pwr]; exact hp)]
  · rw [exec_verdictPost v hr]
    rfl

end Sys2Proof.Machine
end

section
/-! The store through the end of an evaluation: only a write-back frame that is lost changes it (R166, R193). -/

namespace Sys2Proof.Machine

theorem store_foldl {α : Type} (f : State → α → State) (h : ∀ s a, (f s a).store = s.store) (l : List α) (s : State) :
    (l.foldl f s).store = s.store := by
  induction l generalizing s with
  | nil => rfl
  | cons a l ih => rw [List.foldl_cons, ih, h]

@[simp] theorem hitIf_store (c : Bool) (b o n : Nat) (s : State) : (s.hitIf c b o n).store = s.store := by
  unfold State.hitIf; split <;> rfl

@[simp] theorem pushEvent_store (e : Event) (s : State) : (pushEvent e s).store = s.store := by
  unfold pushEvent
  split
  · exact hitIf_store _ _ _ _ _
  · rfl

@[simp] theorem queueEvent_store (c v : Nat) (ws : List Word) (s : State) : (queueEvent c v ws s).store = s.store :=
  pushEvent_store _ s

theorem onceReact_store (b : Nat) (r : BitVec 8) (s : State) : (onceReact b r s).store = s.store := by
  unfold onceReact
  extract_lets s0 s1 s2 s3 s4 s5 a6 s6
  have e1 : s1.store = s.store := by simp only [s1]; split <;> rfl
  have e2 : s2.store = s1.store := by simp only [s2]; split <;> rfl
  have e3 : s3.store = s2.store := by simp only [s3]; split <;> rfl
  have e4 : s4.store = s3.store := by simp only [s4]; split <;> rfl
  have e5 : s5.store = s4.store := by simp only [s5]; split <;> rfl
  have e6 : s6.store = s5.store := by simp only [s6]; split <;> rfl
  rw [← e1, ← e2, ← e3, ← e4, ← e5, ← e6]
  split <;> rfl

theorem legacyMark_store (b n i : Nat) (r : Bool) (s : State) : (legacyMark b n i r s).store = s.store := by
  unfold legacyMark; split <;> rfl

@[simp] theorem raiseFault_store (b n i : Nat) (x y : Bool) (s : State) : (raiseFault b n i x y s).store = s.store := by
  unfold raiseFault
  extract_lets stays w rising again sev h r count off timed logged applied f bitn s1 l2 s2 s3 s4
  have e3 : s3.store = s.store := by simp only [s3]; split <;> rfl
  have e4 : s4.store = s.store := (legacyMark_store _ _ _ _ _).trans e3
  split
  · rw [onceReact_store, e4]
  · exact e4

@[simp] theorem check_store (b n i : Nat) (c : Bool) (s : State) : (check b n i c s).store = s.store := by
  unfold check
  extract_lets w inj frc s1
  have e1 : s1.store = s.store := by simp only [s1]; split <;> rfl
  split
  · rw [raiseFault_store, e1]
  · exact e1

theorem cancelSwitch_store (s : State) : (cancelSwitch s).store = s.store :=
  store_foldl _ (fun s _ => pushEvent_store _ s) _ s

theorem startStep1_store (e : Eng) (s : State) : (startStep1 e s).store = s.store := by
  unfold startStep1; split <;> simp

theorem failEng_store (e : Eng) (n : Nat) (s : State) : (failEng e n s).store = s.store := State.modEng_store s e _

theorem setRole_store (e : Eng) (r : Role) (s : State) : (setRole e r s).store = s.store := State.modEng_store s e _

theorem markChange_store (c : Nat) (s : State) : (markChange c s).store = s.store := rfl

/-- No write-back frame is in progress in either engine (R166). -/
def NoWriteBack (s : State) : Prop := ∀ e, (s.eng e).comp.wbTarget = none

theorem wbAbort_idle {s : State} (h : NoWriteBack s) : wbAbort s = s := by
  simp [wbAbort, h (composer s)]

theorem bothLost_store {s : State} (h : NoWriteBack s) (c : Nat) (x y : Bool) : (bothLost c x y s).store = s.store := by
  unfold bothLost
  extract_lets lf drop s1 b2 a2 s2 s3
  have hd (e : Eng) (n : Nat) (u : State) : (drop e n u).store = u.store := by
    simp only [drop]
    split <;> split <;> simp only [startStep1_store, failEng_store]
  have e1 : s1.store = s.store := by
    simp only [s1, markChange_store, hd, cancelSwitch_store, wbAbort_idle h]
  clear_value s1
  have e3 : s3.store = s1.store := raiseFault_store _ _ _ _ _ s2
  exact (queueEvent_store _ _ _ s3).trans (e3.trans e1)

theorem switchOver_store {s : State} (h : NoWriteBack s) (e : Eng) (c : Nat) : (switchOver e c s).store = s.store := by
  unfold switchOver
  extract_lets s0 s1
  have e1 : s1.store = s.store := by
    simp only [s1, s0, markChange_store, setRole_store, failEng_store, wbAbort_idle h, cancelSwitch_store]
  exact e1

theorem standbyFails_store (e : Eng) (c : Nat) (s : State) : (standbyFails e c s).store = s.store := by
  simp only [standbyFails, markChange_store, startStep1_store, failEng_store, cancelSwitch_store]

theorem arbApply_store {s : State} (h : NoWriteBack s) (a : Eng) (x y : Bool) (c : Nat) (p q : Bool) :
    (arbApply a x y c p q s).store = s.store := by
  unfold arbApply
  repeat' split
  all_goals simp only [bothLost_store h, switchOver_store h, standbyFails_store]

theorem arbitrate_store {s : State} (h : NoWriteBack s) (x y : Bool) : (arbitrate x y s).store = s.store := by
  unfold arbitrate
  extract_lets hb
  split
  · rfl
  · split
    · rfl
    · extract_lets
      split
      · rfl
      · split
        · exact cancelSwitch_store s
        · exact arbApply_store h _ _ _ _ _ _

theorem pushLog_store (r : LogRec) (s : State) : (pushLog r s).store = s.store := by
  unfold pushLog; split <;> rfl

theorem flushFresh_store (s : State) : (flushFresh s).store = s.store := by
  unfold flushFresh
  split
  · rfl
  · extract_lets l g s1
    have e1 : s1.store = s.store := store_foldl _ (fun s f => by split <;> rfl) l _
    rw [store_foldl _ (fun s f => ?_) l s1, e1]
    simp only []
    split <;> split <;> simp only [queueEvent_store, pushLog_store]

theorem raiseTimes_store (b n k : Nat) (s : State) : (raiseTimes b n k s).store = s.store := by
  induction k generalizing s with
  | zero => rfl
  | succ k ih => rw [raiseTimes, ih, raiseFault_store]

theorem raiseLost_store (s : State) : (raiseLost s).store = s.store := by
  unfold raiseLost
  rw [raiseTimes_store]
  exact raiseTimes_store _ _ _ _

theorem reportLost_store (k : Nat) (s : State) : (reportLost k s).store = s.store := by
  induction k generalizing s with
  | zero => rfl
  | succ k ih => rw [reportLost, ih, flushFresh_store, raiseLost_store]

theorem reportBeam_store (s : State) : (reportBeam s).store = s.store := by
  unfold reportBeam
  split
  · rfl
  · exact queueEvent_store _ _ _ s

/-- Where no write-back frame is in progress, the end of an evaluation leaves the store alone (R166). -/
theorem settle_store {s : State} (h : NoWriteBack s) : (settle s).store = s.store := by
  have hf (u : State) : (force u).store = u.store := rfl
  have hb (u : State) : (driven (blank u)).store = u.store := rfl
  have hc (u : State) : (clearNow u).store = u.store := rfl
  rw [settle_eq, hb, hf, reportBeam_store, hf, hc, reportLost_store, flushFresh_store, arbitrate_store h]

end Sys2Proof.Machine
end

section
/-! Rows, the end of a frame and fence timeouts (R53, R101, R156, R162, R166, R180, R540). -/

namespace Sys2Proof.Machine

/-! ### The rows an engine has completed -/

/-- The rows of its frame that engine `e` has completed (R180). -/
def rowsDone (e : Eng) (s : State) : Nat := (s.eng e).job.rows

theorem rowsDone_of_untouched {s t : State} (h : untouched t = untouched s) (e : Eng) : rowsDone e t = rowsDone e s :=
  keeps_of_untouched (rowsDone e) (fun _ => by cases e <;> rfl) h

theorem rowsDone_modEng (e e' : Eng) (s : State) (f : Engine → Engine) (h : ∀ x, (f x).job.rows = x.job.rows) :
    rowsDone e (s.modEng e' f) = rowsDone e s := by
  cases e <;> cases e'
  · exact h _
  · rfl
  · rfl
  · exact h _

theorem rowsDone_modHealth (e e' : Eng) (f : Health → Health) (s : State) : rowsDone e (s.modHealth e' f) = rowsDone e s :=
  rowsDone_modEng e e' s _ (fun _ => rfl)

theorem rowsDone_modArb (e : Eng) (f : Arb → Arb) (s : State) : rowsDone e (s.modArb f) = rowsDone e s := by
  cases e <;> rfl

theorem untouched_check (b n i : Nat) (c : Bool) (s : State) : untouched (check b n i c s) = untouched s := by
  unfold check
  extract_lets w inj frc s1
  have e1 : untouched s1 = untouched s := by simp only [s1]; split <;> rfl
  split
  · rw [untouched_raiseFault, e1]
  · exact e1

theorem rowsDone_startStep1 (e e' : Eng) (s : State) : rowsDone e (startStep1 e' s) = rowsDone e s :=
  rowsDone_of_untouched (untouched_startStep1 e' s) e

theorem rowsDone_restartResync (e e' : Eng) (s : State) : rowsDone e (restartResync e' s) = rowsDone e s := by
  unfold restartResync
  extract_lets n s1
  have e1 : rowsDone e s1 = rowsDone e s := rowsDone_modEng e e' s _ (fun _ => rfl)
  split
  · rw [rowsDone_of_untouched (untouched_raiseFault _ _ _ _ _ _), rowsDone_modHealth, e1]
  · rw [rowsDone_startStep1, rowsDone_modHealth, e1]

theorem rowsDone_decideMismatch (e : Eng) (s : State) : rowsDone e (decideMismatch s) = rowsDone e s := by
  unfold decideMismatch
  split
  · exact rowsDone_modArb e _ s
  · extract_lets fa fo
    split <;> exact rowsDone_of_untouched (untouched_arbApply _ _ _ _ _ _ s) e

theorem rowsDone_mismatch (e : Eng) (p : Pairing) (s : State) : rowsDone e (mismatch p s) = rowsDone e s := by
  unfold mismatch
  extract_lets y s1
  have e1 : rowsDone e s1 = rowsDone e s :=
    (rowsDone_modHealth e y _ _).trans (rowsDone_of_untouched (untouched_hit _ _ _ s) e)
  clear_value s1
  cases p with
  | normal a o =>
    dsimp only
    split
    · exact (rowsDone_decideMismatch e s1).trans e1
    · exact (rowsDone_modArb e _ s1).trans e1
  | resync a o => exact (rowsDone_restartResync e o s1).trans e1
  | lost => simp only [rowsDone_restartResync, rowsDone_modArb, e1]

theorem rowsDone_toStandby (e e' : Eng) (s : State) : rowsDone e (toStandby e' s) = rowsDone e s := by
  unfold toStandby
  extract_lets tag s1
  have e1 : rowsDone e s1 = rowsDone e s :=
    (rowsDone_of_untouched (untouched_markChange _ _) e).trans (rowsDone_modHealth e e' _ s)
  exact (rowsDone_of_untouched (untouched_queueTagged _ _ _ _ _ s1) e).trans e1

theorem rowsDone_recovered (e : Eng) (s : State) : rowsDone e (recovered s) = rowsDone e s := by
  unfold recovered
  extract_lets fresh done_ s1 s2
  have hd (e' : Eng) (u : State) : rowsDone e (done_ e' u) = rowsDone e u :=
    rowsDone_of_untouched (untouched_queueTagged _ _ _ _ _ u) e
  have e1 : rowsDone e s1 = rowsDone e s := by
    simp only [s1, rowsDone_of_untouched (untouched_markChange _ _), rowsDone_modHealth,
      rowsDone_of_untouched (untouched_cancelSwitch _)]
  have e2 : rowsDone e s2 = rowsDone e s1 :=
    (rowsDone_modArb e _ _).trans (rowsDone_of_untouched (untouched_hit _ _ _ s1) e)
  rw [hd, hd, e2, e1]

theorem rowsDone_matched (e : Eng) (p : Pairing) (s : State) : rowsDone e (matched p s) = rowsDone e s := by
  unfold matched
  extract_lets y count
  have hc (u : State) : rowsDone e (count u) = rowsDone e u :=
    (rowsDone_modHealth e y _ _).trans (rowsDone_of_untouched (untouched_hit _ _ _ u) e)
  clear_value count
  cases p with
  | normal a o => exact hc s
  | resync a o =>
    dsimp only
    split <;> simp only [rowsDone_toStandby, rowsDone_modHealth, hc]
  | lost =>
    dsimp only
    split
    · exact (rowsDone_recovered e _).trans (rowsDone_modArb e _ s)
    · exact rowsDone_modArb e _ s

/-- The comparison of a row's signatures leaves the count of completed rows alone (R181). -/
theorem rowsDone_compareRow (e : Eng) (row : Nat) (s : State) : rowsDone e (compareRow row s) = rowsDone e s := by
  have hk (b n i : Nat) (c : Bool) (u : State) : rowsDone e (check b n i c u) = rowsDone e u :=
    rowsDone_of_untouched (untouched_check b n i c u) e
  unfold compareRow
  split
  · rfl
  · rename_i p _
    split
    rename_i y x _
    split
    · extract_lets uneq bad s1 s2
      have e1 : rowsDone e s1 = rowsDone e s := by
        simp only [s1, hk]
        split
        · exact hk _ _ _ _ _
        · rfl
      have e2 : rowsDone e s2 = rowsDone e s := (rowsDone_modHealth e y _ s1).trans e1
      clear_value s1 s2
      split
      · split
        · exact e1
        · exact (rowsDone_mismatch e p s1).trans e1
      · split
        · exact (rowsDone_matched e p s2).trans e2
        · exact e2
    · rfl

/-! ### ROW_COMPLETE -/

theorem takeStoreInj_unarmed {s : State} (h : (s.win 4).inject.getLsbD 0 = false) (e : Eng) (row : Nat)
    (bad : List (Nat × Nat)) : takeStoreInj e row bad s = s := by
  unfold takeStoreInj
  rw [h]
  rfl

theorem storeErrors_none {s : State} (h : (s.win 4).inject.getLsbD 1 = false) (e : Eng) (row : Nat) :
    storeErrors e row [] 0 s = s := by
  unfold storeErrors
  extract_lets new s1 injC s2
  have h2 : injC = false := by simp only [injC, s1, new, List.filter_nil, List.foldl_nil, h, Bool.false_and]
  simp only [s2, h2]
  rfl

theorem calErrors_none {e : Eng} {s : State} (h : fails (engBlk e) 16 false s = false) (row : Nat) :
    calErrors e row [] s = s := by
  simp [calErrors, h, setUnion]

section
variable {s t : State} (h : ∀ e, (t.eng e).health = (s.eng e).health)
include h

/-! The engine state is read from the health records alone (R178, R198, R200). -/

theorem activeEng_of_health : activeEng t = activeEng s := by
  have hA : t.engA.health = s.engA.health := h .fore
  have hB : t.engB.health = s.engB.health := h .main
  unfold activeEng
  rw [hA, hB]

theorem composer_of_health : composer t = composer s := by
  unfold composer
  rw [activeEng_of_health h]

theorem estate_of_health : estate t = estate s := by
  have hA : t.engA.health = s.engA.health := h .fore
  have hB : t.engB.health = s.engB.health := h .main
  unfold estate
  rw [activeEng_of_health h, hA, hB]

theorem passedBoth_of_health (e : Eng) : passedBoth e t = passedBoth e s := by
  unfold passedBoth
  rw [estate_of_health h, h]

theorem pairing_of_health : pairing t = pairing s := by
  unfold pairing
  rw [activeEng_of_health h, passedBoth_of_health h, passedBoth_of_health h]
  cases activeEng s with
  | none => rfl
  | some a =>
    dsimp only
    rw [h]

end

theorem health_modEng (e : Eng) (f : Engine → Engine) (s : State) (hf : ∀ x, (f x).health = x.health) (e' : Eng) :
    ((s.modEng e f).eng e').health = (s.eng e').health := by
  cases e <;> cases e'
  · exact hf _
  · rfl
  · rfl
  · exact hf _

theorem compareRow_unpaired {s : State} (h : pairing s = none) (row : Nat) : compareRow row s = s := by
  unfold compareRow
  rw [h]

/-- A row completes on the state that the errors met in its fetches leave. -/
theorem exec_rowComplete {e : Eng} {s : State} (h : rowsRun e s = true) (upset : List (Fin 1024 × BitVec 16)) (calBad : List Nat)
    (storeBad : List (Nat × Nat)) (corr : Nat) :
    exec (.rowComplete e upset calBad storeBad corr) s = .next (settle (
      let row := (s.eng e).job.rows
      let s1 := calErrors e row calBad (storeErrors e row storeBad corr
        (takeStoreInj e row storeBad (check (engBlk e) 0 0 false s)))
      compareRow row (s1.modEng e (takeCodes row (rowCodes e row upset s1))))) := by
  show done _ = _
  rw [if_pos h]
  rfl

theorem rowComplete_rows {e : Eng} {s : State} (h : rowsRun e s = true) (upset : List (Fin 1024 × BitVec 16))
    (calBad : List Nat) (storeBad : List (Nat × Nat)) (corr : Nat) :
    ∃ t, exec (.rowComplete e upset calBad storeBad corr) s = .next t ∧ (t.eng e).job.rows = (s.eng e).job.rows + 1 := by
  refine ⟨_, exec_rowComplete h upset calBad storeBad corr, ?_⟩
  extract_lets row s1
  calc rowsDone e (settle (compareRow row (s1.modEng e (takeCodes row (rowCodes e row upset s1)))))
      = rowsDone e (s1.modEng e (takeCodes row (rowCodes e row upset s1))) :=
        (rowsDone_of_untouched (untouched_settle _) e).trans (rowsDone_compareRow e row _)
    _ = row + 1 := by rw [rowsDone, State.eng_modEng_same]; rfl

theorem takeCodes_health (row : Nat) (cs : List Code) (x : Engine) : (takeCodes row cs x).health = x.health := rfl

theorem rowComplete_quiet {e : Eng} {s : State} (h : rowsRun e s = true) (h0 : (s.win 4).inject.getLsbD 0 = false)
    (h1 : (s.win 4).inject.getLsbD 1 = false) (hc : fails (engBlk e) 16 false s = false)
    (hm : fails (engBlk e) 0 false s = false) (hp : pairing s = none) :
    exec (.rowComplete e [] [] [] 0) s = .next (settle (s.modEng e
      (takeCodes (s.eng e).job.rows (rowCodes e (s.eng e).job.rows [] s)))) := by
  have hq (row : Nat) (cs : List Code) : compareRow row (s.modEng e (takeCodes row cs)) = s.modEng e (takeCodes row cs) :=
    compareRow_unpaired ((pairing_of_health (health_modEng e _ s (takeCodes_health row cs))).trans hp) row
  rw [exec_rowComplete h]
  dsimp only
  rw [check_quiet _ _ _ _ _ hm, takeStoreInj_unarmed h0, storeErrors_none h1, calErrors_none hc]
  exact congrArg (fun u => Host.Outcome.next (settle u)) (hq _ _)

/-! ### COMPOSITION_END -/

theorem composeMicros_eq (up : Bool) (load : Nat) (s : State) :
    composeMicros up load s = load / (400 * pixOf s.clk.opAct.toNat) +
      if up = true ∧ load % (400 * pixOf s.clk.opAct.toNat) ≠ 0 then 1 else 0 := by
  simp [composeMicros]

/-- The frame of an engine has ended: its time, load / (4 f_PIX) in whole microseconds, and its load are recorded (R156). -/
def frameEnded (up : Bool) (s : State) (x : Engine) : Engine :=
  { x with
    comp := { x.comp with
      composeTime := min 65535 (lastLoad x s / (400 * pixOf s.clk.opAct.toNat) +
        if up = true ∧ lastLoad x s % (400 * pixOf s.clk.opAct.toNat) ≠ 0 then 1 else 0)
      loadLast := lastLoad x s }
    job := { x.job with ended := true } }

theorem exec_compositionEnd {e : Eng} {s : State} (hp : s.pwr.pstate = .s0) (ha : (s.eng e).job.active = true)
    (hr : (s.eng e).job.rows = 1024) (he : (s.eng e).job.ended = false) (up : Bool) :
    exec (.compositionEnd e up) s = .next (settle (
      if e = composer s ∧ s.compat = false then wbFinish e (s.modEng e (frameEnded up s))
      else s.modEng e (frameEnded up s))) := by
  have hg : (s.pwr.pstate == .s0 && (s.eng e).job.active && (s.eng e).job.rows == 1024 && !(s.eng e).job.ended) = true := by
    simp [hp, ha, hr, he]
  have hx : s.modEng e (fun x => { (x.modComp (fun c => { c with
      composeTime := min 65535 (composeMicros up (lastLoad (s.eng e) s) s), loadLast := lastLoad (s.eng e) s })) with
      job := { x.job with ended := true } }) = s.modEng e (frameEnded up s) := by
    simp only [composeMicros_eq]
    cases e <;> rfl
  have hc : (s.modEng e (frameEnded up s)).compat = s.compat := by simp only [State.compat, State.modEng_mode]
  have hy : composer (s.modEng e (frameEnded up s)) = composer s := composer_of_health (health_modEng e _ s (fun _ => rfl))
  show done _ = _
  rw [if_pos hg]
  simp only [hx, hc, hy]
  rfl

theorem wbFinish_idle {e : Eng} {s : State} (h : (s.eng e).comp.wbTarget = none) : wbFinish e s = s := by
  unfold wbFinish
  extract_lets x
  have hx : x.comp.wbTarget = none := h
  rw [hx]

theorem compositionEnd_plain {e : Eng} {s : State} (hp : s.pwr.pstate = .s0) (ha : (s.eng e).job.active = true)
    (hr : (s.eng e).job.rows = 1024) (he : (s.eng e).job.ended = false) (up : Bool)
    (hw : e ≠ composer s ∨ s.compat = true ∨ (s.eng e).comp.wbTarget = none) :
    exec (.compositionEnd e up) s = .next (settle (s.modEng e (frameEnded up s))) := by
  rw [exec_compositionEnd hp ha hr he]
  split
  · rename_i hc
    obtain ⟨hce, hcc⟩ := hc
    have ht : (s.eng e).comp.wbTarget = none :=
      hw.elim (fun h => absurd hce h) (fun h => h.elim (fun h => absurd (hcc.symm.trans h) Bool.false_ne_true) id)
    rw [wbFinish_idle (by rw [State.eng_modEng_same]; exact ht)]
  · rfl

theorem getD_modAt_same {α : Type} (l : List α) (n : Nat) (f : α → α) (d : α) (h : n < l.length) :
    (modAt l n f).getD n d = f (l.getD n d) := by
  induction l generalizing n with
  | nil => exact absurd h (Nat.not_lt_zero n)
  | cons a l ih =>
    cases n with
    | zero => rfl
    | succ n => exact ih n (Nat.lt_of_succ_lt_succ h)

/-- The words of a write-back buffer that is complete: those of the canvas in the buffer's format (R165, R166). -/
def wbComplete (bytes : List Byte) (u : Buffer) : Buffer :=
  { u with
    state := .complete, fill := u.size, crc := BitVec.ofNat 32 (crc32 bytes)
    bytes := ((List.range bytes.length).zip bytes).filter (fun p => p.2 != 0) }

theorem readStore_bufs (s : State) : (readStore s).store.bufs = s.store.bufs := by
  unfold readStore
  extract_lets h0 st0 s1 h1 st1
  have e1 : s1.store.bufs = s.store.bufs := by
    simp only [s1]
    split
    · rw [check_store]
    · rfl
  split
  · rw [check_store]
    exact e1
  · exact e1

/-- Buffer `b` is the complete and current write-back buffer, with the check word `c` (R166). -/
def wbTaken (b : Nat) (c : Word) (x : Engine) : Engine :=
  x.modComp (fun y => { y with wbCur := some b, wbTarget := none, wbCrc := c })

theorem wbFinish_kept {e : Eng} {b : Nat} {s : State} (ht : (s.eng e).comp.wbTarget = some b)
    (hk : wbTargetCode (s.eng e).comp ≠ 2) :
    ∃ bytes c ws, wbFinish e s = queueEvent (engBlk e * 256 + 4) 0 ws
      (((readStore s).modBuf b (wbComplete bytes)).modBoth (wbTaken b c)) := by
  unfold wbFinish
  extract_lets x
  have hx : x.comp.wbTarget = some b := ht
  rw [hx]
  dsimp only
  rw [if_neg hk]
  exact ⟨_, _, _, rfl⟩

theorem hitIf_eng (c : Bool) (b o n : Nat) (s : State) (e : Eng) : (s.hitIf c b o n).eng e = s.eng e := by
  unfold State.hitIf
  split
  · cases e <;> rfl
  · rfl

theorem pushEvent_eng (v : Event) (s : State) (e : Eng) : (pushEvent v s).eng e = s.eng e := by
  unfold pushEvent
  split
  · exact (hitIf_eng _ _ _ _ _ e).trans (by cases e <;> rfl)
  · rfl

theorem modBoth_eng (f : Engine → Engine) (s : State) (e : Eng) : (s.modBoth f).eng e = f (s.eng e) := by
  cases e <;> rfl

theorem compositionEnd_wb {e : Eng} {b : Nat} {s : State} (hp : s.pwr.pstate = .s0) (ha : (s.eng e).job.active = true)
    (hr : (s.eng e).job.rows = 1024) (he : (s.eng e).job.ended = false) (up : Bool) (hc : e = composer s)
    (hn : s.compat = false) (ht : (s.eng e).comp.wbTarget = some b) (hb : b < s.store.bufs.length)
    (hk : wbTargetCode (s.eng e).comp ≠ 2) :
    ∃ t, exec (.compositionEnd e up) s = .next t ∧ (t.buf b).state = .complete ∧
      t.engA.comp.wbCur = some b ∧ t.engB.comp.wbCur = some b ∧ (t.buf b).fill = (s.buf b).size := by
  have hte : ((s.modEng e (frameEnded up s)).eng e).comp.wbTarget = some b := by
    rw [State.eng_modEng_same]; exact ht
  have hke : wbTargetCode ((s.modEng e (frameEnded up s)).eng e).comp ≠ 2 := by
    rw [State.eng_modEng_same]; exact hk
  obtain ⟨bytes, c, ws, hw⟩ := wbFinish_kept hte hke
  rw [exec_compositionEnd hp ha hr he, if_pos ⟨hc, hn⟩, hw]
  set v := ((readStore (s.modEng e (frameEnded up s))).modBuf b (wbComplete bytes)).modBoth (wbTaken b c)
  have hv (e' : Eng) : ((queueEvent (engBlk e * 256 + 4) 0 ws v).eng e').comp.wbTarget = none := by
    rw [queueEvent, pushEvent_eng, modBoth_eng]; rfl
  have hcur (e' : Eng) : ((queueEvent (engBlk e * 256 + 4) 0 ws v).eng e').comp.wbCur = some b := by
    rw [queueEvent, pushEvent_eng, modBoth_eng]; rfl
  have hbuf : (settle (queueEvent (engBlk e * 256 + 4) 0 ws v)).buf b = wbComplete bytes (s.buf b) := by
    have hs : v.store.bufs = modAt s.store.bufs b (wbComplete bytes) := by
      show modAt (readStore (s.modEng e (frameEnded up s))).store.bufs b _ = _
      rw [readStore_bufs, State.modEng_store]
    rw [State.buf, settle_store hv, queueEvent_store, hs, getD_modAt_same _ _ _ _ hb]
    rfl
  refine ⟨_, rfl, ?_, ?_, ?_, ?_⟩
  · rw [hbuf]; rfl
  · exact (settle_keeps (fun u => u.engA.comp.wbCur) (fun _ => rfl) _).trans (hcur .fore)
  · exact (settle_keeps (fun u => u.engB.comp.wbCur) (fun _ => rfl) _).trans (hcur .main)
  · rw [hbuf]; rfl

/-! ### FENCE_TIMEOUT -/

theorem exec_fenceTimeout_due {e : Eng} {n : Fin 8} {s : State} (hd : composeDue s = true) (hm : mayCompose e s = true)
    (hc : s.compat = false) (ht : timeoutDue e n s = true) :
    exec (.fenceTimeout e n) s = .next (settle (applyTimeouts e (dueMates e n s) s)) := by
  show done _ = _
  rw [hd, hm, hc, ht]
  rfl

theorem exec_fenceTimeout_idle {e : Eng} {n : Fin 8} {s : State} (h : composeDue s = false ∨ timeoutDue e n s = false) :
    exec (.fenceTimeout e n) s = .next (settle s) := by
  have hg : ¬ (composeDue s && mayCompose e s && !s.compat && timeoutDue e n s) = true := by
    rcases h with h | h <;> simp [h]
  show done _ = _
  rw [if_neg hg]
  rfl

/-- EV_FENCE_TIMEOUT of layer `n` with the arm `a`, where engine `e` is the composer (R162). -/
def noteTimeout (e : Eng) (n : Nat) (a : Arm) (s : State) : State :=
  if e = composer s then queueEvent (engBlk e * 256 + 2) 1 [put 8 a.fence ||| put 0 n] s else s

theorem actionOf_arm {x : Engine} {n : Nat} {a : Arm} (h : (x.layer n).arm = some a) : actionOf x n = a.desc.action := by
  rw [actionOf, h]; rfl

theorem expireFence_cancel {e : Eng} {n : Nat} {a : Arm} {s : State} (h : ((s.eng e).layer n).arm = some a)
    (ha : a.desc.action = 0) : expireFence e s n = noteTimeout e n a s := by
  unfold expireFence
  rw [h]
  exact if_pos ha

theorem expireFence_force {e : Eng} {n : Nat} {a : Arm} {s : State} (h : ((s.eng e).layer n).arm = some a)
    (ha : a.desc.action ≠ 0) : expireFence e s n = (noteTimeout e n a s).modEng e (fun x =>
      (x.modLayer n (fun l => { l with arm := some { a with forced := true, blanks := a.desc.action == 2 } })).modComp
        (fun c => { c with moved := true })) := by
  unfold expireFence
  rw [h]
  exact if_neg ha

theorem cancelArms_nil (e : Eng) (cause : Nat) (s : State) : cancelArms e [] cause s = s := rfl

/-- A single layer times out: an arm with ACTION 0 is cancelled, and every other one is forced (R162, Table 05.3). -/
theorem applyTimeouts_single {e : Eng} {n : Nat} {a : Arm} {s : State} (h : ((s.eng e).layer n).arm = some a) :
    applyTimeouts e [n] s =
      if a.desc.action = 0 then cancelArms e [n] 1 (expireFence e s n) else expireFence e s n := by
  have hf : [n].filter (fun n => actionOf (s.eng e) n == 0) = if a.desc.action = 0 then [n] else [] := by
    simp [List.filter_cons, actionOf_arm h]
  unfold applyTimeouts
  rw [hf]
  split
  · rfl
  · exact cancelArms_nil e 1 _

/-- Settles O24: rows and the frame's end by `exec_rowComplete` and `exec_compositionEnd`, the buffer that stays complete by
`settle_store`, and the timeouts by `applyTimeouts`. -/
theorem rowsAndFencesComplete : Obligations.RowsAndFencesComplete := by
  refine ⟨⟨fun e up cal st corr s h => rowComplete_rows h up cal st corr,
    fun e s h h0 h1 hc hm hp => rowComplete_quiet h h0 h1 hc hm hp,
    fun e up s hp ha hr he => ⟨compositionEnd_plain hp ha hr he up,
      fun b hc hn ht hb hk => compositionEnd_wb hp ha hr he up hc hn ht hb hk⟩⟩,
    fun e n a s hd hm hc ht ha hmates => ?_, fun e n s hd hm hc ht => exec_fenceTimeout_due hd hm hc ht,
    fun e n s h => exec_fenceTimeout_idle h⟩
  intro s1
  have hx := exec_fenceTimeout_due hd hm hc ht
  rw [hmates, applyTimeouts_single ha] at hx
  refine ⟨fun hz => ?_, fun hz => ?_⟩
  · rw [hx, if_neg hz, expireFence_force ha hz]
    rfl
  · rw [hx, if_pos hz, expireFence_cancel ha hz]
    rfl

end Sys2Proof.Machine
end

section
/-! SET_CLASS, SET_CEILING, SET_AIM and GAPLESS (R63, R230, R232, R233). -/

namespace Sys2Proof.Machine

/-! ### What an accepted command leaves of Backstay and of its session -/

@[simp] theorem reply_bstay (c : CmdCtx) (code : Nat) (st : BitVec 8) (ws : List Word) (s : State) :
    (reply c code st ws s).bstay = s.bstay := by
  have h (b : Bool) (k o n : Nat) (u : State) : (u.hitIf b k o n).bstay = u.bstay := by unfold State.hitIf; split <;> rfl
  unfold reply
  extract_lets u r busy
  split
  · exact h _ _ _ _ _
  · exact h _ _ _ _ _
  · rfl

@[simp] theorem reply_cmd (c : CmdCtx) (code : Nat) (st : BitVec 8) (ws : List Word) (s : State) :
    (reply c code st ws s).cmd = (noteSession c s).cmd := by
  have h (b : Bool) (k o n : Nat) (u : State) : (u.hitIf b k o n).cmd = u.cmd := by unfold State.hitIf; split <;> rfl
  unfold reply
  extract_lets u r busy
  split
  · exact h _ _ _ _ _
  · exact h _ _ _ _ _
  · rfl

@[simp] theorem accepted_bstay (code : Nat) (c : CmdCtx) (ws : List Word) (s : State) :
    (accepted code c ws s).bstay = s.bstay := reply_bstay _ _ _ _ _

/-- The session of an accepted command is the one it came with (R323). -/
theorem inSession_accepted (code : Nat) (c : CmdCtx) (ws : List Word) (s : State) :
    inSession (slowCtx c.keepEcc (slowEntry code c ws)) (accepted code c ws s) = inSession c s := by
  have hc : (reply c code stAccepted [] s).cmd = (noteSession c s).cmd := reply_cmd _ _ _ _ _
  simp only [inSession, sessionOn, accepted, hc]
  rfl

/-- A SET_CEILING that is taken comes in a session and with a payload (R321, R323). -/
theorem setCeiling_taken {c : CmdCtx} {ws : List Word} {s : State} (h : slowReady 0x32 c ws s = true) :
    inSession c s = true ∧ ws ≠ [] := by
  have ho : opInfo 0x32 = some ⟨0x32, true, .yes, 2, 1024⟩ := by decide
  simp only [slowReady, ho, sessionOk, Bool.and_eq_true] at h
  obtain ⟨⟨⟨⟨_, ⟨_, hl⟩, hs⟩, _⟩, _⟩, _⟩ := h
  refine ⟨?_, ?_⟩
  · simp only [inSession, Bool.and_eq_true]
    exact hs
  · rintro rfl
    simp [lengthOk] at hl

/-! ### STAGE -/

theorem bit_setField_top (w : Word) : bit (setField w 31 1 1) 31 = true ∧ bit (setField w 31 1 0) 31 = false := by
  simp [bit, setField, put]

theorem stage_stamped (ws : List Word) (h : ws ≠ []) : bit ((stamp 31 1 1 ws).getD 0 0) 31 = true := by
  cases ws with
  | nil => exact absurd rfl h
  | cons w rest => exact (bit_setField_top w).1

theorem stage_cleared (ws : List Word) : bit ((stamp 31 1 0 ws).getD 0 0) 31 = false := by
  cases ws with
  | nil => rfl
  | cons w rest => exact (bit_setField_top w).2

theorem stamp_ne_nil {lo len v : Nat} {ws : List Word} (h : stamp lo len v ws ≠ []) : ws ≠ [] := by
  rintro rfl
  exact h rfl

/-! ### The commands -/

theorem opSetClass_normal (c : CmdCtx) {w : Word} {s : State} (hw : within w 3 = true) (hb : s.bstay.beam = .normal) :
    opSetClass c [w] s = endWith stOk (s.modBstay (fun b => { b with clsPend := some (classOf (bits w 0 2)) })) := by
  simp only [opSetClass, List.getD_cons_zero, hw, hb, ne_eq, not_true_eq_false, if_false, Bool.not_true, Bool.false_eq_true]

theorem opSetCeiling_stage {c : CmdCtx} {ws : List Word} {s : State} (hk : ceilingOk ws = true)
    (hb : bit (ws.getD 0 0) 31 = true) (hs : inSession c s = true) :
    opSetCeiling c ws s = endWith stOk (s.modBstay (fun b => { b with
      stageCeil := b.stageCeil ++ (ceilingParts ws).1, stageZlim := b.stageZlim ++ (ceilingParts ws).2 })) := by
  simp only [opSetCeiling, hk, hb, hs, Bool.not_true, Bool.false_eq_true, if_false, if_true]

theorem opSetCeiling_commit (c : CmdCtx) {ws : List Word} {s : State} (hk : ceilingOk ws = true)
    (hb : bit (ws.getD 0 0) 31 = false) :
    opSetCeiling c ws s = endWith stOk (s.modBstay (fun b => { b with
      commitCeil := b.commitCeil ++ b.stageCeil ++ (ceilingParts ws).1
      commitZlim := b.commitZlim ++ b.stageZlim ++ (ceilingParts ws).2
      commitPend := true, stageCeil := [], stageZlim := [] })) := by
  simp only [opSetCeiling, hk, hb, Bool.not_true, Bool.false_eq_true, if_false]

theorem opSetAim_inRange (c : CmdCtx) {w : Word} (s : State) (hv : -64 ≤ signed 16 (bits w 16 16))
    (hv' : signed 16 (bits w 16 16) ≤ 63) (hh : -128 ≤ signed 16 (bits w 0 16)) (hh' : signed 16 (bits w 0 16) ≤ 127) :
    opSetAim c [w] s = endWith stOk (s.modBstay (fun b => { b with
      aimVTgt := signed 16 (bits w 16 16), aimHTgt := signed 16 (bits w 0 16) })) := by
  simp only [opSetAim, List.getD_cons_zero]
  exact if_neg (by omega)

theorem opGapless_allowed (c : CmdCtx) {w : Word} {s : State} (ho : blockOff 7 s = false) (hw : within w 1 = true)
    (hg : (bit w 0 && gaplessOff s.bstay.beam s.bstay.cls s) = false) :
    opGapless c [w] s = endWith stOk { s with scan := { s.scan with ctrl := setField s.scan.ctrl 20 1 (bits w 0 1) } } := by
  simp only [opGapless, List.getD_cons_zero, ho, hw, hg, Bool.not_true, Bool.false_eq_true, if_false]

theorem gaplessOff_eq_false {s : State} (hc : s.bstay.cls = .high) (hb : s.bstay.beam ≠ .trysail) (hn : s.compat = false) :
    gaplessOff s.bstay.beam s.bstay.cls s = false := by
  simp [gaplessOff, hc, hb, hn]

/-- A slow-path command that runs on the state in which it has been accepted, and ends OK without words. -/
theorem slow_concluded {op : OpFn} {code : Nat} {c : CmdCtx} {ws : List Word} {s t : State} (h : slowReady code c ws s = true)
    (e : op (slowCtx c.keepEcc (slowEntry code c ws)) ws (accepted code c ws s) = endWith stOk t) :
    settle (submit op code c ws s) = concluded code c [] t := by
  rw [submit_slow_fin op code c ws s t stOk [] h e, concluded]

/-- A fast-path command that ends OK without words. -/
theorem fast_answered {op : OpFn} {code : Nat} {c : CmdCtx} {ws : List Word} {s t : State} (h : fastReady code c ws s = true)
    (e : op c ws s = endWith stOk t) : settle (submit op code c ws s) = answered code c [] t := by
  rw [submit_fast_fin op code c ws s t stOk [] h e, answered]

/-- Settles O2: each command's execution, on the path that its opcode takes. -/
theorem beamDimensionCommandsSetTargets : Obligations.BeamDimensionCommandsSetTargets := by
  have ha (code : Nat) (c : CmdCtx) (ws : List Word) (s : State) (f : Bstay → Bstay) :
      (accepted code c ws s).modBstay f = { accepted code c ws s with bstay := f s.bstay } := by
    rw [State.modBstay, accepted_bstay]
  refine ⟨fun c w s h hw hb => ?_, fun c ws s h hk => ?_, fun c ws s h hk => ?_, fun c w s h h1 h2 h3 h4 => ?_,
    fun c w s h hw ho hg => ?_⟩
  · have hb' : (accepted 0x31 c [w] s).bstay.beam = .normal := by rw [accepted_bstay]; exact hb
    have e := slow_concluded h (opSetClass_normal _ hw hb')
    rw [ha] at e
    exact congrArg Host.Outcome.next e
  · obtain ⟨hs, hne⟩ := setCeiling_taken h
    have e := slow_concluded h (opSetCeiling_stage hk (stage_stamped ws (stamp_ne_nil hne))
      ((inSession_accepted _ _ _ _).trans hs))
    rw [ha] at e
    exact congrArg Host.Outcome.next e
  · have e := slow_concluded h (opSetCeiling_commit _ hk (stage_cleared ws))
    rw [ha] at e
    exact congrArg Host.Outcome.next e
  · exact congrArg Host.Outcome.next (fast_answered h (opSetAim_inRange c s h1 h2 h3 h4))
  · have hg' : (bit w 0 && gaplessOff s.bstay.beam s.bstay.cls s) = false := by
      cases hw0 : bit w 0 with
      | false => rfl
      | true =>
        obtain ⟨hc, hb, hn⟩ := hg hw0
        exact gaplessOff_eq_false hc hb hn
    exact congrArg Host.Outcome.next (fast_answered h (opGapless_allowed c ho hw hg'))

end Sys2Proof.Machine
end

section
/-! SCAN_CTRL (R34, R67, R69). -/

namespace Sys2Proof.Machine

theorem exec_scanCtrlWrite {src : RegSrc} {s : State} (hr : regReady 7 src s = true) (v : Word) :
    exec (.scanCtrlWrite src v) s =
      .next (settle { (scanCtrlWrite v s).1 with lastStatus := (scanCtrlWrite v s).2 }) := by
  show done _ = _
  rw [writeRow_ready 7 src _ s hr]
  rfl

/-- SCAN_STATUS.CFG_ERR is set by a refused write (Table 02.7). -/
def cfgRefused (s : State) : State := (s.modScan (fun c => { c with cfgErr := true })).hit 7 4 3

theorem scanCtrlWrite_compat (v : Word) {s : State} (hc : s.compat = true) :
    scanCtrlWrite v s = (cfgRefused s, stBadState) := by
  unfold scanCtrlWrite
  simp only [hc, if_true]
  rfl

theorem scanCtrlWrite_badRate {v : Word} {s : State} (hc : s.compat = false)
    (hv : bits v 0 2 = 3 ∨ bits v 4 5 + 1 < 2 * 2 ^ bits v 0 2) : scanCtrlWrite v s = (cfgRefused s, stBadParam) := by
  unfold scanCtrlWrite
  simp only [hc, Bool.false_eq_true, if_false, if_pos hv]
  rfl

theorem scanCtrlWrite_goodRate {v : Word} {s : State} (hc : s.compat = false) (h3 : bits v 0 2 ≠ 3)
    (hn : 2 * 2 ^ bits v 0 2 ≤ bits v 4 5 + 1) :
    scanCtrlWrite v s =
      if (bit v 20 && gaplessOff s.bstay.beam s.bstay.cls s) = true then (cfgRefused s, stBadState)
      else (noteLoad (s.modScan (fun c => { c with ctrl := v &&& 0x0311F1F3 })), stOk) := by
  have hv : ¬ (bits v 0 2 = 3 ∨ bits v 4 5 + 1 < 2 * 2 ^ bits v 0 2) := by
    rintro (h | h)
    · exact h3 h
    · exact absurd hn (Nat.not_le.mpr h)
  unfold scanCtrlWrite
  simp only [hc, Bool.false_eq_true, if_false, if_neg hv]
  rfl

theorem gaplessOff_native {s : State} (hc : s.compat = false) :
    gaplessOff s.bstay.beam s.bstay.cls s = true ↔ s.bstay.cls ≠ .high ∨ s.bstay.beam = .trysail := by
  simp [gaplessOff, hc, or_comm]

/-- SCAN_CTRL as it reads in the compatibility modes: the orientation, and RATE 3 (R67). -/
theorem regRead_scanCtrl_compat {s : State} (hc : s.compat = true) (ho : blockOff 7 s = false) :
    regRead 0x00070000 s = (s, stOk, (s.scan.ctrl &&& 0x03000000) ||| 3) := by
  have h : scanRead 0 s = (s.scan.ctrl &&& 0x03000000) ||| 3 := by
    unfold scanRead
    simp only [hc, if_true]
  have ha : addrOk 0x00070000 = true := by decide
  have hb : addrBlock 0x00070000 = 7 := by decide
  have hf : addrOff 0x00070000 = 0 := by decide
  unfold regRead
  rw [ha, hb, hf, ho, ← h]
  rfl

theorem bits_eq_extract (w : Word) (lo len : Nat) : bits w lo len = (w.extractLsb' lo len).toNat := by
  rw [bits, BitVec.extractLsb'_toNat]

theorem compat_fields (c : Word) :
    bits ((c &&& 0x03000000) ||| 3) 0 2 = 3 ∧ bits ((c &&& 0x03000000) ||| 3) 4 5 = 0 ∧
      bits ((c &&& 0x03000000) ||| 3) 12 5 = 0 ∧ bit ((c &&& 0x03000000) ||| 3) 20 = false := by
  simp only [bits_eq_extract, bit, BitVec.extractLsb'_or, BitVec.extractLsb'_and]
  simp

/-- Settles O23: a write is refused or kept as `scanCtrlWrite` decides, and the read in the compatibility modes is
`regRead_scanCtrl_compat`. -/
theorem scanControlIsCheckedOnReceipt : Obligations.ScanControlIsCheckedOnReceipt := by
  refine ⟨fun src v s hr hc => ⟨fun h3 hn hg => ?_, fun hv => ?_, fun h3 hn hb hg => ?_⟩, fun src v s hr hc => ?_,
    fun s hc ho => ?_⟩
  · have hg' : ¬ (bit v 20 && gaplessOff s.bstay.beam s.bstay.cls s) = true := by
      rw [Bool.and_eq_true, gaplessOff_native hc]
      rintro ⟨hb, hx⟩
      obtain ⟨hcls, hbeam⟩ := hg hb
      exact hx.elim (fun h => h hcls) (fun h => hbeam h)
    rw [exec_scanCtrlWrite hr, scanCtrlWrite_goodRate hc h3 hn, if_neg hg']
    rfl
  · rw [exec_scanCtrlWrite hr, scanCtrlWrite_badRate hc hv]
    rfl
  · rw [exec_scanCtrlWrite hr, scanCtrlWrite_goodRate hc h3 hn,
      if_pos (by rw [hb, Bool.true_and, gaplessOff_native hc]; exact hg)]
    rfl
  · rw [exec_scanCtrlWrite hr, scanCtrlWrite_compat v hc]
    rfl
  · intro r
    have e : r = (s, stOk, (s.scan.ctrl &&& 0x03000000) ||| 3) := regRead_scanCtrl_compat hc ho
    rw [e]
    exact ⟨rfl, rfl, compat_fields s.scan.ctrl⟩

end Sys2Proof.Machine
end

section
/-! SEGMENT_WRITE and TRYSAIL_SEGMENT_WRITE (R46, R53, R56, R234, R250). -/

namespace Sys2Proof.Machine

theorem profileParity_good {s : State} (h : fails 10 6 false s = false) : profileParity false s = s := by
  simp [profileParity, h, check_quiet _ _ _ _ _ h]

/-- The conditions under which engine `e` writes segment `g` (R24, R53, R56, R192). -/
def segmentDue (e : Eng) (g : Nat) (s : State) : Bool :=
  mayWrite e s && (s.eng e).job.active && (s.eng e).dirty.contains g && decide (g / 16 < (s.eng e).job.rows) &&
    writeTurn s.bstay.arb.overlap (s.eng e) g

/-- Engine `e` has written segment `g` with the checked codes and the count of clamps `r` (R53, R234). -/
def segmentWritten (e : Eng) (g : Nat) (r : List Code × Nat) (s : State) : State :=
  (noteSeg e g (noteWrite g (latchSeg g r.1 s))).modBstay (fun b => { b with
    clampNow := b.clampNow + r.2, clampNowEng := b.clampNowEng + r.2
    clampSegs := if r.2 = 0 then b.clampSegs else setIns b.clampSegs g })

theorem exec_segmentWrite (e : Eng) (g : Fin 16384) (cut bad : Bool) (s : State) :
    exec (.segmentWrite e g cut bad) s = .next (settle (
      if (segmentDue e g.val s && !cut) = true then
        segmentWritten e g.val (checkedSeg (s.eng e) (profileParity bad s).bstay g.val) (profileParity bad s)
      else s)) := rfl

/-- The conditions under which the Trysail writer writes segment `g` (R56, R250). -/
def trySegmentDue (g : Nat) (s : State) : Bool := s.bstay.tryOwns && s.bstay.tryDirty.contains g && !busClosed s

/-- The Trysail writer has written segment `g` with the checked codes and the count of clamps `r` (R234, R250). -/
def trySegmentWritten (g : Nat) (r : List Code × Nat) (s : State) : State :=
  (noteWrite g (latchSeg g r.1 s)).modBstay (fun b => { b with
    tryDirty := setDel b.tryDirty g, trySegSig := spSet b.trySegSig g (codesSig r.1), clampNow := b.clampNow + r.2
    tryClampSegs := if r.2 = 0 then b.tryClampSegs else setIns b.tryClampSegs g })

/-- What the Trysail writer reads before it writes: a word of its buffer, where it has one, and the profile (R248, R541). -/
def tryFetched (u : TryUpset) (s : State) : State :=
  profileParity u.profile (if s.bstay.tryBuf.isSome then readTry u.ecc s else s)

theorem exec_trysailSegmentWrite (g : Fin 16384) (cut : Bool) (u : TryUpset) (s : State) :
    exec (.trysailSegmentWrite g cut u) s = .next (settle (
      if (trySegmentDue g.val s && !cut) = true then
        trySegmentWritten g.val (trySegCodes (tryFetched u s) g.val) (tryFetched u s)
      else s)) := rfl

theorem tryFetched_good {s : State} (hp : fails 10 6 false s = false) (hb : fails 10 8 false s = false) :
    tryFetched ⟨false, false⟩ s = s := by
  unfold tryFetched
  rw [readTry_good hb, ite_self, profileParity_good hp]

/-- No engine and no Trysail writer writes while the row bus is closed (R46, R56). -/
theorem not_due_of_busClosed {s : State} (h : busClosed s = true) (e : Eng) (g : Nat) :
    segmentDue e g s = false ∧ trySegmentDue g s = false := by
  simp [segmentDue, mayWrite, trySegmentDue, h]

/-- Settles O25: a due write that meets no error puts the checked codes in, and one that is cut or closed out does nothing. -/
theorem segmentWritesAreCheckedAndNoted : Obligations.SegmentWritesAreCheckedAndNoted := by
  refine ⟨fun e g s hw ha hd hr ht hp => ?_, fun g s ho hd hb hp hq => ?_, fun e g cut bad u s h => ?_⟩
  · have hdue : (segmentDue e g.val s && !false) = true := by
      simp only [segmentDue, hw, ha, hd, hr, ht, decide_true, Bool.and_self, Bool.not_false]
    intro r
    rw [exec_segmentWrite, if_pos hdue, profileParity_good hp]
    rfl
  · have hdue : (trySegmentDue g.val s && !false) = true := by
      simp only [trySegmentDue, ho, hd, hb, Bool.not_false, Bool.and_self]
    intro r
    rw [exec_trysailSegmentWrite, if_pos hdue, tryFetched_good hp hq]
    rfl
  · have hno : (segmentDue e g.val s && !cut) = false ∧ (trySegmentDue g.val s && !cut) = false := by
      rcases h with rfl | h
      · simp
      · simp [not_due_of_busClosed h e g.val]
    obtain ⟨h1, h2⟩ := hno
    rw [exec_segmentWrite, exec_trysailSegmentWrite, h1, h2]
    exact ⟨rfl, rfl⟩

end Sys2Proof.Machine
end

section
/-! TILE_CTRL and ARRAY_CTRL (R83, R86, R96). -/

namespace Sys2Proof.Machine

/-- A register row whose source may write block `b` ends with the write's own state and status (R328). -/
theorem done_writeRow {b : Nat} {src : RegSrc} {s : State} (hr : regReady b src s = true) (f : State → State × BitVec 8) :
    done (writeRow b src f s) = .next (settle { (f s).1 with lastStatus := (f s).2 }) := by
  rw [writeRow_ready b src f s hr, done]

theorem exec_tileCtrlWrite {src : RegSrc} {s : State} (hr : regReady 8 src s = true) (t : Fin 256) (v : Word) :
    exec (.tileCtrlWrite src t v) s =
      .next (settle { (tileCtrlWrite t v s).1 with lastStatus := (tileCtrlWrite t v s).2 }) :=
  done_writeRow hr (tileCtrlWrite t v)

theorem exec_arrayCtrlWrite {src : RegSrc} {s : State} (hr : regReady 8 src s = true) (v : Word) :
    exec (.arrayCtrlWrite src v) s =
      .next (settle { (arrayCtrlWrite v s).1 with lastStatus := (arrayCtrlWrite v s).2 }) :=
  done_writeRow hr (arrayCtrlWrite v)

/-! ### The current limit (R83) -/

theorem currentAllowed_iff (range g u : Nat) : currentAllowed range g u = true ↔ fullScale range g u ≤ 3200000 :=
  decide_eq_true_iff

theorem gtrimAllowed_iff (g : Nat) (s : State) :
    gtrimAllowed g s = true ↔ ∀ x ∈ s.arr.tiles, fullScale x.range.toNat g x.ttrim.toNat ≤ 3200000 := by
  simp only [gtrimAllowed, List.all_eq_true, currentAllowed_iff]

/-! ### TILE_CTRL -/

/-- The value `v` gives tile `t` the RANGE and the TTRIM that it has (R96). -/
def KeepsTrims (t : Nat) (v : Word) (s : State) : Prop :=
  bits v 4 2 = (s.tile t).range.toNat ∧ bits v 8 8 = (s.tile t).ttrim.toNat

/-- The compatibility modes refuse the value `v` for tile `t` (R96). -/
def trimsLocked (t : Nat) (v : Word) (s : State) : Bool :=
  s.compat && (bits v 4 2 != (s.tile t).range.toNat || bits v 8 8 != (s.tile t).ttrim.toNat)

theorem trimsLocked_iff (t : Nat) (v : Word) (s : State) :
    trimsLocked t v s = true ↔ s.compat = true ∧ ¬ KeepsTrims t v s := by
  simp [trimsLocked, KeepsTrims, ← not_and_or]

theorem trimsLocked_eq_false {t : Nat} {v : Word} {s : State} (hk : s.compat = false ∨ KeepsTrims t v s) :
    trimsLocked t v s = false := by
  rw [← Bool.not_eq_true, trimsLocked_iff]
  rintro ⟨hc, hn⟩
  exact hk.elim (fun h => Bool.false_ne_true (h.symm.trans hc)) hn

/-- Tile `t` holds the fields of the value `v` and fresh parity (R86, R539). -/
def tileWritten (t : Nat) (v : Word) (s : State) : State :=
  s.modTile t (fun x => { x with
    on := bit v 0, range := BitVec.ofNat 2 (bits v 4 2), ttrim := BitVec.ofNat 8 (bits v 8 8), parityBad := false })

theorem tileParity_good {t : Nat} {s : State} (hp : (s.tile t).parityBad = false) (hf : fails 8 1 false s = false) :
    tileParity t s = s := by
  simp only [tileParity, hp, hf, check_quiet _ _ _ _ _ hf, Bool.false_eq_true, if_false]

/-- The order of the refusals where the stored parity is good: the compatibility modes, then the limit (R83, R96). -/
theorem tileCtrlWrite_of_parity {t : Nat} {s : State} (h : tileParity t s = s) (v : Word) :
    tileCtrlWrite t v s =
      if trimsLocked t v s = true then (s, stBadState)
      else if (!currentAllowed (bits v 4 2) s.arr.gtrim.toNat (bits v 8 8)) = true then (s, stBadParam)
      else (tileWritten t v s, stOk) := by
  unfold tileCtrlWrite
  rw [h]
  rfl

theorem tileCtrlWrite_locked {t : Nat} {v : Word} {s : State} (h : tileParity t s = s) (hc : s.compat = true)
    (hn : ¬ KeepsTrims t v s) : tileCtrlWrite t v s = (s, stBadState) := by
  rw [tileCtrlWrite_of_parity h, if_pos ((trimsLocked_iff t v s).mpr ⟨hc, hn⟩)]

theorem tileCtrlWrite_stored {t : Nat} {v : Word} {s : State} (h : tileParity t s = s)
    (hk : s.compat = false ∨ KeepsTrims t v s) (hl : fullScale (bits v 4 2) s.arr.gtrim.toNat (bits v 8 8) ≤ 3200000) :
    tileCtrlWrite t v s = (tileWritten t v s, stOk) := by
  have ha := (currentAllowed_iff _ _ _).mpr hl
  rw [tileCtrlWrite_of_parity h, trimsLocked_eq_false hk, ha]
  rfl

theorem tileCtrlWrite_overLimit {t : Nat} {v : Word} {s : State} (h : tileParity t s = s)
    (hk : s.compat = false ∨ KeepsTrims t v s) (hl : 3200000 < fullScale (bits v 4 2) s.arr.gtrim.toNat (bits v 8 8)) :
    tileCtrlWrite t v s = (s, stBadParam) := by
  have ha := Bool.eq_false_iff.mpr (mt (currentAllowed_iff _ _ _).mp (Nat.not_le.mpr hl))
  rw [tileCtrlWrite_of_parity h, trimsLocked_eq_false hk, ha]
  rfl

/-! ### ARRAY_CTRL -/

theorem arrayCtrlWrite_compat (v : Word) {s : State} (hc : s.compat = true) : arrayCtrlWrite v s = (s, stBadState) :=
  if_pos hc

theorem arrayCtrlWrite_native (v : Word) {s : State} (hc : s.compat = false) :
    arrayCtrlWrite v s =
      if gtrimAllowed (bits v 0 8) s = true then (s.modArr (fun a => { a with gtrim := v.setWidth 8 }), stOk)
      else (s, stBadParam) :=
  if_neg (Bool.eq_false_iff.mp hc)

/-- Settles O13: each register's write is stored, over the limit or locked, one lemma for each. -/
theorem tileControlKeepsCurrentLimit : Obligations.TileControlKeepsCurrentLimit := by
  refine ⟨fun src t v s hr hp hf => ?_, fun src v s hr => ⟨fun hc hl => ?_, fun hc hl => ?_, fun hc => ?_⟩⟩
  · have hq : tileParity t s = s := tileParity_good hp hf
    refine ⟨fun hk hl => ?_, fun hk hl => ?_, fun hc hn => ?_⟩
    · rw [exec_tileCtrlWrite hr, tileCtrlWrite_stored hq hk hl]
      rfl
    · rw [exec_tileCtrlWrite hr, tileCtrlWrite_overLimit hq hk hl]
    · rw [exec_tileCtrlWrite hr, tileCtrlWrite_locked hq hc hn]
  · rw [exec_arrayCtrlWrite hr, arrayCtrlWrite_native v hc, if_pos ((gtrimAllowed_iff _ _).mpr hl)]
    rfl
  · have hg : ¬ gtrimAllowed (bits v 0 8) s = true := by
      obtain ⟨x, hx, hover⟩ := hl
      exact fun e => Nat.not_le.mpr hover ((gtrimAllowed_iff _ _).mp e x hx)
    rw [exec_arrayCtrlWrite hr, arrayCtrlWrite_native v hc, if_neg hg]
  · rw [exec_arrayCtrlWrite hr, arrayCtrlWrite_compat v hc]

end Sys2Proof.Machine
end

section
/-! TILE_OC_TRIP and VLED_MEASURE (R84, R89, R90). -/

namespace Sys2Proof.Machine

/-! ### The over-current trip (R84) -/

theorem exec_tileOcTrip {t : Fin 256} {s : State} (ha : arrayOn s = true)
    (hc : (s.tile t).swClosed = true ∨ (s.tile t).swStuck = true) :
    exec (.tileOcTrip t) s = .next (settle (((s.modTile t (fun x => { x with
      ocTrip := true, ocPend := true, ocCnt := satInc 8 x.ocCnt })).hit 8 (0x40 * t + 4) 2).hit 8 (0x40 * t + 0x14) 0)) := by
  have h : (arrayOn s && ((s.tile t).swClosed || (s.tile t).swStuck)) = true := by
    simp only [ha, Bool.true_and, Bool.or_eq_true, hc]
  show done _ = _
  rw [if_pos h, done]

/-! ### The measurement (R89, R90) -/

theorem exec_vledMeasure (die sense : Nat) (rails : List Nat) {s : State} (ha : arrayOn s = true) :
    exec (.vledMeasure die sense rails) s = .next (settle (measureVled die sense (measureRails rails s))) := by
  show done _ = _
  rw [if_pos ha, done]

/-- The measurement of VLED at sense contacts that are live and agree with the die, as the registers hold it; `low` where it
is below 2.9 V (R89, R90). -/
def vledStored (die sense : Nat) (low : Bool) (s : State) : State :=
  (s.hitIf low 8 0x4004 3).modArr (fun a => { a with
    snsUsed := true, vled := mv13 sense, vledDie := mv13 die, vledOk := !low, vledLow := a.vledLow || low, vledWasHigh := false })

/-- Sense contacts that are live, agree with the die and read no more than 4.75 V raise VLED_LOW or nothing (R89, R90). -/
theorem measureVled_agreeing {die sense : Nat} (hl : 2000 < sense) (hd : distance sense die ≤ 250) (hh : sense ≤ 4750)
    (s : State) :
    measureVled die sense s =
      if sense < 2900 then raiseFault 8 2 0 true false (vledStored die sense true s) else vledStored die sense false s := by
  have hn : ¬ 4750 < sense := Nat.not_lt.mpr hh
  by_cases hv : sense < 2900 <;> simp [measureVled, vledStored, State.hitIf, hl, hd, hn, hv]

/-- Settles O14: the trip by `exec_tileOcTrip`, the measurement by `measureVled_agreeing`. -/
theorem arraySupplyIsMeasured : Obligations.ArraySupplyIsMeasured := by
  refine ⟨fun t s ha hc => exec_tileOcTrip ha hc, fun die sense rails s ha hl hd => ⟨fun hv hh => ?_, fun hv => ?_⟩⟩
  · rw [exec_vledMeasure die sense rails ha, measureVled_agreeing hl hd hh, if_neg (Nat.not_lt.mpr hv)]
    rfl
  · have hh : sense ≤ 4750 := hv.le.trans (by decide)
    rw [exec_vledMeasure die sense rails ha, measureVled_agreeing hl hd hh, if_pos hv]
    rfl

end Sys2Proof.Machine
end

section
/-! LP_REG_WRITE (R105, R132, R134). -/

namespace Sys2Proof.Machine

/-- A light-pipeline register write that is made and meets no parity error is `lpWrite` and the closing of the evaluation. -/
theorem exec_lpRegWrite {src : RegSrc} {e : Eng} {s : State} (hr : regReady (engBlk e) src s = true)
    (hq : fails (engBlk e) 1 false s = false) {off : BitVec 16} (v : Word) (ha : off.toNat % 4 = 0)
    (hi : inLp off.toNat = true) :
    exec (.lpRegWrite src e off v) s =
      .next (settle { (lpWrite e off.toNat v s).1 with lastStatus := (lpWrite e off.toNat v s).2 }) := by
  show done _ = _
  rw [writeAt_ready _ _ _ _ _ hr ha]
  simp [done, hi, engAccess, check_quiet _ _ _ _ _ hq]

/-! ### Each register's own checks -/

/-- LP_CTRL: the compatibility modes are refused first, then K = 0 (R132, Table 04.7). -/
theorem lpWrite_ctrl (e : Eng) (v : Word) (s : State) :
    lpWrite e 0x8000 v s =
      if s.compat = true then (s, stBadState)
      else if bits v 0 6 = 0 then (s, stBadParam)
      else (modLpRegs (fun r => { r with ctrl := v &&& 0x333F }) s, stOk) :=
  if_pos rfl

/-- I_BUDGET is 100 to 8000 mA (R134). -/
theorem lpWrite_iBudget (e : Eng) (v : Word) (s : State) :
    lpWrite e 0x8008 v s =
      if bits v 0 14 < 100 ∨ 8000 < bits v 0 14 then (s, stBadParam)
      else (modLpRegs (fun r => { r with iBudget := BitVec.ofNat 14 (bits v 0 14) }) s, stOk) := by
  simp [lpWrite, setBudget]

/-- B_INIT is 1 to 65,536 (Table 04.9). -/
theorem lpWrite_bInit (e : Eng) (v : Word) (s : State) :
    lpWrite e 0x800C v s =
      if bits v 0 17 = 0 ∨ 65536 < bits v 0 17 then (s, stBadParam)
      else (modLpRegs (fun r => { r with bInit := v.setWidth 17 }) s, stOk) := by
  simp [lpWrite]

/-! ### The write as a command -/

section
variable {src : RegSrc} {e : Eng} {s : State} (hr : regReady (engBlk e) src s = true)
  (hq : fails (engBlk e) 1 false s = false) {off : BitVec 16} {v : Word} (ha : off.toNat % 4 = 0)
  (hi : inLp off.toNat = true)
include hr hq ha hi

/-- A value that its register takes is held in both pipelines, and both have it pending (R105). -/
theorem exec_lpRegWrite_both {f : LpRegs → LpRegs} (h : lpWrite e off.toNat v s = (modLpRegs f s, stOk)) :
    exec (.lpRegWrite src e off v) s = .next (settle { modLpRegs f s with lastStatus := stOk }) := by
  rw [exec_lpRegWrite hr hq v ha hi, h]

/-- A refused value leaves its status and nothing else. -/
theorem exec_lpRegWrite_refused {st : BitVec 8} (h : lpWrite e off.toNat v s = (s, st)) :
    exec (.lpRegWrite src e off v) s = .next (settle { s with lastStatus := st }) := by
  rw [exec_lpRegWrite hr hq v ha hi, h]

end

/-- Settles O15: for each of the three registers, its own checks decide between a value stored in both pipelines
(`exec_lpRegWrite_both`) and a refusal (`exec_lpRegWrite_refused`). -/
theorem lightRegistersReachBothPipelines : Obligations.LightRegistersReachBothPipelines := by
  intro src e v s hr hq
  refine ⟨fun hc hk => ?_, fun hc => ?_, fun hc hk => ?_, fun hl hh => ?_, fun hb => ?_, fun hl hh => ?_, fun hb => ?_⟩
  · have h := (lpWrite_ctrl e v s).trans ((if_neg (Bool.eq_false_iff.mp hc)).trans (if_neg hk))
    rw [exec_lpRegWrite_both hr hq (off := 0x8000) rfl rfl h]
    rfl
  · exact exec_lpRegWrite_refused hr hq rfl rfl ((lpWrite_ctrl e v s).trans (if_pos hc))
  · have h := (lpWrite_ctrl e v s).trans ((if_neg (Bool.eq_false_iff.mp hc)).trans (if_pos hk))
    exact exec_lpRegWrite_refused hr hq rfl rfl h
  · have h := (lpWrite_iBudget e v s).trans (if_neg (by omega))
    rw [exec_lpRegWrite_both hr hq (off := 0x8008) rfl rfl h]
    rfl
  · exact exec_lpRegWrite_refused hr hq rfl rfl ((lpWrite_iBudget e v s).trans (if_pos hb))
  · have h := (lpWrite_bInit e v s).trans (if_neg (by omega))
    rw [exec_lpRegWrite_both hr hq (off := 0x800C) rfl rfl h]
    rfl
  · exact exec_lpRegWrite_refused hr hq rfl rfl ((lpWrite_bInit e v s).trans (if_pos hb))

end Sys2Proof.Machine
end

section
/-! Fields of words that are put together from parts (R7). -/

namespace Sys2Proof.Machine

theorem bits_testBit (w : Word) (lo len i : Nat) : (bits w lo len).testBit i = (decide (i < len) && w.getLsbD (lo + i)) := by
  simp [bits, Nat.testBit_mod_two_pow, Nat.testBit_shiftRight, BitVec.testBit_toNat]

theorem put_getLsbD (lo v i : Nat) : (put lo v).getLsbD i = (decide (i < 32) && decide (lo ≤ i) && v.testBit (i - lo)) := by
  simp [put, BitVec.getLsbD_ofNat, Nat.testBit_shiftLeft, Bool.and_assoc]

theorem bits_or (a b : Word) (lo len : Nat) : bits (a ||| b) lo len = bits a lo len ||| bits b lo len := by
  apply Nat.eq_of_testBit_eq
  intro i
  simp only [Nat.testBit_or, bits_testBit, BitVec.getLsbD_or, Bool.and_or_distrib_left]

/-- A field put into a word reads back. -/
theorem bits_put_same {lo len v : Nat} (hv : v < 2 ^ len) (hl : lo + len ≤ 32) : bits (put lo v) lo len = v := by
  apply Nat.eq_of_testBit_eq
  intro i
  rw [bits_testBit, put_getLsbD]
  by_cases hi : i < len
  · simp [hi, show lo + i < 32 by omega]
  · simp [hi, Nat.testBit_lt_two_pow (Nat.lt_of_lt_of_le hv (Nat.pow_le_pow_right (by decide) (Nat.le_of_not_lt hi)))]

/-- A part above a field leaves it 0. -/
theorem bits_put_above {l lo len : Nat} (v : Nat) (h : lo + len ≤ l) : bits (put l v) lo len = 0 := by
  apply Nat.eq_of_testBit_eq
  intro i
  rw [bits_testBit, put_getLsbD, Nat.zero_testBit]
  by_cases hi : i < len
  · simp [show ¬ l ≤ lo + i by omega]
  · simp [hi]

/-- A part below a field leaves it 0. -/
theorem bits_put_below {l n lo v : Nat} (len : Nat) (hv : v < 2 ^ n) (h : l + n ≤ lo) : bits (put l v) lo len = 0 := by
  apply Nat.eq_of_testBit_eq
  intro i
  have hb : v.testBit (lo + i - l) = false :=
    Nat.testBit_lt_two_pow (Nat.lt_of_lt_of_le hv (Nat.pow_le_pow_right (by decide) (by omega)))
  rw [bits_testBit, put_getLsbD, Nat.zero_testBit, hb]
  simp

/-! ### The CRC-8 of a word (Table 19.1) -/

theorem crcBit_lt (p : CrcP) (run b : Nat) : crcBit p run b < 2 ^ p.width := by
  have h : (run * 2) % 2 ^ p.width < 2 ^ p.width := Nat.mod_lt _ (Nat.two_pow_pos _)
  unfold crcBit
  extract_lets top r
  split
  · exact Nat.xor_lt_two_pow h (Nat.mod_lt _ (Nat.two_pow_pos _))
  · exact h

theorem crc8_lt (m : List Byte) : crc8 m < 2 ^ 8 := by
  have hb (run : Nat) (v : Byte) : crcByte crc8P run v < 2 ^ 8 := crcBit_lt crc8P _ _
  have hf (run : Nat) (h : run < 2 ^ 8) : m.foldl (crcByte crc8P) run < 2 ^ 8 := by
    induction m generalizing run with
    | nil => exact h
    | cons v m ih => exact ih _ (hb run v)
  exact Nat.xor_lt_two_pow (hf _ (by decide)) (by decide)

theorem setField_getLsbD (w : Word) (lo len v i : Nat) :
    (setField w lo len v).getLsbD i =
      if lo ≤ i ∧ i < lo + len then decide (i < 32) && v.testBit (i - lo) else w.getLsbD i := by
  have hm : (2 ^ len - 1).testBit (i - lo) = decide (i - lo < len) := Nat.testBit_two_pow_sub_one ..
  simp only [setField, BitVec.getLsbD_or, BitVec.getLsbD_and, BitVec.getLsbD_not, put_getLsbD, hm, Nat.testBit_mod_two_pow]
  by_cases h32 : i < 32
  · by_cases hlo : lo ≤ i
    · by_cases hi : i < lo + len
      · simp [h32, hlo, hi, show i - lo < len by omega]
      · simp [h32, hlo, hi, show ¬ i - lo < len by omega]
    · simp [h32, hlo]
  · simp [h32, BitVec.getLsbD_of_ge w i (by omega)]

/-- Bits above a field that is replaced stay. -/
theorem bits_setField_above {w : Word} {lo len l n : Nat} (v : Nat) (h : lo + len ≤ l) :
    bits (setField w lo len v) l n = bits w l n := by
  apply Nat.eq_of_testBit_eq
  intro i
  rw [bits_testBit, bits_testBit, setField_getLsbD, if_neg (by omega)]

theorem bits_setField_same {w : Word} {lo len v : Nat} (hv : v < 2 ^ len) (hl : lo + len ≤ 32) :
    bits (setField w lo len v) lo len = v := by
  apply Nat.eq_of_testBit_eq
  intro i
  rw [bits_testBit, setField_getLsbD]
  by_cases hi : i < len
  · simp [hi, show lo + i < 32 by omega]
  · simp [hi, Nat.testBit_lt_two_pow (Nat.lt_of_lt_of_le hv (Nat.pow_le_pow_right (by decide) (Nat.le_of_not_lt hi)))]

theorem upper24_withCrc8 (w : Word) : upper24 (withCrc8 w) = upper24 w := by
  have h (k : Nat) (hk : 8 ≤ k) : (withCrc8 w >>> k).setWidth 8 = (w >>> k).setWidth 8 := by
    apply BitVec.eq_of_getLsbD_eq
    intro i _
    have hout : ¬ (0 ≤ k + i ∧ k + i < 0 + 8) := by omega
    simp only [BitVec.getLsbD_setWidth, BitVec.getLsbD_ushiftRight, withCrc8, setField_getLsbD, if_neg hout]
  simp only [upper24, h 24 (by decide), h 16 (by decide), h 8 (by decide)]

theorem crc8Ok_withCrc8 (w : Word) : crc8Ok (withCrc8 w) = true := by
  rw [crc8Ok, upper24_withCrc8, beq_iff_eq]
  exact bits_setField_same (crc8_lt _) (by decide)

end Sys2Proof.Machine
end

section
/-! Layer commands (R138, R139, R144, R145, R158, R159, R161, R165, R175). -/

namespace Sys2Proof.Machine

/-! ### When layer commands are taken (R174, Table 05.4) -/

theorem layerOp_on {s : State} (hc : s.compat = false) (hd : deep s.pwr.pstate = false) (f : State → State × OpRes) :
    layerOp f s = f s := by
  simp [layerOp, hc, hd]

/-! ### LAYER_DEFINE, LAYER_ARM, FLIP, FENCE_SIGNAL and SPRITE_PLACE -/

theorem opFlip_ok (c : CmdCtx) {w : Word} {s : State} (hc : s.compat = false) (hd : deep s.pwr.pstate = false)
    (hw : within w 0xFF = true) : opFlip c [w] s = endWith stOk (releaseMask (bits w 0 8) s) := by
  simp only [opFlip, layerOp_on hc hd, List.getD_cons_zero, hw, if_true]

theorem opFenceSignal_ok (c : CmdCtx) {w : Word} {s : State} (hc : s.compat = false) (hd : deep s.pwr.pstate = false)
    (hw : within w 0x001FFFFF = true) :
    opFenceSignal c [w] s = endWith stOk { s with
      store := { s.store with fences := modAt s.store.fences (bits w 16 5) (fun _ => w.setWidth 16) } } := by
  simp only [opFenceSignal, layerOp_on hc hd, List.getD_cons_zero, hw, if_true]

/-- What LAYER_DEFINE stages (Table 11.5). -/
def definedDesc (g1 g2 g3 g4 g5 g6 g7 : Word) : LayerDesc :=
  { ctrl := g1, srcPos := g2, srcSize := g3, dstPos := g4, dstSize := g5, fill := g6.setWidth 16
    actTo := BitVec.ofNat 10 (bits g7 22 10) }

/-- The arm that LAYER_ARM makes of a staged descriptor (R145). -/
def newArm (w0 w1 : Word) (d : LayerDesc) : Arm :=
  { desc := d, buf := bits w0 8 6, useFence := bit w0 16, fence := bits w0 20 5, waitVal := w1.setWidth 16,
    held := bit w0 31 }

theorem opLayerArm_ok (c : CmdCtx) {w0 w1 : Word} {s : State} (hc : s.compat = false) (hd : deep s.pwr.pstate = false)
    (h0 : within w0 0x81F13F07 = true) (h1 : within w1 0xFFFF = true)
    (hu : (s.buf (bits w0 8 6)).state = .loading ∨ (s.buf (bits w0 8 6)).state = .complete)
    (hf : ((s.buf (bits w0 8 6)).format == 8) = (curLayer (bits w0 0 3) s).staged.sprite)
    (hg : (curLayer (bits w0 0 3) s).staged.sprite = true ∨
      armGeometryOk (curLayer (bits w0 0 3) s).staged (s.buf (bits w0 8 6)) = true) :
    opLayerArm c [w0, w1] s = endWith stOk (noteLoad (noteArmed (s.modBoth (fun x =>
      x.modLayer (bits w0 0 3) (fun l => { l with arm := some (newArm w0 w1 (curLayer (bits w0 0 3) s).staged) }))))) := by
  have hstate : ((s.buf (bits w0 8 6)).state == .free || (s.buf (bits w0 8 6)).state == .invalid) = false := by
    rcases hu with h | h <;> rw [h] <;> rfl
  have hgeo : (!(curLayer (bits w0 0 3) s).staged.sprite &&
      !armGeometryOk (curLayer (bits w0 0 3) s).staged (s.buf (bits w0 8 6))) = false := by
    rcases hg with h | h <;> simp [h]
  simp only [opLayerArm, layerOp_on hc hd, List.getD_cons_zero, List.getD_cons_succ, h0, h1, hstate, hf, hgeo,
    bne_self_eq_false, Bool.not_true, Bool.or_false, Bool.false_eq_true, if_false]
  rfl

theorem opSpritePlace_ok (c : CmdCtx) {w0 : Word} {rest : List Word} {s : State} (hc : s.compat = false)
    (hd : deep s.pwr.pstate = false) (h0 : within w0 0x1F07 = true) (hn : bits w0 8 5 = (pairs rest).length % 32)
    (hm : (pairs rest).length ≤ 32)
    (hp : ∀ p ∈ pairs rest, within p.1 0xFFFF9FFF = true ∧ within p.2 0x1FFF1FFF = true ∧
      bits p.1 0 8 < libSize (curLayer (bits w0 0 3) s) s)
    (hs : (curLayer (bits w0 0 3) s).staged.sprite = true) :
    opSpritePlace c (w0 :: rest) s = endWith stOk (noteArmed ((pairs rest).foldl (fun s p =>
      placeSprite (bits w0 0 3) (bits p.1 8 5) ⟨p.1 &&& 0xFFFF80FF, p.2⟩ s) s)) := by
  have hfields : (pairs rest).any (fun p => !within p.1 0xFFFF9FFF || !within p.2 0x1FFF1FFF) = false := by
    rw [List.any_eq_false]
    intro p h
    obtain ⟨h1, h2, -⟩ := hp p h
    rw [h1, h2]; decide
  have hlib : (pairs rest).any (fun p => decide (libSize (curLayer (bits w0 0 3) s) s ≤ bits p.1 0 8)) = false := by
    rw [List.any_eq_false]
    intro p h
    obtain ⟨-, -, h3⟩ := hp p h
    simpa using h3
  have hmany : decide (32 < (pairs rest).length) = false := decide_eq_false (Nat.not_lt.mpr hm)
  simp only [opSpritePlace, layerOp_on hc hd, List.getD_cons_zero, List.drop_succ_cons, List.drop_zero, h0, hn, hs,
    hfields, hlib, hmany, bne_self_eq_false, Bool.not_true, Bool.or_false, Bool.false_eq_true, if_false]

/-- Settles O5: each command with acceptable parameters ends OK with its one change. -/
theorem layersAreDefinedArmedAndFenced : Obligations.LayersAreDefinedArmedAndFenced := by
  refine ⟨fun c g0 g1 g2 g3 g4 g5 g6 g7 s h hc hd h0 h1 h2 h3 h4 h5 h6 h7 hl hs hz ha => ?_,
    fun c w0 w1 s h hc hd h0 h1 => ?_, fun c w s h hc hd hw => ?_, fun c w s h hc hd hw => ?_,
    fun c w0 rest s h hc hd h0 hn hm hp hs => ?_⟩
  · have ha' : (bits g7 30 2 == 3) = false := beq_eq_false_iff_ne.mpr ha
    have e : opLayerDefine c [g0, g1, g2, g3, g4, g5, g6, g7] s =
        endWith stOk (stageLayer (bits g0 0 3) (fun _ => definedDesc g1 g2 g3 g4 g5 g6 g7) s) := by
      simp only [opLayerDefine, layerOp_on hc hd, List.getD_cons_zero, List.getD_cons_succ, h0, h1, h2, h3, h4, h5,
        h6, h7, hl, hs, hz, ha', Bool.not_true, Bool.or_false, Bool.false_eq_true, if_false]
      rfl
    exact congrArg Host.Outcome.next (fast_answered h e)
  · exact fun hu hf hg => congrArg Host.Outcome.next (fast_answered h (opLayerArm_ok c hc hd h0 h1 hu hf hg))
  · exact congrArg Host.Outcome.next (fast_answered h (opFlip_ok c hc hd hw))
  · exact congrArg Host.Outcome.next (fast_answered h (opFenceSignal_ok c hc hd hw))
  · exact congrArg Host.Outcome.next (fast_answered h (opSpritePlace_ok c hc hd h0 hn hm hp hs))

/-! ### WRITEBACK -/

/-- An accepted command changes its port, the command engine and the marks of the clock alone. -/
theorem accepted_keeps {α : Type} (f : State → α)
    (hf : ∀ (s : State) (h0 h1 : Port) (spi : SpiPort) (cmd : Cmd) (base : Base),
      f { s with h0 := h0, h1 := h1, spi := spi, cmd := cmd, base := base } = f s)
    (code : Nat) (c : CmdCtx) (ws : List Word) (s : State) : f (accepted code c ws s) = f s := by
  have h (b : Bool) (k o n : Nat) (u : State) : ∃ x, u.hitIf b k o n = { u with base := x } := by
    unfold State.hitIf; split
    · exact ⟨_, rfl⟩
    · exact ⟨u.base, rfl⟩
  unfold accepted reply
  cases hp : c.port with
  | h0 =>
    obtain ⟨x, hx⟩ := h (stAccepted == stBusy) 1 0x114 0 (noteSession c s)
    simp only [hx]
    exact hf s _ _ _ _ _
  | h1 =>
    obtain ⟨x, hx⟩ := h (stAccepted == stBusy) 2 0x114 0 (noteSession c s)
    simp only [hx]
    exact hf s _ _ _ _ _
  | spi => exact hf s _ _ _ _ _

section
variable (code : Nat) (c : CmdCtx) (ws : List Word) (s : State)

theorem accepted_compat : (accepted code c ws s).compat = s.compat :=
  accepted_keeps State.compat (fun _ _ _ _ _ _ => rfl) code c ws s

theorem accepted_pwr : (accepted code c ws s).pwr = s.pwr := accepted_keeps State.pwr (fun _ _ _ _ _ _ => rfl) code c ws s

theorem accepted_comp : ((accepted code c ws s).eng (composer (accepted code c ws s))).comp = (s.eng (composer s)).comp :=
  accepted_keeps (fun s => (s.eng (composer s)).comp) (fun _ _ _ _ _ _ => rfl) code c ws s

theorem accepted_bufInUse (b : Nat) : bufInUse b (accepted code c ws s) = bufInUse b s :=
  accepted_keeps (bufInUse b) (fun _ _ _ _ _ _ => rfl) code c ws s

theorem accepted_pagesFree : pagesFree (accepted code c ws s) = pagesFree s :=
  accepted_keeps pagesFree (fun _ _ _ _ _ _ => rfl) code c ws s

theorem accepted_buf (b : Nat) : (accepted code c ws s).buf b = s.buf b :=
  accepted_keeps (fun s => s.buf b) (fun _ _ _ _ _ _ => rfl) code c ws s

end

/-- A write-back buffer as WRITEBACK makes it, for its word `w` (R165). -/
def wbFresh (w : Word) : Buffer :=
  let size := bufSize (if bit w 1 then 0 else 3) 1024 1024
  { state := .loading, format := if bit w 1 then 0 else 3, w := 1024, h := 1024, pages := pagesOf size, size := size,
    source := 2 }

/-- Both buffers that WRITEBACK names wait for their frames (R165). -/
def wbLoading (w : Word) (s : State) : State :=
  ((dropLoads (bits w 16 8) (dropLoads (bits w 8 8) s)).modBuf (bits w 8 8) (fun _ => wbFresh w)).modBuf (bits w 16 8)
    (fun _ => wbFresh w)

/-- The buffers configured before are released (R165, R168). -/
def releasePair (s : State) : State := (wbBufs (s.eng (composer s)).comp).foldl (fun s b => releaseBuf b s) s

/-- What WRITEBACK writes to the composition state of an engine, but for the port (R165). -/
def wbConfigured (w : Word) (y : Comp) : Comp :=
  { y with wbCtrl := w, wbCur := none, wbTarget := none, wbDone := false, wbCount := 0, pend := true }

theorem opWriteback_start (c : CmdCtx) {w : Word} {s : State} (hc : s.compat = false) (hd : deep s.pwr.pstate = false)
    (hw : within w 0xFFFFFF0E = true) (ht : bits w 2 2 = 1 ∨ bits w 2 2 = 2) (hab : bits w 8 8 ≠ bits w 16 8)
    (ha : bits w 8 8 < 64) (hb : bits w 16 8 < 64) (hua : bufInUse (bits w 8 8) s = false)
    (hub : bufInUse (bits w 16 8) s = false)
    (hp : 2 * (wbFresh w).pages ≤ pagesFree s + (s.buf (bits w 8 8)).pages + (s.buf (bits w 16 8)).pages) :
    opWriteback c [w] s = endWith stOk ((wbLoading w (releasePair s)).modBoth
      (fun x => x.modComp (fun y => { wbConfigured w y with wbPort := portNo c.port }))) := by
  have h3 : (bits w 2 2 == 3) = false := by rcases ht with h | h <;> rw [h] <;> rfl
  have h0 : ¬ bits w 2 2 = 0 := by omega
  have hpair : (bits w 8 8 == bits w 16 8 || decide (64 ≤ bits w 8 8) || decide (64 ≤ bits w 16 8)) = false := by
    simp [hab, ha, hb]
  have hroom : ¬ pagesFree s + (s.buf (bits w 8 8)).pages + (s.buf (bits w 16 8)).pages <
      2 * pagesOf (bufSize (if bit w 1 = true then 0 else 3) 1024 1024) := Nat.not_lt.mpr hp
  simp only [opWriteback, layerOp_on hc hd, List.getD_cons_zero, hw, h3, hpair, hua, hub, if_neg h0, if_neg hroom,
    Bool.not_true, Bool.and_false, Bool.or_self, Bool.false_eq_true, if_false]
  rfl

theorem opWriteback_stop (c : CmdCtx) {w : Word} {s : State} (hc : s.compat = false) (hd : deep s.pwr.pstate = false)
    (hw : within w 0xFFFFFF0E = true) (ht : bits w 2 2 = 0) :
    opWriteback c [w] s = endWith stOk ((releasePair s).modBoth (fun x => x.modComp (wbConfigured w))) := by
  simp only [opWriteback, layerOp_on hc hd, List.getD_cons_zero, hw, ht, Bool.not_true, bne_self_eq_false, Bool.false_and,
    Bool.or_self, Bool.false_eq_true, if_false, if_true, Nat.reduceBEq]
  rfl

theorem within_clearField {w mask : Word} (lo len : Nat) (h : within w mask = true) :
    within (setField w lo len 0) mask = true := by
  simp only [within, beq_iff_eq] at h ⊢
  rw [setField, Nat.zero_mod, show put lo 0 = 0#32 by simp [put], BitVec.or_zero, BitVec.and_assoc,
    BitVec.and_comm (~~~_), ← BitVec.and_assoc, h]
  exact BitVec.zero_and

/-- Settles O6: the command runs on the state in which it has been accepted, whose buffers and engines are those before. -/
theorem writebackConfiguresAndStops : Obligations.WritebackConfiguresAndStops := by
  refine ⟨fun c w s h hc hd hw ht hab ha hb hua hub hp => ?_, fun c w s h hc hd hw => ?_⟩
  · have e := slow_concluded h (opWriteback_start _ (accepted_compat 0x26 c [w] s ▸ hc)
      (accepted_pwr 0x26 c [w] s ▸ hd) hw ht hab
      ha hb (accepted_bufInUse 0x26 c [w] s _ ▸ hua) (accepted_bufInUse 0x26 c [w] s _ ▸ hub) (by
        rw [accepted_pagesFree, accepted_buf, accepted_buf]; exact hp))
    rw [releasePair, accepted_comp] at e
    exact congrArg Host.Outcome.next e
  · have e := slow_concluded h (opWriteback_stop _ (accepted_compat 0x26 c _ s ▸ hc) (accepted_pwr 0x26 c _ s ▸ hd)
      (within_clearField 2 2 hw) (bits_setField_same (by decide) (by decide)))
    rw [releasePair, accepted_comp] at e
    exact congrArg Host.Outcome.next e

/-! ### LAYER_FREE and the layers of a FAILED engine -/

/-- An engine that is FAILED, and whose copy of layer 0 still shows buffer 3. -/
def failedEngine : Engine :=
  Engine.modLayer { State.reset.engB with health := { State.reset.engB.health with role := .failed } } 0 (fun l => { l with
    actBuf := some 3 })

/-- Main is that engine; no layer of Fore shows the buffer. -/
def shownByFailed : State := { State.reset with engB := failedEngine }

/-- A command of the control SPI port without a session. -/
def plainCtx : CmdCtx := ⟨.spi, 0, 5, 0, false, 0⟩

/-- The free makes that layer show no buffer. -/
theorem layerFree_unshows :
    ∃ t, exec (.layerFree plainCtx [3, 0x00200040, 0, 0, 0]) shownByFailed = .next t ∧ (t.engB.layer 0).actBuf = none :=
  ⟨_, rfl, by decide +kernel⟩

/-- Refutes O4: buffer 3 is not in use where only a FAILED engine's copy of a layer shows it,
and LAYER_FREE then changes more than the buffer and XMEM's work: that layer shows none from there on, as R173 asks. -/
theorem not_buffersAreLoadedFreedAndKept : ¬ Obligations.BuffersAreLoadedFreedAndKept := by
  intro ⟨⟨_, hfree⟩, _⟩
  have hnext := hfree plainCtx 3 0x00200040 0 0 0 shownByFailed (by decide +kernel) (by decide +kernel) (by decide +kernel)
    (by decide +kernel) (by decide +kernel) (by decide +kernel) (by decide +kernel) (by decide +kernel)
  obtain ⟨t, ht, hnone⟩ := layerFree_unshows
  have hshown : (t.engB.layer 0).actBuf = some 3 := by
    rw [Host.Outcome.next.inj (ht.symm.trans hnext)]
    decide +kernel
  cases hnone.symm.trans hshown

end Sys2Proof.Machine
end

section
/-! CMD packets in a tunnel transaction (R290, R293, R509, R510). -/

namespace Sys2Proof.Machine

/-! ### The words of a packet -/

theorem ptypeNo_lt (t : PType) : ptypeNo t < 2 ^ 4 := by cases t <;> decide

theorem ptypeOf_ptypeNo (t : PType) : ptypeOf (ptypeNo t) = some t := by cases t <;> rfl

theorem headerWord0_type (k : Packet) : bits (headerWord0 k) 28 4 = ptypeNo k.ptype := by
  simp only [headerWord0, bits_or]
  rw [bits_put_same (ptypeNo_lt _) (by decide), bits_put_below 4 k.ch.isLt (by decide),
    bits_put_below 4 k.flags.isLt (by decide), bits_put_below 4 k.seq.isLt (by decide)]
  simp

theorem headerWord0_ch (k : Packet) : bits (headerWord0 k) 24 4 = k.ch.toNat := by
  simp only [headerWord0, bits_or]
  rw [bits_put_above _ (by decide), bits_put_same k.ch.isLt (by decide), bits_put_below 4 k.flags.isLt (by decide),
    bits_put_below 4 k.seq.isLt (by decide)]
  simp

theorem headerWord0_flags (k : Packet) : bits (headerWord0 k) 16 8 = k.flags.toNat := by
  simp only [headerWord0, bits_or]
  rw [bits_put_above _ (by decide), bits_put_above _ (by decide), bits_put_same k.flags.isLt (by decide),
    bits_put_below 8 k.seq.isLt (by decide)]
  simp

theorem headerWord0_seq (k : Packet) : (headerWord0 k).setWidth 16 = k.seq := by
  have h : bits (headerWord0 k) 0 16 = k.seq.toNat := by
    simp only [headerWord0, bits_or]
    rw [bits_put_above _ (by decide), bits_put_above _ (by decide), bits_put_above _ (by decide),
      bits_put_same k.seq.isLt (by decide)]
    simp
  apply BitVec.eq_of_toNat_eq
  rw [BitVec.toNat_setWidth, ← h]
  rfl

theorem bodyWords_length (k : Packet) : (bodyWords k).length = k.payload.length + 3 := by simp [bodyWords]

/-- A CMD packet of a tunnel with SEQ_RST set goes to the command engine, its channel's count taken from it. -/
theorem tunnelPacket_cmd {k : Packet} (ht : k.ptype = .cmd) (hch : k.ch.toNat ≤ 12) (hg : k.gap = false)
    (hr : k.flags.getLsbD 7 = true) (s : State) :
    tunnelPacket (bodyWords k) s =
      command .spi k { s with spi := { s.spi with expect := spSet s.spi.expect k.ch.toNat (k.seq + 1) } } := by
  have htr : trailerOf ((bodyWords k).take ((bodyWords k).length - 1)) =
    (bodyWords k).getD ((bodyWords k).length - 1) 0 := by
    simp [bodyWords]
  have h0 : (bodyWords k).getD 0 0 = headerWord0 k := rfl
  have hw : (bodyWords k).getD 1 0 = k.hw1 := rfl
  have hp : ((bodyWords k).drop 2).take ((bodyWords k).length - 3) = k.payload := by simp [bodyWords]
  have hs (e : Option (BitVec 16)) : seqClass e (k.flags.getLsbD 7) k.seq = .inOrder := by
    cases e <;> simp [seqClass, hr]
  have hk : ptypeOf (bits (headerWord0 k) 28 4) = some .cmd := by rw [headerWord0_type, ptypeOf_ptypeNo, ht]
  have hc : channelOk .cmd k.ch.toNat = true := by simpa [channelOk] using hch
  simp only [tunnelPacket, htr, h0, hw, hp, hk, hc, headerWord0_ch, headerWord0_flags, headerWord0_seq, BitVec.ofNat_toNat,
    BitVec.setWidth_eq, hs]
  simp [command, hg, packetCtx]

/-! ### A whole transaction (R509, R510) -/

theorem tunnelHeader_upper {l n : Nat} (len : Nat) (hl : 8 ≤ l) :
    bits (tunnelHeader len) l n = bits (put 24 0xFE ||| put 8 len) l n := bits_setField_above _ hl

theorem isTunnel_tunnelHeader {len : Nat} (h : len < 2 ^ 16) : isTunnel (tunnelHeader len) = true := by
  rw [isTunnel, tunnelHeader_upper _ (by decide), bits_or, bits_put_same (by decide) (by decide),
    bits_put_below 8 h (by decide)]
  rfl

theorem tunnelHeader_len {len : Nat} (h : len < 2 ^ 16) : bits (tunnelHeader len) 8 16 = len := by
  rw [tunnelHeader_upper _ (by decide), bits_or, bits_put_above _ (by decide), bits_put_same h (by decide), Nat.zero_or]

/-- Where no reply is queued the outgoing stream is zeros (R510). -/
theorem clockOut_empty (n : Nat) {s : State} (ho : s.spi.out = []) (hr : s.spi.replies = []) :
    clockOut n s = (s, List.replicate n 0) := by
  have h : nextOut s = (s, 0) := by simp [nextOut, ho, hr]
  induction n with
  | zero => rfl
  | succ n ih => simp [clockOut, h, ih, List.replicate_succ]

/-- A transaction of a whole packet delivers its body. -/
theorem tunnelTake_whole {b : List Word} (h3 : 3 ≤ b.length) (hmax : b.length ≤ 1027) (s : State) :
    tunnelTake (32 * (b.length + 1)) (tunnelHeader b.length :: b) s = tunnelPacket b s := by
  have hlt : b.length < 2 ^ 16 := by omega
  have hok : tunnelLenOk (tunnelHeader b.length) = true := by simp [tunnelLenOk, tunnelHeader_len hlt, h3, hmax]
  have hcrc : crc8Ok (tunnelHeader b.length) = true := crc8Ok_withCrc8 _
  have he : ¬ 32 * (b.length + 1) < 32 := by omega
  have hm : 32 * (b.length + 1) % 32 = 0 := by omega
  have hd : 32 * (b.length + 1) / 32 = b.length + 1 := by omega
  simp [tunnelTake, isTunnel_tunnelHeader hlt, he, hm, hd, hcrc, hok, tunnelHeader_len hlt, Nat.add_comm 1]

/-- In native mode, with nothing to send, a transaction of a whole packet clocks out zeros and delivers its body. -/
theorem spiPeriod_whole {b : List Word} {s : State} (hon : spiOn s = true) (hm : s.mode.ifMode = .native)
    (ho : s.spi.out = [])
    (hr : s.spi.replies = []) (h3 : 3 ≤ b.length) (hmax : b.length ≤ 1027) :
    spiPeriod (32 * (b.length + 1)) (tunnelHeader b.length :: b) false s = afterReplies .spi
      (tunnelPacket b { s with spi := { s.spi with lastSent := List.replicate (b.length + 1) 0 } }) := by
  have hc : s.compat = false := by simp [State.compat, hm]
  have hd : 32 * (b.length + 1) / 32 = b.length + 1 := by omega
  have hn (t : SpiPort) : nativeDue { s with spi := t } = false := by simp [nativeDue, hm]
  have hout : (if streamRuns ((tunnelHeader b.length :: b).getD 0 0) s then clockOut (b.length + 1 - 1) s
      else (s, List.replicate (b.length + 1 - 1) 0)) = (s, List.replicate b.length 0) := by
    rw [clockOut_empty _ ho hr, ite_self]; rfl
  rw [spiPeriod, if_neg (by simp [hon]), if_pos (.inl hm)]
  simp only [tunnelPeriod, hd, hout, hn, hc, tunnelTake_whole h3 hmax, Bool.not_false, Bool.or_true, if_true,
    Bool.false_eq_true, if_false]
  have htake : ((0 : Word) :: List.replicate b.length 0).take (b.length + 1) = List.replicate (b.length + 1) 0 := by
    rw [List.take_of_length_le (by simp)]; rfl
  rw [htake]

end Sys2Proof.Machine
end

section
/-! The receipt of commands and of layer data (R140, R298 to R301). -/

namespace Sys2Proof.Machine

theorem takeRx_head {p : HPort} {f : Packet → Bool} {k : Packet} {rest : List Packet} {s : State}
    (h : (s.hport p).rxq = k :: rest) (hf : f k = true) :
    takeRx p f s = some (k, s.modPort p (fun h => { h with rxq := rest })) := by
  have hd : dropFirst f (s.hport p).rxq = rest := by rw [h]; simp [dropFirst, hf]
  have hm : s.modPort p (fun h => { h with rxq := dropFirst f h.rxq }) = s.modPort p (fun h => { h with rxq := rest }) := by
    rw [← hd]; cases p <;> rfl
  simp only [takeRx, h, List.find?_cons, hf, hm]

/-! ### Commands -/

theorem command_gap {p : CmdPort} {k : Packet} {s : State} (hg : k.gap = true) (hr : reachable p s = true) :
    command p k s = reply (packetCtx p k) (bits k.hw1 24 8) stSeqGap [] s := by
  simp [command, hg, hr]

theorem command_inOrder (p : CmdPort) {k : Packet} (hg : k.gap = false) (s : State) :
    command p k s = submit (opExec (bits k.hw1 24 8)) (bits k.hw1 24 8) (packetCtx p k) k.payload s := by
  simp [command, hg]

theorem exec_cmdReceive {p : HPort} {k : Packet} {rest : List Packet} {s : State} (h : (s.hport p).rxq = k :: rest)
    (ht : k.ptype = .cmd) :
    exec (.cmdReceive p) s = .next (settle (command (cmdPort p) k (s.modPort p (fun h => { h with rxq := rest })))) := by
  have hx : takeRx p (fun k => k.ptype == .cmd) s = _ := takeRx_head h (by simp [ht])
  show execCmdReceive p s = _
  simp only [execCmdReceive, hx, done]

theorem reachable_modPort {p : HPort} {f : Port → Port} (q : CmdPort) {s : State}
    (h : (f (s.hport p)).state = (s.hport p).state ∧ (f (s.hport p)).role = (s.hport p).role) :
    reachable q (s.modPort p f) = reachable q s := by
  obtain ⟨hs, hr⟩ := h
  cases p <;> cases q <;> simp_all [reachable, State.modPort, State.hport]

/-- An unassigned opcode is answered with BAD_OPCODE (R298). -/
theorem submit_unassigned {op : OpFn} {code : Nat} {c : CmdCtx} {s : State} (ws : List Word) (h : opInfo code = none)
    (hr : reachable c.port s = true) (hl : (owed c.port s).length < 8) :
    submit op code c ws s = reply c code stBadOpcode [] s := by
  simp [submit, hr, Nat.not_le.mpr hl, h]

/-! ### Executions of a received command -/

/-- A POWER_STATE that names the present state changes nothing (R429). -/
theorem opPowerState_present (c : CmdCtx) (s : State) :
    opPowerState c [put 0 (pstateNo s.pwr.pstate)] s = endWith stOk s := by
  rw [opPowerState_named, askState, if_pos rfl]; rfl

theorem opFaultAck_on (c : CmdCtx) (b : Fin 18) (m : Word) {s : State} (ho : blockOff b.val s = false) :
    opFaultAck c [put 16 b.val, m] s = (clearSources b.val m s,
      .fin stOk [((clearSources b.val m s).win b.val).status]) := by
  have hw : ∀ b : Fin 18, within (put 16 b.val) 0x00FF0000 = true := by decide
  have hb : bits (put 16 b.val) 16 8 = b.val := bits_put_same (by omega) (by decide)
  have hr : decide (0x11 < b.val) = false := decide_eq_false (by omega)
  simp only [opFaultAck, List.getD_cons_zero, List.getD_cons_succ, hw b, hb, hr, ho, Bool.not_true, Bool.or_self,
    Bool.false_eq_true, if_false]

/-! ### The slow path (R299) -/

theorem coreRead_quiet {s : State} (h2 : fails 17 2 false s = false) (h3 : fails 17 3 false s = false) :
    coreRead 0 s = s := by
  show check 17 3 0 false (check 17 2 0 false s) = s
  rw [check_quiet 17 2 0 false s h2, check_quiet 17 3 0 false s h3]

/-- The slow path runs its oldest command where that has not begun, on cores that meet no error. -/
theorem exec_slowPathExecute {x : SlowCmd} {rest : List SlowCmd} {s : State} (h : s.cmd.slow = x :: rest)
    (hf : x.finished = false) (hb : x.started = false) (hv : vault s.pwr.pstate = false) (hr : s.pwr.inReset = false)
    (h2 : fails 17 2 false s = false) (h3 : fails 17 3 false s = false) :
    exec (.slowPathExecute ⟨0, 0, []⟩) s = .next (settle
      (afterReplies .spi (afterReplies .h1 (afterReplies .h0 (runSlow 0 (opExec x.opcode.toNat) x s))))) := by
  show execSlowPathExecute ⟨0, 0, []⟩ s = _
  have hx : s.cmd.slow.find? (fun x => !x.finished) = some x := by simp [h, hf]
  simp only [execSlowPathExecute, hv, hr, coreRead_quiet h2 h3, hx, hb, List.foldl_nil, Bool.or_self,
    Bool.false_eq_true, if_false, done]

/-- A command of the slow path that ends without words. -/
theorem runSlow_ends {ecc : Nat} {op : OpFn} {x : SlowCmd} {s t : State} {st : BitVec 8}
    (h : op (slowCtx ecc x) x.payload s = endWith st t) : runSlow ecc op x s = finishSlow x.port x.tag x.opcode st [] t := by
  rw [runSlow, h]; rfl

theorem opSetClass_refused (c : CmdCtx) {w : Word} {s : State} (hw : within w 3 = true) (hb : s.bstay.beam ≠ .normal) :
    opSetClass c [w] s = endWith stBadState s := by
  simp only [opSetClass, List.getD_cons_zero, hw, Bool.not_true, Bool.false_eq_true, if_false, if_pos hb]

theorem within_classCode (k : Fin 4) : within (put 0 k.val) 3 = true := by revert k; decide

/-! ### Layer data (R140) -/

theorem exec_layerDataReceive {p : HPort} {k : Packet} {rest : List Packet} {s : State} (h : (s.hport p).rxq = k :: rest)
    (ht : k.ptype = .layerData) :
    exec (.layerDataReceive p) s = .next (settle (storeLayer (bits k.hw1 24 8) (4 * bits k.hw1 0 24) (wordsBytes k.payload)
      (s.modPort p (fun h => { h with rxq := rest })))) := by
  have hx : takeRx p (fun k => k.ptype == .layerData) s = _ := takeRx_head h (by simp [ht])
  show execLayerDataReceive p s = _
  simp only [execLayerDataReceive, hx, done]

theorem storeLayer_noBuffer {b : Nat} (off : Nat) (bs : List Byte) (s : State) (h : 64 ≤ b) :
    storeLayer b off bs s = { s.hit 4 8 0 with store := { s.store with drop := satInc 16 s.store.drop } } := by
  simp [storeLayer, h]

/-- A buffer with the bytes of a LAYER_DATA packet at its byte offset (R140). -/
def layerTaken (off : Nat) (bs : List Byte) (u : Buffer) : Buffer :=
  { u with fill := u.fill + bs.length, crc := crc32More u.crc bs, bytes := memWrite 0 u.bytes off bs }

theorem buf_modBuf_same {b : Nat} {s : State} (h : b < s.store.bufs.length) (f : Buffer → Buffer) :
    (s.modBuf b f).buf b = f (s.buf b) := getD_modAt_same _ _ _ _ h

section
variable {b off : Nat} {bs : List Byte} {s : State} (hb : b < 64) (hl : (s.buf b).state = .loading)
    (hs : (s.buf b).source = 0)
include hb hl hs

theorem storeLayer_outOfOrder (ho : off ≠ (s.buf b).fill) : storeLayer b off bs s = bufInvalid b s := by
  rw [storeLayer, if_neg (by simp [hl, hs, hb]), if_pos (.inl ho)]

theorem storeLayer_inOrder (ho : off = (s.buf b).fill) (hm : (s.buf b).fill + bs.length < (s.buf b).size)
    (hn : s.store.bufs.length = 64) : storeLayer b off bs s = s.modBuf b (layerTaken off bs) := by
  have hv : (s.modBuf b (layerTaken off bs)).buf b = layerTaken off bs (s.buf b) := buf_modBuf_same (hn ▸ hb) _
  have hfit : ¬ (off ≠ (s.buf b).fill ∨ (s.buf b).size < off + bs.length) := by omega
  rw [storeLayer, if_neg (by simp [hl, hs, hb]), if_neg hfit]
  show (if ((s.modBuf b (layerTaken off bs)).buf b).fill < ((s.modBuf b (layerTaken off bs)).buf b).size then _ else _) = _
  rw [hv]
  exact if_pos hm

/-- The last byte completes a buffer that expects no CRC. -/
theorem storeLayer_last (ho : off = (s.buf b).fill) (hm : (s.buf b).fill + bs.length = (s.buf b).size)
    (he : (s.buf b).expect = none) (hn : s.store.bufs.length = 64) :
    storeLayer b off bs s = bufComplete b (s.modBuf b (layerTaken off bs)) := by
  have hv : (s.modBuf b (layerTaken off bs)).buf b = layerTaken off bs (s.buf b) := buf_modBuf_same (hn ▸ hb) _
  have hfit : ¬ (off ≠ (s.buf b).fill ∨ (s.buf b).size < off + bs.length) := by omega
  have hfull : ¬ (layerTaken off bs (s.buf b)).fill < (layerTaken off bs (s.buf b)).size := by
    show ¬ (s.buf b).fill + bs.length < (s.buf b).size
    omega
  have hexp : (layerTaken off bs (s.buf b)).expect = none := he
  rw [storeLayer, if_neg (by simp [hl, hs, hb]), if_neg hfit]
  show (if ((s.modBuf b (layerTaken off bs)).buf b).fill < ((s.modBuf b (layerTaken off bs)).buf b).size then _ else _) = _
  rw [hv, if_neg hfull]
  change (match ((s.modBuf b (layerTaken off bs)).buf b).expect with | none => _ | some c => _) = _
  rw [hv, hexp]
  rfl

end

/-! ### The rows -/

/-- A command received in order runs as its own row, which hands the opcode's execution to the command engine. -/
theorem cmdReceive_row {p : HPort} {k : Packet} {rest : List Packet} {s : State} (h : (s.hport p).rxq = k :: rest)
    (ht : k.ptype = .cmd) (hg : k.gap = false) :
    exec (.cmdReceive p) s = .next (settle (submit (opExec (bits k.hw1 24 8)) (bits k.hw1 24 8)
      (packetCtx (cmdPort p) k) k.payload
      (s.modPort p (fun h => { h with rxq := rest })))) := by
  rw [exec_cmdReceive h ht, command_inOrder _ hg]

section
variable {p : HPort} {k : Packet} {rest : List Packet} {s : State} (h : (s.hport p).rxq = k :: rest) (ht : k.ptype = .cmd)
  (hg : k.gap = false)
include h ht hg

/-- A fast-path command received ends with its reply. -/
theorem cmdReceive_fast {code : Nat} {st : BitVec 8} {rs : List Word} {t : State} (hk : bits k.hw1 24 8 = code)
    (hf : fastReady code (packetCtx (cmdPort p) k) k.payload (s.modPort p (fun h => { h with rxq := rest })) = true)
    (e : opExec code (packetCtx (cmdPort p) k) k.payload (s.modPort p (fun h => { h with rxq := rest })) = (t, .fin st rs)) :
    exec (.cmdReceive p) s = .next (settle (reply (packetCtx (cmdPort p) k) code st rs t)) := by
  rw [cmdReceive_row h ht hg, hk, submit_fast_fin _ code _ _ _ t st rs hf e]

end

/-- Settles O51: a packet received goes to the command engine, whose row its opcode names; the slow path and the tunnel lead
there as well. -/
theorem receivedCommandsAct : Obligations.ReceivedCommandsAct := by
  refine ⟨fun p k rest s h ht => ?_, fun x rest s h hf hb hv hr h2 h3 => ?_,
    fun k s hon hm ho hr ht hch hlen hg hrst => ?_, fun p k rest s h ht => ?_⟩
  · intro s1 c
    have hreach : reachable (cmdPort p) s1 = reachable (cmdPort p) s := reachable_modPort _ ⟨rfl, rfl⟩
    have howed : owed (cmdPort p) s1 = owed (cmdPort p) s := by cases p <;> rfl
    have hpwr : s1.pwr = s.pwr := State.modPort_pwr s p _
    have hcompat : s1.compat = s.compat := congrArg (fun m : ModeSt => m.ifMode != .native) (State.modPort_mode s p _)
    have hbeam : s1.bstay = s.bstay := State.modPort_bstay s p _
    refine ⟨fun hg hr => ?_, fun hg => ?_, fun hg => ⟨cmdReceive_row h ht hg, fun hn hr hl => ?_, fun hk _ hf => ?_,
      fun hk hf => ?_, fun hk hf => ?_, fun w hw => ⟨fun hk hf hn hd hm => ?_, fun hk hf h1 h2 h3 h4 => ?_,
      fun hk hf hm hb => ?_, fun hk hf hp => ?_⟩, fun b m hk hw hf hoff => ?_⟩⟩
    · rw [exec_cmdReceive h ht, command_gap hg (hreach.trans hr)]
    · refine ⟨?_, ?_, ?_, ?_, ?_, ?_, ?_⟩ <;> intro hk <;> rw [cmdReceive_row h ht hg, hk] <;> rfl
    · rw [cmdReceive_row h ht hg, submit_unassigned _ hn (hreach.trans hr) (howed.symm ▸ hl)]
    · exact cmdReceive_fast h ht hg hk hf rfl
    · exact cmdReceive_fast h ht hg hk hf rfl
    · exact cmdReceive_fast h ht hg hk hf rfl
    · exact cmdReceive_fast h ht hg hk (hw ▸ hf) (hw ▸ opFlip_ok c (hcompat.trans hn) (hpwr.symm ▸ hd) hm)
    · exact cmdReceive_fast h ht hg hk (hw ▸ hf) (hw ▸ opSetAim_inRange c s1 h1 h2 h3 h4)
    · have e := slow_concluded hf (opSetClass_normal _ hm (by rw [accepted_bstay, hbeam]; exact hb))
      rw [State.modBstay, accepted_bstay] at e
      rw [cmdReceive_row h ht hg, hk, hw]
      exact congrArg Host.Outcome.next e
    · exact cmdReceive_fast h ht hg hk (hw ▸ hf) (by rw [hw, hp, ← hpwr]; exact opPowerState_present c s1)
    · exact cmdReceive_fast h ht hg hk (hw ▸ hf) (hw ▸ opFaultAck_on c b m hoff)
  · intro after
    have hx := exec_slowPathExecute h hf hb hv hr h2 h3
    refine ⟨fun j ho hp hn => ?_, fun ho j hp hn => ?_⟩
    · have hj : bits (put 0 j.val) 0 2 = j.val := bits_put_same (by omega) (by decide)
      have e := opSetClass_normal (slowCtx 0 x) (within_classCode j) hn
      rw [hj] at e
      rw [hx, ho, runSlow_ends (op := opExec (0x31 : BitVec 8).toNat) (hp ▸ e), ho]
      rfl
    · rw [hx, ho, runSlow_ends (op := opExec (0x31 : BitVec 8).toNat)
        (hp ▸ opSetClass_refused (slowCtx 0 x) (within_classCode j) hn), ho]
  · intro b edges
    have h3 : 3 ≤ b.length := by rw [bodyWords_length]; omega
    have hmax : b.length ≤ 1027 := by rw [bodyWords_length]; omega
    show Host.Outcome.next (settle (spiPeriod edges (tunnelHeader b.length :: b) false s)) = _
    rw [spiPeriod_whole hon hm ho hr h3 hmax, tunnelPacket_cmd ht hch hg hrst, command_inOrder _ hg]
  · intro b s1 bs
    have hstore : s1.store = s.store := State.modPort_store s p _
    have hbuf (n : Nat) : s1.buf n = s.buf n := by rw [State.buf, hstore, State.buf]
    rw [exec_layerDataReceive h ht]
    refine ⟨fun hb => ?_, fun hb hl hs ho hm hn => ?_, fun hb hl hs ho hm he hn => ?_, fun hb hl hs ho => ?_⟩
    · rw [storeLayer_noBuffer _ _ _ hb]
    · rw [storeLayer_inOrder hb (hbuf b ▸ hl) (hbuf b ▸ hs) (hbuf b ▸ ho) (hbuf b ▸ hm) (hstore ▸ hn)]
      rfl
    · rw [storeLayer_last hb (hbuf b ▸ hl) (hbuf b ▸ hs) (hbuf b ▸ ho) (hbuf b ▸ hm) (hbuf b ▸ he) (hstore ▸ hn)]
      rfl
    · rw [storeLayer_outOfOrder hb (hbuf b ▸ hl) (hbuf b ▸ hs) (hbuf b ▸ ho)]

end Sys2Proof.Machine
end

section
/-! XMEM's own work: its start, its end and what it stores (R140, R222, R453, R457, R466 to R471, R474). -/

namespace Sys2Proof.Machine

/-! ### Pages that wait are programmed first (R471) -/

theorem pageOf_eq_none {cs : Bool} {s : State} : pageOf cs s = none ↔ ∀ p ∈ s.xmem.partialPage, p.cs1 ≠ cs := by
  simp [pageOf]

theorem flushPage_none {cs : Bool} {s : State} (h : pageOf cs s = none) : flushPage cs s = s := by
  simp only [flushPage, h]

theorem flushPage_pages (cs : Bool) (s : State) :
    (flushPage cs s).xmem.partialPage = s.xmem.partialPage.filter (fun q => q.cs1 != cs) := by
  cases h : pageOf cs s with
  | none =>
    rw [flushPage_none h]
    exact (List.filter_eq_self.mpr (fun p hp => by simpa using pageOf_eq_none.mp h p hp)).symm
  | some p => simp only [flushPage, h]; rfl

/-- The pages of the chip selects `l` are programmed. -/
def flushPages (l : List Bool) (s : State) : State := l.foldl (fun s cs => flushPage cs s) s

theorem pageOf_flushPage (cs cs' : Bool) {s : State} (h : cs = cs' ∨ pageOf cs s = none) :
    pageOf cs (flushPage cs' s) = none := by
  rw [pageOf_eq_none, flushPage_pages]
  intro p hp
  obtain ⟨hmem, hne⟩ := List.mem_filter.mp hp
  rcases h with rfl | h
  · simpa using hne
  · exact pageOf_eq_none.mp h p hmem

theorem pageOf_flushPages {cs : Bool} (l : List Bool) {s : State} (h : cs ∈ l ∨ pageOf cs s = none) :
    pageOf cs (flushPages l s) = none := by
  induction l generalizing s with
  | nil => exact h.resolve_left (List.not_mem_nil)
  | cons a l ih =>
    refine ih ?_
    rcases h with h | h
    · rcases List.mem_cons.mp h with h | h
      · exact .inr (pageOf_flushPage _ _ (.inl h))
      · exact .inl h
    · exact .inr (pageOf_flushPage _ _ (.inr h))

theorem flushPages_empty (l : List Bool) {s : State} (h : s.xmem.partialPage = []) : flushPages l s = s := by
  have hp (cs : Bool) : pageOf cs s = none := by rw [pageOf, h]; rfl
  induction l with
  | nil => rfl
  | cons a l ih => rw [flushPages, List.foldl_cons, flushPage_none (hp a)]; exact ih

/-! ### The start of work (R466, R469) -/

theorem startWork_pages (k : XKind) (s : State) :
    (startWork k s).xmem.partialPage = (flushPages (workCs s k) s).xmem.partialPage := by
  cases k with
  | deadmap => unfold startWork; dsimp only; split <;> rfl
  | _ => rfl

theorem pageOf_startWork {k : XKind} {cs : Bool} {s : State} (h : (workCs s k).contains cs = true) :
    pageOf cs (startWork k s) = none := by
  rw [pageOf, startWork_pages, ← pageOf]
  exact pageOf_flushPages _ (.inl (by simpa using h))

theorem startWork_plain {k : XKind} {s : State} (hp : s.xmem.partialPage = []) (hd : k ≠ .deadmap) (hs : k ≠ .scrub) :
    startWork k s = takeWork k s := by
  have h : startWork k s = takeWork k (flushPages (workCs s k) s) := by
    cases k with
    | deadmap => exact absurd rfl hd
    | scrub => exact absurd rfl hs
    | _ => rfl
  rw [h, flushPages_empty _ hp]

theorem startWork_scrub {s : State} (hp : s.xmem.partialPage = []) (ha : s.xmem.scrubAt = none) :
    startWork .scrub s = (takeWork .scrub s).modXmem (fun x => { x with scrubAt := some s.ticks }) := by
  have h : startWork .scrub s = (takeWork .scrub (flushPages (workCs s .scrub) s)).modXmem (fun x => { x with
      scrubAt := if x.scrubAt.isNone || scrubDue s then some s.ticks else x.scrubAt }) := rfl
  rw [h, flushPages_empty _ hp]
  simp only [State.modXmem, takeWork, ha]
  rfl

/-- A DEADMAP write takes the snapshot it is to store. -/
theorem startWork_deadmap {s : State} (hp : s.xmem.partialPage = []) (hd : s.xmem.deadOn = false) :
    startWork .deadmap s = (takeWork .deadmap s).modXmem (fun x => { x with
      snap := s.diag.deadMap, snapLen := x.declared.length, declaredSince := false, deadOn := true }) := by
  have h : startWork .deadmap s = if s.xmem.deadOn then takeWork .deadmap (flushPages (workCs s .deadmap) s)
      else (takeWork .deadmap (flushPages (workCs s .deadmap) s)).modXmem (fun x => { x with
        snap := s.diag.deadMap, snapLen := x.declared.length, declaredSince := false, deadOn := true }) := rfl
  rw [h, if_neg (by simp [hd]), flushPages_empty _ hp]

section
variable {s : State} (hon : blockOff 12 s = false)
include hon

theorem exec_xmemWorkServe_idle {k : XKind} (hb : s.xmem.busy = none) (hs : s.xmem.suspended = none)
    (hk : nextWork s = some k) :
    exec .xmemWorkServe s = .next (settle (startWork k s)) := by
  show execXmemWorkServe s = _
  simp only [execXmemWorkServe, hon, hk, hb, hs, done, Option.isSome_none, Bool.false_and, Bool.false_eq_true, if_false]

theorem exec_xmemWorkServe_nothing (hk : nextWork s = none) : exec .xmemWorkServe s = .next (settle s) := by
  show execXmemWorkServe s = _
  simp only [execXmemWorkServe, hon, hk, done, Bool.false_eq_true, if_false]

/-! ### ERASE_SUSPEND (R467) -/

theorem exec_eraseSuspend_gives {k : XKind} {cs : Bool} (hb : s.xmem.busy = some k) (hs : s.xmem.suspended = none)
    (he : erasing s k = some cs) (hf : foreground s = true) (hd : (s.mdev cs).suspend = true) :
    exec .eraseSuspend s = .next (settle (s.modXmem (fun x => { x with
      busy := none, suspended := some k, eraseSusp := true }))) := by
  show execEraseSuspend s = _
  simp only [execEraseSuspend, hon, hb, hs, he, hf, hd, done, Bool.and_self, if_true, Bool.false_eq_true, if_false]

theorem exec_eraseSuspend_resumes {k : XKind} (hb : s.xmem.busy = none) (hs : s.xmem.suspended = some k)
    (hf : foreground s = false) :
    exec .eraseSuspend s = .next (settle (s.modXmem (fun x => { x with
      busy := some k, suspended := none, eraseSusp := false }))) := by
  show execEraseSuspend s = _
  simp only [execEraseSuspend, hon, hb, hs, hf, done, Bool.false_eq_true, if_false]

/-! ### RECORD_LOAD_DONE (R140, R457) -/

theorem exec_recordLoadDone {b id off : Nat} (r : ReadEnd) (hb : s.xmem.busy = some (.layerLoad b id off)) :
    exec (.recordLoadDone r) s =
      .next (settle (refreshAll r.refresh (endBufferLoad b id off (!r.good) (endWork s)))) := by
  show execRecordLoadDone r s = _
  simp only [execRecordLoadDone, hon, hb, done, Bool.false_eq_true, if_false]

end

theorem readRecord_missing {id : Nat} {s : State} (b n idx : Nat) (bad extra : Bool) (hd : dirFind id s = none) :
    readRecord b n idx id bad extra s = (s, none) := by
  simp only [readRecord, hd]

/-- A record that is VERIFIED, or passes its check, is read without a report (R457). -/
theorem readRecord_passes {b n idx id : Nat} {e : DirEntry} {s : State} (hd : dirFind id s = some e)
    (h : e.verified = true ∨ (recordBad e s = false ∧ fails b n false s = false)) :
    readRecord b n idx id false false s = (s, findRecord id s) := by
  by_cases hv : e.verified = true
  · simp [readRecord, hd, hv]
  · obtain ⟨hr, hf⟩ := h.resolve_left hv
    simp [readRecord, hd, hv, hr, hf, check_quiet _ _ _ _ _ hf, crcCount]

theorem endBufferLoad_missing {b id off : Nat} {bad : Bool} {s : State} (hd : dirFind id s = none) :
    endBufferLoad b id off bad s = bufInvalid b s := by
  simp only [endBufferLoad, findRecord, hd, readRecord_missing _ _ _ _ _ hd]

theorem endBufferLoad_passes {b id off : Nat} {e : DirEntry} {r : DirEntry × Nat} {s : State} (hd : dirFind id s = some e)
    (hr : findRecord id s = some r) (hlen : off + (s.buf b).size ≤ plenAt r.1.cs1 r.2 s)
    (h : e.verified = true ∨ (recordBad e s = false ∧ fails 12 1 false s = false)) :
    endBufferLoad b id off false s = bufComplete b (s.modBuf b (fun u => { u with
      bytes := memWrite 0 [] 0 (payload r.1 r.2 off (s.buf b).size s), fill := u.size
      crc := BitVec.ofNat 32 (crc32 (payload r.1 r.2 off (s.buf b).size s)) })) := by
  have hshort : decide (plenAt r.1.cs1 r.2 s < off + (s.buf b).size) = false := decide_eq_false (Nat.not_lt.mpr hlen)
  simp only [endBufferLoad, hr, hshort, Bool.or_self, readRecord_passes hd h]

/-! ### Records appended to a region (R453) -/

/-- XMEM without the work that waits. -/
def noQueue (x : Xmem) : Xmem := { x with queue := [] }

theorem noQueue_queueWork (k : XKind) (id : Nat) (s : State) : noQueue (queueWork k id s).xmem = noQueue s.xmem := by
  unfold queueWork; split <;> rfl

theorem queueWork_contains {k : XKind} {id : Nat} {s : State} (h : hasRegion id s = true) :
    (queueWork k id s).xmem.queue.contains k = true := by
  cases hc : s.xmem.queue.contains k <;> simp_all [queueWork]

/-- The RSEQ of a record after the newest one's, and the state with the free number that a region's first takes. -/
def recordSeq (q : Option Nat) (s : State) : Nat × State :=
  match q with
  | some r => (r, s)
  | none => ((Config.freeWord s.freeCtr).toNat, { s with freeCtr := s.freeCtr + 1 })

/-- A record at its place in the region, on units erased before. -/
def recordWritten (e : DirEntry) (id : Nat) (pay : List Byte) (s : State) : State :=
  let place := nextPlace e (20 + pay.length) s
  let r := recordSeq place.2 s
  devWrite e.cs1 place.1 (recordBytes id r.1 pay) (eraseAhead e place.1 (20 + pay.length) r.2)

theorem appendRecord_found {e : DirEntry} {id : Nat} (pay : List Byte) {s : State} (h : dirFind id s = some e) :
    appendRecord id pay s =
      if eraseUseful e (recordWritten e id pay s) then queueWork (.regionErase id) id (recordWritten e id pay s)
      else recordWritten e id pay s := by
  simp only [appendRecord, h]
  rfl

theorem devWrite_xmem_congr (cs : Bool) (a : Nat) (bs : List Byte) {s t : State} (hx : t.xmem = s.xmem) :
    (devWrite cs a bs t).xmem = (devWrite cs a bs s).xmem :=
  congrArg (fun x => (devWrite cs a bs { s with xmem := x }).xmem) hx

theorem eraseRange_congr (e : DirEntry) (p len : Nat) {s t : State} (hx : t.xmem = s.xmem) :
    eraseRange e p len t = eraseRange e p len s :=
  congrArg (fun x => eraseRange e p len { s with xmem := x }) hx

theorem devErase_xmem_congr (cs : Bool) (a n : Nat) {s t : State} (hx : t.xmem = s.xmem) :
    (devErase cs a n t).xmem = (devErase cs a n s).xmem :=
  congrArg (fun x => (devErase cs a n { s with xmem := x }).xmem) hx

theorem eraseAhead_xmem_congr (e : DirEntry) (p len : Nat) {s t : State} (hx : t.xmem = s.xmem) :
    (eraseAhead e p len t).xmem = (eraseAhead e p len s).xmem := by
  rw [eraseAhead, eraseAhead, eraseRange_congr e p len hx]
  exact devErase_xmem_congr _ _ _ hx

theorem nextPlace_congr (e : DirEntry) (len : Nat) {s t : State} (hx : t.xmem = s.xmem) :
    nextPlace e len t = nextPlace e len s :=
  congrArg (fun x => nextPlace e len { s with xmem := x }) hx

theorem recordSeq_congr (q : Option Nat) {s t : State} (hx : t.xmem = s.xmem) (hf : t.freeCtr = s.freeCtr) :
    (recordSeq q t).1 = (recordSeq q s).1 ∧ (recordSeq q t).2.xmem = (recordSeq q s).2.xmem := by
  cases q with
  | some r => exact ⟨rfl, hx⟩
  | none => exact ⟨congrArg (fun n => (Config.freeWord n).toNat) hf, hx⟩

/-- What a record does to XMEM follows from XMEM and the next free number alone. -/
theorem recordWritten_xmem_congr (e : DirEntry) (id : Nat) (pay : List Byte) {s t : State} (hx : t.xmem = s.xmem)
    (hf : t.freeCtr = s.freeCtr) : (recordWritten e id pay t).xmem = (recordWritten e id pay s).xmem := by
  simp only [recordWritten, nextPlace_congr e _ hx]
  obtain ⟨h1, h2⟩ := recordSeq_congr (nextPlace e (20 + pay.length) s).2 hx hf
  rw [h1]
  exact devWrite_xmem_congr _ _ _ (eraseAhead_xmem_congr _ _ _ h2)

/-- XMEM without what a record stored changes in it: the devices, the marks of what was verified, and the work that waits. -/
def noStore (x : Xmem) : Xmem := { x with cs0 := {}, cs1 := {}, dir := [], fwVerified := [], queue := [] }

theorem noStore_devWrite (cs : Bool) (a : Nat) (bs : List Byte) (s : State) :
    noStore (devWrite cs a bs s).xmem = noStore s.xmem := rfl

theorem noStore_devErase (cs : Bool) (a n : Nat) (s : State) : noStore (devErase cs a n s).xmem = noStore s.xmem := rfl

theorem noStore_recordSeq (q : Option Nat) (s : State) :
    noStore (recordSeq q s).2.xmem = noStore s.xmem := by cases q <;> rfl

theorem recordWritten_noStore (e : DirEntry) (id : Nat) (pay : List Byte) (s : State) :
    noStore (recordWritten e id pay s).xmem = noStore s.xmem := by
  rw [recordWritten, noStore_devWrite, eraseAhead, noStore_devErase, noStore_recordSeq]

theorem noStore_queueWork (k : XKind) (id : Nat) (s : State) : noStore (queueWork k id s).xmem = noStore s.xmem := by
  unfold queueWork; split <;> rfl

theorem appendRecord_noStore (id : Nat) (pay : List Byte) (s : State) :
    noStore (appendRecord id pay s).xmem = noStore s.xmem := by
  cases h : dirFind id s with
  | none => simp only [appendRecord, h]
  | some e =>
    rw [appendRecord_found pay h]
    split
    · rw [noStore_queueWork, recordWritten_noStore]
    · exact recordWritten_noStore e id pay s

theorem busy_of_noQueue {x y : Xmem} (h : noQueue x = noQueue y) : x.busy = y.busy := by
  have e := congrArg Xmem.busy h
  exact e

theorem waits_of_noQueue {x y : Xmem} (h : noQueue x = noQueue y) : x.waits = y.waits := by
  have e := congrArg Xmem.waits h
  exact e

theorem logLseq_of_noQueue {x y : Xmem} (h : noQueue x = noQueue y) : x.logLseq = y.logLseq := by
  have e := congrArg Xmem.logLseq h
  exact e

theorem devices_of_noQueue {x y : Xmem} (h : noQueue x = noQueue y) : x.cs0 = y.cs0 ∧ x.cs1 = y.cs1 := by
  have h0 := congrArg Xmem.cs0 h
  have h1 := congrArg Xmem.cs1 h
  exact ⟨h0, h1⟩

/-- The bytes that a record leaves follow from XMEM and the next free number alone. -/
theorem appendRecord_devices_congr (id : Nat) (pay : List Byte) {s t : State} (hx : t.xmem = s.xmem)
    (hf : t.freeCtr = s.freeCtr) :
    (appendRecord id pay t).xmem.cs0 = (appendRecord id pay s).xmem.cs0 ∧
      (appendRecord id pay t).xmem.cs1 = (appendRecord id pay s).xmem.cs1 := by
  have hdir : dirFind id t = dirFind id s := congrArg (fun x => dirFind id { s with xmem := x }) hx
  cases h : dirFind id s with
  | none =>
    simp only [appendRecord, h, hdir, hx, and_self]
  | some e =>
    have hdev (u : State) (hu : dirFind id u = some e) :
      (appendRecord id pay u).xmem.cs0 = (recordWritten e id pay u).xmem.cs0 ∧
        (appendRecord id pay u).xmem.cs1 = (recordWritten e id pay u).xmem.cs1 := by
      rw [appendRecord_found pay hu]
      split
      · exact devices_of_noQueue (noQueue_queueWork _ _ _)
      · exact ⟨rfl, rfl⟩
    obtain ⟨ht0, ht1⟩ := hdev t (hdir.trans h)
    obtain ⟨hs0, hs1⟩ := hdev s h
    have hw := recordWritten_xmem_congr e id pay hx hf
    exact ⟨by rw [ht0, hs0, hw], by rw [ht1, hs1, hw]⟩

theorem regionWrite_good {id : Nat} (blk : Nat) (pay : List Byte) {s : State} (h : (dirFind id s).isSome = true) :
    regionWrite id 0 blk pay s = (appendRecord id pay s, true) := by
  obtain ⟨e, he⟩ := Option.isSome_iff_exists.mp h
  simp only [regionWrite, he, if_true]

theorem regionWrite_failed (id blk : Nat) (pay : List Byte) (s : State) : regionWrite id 2 blk pay s = (s, false) := by
  unfold regionWrite
  cases dirFind id s <;> rfl

theorem hasRegion_found {id : Nat} {s : State} (h : hasRegion id s = true) : (dirFind id s).isSome = true := by
  unfold hasRegion at h
  cases hd : dirFind id s with
  | none => rw [hd] at h; cases h
  | some e => rfl

/-! ### Reads of Keep (R539) -/

theorem keepRead_quiet {s : State} (h0 : fails 13 0 false s = false) (h1 : fails 13 1 false s = false) :
    keepRead 0 s = (s, false) := by
  have e0 : check 13 0 0 false s = s := check_quiet 13 0 0 false s h0
  have e1 : check 13 1 0 false s = s := check_quiet 13 1 0 false s h1
  simp [keepRead, h0, h1, e0, e1, State.hitIf, State.modKeep]

theorem keepRead_kept (ecc : Nat) (s : State) :
    (keepRead ecc s).1.xmem = s.xmem ∧ (keepRead ecc s).1.freeCtr = s.freeCtr := by
  have h : untouched (((check 13 1 0 (ecc == 1) (check 13 0 0 (ecc == 2) s)).hitIf (fails 13 0 (ecc == 2) s) 13 8 0).hitIf
      (fails 13 1 (ecc == 1) s) 13 8 16) = untouched s := by
    rw [untouched_hitIf, untouched_hitIf, untouched_check, untouched_check]
  have hx := congrArg State.xmem h
  have hf := congrArg State.freeCtr h
  exact ⟨hx, hf⟩

theorem busy_of_noStore {x y : Xmem} (h : noStore x = noStore y) : x.busy = y.busy := by
  have e := congrArg Xmem.busy h
  exact e

theorem waits_of_noStore {x y : Xmem} (h : noStore x = noStore y) : x.waits = y.waits := by
  have e := congrArg Xmem.waits h
  exact e

/-! ### LOG_FLUSH (R468) -/

theorem unflushed_endWork (s : State) : unflushed (endWork s) = unflushed s := rfl

theorem exec_logFlush {s : State} (hon : blockOff 12 s = false) (hb : s.xmem.busy = some .logFlush) (res blk : Nat) :
    exec (.logFlush res blk) s = .next (settle (endFlush res blk (endWork s))) := by
  show execLogFlush res blk s = _
  simp only [execLogFlush, hon, hb, done, Bool.not_false, and_self, if_true]

theorem endFlush_nothing {s : State} (h : unflushed s = []) (res blk : Nat) :
    endFlush res blk s = s.modXmem (fun x => { x with logLseq := s.log.lseq, waits := [] }) := by
  unfold endFlush
  rw [h]
  rfl

/-- The bytes of a LOG record: the entries of the Keep log that it takes (R468, Table 17.5). -/
def logBytes (s : State) : List Byte := (unflushed s).flatMap (fun k => keepBytes (ringAt k) 32 s)

/-- A LOG record is appended: `last` is its last entry's LSEQ, and the waits of the `left` entries behind it stay. -/
def logStored (pay : List Byte) (last : BitVec 32) (left : Nat) (s : State) : State :=
  (appendRecord (recId 0x60) pay s).modXmem (fun x => { x with
    logLseq := last, waits := x.waits.drop (x.waits.length - left) })

theorem logStored_busy (pay : List Byte) (last : BitVec 32) (left : Nat) (s : State) :
    (logStored pay last left s).xmem.busy = s.xmem.busy := by
  have h := busy_of_noStore (appendRecord_noStore (recId 0x60) pay s)
  exact h

theorem logStored_logLseq (pay : List Byte) (last : BitVec 32) (left : Nat) (s : State) :
    (logStored pay last left s).xmem.logLseq = last := rfl

theorem logStored_devices (pay : List Byte) (last : BitVec 32) (left : Nat) (s : State) :
    (logStored pay last left s).xmem.cs0 = (appendRecord (recId 0x60) pay s).xmem.cs0 ∧
      (logStored pay last left s).xmem.cs1 = (appendRecord (recId 0x60) pay s).xmem.cs1 := ⟨rfl, rfl⟩

theorem logStored_waits (pay : List Byte) (last : BitVec 32) (left : Nat) (s : State) :
    (logStored pay last left s).xmem.waits = s.xmem.waits.drop (s.xmem.waits.length - left) :=
  congrArg (fun l : List Nat => l.drop (l.length - left)) (waits_of_noStore (appendRecord_noStore _ _ _))

/-- The entries that wait behind those that a flush takes. -/
def logLeft (s : State) : Nat := (unflushedAll s).length - (unflushed s).length

theorem endFlush_stored {k : Nat} {s : State} (blk : Nat) (hk : (unflushed s).getLast? = some k)
    (hr : hasRegion (recId 0x60) s = true) :
    noQueue (endFlush 0 blk s).xmem =
      noQueue (logStored (logBytes s) (BitVec.ofNat 32 (ringSeq k s)) (logLeft s) (keepRead 0 s).1).xmem := by
  obtain ⟨hx, -⟩ := keepRead_kept 0 s
  have hd : dirFind (recId 0x60) (keepRead 0 s).1 = dirFind (recId 0x60) s :=
    congrArg (fun x => dirFind (recId 0x60) { s with xmem := x }) hx
  have hw : regionWrite (recId 0x60) 0 blk (logBytes s) (keepRead 0 s).1 =
      (appendRecord (recId 0x60) (logBytes s) (keepRead 0 s).1, true) := regionWrite_good _ _ (hd ▸ hasRegion_found hr)
  unfold endFlush
  extract_lets ks left
  have hks : ks.flatMap (fun k => keepBytes (ringAt k) 32 s) = logBytes s := rfl
  rw [show ks.getLast? = some k from hk]
  dsimp only
  rw [hks, hw, show left = logLeft s from rfl]
  dsimp only
  rw [if_pos rfl, ← logStored]
  split
  · rfl
  · exact noQueue_queueWork _ _ _

/-! ### DEADMAP_WRITE (R222, R469) -/

theorem exec_deadmapWrite {s : State} (hon : blockOff 12 s = false) (hb : s.xmem.busy = some .deadmap) (res blk : Nat) :
    exec (.deadmapWrite res blk) s = .next (settle (endDeadmap res blk (endWork s))) := by
  show execDeadmapWrite res blk s = _
  simp only [execDeadmapWrite, hon, hb, done, Bool.not_false, and_self, if_true]

/-- A DEADMAP write that has ended, `ok` where it stands, but for MAP_DIRTY and what comes of it. -/
def deadmapEnded (ok : Bool) (s t : State) : State :=
  t.modXmem (fun x => { x with
    deadEnd := some s.ticks, deadOn := false, snap := [], declared := if ok then x.declared.drop x.snapLen else x.declared })

theorem endDeadmap_stands {s : State} (blk : Nat) (hd : (dirFind (recId 0x50) s).isSome = true)
    (hs : s.xmem.declaredSince = false) :
    endDeadmap 0 blk s = ((deadmapEnded true s (appendRecord (recId 0x50) (mapBytes s.xmem.snap) s)).modDiag
      (fun d => { d with mapDirty := false })).modPwr (fun p => { p with entryTried := p.entryTried || false }) := by
  unfold endDeadmap
  rw [regionWrite_good _ _ hd, hs]
  rfl

theorem endDeadmap_failed {s : State} (blk : Nat) (hm : s.diag.mapDirty = true) :
    endDeadmap 2 blk s = queueWork .deadmap (recId 0x50)
      ((deadmapEnded false s s).modPwr (fun p => { p with entryTried := p.entryTried || true })) := by
  unfold endDeadmap
  rw [regionWrite_failed]
  exact if_pos hm

/-! ### KEEP_MIRROR_WRITE (R474) -/

theorem exec_keepMirrorWrite {s : State} (hon : blockOff 12 s = false) (hb : s.xmem.busy = some .mirror)
    (h0 : fails 13 0 false s = false) (h1 : fails 13 1 false s = false) (res blk : Nat) :
    exec (.keepMirrorWrite res blk) s = .next (settle
      (if (regionWrite (recId 0x70) res blk (mirrorBytes s) (endWork s)).2 then
        (regionWrite (recId 0x70) res blk (mirrorBytes s) (endWork s)).1
      else queueMirror (regionWrite (recId 0x70) res blk (mirrorBytes s) (endWork s)).1)) := by
  have hk : keepRead 0 (endWork s) = (endWork s, false) := keepRead_quiet h0 h1
  show execKeepMirrorWrite res blk s = _
  simp only [execKeepMirrorWrite, hon, hb, hk, done, Bool.not_false, and_self, if_true]

/-! ### SCRUB (R457, R470) -/

theorem exec_scrub {s : State} (hon : blockOff 12 s = false) (hb : s.xmem.busy = some .scrub) (l : List (Bool × Nat)) :
    exec (.scrub l) s = .next (settle (((refreshAll l (s.xmem.dir.foldl scrubEntry (endWork s))).modXmem (fun x => { x with
      scrubPass := satInc 16 x.scrubPass })).hit 12 0x404 16)) := by
  show execScrub l s = _
  simp only [execScrub, hon, hb, done, Bool.not_false, and_self, if_true]

/-- XMEM without the marks of what was verified. -/
def noMarks (x : Xmem) : Xmem := { x with dir := [] }

theorem check_xmem (b n i : Nat) (c : Bool) (s : State) : (check b n i c s).xmem = s.xmem := by
  have h := congrArg State.xmem (untouched_check b n i c s)
  exact h

theorem crcCount_xmem (e : DirEntry) (w c : Bool) (s : State) : (crcCount e w c s).xmem = s.xmem := by
  unfold crcCount; split <;> rfl

theorem noMarks_setVerified (id : Nat) (v : Bool) (s : State) : noMarks (setVerified id v s).xmem = noMarks s.xmem := rfl

/-- The check of an entry changes nothing in XMEM but its mark. -/
theorem noMarks_scrubEntry (s : State) (e : DirEntry) : noMarks (scrubEntry s e).xmem = noMarks s.xmem := by
  unfold scrubEntry
  split
  · rw [noMarks_setVerified]
    split
    · rw [checkRegion, check_xmem, crcCount_xmem]
    · rfl
  · rw [noMarks_setVerified, check_xmem, crcCount_xmem]

theorem noMarks_scrubEntries (l : List DirEntry) (s : State) : noMarks (l.foldl scrubEntry s).xmem = noMarks s.xmem := by
  induction l generalizing s with
  | nil => rfl
  | cons e l ih => rw [List.foldl_cons, ih, noMarks_scrubEntry]

/-- A static record that passes is VERIFIED, without a report. -/
theorem scrubEntry_passes {e : DirEntry} {s : State} (hr : e.region = false) (hb : recordBad e s = false)
    (hf : fails 12 1 false s = false) (ht : e.recId < recId 0x20 ∨ recId 0x23 < e.recId) :
    scrubEntry s e = setVerified e.recId true s := by
  have htry : (decide (recId 0x20 ≤ e.recId) && decide (e.recId ≤ recId 0x23)) = false := by
    simp only [Bool.and_eq_false_iff, decide_eq_false_iff_not]
    omega
  simp [scrubEntry, hr, hb, htry, hf, crcCount, check_quiet _ _ _ _ _ hf]

/-! ### The rows -/

theorem queueWork_diag (k : XKind) (id : Nat) (s : State) : (queueWork k id s).diag = s.diag := by
  unfold queueWork; split <;> rfl

theorem logLeft_endWork (s : State) : logLeft (endWork s) = logLeft s := rfl

section
variable {s : State} (hon : blockOff 12 s = false)
include hon

/-- A good LOG flush (R468). -/
theorem logFlush_good {k : Nat} (hb : s.xmem.busy = some .logFlush) (hk : (unflushed s).getLast? = some k)
    (hr : hasRegion (recId 0x60) s = true) (blk : Nat) :
    ∃ t, exec (.logFlush 0 blk) s = .next t ∧ t.xmem.busy = none ∧
      t.xmem.waits = s.xmem.waits.drop (s.xmem.waits.length - logLeft s) ∧
      t.xmem.logLseq = BitVec.ofNat 32 (ringSeq k s) ∧
      t.xmem.cs0 = (appendRecord (recId 0x60) (logBytes s) (endWork s)).xmem.cs0 ∧
      t.xmem.cs1 = (appendRecord (recId 0x60) (logBytes s) (endWork s)).xmem.cs1 := by
  have hx := (congrArg noQueue (settle_xmem _)).trans (endFlush_stored (s := endWork s) blk hk hr)
  obtain ⟨hkx, hkf⟩ := keepRead_kept 0 (endWork s)
  obtain ⟨h0, h1⟩ := devices_of_noQueue hx
  obtain ⟨hs0, hs1⟩ := logStored_devices (logBytes (endWork s)) (BitVec.ofNat 32 (ringSeq k (endWork s)))
    (logLeft (endWork s))
    (keepRead 0 (endWork s)).1
  obtain ⟨hc0, hc1⟩ := appendRecord_devices_congr (recId 0x60) (logBytes (endWork s)) hkx hkf
  refine ⟨_, exec_logFlush hon hb 0 blk, ?_, ?_, ?_, (h0.trans hs0).trans hc0, (h1.trans hs1).trans hc1⟩
  · rw [busy_of_noQueue hx, logStored_busy, hkx]; rfl
  · rw [waits_of_noQueue hx, logStored_waits, hkx, logLeft_endWork]; rfl
  · rw [logLseq_of_noQueue hx, logStored_logLseq]; rfl

/-- A DEADMAP write that stands (R222, R469). -/
theorem deadmapWrite_stands (hb : s.xmem.busy = some .deadmap) (hd : (dirFind (recId 0x50) s).isSome = true)
    (hs : s.xmem.declaredSince = false) (blk : Nat) :
    ∃ t, exec (.deadmapWrite 0 blk) s = .next t ∧ t.diag.mapDirty = false ∧ t.xmem.deadOn = false ∧
      t.xmem.deadEnd = some s.ticks ∧ t.xmem.snap = [] := by
  have he := endDeadmap_stands (s := endWork s) blk hd hs
  refine ⟨_, exec_deadmapWrite hon hb 0 blk, ?_, ?_, ?_, ?_⟩
  · rw [settle_diag, he]; rfl
  · rw [settle_xmem, he]; rfl
  · rw [settle_xmem, he]; rfl
  · rw [settle_xmem, he]; rfl

/-- A DEADMAP write that fails waits again (R222, R469). -/
theorem deadmapWrite_fails (hb : s.xmem.busy = some .deadmap) (hr : hasRegion (recId 0x50) s = true)
    (hm : s.diag.mapDirty = true) (blk : Nat) :
    ∃ t, exec (.deadmapWrite 2 blk) s = .next t ∧ t.diag.mapDirty = true ∧ t.xmem.busy = none ∧
      t.xmem.queue.contains .deadmap = true := by
  have he := endDeadmap_failed (s := endWork s) blk hm
  refine ⟨_, exec_deadmapWrite hon hb 2 blk, ?_, ?_, ?_⟩
  · rw [settle_diag, he, queueWork_diag]; exact hm
  · rw [settle_xmem, he, busy_of_noQueue (noQueue_queueWork _ _ _)]; rfl
  · rw [settle_xmem, he]; exact queueWork_contains hr

/-- A scrub pass is counted and leaves the bytes alone (R470). -/
theorem scrub_counts (hb : s.xmem.busy = some .scrub) :
    ∃ t, exec (.scrub []) s = .next t ∧ t.xmem.busy = none ∧ t.xmem.scrubPass = satInc 16 s.xmem.scrubPass ∧
      t.xmem.cs0 = s.xmem.cs0 ∧ t.xmem.cs1 = s.xmem.cs1 := by
  have hm : noMarks (s.xmem.dir.foldl scrubEntry (endWork s)).xmem = noMarks (endWork s).xmem := noMarks_scrubEntries _ _
  have hbusy := congrArg Xmem.busy hm
  have hpass := congrArg (fun x : Xmem => satInc 16 x.scrubPass) hm
  have h0 := congrArg Xmem.cs0 hm
  have h1 := congrArg Xmem.cs1 hm
  refine ⟨_, exec_scrub hon hb [], ?_⟩
  rw [settle_xmem]
  exact ⟨hbusy, hpass, h0, h1⟩

/-- A scrub pass marks a static record that passes (R457). -/
theorem scrub_verifies {e : DirEntry} (hb : s.xmem.busy = some .scrub) (he : s.xmem.dir = [e]) (hr : e.region = false)
    (hbad : recordBad e s = false) (hf : fails 12 1 false s = false) (ht : e.recId < recId 0x20 ∨ recId 0x23 < e.recId) :
    exec (.scrub []) s = .next (settle { s.hit 12 0x404 16 with xmem := { s.xmem with
      busy := none, dir := [{ e with verified := true }], scrubPass := satInc 16 s.xmem.scrubPass } }) := by
  have hdir : (setVerified e.recId true (endWork s)).xmem.dir = [{ e with verified := true }] := by
    show s.xmem.dir.map _ = _
    simp [he]
  have hentry : setVerified e.recId true (endWork s) =
      { s with xmem := { s.xmem with busy := none, dir := [{ e with verified := true }] } } := by
    rw [← hdir]; rfl
  rw [exec_scrub hon hb, he, List.foldl_cons, List.foldl_nil, scrubEntry_passes (s := endWork s) hr hbad hf ht, hentry]
  rfl

/-- KEEP_MIRROR is appended, or waits again (R474). -/
theorem keepMirrorWrite_rows (hb : s.xmem.busy = some .mirror) (hd : (dirFind (recId 0x70) s).isSome = true)
    (h0 : fails 13 0 false s = false) (h1 : fails 13 1 false s = false) :
    exec (.keepMirrorWrite 0 0) s = .next (settle (appendRecord (recId 0x70) (mirrorBytes s) (endWork s))) ∧
      exec (.keepMirrorWrite 2 0) s = .next (settle (queueMirror (endWork s))) := by
  have hgood : regionWrite (recId 0x70) 0 0 (mirrorBytes s) (endWork s) =
      (appendRecord (recId 0x70) (mirrorBytes s) (endWork s), true) := regionWrite_good 0 _ hd
  have hfail : regionWrite (recId 0x70) 2 0 (mirrorBytes s) (endWork s) = (endWork s, false) := regionWrite_failed _ _ _ _
  rw [exec_keepMirrorWrite hon hb h0 h1, exec_keepMirrorWrite hon hb h0 h1, hgood, hfail]
  exact ⟨rfl, rfl⟩

end

/-- Settles O53: each row ends in the lemma about what it does, and the end of the evaluation leaves XMEM alone. -/
theorem externalMemoryWorkRuns : Obligations.ExternalMemoryWorkRuns := by
  intro s hon
  refine ⟨fun hb hs k cs hk => ⟨exec_xmemWorkServe_idle hon hb hs hk, pageOf_startWork⟩,
    fun hb hs hp => ⟨fun k hk hd hc => ?_, fun hk ha => ?_, fun hk hd => ?_, exec_xmemWorkServe_nothing hon⟩,
    fun b id off e r hb => ?_, fun k cs => ⟨exec_eraseSuspend_gives hon, exec_eraseSuspend_resumes hon⟩,
    fun b id off r hb hd => ?_, fun hb hu res blk => ?_, fun k blk hb hk hr => ?_,
    fun hb hd hs => deadmapWrite_stands hon hb hd hs, fun hb hr hm => deadmapWrite_fails hon hb hr hm,
    fun hb => ⟨scrub_counts hon hb, fun e => scrub_verifies hon hb⟩, fun hb hd h0 h1 => ?_⟩
  · rw [exec_xmemWorkServe_idle hon hb hs hk, startWork_plain hp hd hc]; rfl
  · rw [exec_xmemWorkServe_idle hon hb hs hk, startWork_scrub hp ha]; rfl
  · rw [exec_xmemWorkServe_idle hon hb hs hk, startWork_deadmap hp hd]; rfl
  · intro s1 hd hr hl hv bs l
    rw [exec_recordLoadDone hon _ hb]
    exact congrArg (fun t => Host.Outcome.next (settle (refreshAll l t))) (endBufferLoad_passes hd hr hl hv)
  · rw [exec_recordLoadDone hon _ hb, endBufferLoad_missing (s := endWork s) hd]; rfl
  · rw [exec_logFlush hon hb, endFlush_nothing ((unflushed_endWork s).trans hu)]; rfl
  · have h := logFlush_good hon hb hk hr blk
    simp only [logLeft, logBytes] at h
    exact h
  · obtain ⟨hgood, hfail⟩ := keepMirrorWrite_rows hon hb hd h0 h1
    refine ⟨⟨_, hgood, ?_, hgood⟩, hfail⟩
    rw [settle_xmem, busy_of_noStore (appendRecord_noStore _ _ _)]; rfl

end Sys2Proof.Machine
end

section
/-! Fore and Main through settings of sources, arbitration and the end of an evaluation: what becomes of the health records and
of the arbitration record (R178, R184, R186, R189, R191, R197). -/

namespace Sys2Proof.Machine

/-! ### Engines and windows by name -/

@[simp] theorem other_other (e : Eng) : other (other e) = e := by cases e <;> rfl

theorem eq_or_eq_other (x e : Eng) : x = e ∨ x = other e := by cases x <;> cases e <;> decide

theorem engBlk_other_ne (e : Eng) : engBlk (other e) ≠ engBlk e := by cases e <;> decide

@[simp] theorem eng_modEng_otherOf (s : State) (e : Eng) (f : Engine → Engine) : (s.modEng (other e) f).eng e = s.eng e := by
  cases e <;> rfl

/-- A change of an engine is what it does to the engine that is there. -/
theorem State.modEng_congr {s : State} {e : Eng} {f g : Engine → Engine} (h : f (s.eng e) = g (s.eng e)) :
    s.modEng e f = s.modEng e g := by
  cases e
  · exact congrArg (fun x => { s with engA := x }) h
  · exact congrArg (fun x => { s with engB := x }) h

theorem win_modWin_ne {b k : Nat} (f : FltWin → FltWin) (s : State) (h : b ≠ k) : (s.modWin b f).win k = s.win k := by
  simp only [State.win, State.modWin, List.getD_eq_getElem?_getD, getElem?_modAt_ne _ _ _ _ h]

section
variable {s t : State} (h : ∀ e, (t.eng e).health.role = (s.eng e).health.role)
include h

theorem activeEng_of_roles : activeEng t = activeEng s := by
  have hA : t.engA.health.role = s.engA.health.role := h .fore
  have hB : t.engB.health.role = s.engB.health.role := h .main
  unfold activeEng
  rw [hA, hB]

theorem estate_of_roles : estate t = estate s := by
  have hA : t.engA.health.role = s.engA.health.role := h .fore
  have hB : t.engB.health.role = s.engB.health.role := h .main
  unfold estate
  rw [activeEng_of_roles h, hA, hB]

end

theorem active_of_activeEng {a : Eng} {s : State} (h : activeEng s = some a) : (s.eng a).health.role = .active := by
  unfold activeEng at h
  split at h
  · cases h; assumption
  · split at h
    · cases h; assumption
    · cases h

theorem activeEng_eq_none {s : State} (h : ∀ e, (s.eng e).health.role ≠ .active) : activeEng s = none := by
  have hA : s.engA.health.role ≠ .active := h .fore
  have hB : s.engB.health.role ≠ .active := h .main
  simp [activeEng, hA, hB]

theorem inRole_eq_true {e : Eng} {s : State} :
    inRole e s = true ↔ (s.eng e).health.role = .active ∨ (s.eng e).health.role = .standby := by
  simp [inRole]

theorem not_inRole_of_failed {e : Eng} {s : State} (h : (s.eng e).health.role = .failed) : inRole e s = false := by
  simp [inRole, h]

/-- The error line is read from the status of the engine's window and from its own reset (R184). -/
theorem errLine_congr {e : Eng} {s t : State} (hw : (t.win (engBlk e)).status = (s.win (engBlk e)).status)
    (hh : (t.eng e).health.resetErr = (s.eng e).health.resetErr) : errLine e t = errLine e s := by
  rw [errLine, errLine, hw, hh]

/-! ### The health records and the arbitration record -/

/-- The health records of Fore and Main and the arbitration record (Tables 06.5 to 06.7). -/
def arbView (s : State) : Health × Health × Arb := (s.engA.health, s.engB.health, s.bstay.arb)

theorem health_of_arbView {s t : State} (h : arbView t = arbView s) (e : Eng) : (t.eng e).health = (s.eng e).health := by
  cases e
  · exact congrArg Prod.fst h
  · exact congrArg (fun v => v.2.1) h

theorem arb_of_arbView {s t : State} (h : arbView t = arbView s) : t.bstay.arb = s.bstay.arb := congrArg (fun v => v.2.2) h

theorem arbView_foldl {α : Type} (f : State → α → State) (h : ∀ s a, arbView (f s a) = arbView s) (l : List α) (s : State) :
    arbView (l.foldl f s) = arbView s := by
  induction l generalizing s with
  | nil => rfl
  | cons a l ih => rw [List.foldl_cons, ih, h]

theorem arbView_pushEvent (v : Event) (s : State) : arbView (pushEvent v s) = arbView s := by
  have hA : (pushEvent v s).engA = s.engA := pushEvent_eng v s .fore
  have hB : (pushEvent v s).engB = s.engB := pushEvent_eng v s .main
  simp only [arbView, hA, hB, pushEvent_bstay]

theorem arbView_queueEvent (c v : Nat) (ws : List Word) (s : State) : arbView (queueEvent c v ws s) = arbView s :=
  arbView_pushEvent _ s

theorem arbView_reqTrysail (c : Nat) (s : State) : arbView (reqTrysail c s) = arbView s := rfl

/-! ### Settings of a source -/

/-- A health record whose error line a block reset asserts, where `p` holds (Table 13.3). -/
def resetHealth (p : Bool) (h : Health) : Health := if p then { h with resetErr := true } else h

theorem resetHealth_role (p : Bool) (h : Health) : (resetHealth p h).role = h.role := by cases p <;> rfl
theorem resetHealth_attempts (p : Bool) (h : Health) : (resetHealth p h).attempts = h.attempts := by cases p <;> rfl
theorem resetHealth_testResult (p : Bool) (h : Health) : (resetHealth p h).testResult = h.testResult := by cases p <;> rfl

/-- The reactions of a source touch no health record but that of the engine whose block they reset. -/
theorem arbView_onceReact (b : Nat) (r : BitVec 8) (s : State) : arbView (onceReact b r s) =
    (resetHealth (r.getLsbD 2 && b == 5) s.engA.health, resetHealth (r.getLsbD 2 && b == 6) s.engB.health, s.bstay.arb) := by
  unfold onceReact
  extract_lets s0 s1 s2 s3 s4 s5 a6 s6
  have e1 : arbView s1 = arbView s := by simp only [s1]; split <;> rfl
  have e2 : arbView s2 = arbView s1 := by simp only [s2]; split <;> rfl
  have e3 : arbView s3 = arbView s2 := by simp only [s3]; split <;> rfl
  have h3 : arbView s3 = arbView s := e3.trans (e2.trans e1)
  have e5 : arbView s5 =
      (resetHealth (r.getLsbD 2 && b == 5) s3.engA.health, resetHealth (r.getLsbD 2 && b == 6) s3.engB.health, s3.bstay.arb) := by
    simp only [s5, s4]
    cases r.getLsbD 2 && b == 5 <;> cases r.getLsbD 2 && b == 6 <;> rfl
  have e6 : arbView s6 = arbView s5 := by simp only [s6]; split <;> rfl
  have hA : s3.engA.health = s.engA.health := health_of_arbView h3 .fore
  have hB : s3.engB.health = s.engB.health := health_of_arbView h3 .main
  rw [hA, hB, arb_of_arbView h3] at e5
  rw [← e5, ← e6]
  split <;> rfl

theorem arbView_legacyMark (b n i : Nat) (r : Bool) (s : State) : arbView (legacyMark b n i r s) = arbView s := by
  unfold legacyMark; split <;> rfl

/-- A setting of a source touches no health record but that of the engine whose block it resets. -/
theorem arbView_raiseFault (b n i : Nat) (x y : Bool) (s : State) : ∃ p, arbView (raiseFault b n i x y s) =
    (resetHealth (p && b == 5) s.engA.health, resetHealth (p && b == 6) s.engB.health, s.bstay.arb) := by
  unfold raiseFault
  extract_lets stays w rising again sev h r count off timed logged applied f bitn s1 l2 s2 s3 s4
  have e3 : arbView s3 = arbView s := by simp only [s3]; split <;> rfl
  have e4 : arbView s4 = arbView s := (arbView_legacyMark _ _ _ _ _).trans e3
  have hA : s4.engA.health = s.engA.health := health_of_arbView e4 .fore
  have hB : s4.engB.health = s.engB.health := health_of_arbView e4 .main
  split
  · exact ⟨r.getLsbD 2, by rw [arbView_onceReact, hA, hB, arb_of_arbView e4]⟩
  · exact ⟨false, e4⟩

theorem arbView_raiseFault_elsewhere {b : Nat} (h5 : b ≠ 5) (h6 : b ≠ 6) (n i : Nat) (x y : Bool) (s : State) :
    arbView (raiseFault b n i x y s) = arbView s := by
  obtain ⟨p, h⟩ := arbView_raiseFault b n i x y s
  rw [h, beq_false_of_ne h5, beq_false_of_ne h6, Bool.and_false]
  rfl

theorem arb_raiseFault (b n i : Nat) (x y : Bool) (s : State) : (raiseFault b n i x y s).bstay.arb = s.bstay.arb := by
  obtain ⟨p, h⟩ := arbView_raiseFault b n i x y s
  exact congrArg (fun v => v.2.2) h

theorem health_raiseFault (b n i : Nat) (x y : Bool) (s : State) (e : Eng) :
    ∃ p, ((raiseFault b n i x y s).eng e).health = resetHealth p (s.eng e).health := by
  obtain ⟨p, h⟩ := arbView_raiseFault b n i x y s
  cases e
  · exact ⟨_, congrArg Prod.fst h⟩
  · exact ⟨_, congrArg (fun v => v.2.1) h⟩

theorem role_raiseFault (b n i : Nat) (x y : Bool) (s : State) (e : Eng) :
    ((raiseFault b n i x y s).eng e).health.role = (s.eng e).health.role := by
  obtain ⟨p, h⟩ := health_raiseFault b n i x y s e
  rw [h, resetHealth_role]

/-- A setting in one engine's window leaves the other engine's health record alone. -/
theorem health_raiseFault_other (e : Eng) (n i : Nat) (x y : Bool) (s : State) :
    ((raiseFault (engBlk (other e)) n i x y s).eng e).health = (s.eng e).health := by
  obtain ⟨p, h⟩ := arbView_raiseFault (engBlk (other e)) n i x y s
  cases e
  · refine (congrArg Prod.fst h).trans ?_
    simp [other, engBlk, resetHealth, State.eng]
  · refine (congrArg (fun v => v.2.1) h).trans ?_
    simp [other, engBlk, resetHealth, State.eng]

theorem raiseFault_pstate (b n i : Nat) (x y : Bool) (s : State) : (raiseFault b n i x y s).pwr.pstate = s.pwr.pstate :=
  congrArg Prod.fst (lastChange_raiseFault b n i x y s)

theorem onceReact_win_ne {b k : Nat} (r : BitVec 8) (s : State) (hk : b ≠ k) : (onceReact b r s).win k = s.win k := by
  unfold onceReact
  extract_lets s0 s1 s2 s3 s4 s5 a6 s6
  have e1 : s1.flt = s.flt := by simp only [s1]; split <;> rfl
  have e2 : s2.flt = s1.flt := by simp only [s2]; split <;> rfl
  have e3 : s3.win k = s.win k := by
    have h2 : s2.win k = s.win k := by rw [State.win, e2, e1]; rfl
    rw [← h2]
    simp only [s3]; split
    · exact win_modWin_ne _ _ hk
    · rfl
  have e4 : s4.flt = s3.flt := by simp only [s4]; split <;> rfl
  have e5 : s5.flt = s4.flt := by simp only [s5]; split <;> rfl
  have e6 : s6.flt = s5.flt := by simp only [s6]; split <;> rfl
  have h6 : s6.win k = s.win k := by rw [← e3, State.win, e6, e5, e4]; rfl
  split <;> exact h6

/-- A setting of a source touches its own window alone. -/
theorem raiseFault_win_ne {b k : Nat} (n i : Nat) (x y : Bool) (s : State) (hk : b ≠ k) :
    (raiseFault b n i x y s).win k = s.win k := by
  unfold raiseFault
  extract_lets stays w rising again sev h r count off timed logged applied f bitn s1 l2 s2 s3 s4
  have e1 : s1.win k = s.win k := win_modWin_ne _ _ hk
  have e3 : s3.flt = s1.flt := by simp only [s3]; split <;> rfl
  have e4 : s4.flt = s3.flt := by simp only [s4]; unfold legacyMark; split <;> rfl
  have h4 : s4.win k = s.win k := by rw [← e1, State.win, e4, e3]; rfl
  split
  · exact (onceReact_win_ne _ _ hk).trans h4
  · exact h4

/-! ### The end of an evaluation -/

theorem arbView_pushLog (r : LogRec) (s : State) : arbView (pushLog r s) = arbView s := by
  unfold pushLog; split <;> rfl

theorem arbView_flushFresh (s : State) : arbView (flushFresh s) = arbView s := by
  unfold flushFresh
  split
  · rfl
  · extract_lets l g s1
    have e1 : arbView s1 = arbView s := arbView_foldl _ (fun s f => by split <;> rfl) l _
    rw [arbView_foldl _ (fun s f => ?_) l s1, e1]
    simp only []
    split <;> split <;> simp only [arbView_queueEvent, arbView_pushLog]

theorem arbView_raiseTimes {b : Nat} (h5 : b ≠ 5) (h6 : b ≠ 6) (n k : Nat) (s : State) :
    arbView (raiseTimes b n k s) = arbView s := by
  induction k generalizing s with
  | zero => rfl
  | succ k ih => rw [raiseTimes, ih, arbView_raiseFault_elsewhere h5 h6]

theorem arbView_raiseLost (s : State) : arbView (raiseLost s) = arbView s := by
  unfold raiseLost
  rw [arbView_raiseTimes (by decide) (by decide)]
  exact arbView_raiseTimes (b := 0) (by decide) (by decide) _ _ _

theorem arbView_reportLost (k : Nat) (s : State) : arbView (reportLost k s) = arbView s := by
  induction k generalizing s with
  | zero => rfl
  | succ k ih => rw [reportLost, ih, arbView_flushFresh, arbView_raiseLost]

theorem arbView_reportBeam (s : State) : arbView (reportBeam s) = arbView s := by
  unfold reportBeam
  split
  · rfl
  · exact arbView_queueEvent _ _ _ s

/-- Of what the end of an evaluation does, arbitration alone changes health records and the arbitration record (R186). -/
theorem arbView_settle (s : State) : arbView (settle s) = arbView (arbitrate false false s) := by
  have hf (u : State) : arbView (force u) = arbView u := rfl
  have hb (u : State) : arbView (driven (blank u)) = arbView u := rfl
  have hc (u : State) : arbView (clearNow u) = arbView u := rfl
  rw [settle_eq, hb, hf, arbView_reportBeam, hf, hc, arbView_reportLost, arbView_flushFresh]

theorem arbView_settle_quiet {s : State} (h : NoErrorLine s) : arbView (settle s) = arbView s := by
  rw [arbView_settle, arbitrate_calm s h]

/-! ### The outcomes of arbitration -/

@[simp] theorem State.modArb_eng (f : Arb → Arb) (s : State) (e : Eng) : (s.modArb f).eng e = s.eng e := by cases e <;> rfl
@[simp] theorem State.modArb_arb (f : Arb → Arb) (s : State) : (s.modArb f).bstay.arb = f s.bstay.arb := rfl
@[simp] theorem State.modArb_flt (f : Arb → Arb) (s : State) : (s.modArb f).flt = s.flt := rfl
@[simp] theorem State.modArb_win (f : Arb → Arb) (s : State) (k : Nat) : (s.modArb f).win k = s.win k := rfl
@[simp] theorem State.modEng_win (e : Eng) (f : Engine → Engine) (s : State) (k : Nat) : (s.modEng e f).win k = s.win k := by
  cases e <;> rfl
@[simp] theorem State.modWin_eng (b : Nat) (f : FltWin → FltWin) (s : State) (e : Eng) : (s.modWin b f).eng e = s.eng e := by
  cases e <;> rfl
@[simp] theorem State.hit_eng (b o n : Nat) (s : State) (e : Eng) : (s.hit b o n).eng e = s.eng e := by cases e <;> rfl
@[simp] theorem State.hit_bstay (b o n : Nat) (s : State) : (s.hit b o n).bstay = s.bstay := rfl
@[simp] theorem State.hit_flt (b o n : Nat) (s : State) : (s.hit b o n).flt = s.flt := rfl
@[simp] theorem markChange_eng (c : Nat) (s : State) (e : Eng) : (markChange c s).eng e = s.eng e := by cases e <;> rfl
@[simp] theorem markChange_flt (c : Nat) (s : State) : (markChange c s).flt = s.flt := rfl
@[simp] theorem markChange_win (c : Nat) (s : State) (k : Nat) : (markChange c s).win k = s.win k := rfl
@[simp] theorem markChange_arb (c : Nat) (s : State) :
    (markChange c s).bstay.arb = { s.bstay.arb with lastCause := c, lastFrame := s.scan.frameCnt } := rfl

theorem pstate_of_untouched {s t : State} (h : untouched t = untouched s) : t.pwr.pstate = s.pwr.pstate :=
  keeps_of_untouched (fun u => u.pwr.pstate) (fun _ => rfl) h

theorem pushEvents_keep (g : State → Bool × BitVec 8 → Event) (l : List (Bool × BitVec 8)) (s : State) :
    (∀ e, (l.foldl (fun s p => pushEvent (g s p) s) s).eng e = s.eng e) ∧
      (l.foldl (fun s p => pushEvent (g s p) s) s).bstay = s.bstay ∧ (l.foldl (fun s p => pushEvent (g s p) s) s).flt = s.flt := by
  induction l generalizing s with
  | nil => exact ⟨fun _ => rfl, rfl, rfl⟩
  | cons p l ih =>
    obtain ⟨he, hb, hf⟩ := ih (pushEvent (g s p) s)
    exact ⟨fun e => (he e).trans (pushEvent_eng _ _ e), hb.trans (pushEvent_bstay _ _), hf.trans (pushEvent_flt _ _)⟩

/-- The switches and recoveries under way are gone from the arbitration record; all else that arbitration reads stays (R194). -/
theorem cancelSwitch_keeps (s : State) : (∀ e, (cancelSwitch s).eng e = s.eng e) ∧
    (cancelSwitch s).bstay.arb = { s.bstay.arb with planned := [], recovery := [] } ∧ (cancelSwitch s).flt = s.flt := by
  obtain ⟨he, hb, hf⟩ := pushEvents_keep (fun s p => { mkEvent 0x0A01 2
    [put 8 9 ||| put 4 (if p.1 then 1 else 0) ||| put 0 (engNo (composer s))] s with tag := p.2, status := 0x13 })
    (s.bstay.arb.planned ++ s.bstay.arb.recovery) s
  refine ⟨fun e => Eq.trans ?_ (he e), congrArg (fun b : Bstay => { b.arb with planned := [], recovery := [] }) hb, hf⟩
  cases e <;> rfl

theorem cancelSwitch_eng (s : State) (e : Eng) : (cancelSwitch s).eng e = s.eng e := (cancelSwitch_keeps s).1 e

theorem cancelSwitch_arb (s : State) : (cancelSwitch s).bstay.arb = { s.bstay.arb with planned := [], recovery := [] } :=
  (cancelSwitch_keeps s).2.1

theorem cancelSwitch_flt (s : State) : (cancelSwitch s).flt = s.flt := (cancelSwitch_keeps s).2.2

theorem wbAbort_keeps (s : State) :
    (∀ e, ((wbAbort s).eng e).health = (s.eng e).health) ∧ (wbAbort s).flt = s.flt := by
  unfold wbAbort
  extract_lets f
  split
  · exact ⟨fun _ => rfl, rfl⟩
  · exact ⟨fun e => by cases e <;> rfl, rfl⟩

/-- What a switch-over finds once nothing is under way any more (R193, R194). -/
theorem cleared_keeps (s : State) : (∀ e, ((cancelSwitch (wbAbort s)).eng e).health = (s.eng e).health) ∧
    (cancelSwitch (wbAbort s)).flt = s.flt := by
  obtain ⟨he, hf⟩ := wbAbort_keeps s
  exact ⟨fun e => (congrArg Engine.health (cancelSwitch_eng _ e)).trans (he e), (cancelSwitch_flt _).trans hf⟩

theorem startStep1_s0 {e : Eng} {s : State} (h : s.pwr.pstate = .s0) :
    startStep1 e s = (s.modEng e (fun x => { x with health := { x.health with step := 1 } })).modWin (engBlk e)
      (fun w => { w with resetting := true }) := if_pos h

theorem startStep1_role (e : Eng) (s : State) : ((startStep1 e s).eng e).health.role = (s.eng e).health.role := by
  unfold startStep1
  cases e <;> split <;> rfl

theorem startStep1_other (e : Eng) (s : State) : (startStep1 (other e) s).eng e = s.eng e := by
  unfold startStep1
  cases e <;> split <;> rfl

/-- A switch-over: the roles change at once and the handover begins; no window changes (R36, R186, R191). -/
theorem switchOver_result (e : Eng) (c : Nat) (s : State) :
    ((switchOver e c s).eng e).health.role = .failed ∧ ((switchOver e c s).eng e).health.lastFail = failCode c ∧
    ((switchOver e c s).eng (other e)).health = { (s.eng (other e)).health with role := .active } ∧
    (switchOver e c s).bstay.arb.handover = true ∧ (switchOver e c s).bstay.arb.lastCause = c ∧
    (switchOver e c s).flt = s.flt := by
  obtain ⟨he, hf⟩ := cleared_keeps s
  have h : switchOver e c s =
      ((markChange c (setRole (other e) .active (failEng e (failCode c) (cancelSwitch (wbAbort s))))).hit 10 0x0804 0).modArb
        (fun a => { a with undecided := false, handover := true, switchCnt := satInc 16 a.switchCnt }) := rfl
  rw [h, ← hf, ← he]
  simp [setRole, failEng]

/-- The STANDBY engine fails: it starts at step 1, and the other engine and its window stay as they are (R197). -/
theorem standbyFails_result {s : State} (hp : s.pwr.pstate = .s0) (e : Eng) (c : Nat) :
    ((standbyFails (other e) c s).eng (other e)).health.role = .failed ∧
    ((standbyFails (other e) c s).eng (other e)).health.step = 1 ∧
    ((standbyFails (other e) c s).eng (other e)).health.lastFail = failCode c ∧
    ((standbyFails (other e) c s).eng e).health = (s.eng e).health ∧
    (standbyFails (other e) c s).bstay.arb.handover = s.bstay.arb.handover ∧
    (standbyFails (other e) c s).bstay.arb.lastCause = c ∧
    (standbyFails (other e) c s).win (engBlk e) = s.win (engBlk e) := by
  have he : (cancelSwitch s).eng e = s.eng e := cancelSwitch_eng s e
  have hw : (cancelSwitch s).win (engBlk e) = s.win (engBlk e) := by rw [State.win, cancelSwitch_flt]; rfl
  have hp' : (failEng (other e) (failCode c) (cancelSwitch s)).pwr.pstate = .s0 :=
    (pstate_of_untouched ((untouched_failEng _ _ _).trans (untouched_cancelSwitch s))).trans hp
  have h : standbyFails (other e) c s =
      (markChange c (startStep1 (other e) (failEng (other e) (failCode c) (cancelSwitch s)))).modArb
        (fun a => { a with undecided := false }) := rfl
  rw [h, startStep1_s0 hp', ← he, ← hw]
  simp [failEng, cancelSwitch_arb, win_modWin_ne _ _ (engBlk_other_ne e)]

/-! ### Both lost (R189, R200) -/

/-- What becomes of an engine when both are lost: one in a role fails, and a FAILED one starts at step 1 (R189, R200). -/
def dropEng (e : Eng) (n : Nat) (s : State) : State :=
  let s1 := if (s.eng e).health.role = .active ∨ (s.eng e).health.role = .standby then failEng e n s else s
  if (s1.eng e).health.role = .failed then startStep1 e s1 else s1

theorem dropEng_other (e : Eng) (n : Nat) (s : State) : (dropEng (other e) n s).eng e = s.eng e := by
  have hf : (failEng (other e) n s).eng e = s.eng e := eng_modEng_otherOf s e _
  simp only [dropEng]
  split <;> split <;> simp only [startStep1_other, hf]

theorem untouched_dropEng (e : Eng) (n : Nat) (s : State) : untouched (dropEng e n s) = untouched s := by
  simp only [dropEng]
  split <;> split <;> simp only [untouched_startStep1, untouched_failEng]

theorem failEng_role (e : Eng) (n : Nat) (s : State) : ((failEng e n s).eng e).health.role = .failed := by
  rw [failEng, State.eng_modEng_same]

theorem dropEng_inRole {e : Eng} {s : State} (n : Nat) (h : inRole e s = true) :
    ((dropEng e n s).eng e).health.role = .failed := by
  rw [inRole_eq_true] at h
  simp only [dropEng]
  rw [if_pos h, if_pos (failEng_role e n s), startStep1_role, failEng_role]

/-- Engine `e` is where arbitration has nothing left to do to it: PERM_FAILED, or FAILED and in step 1 in S0 (R178, R197). -/
def OutOfReach (e : Eng) (s : State) : Prop :=
  (s.eng e).health.role = .permFailed ∨
    ((s.eng e).health.role = .failed ∧ (s.eng e).health.step = 1 ∧ s.pwr.pstate = .s0)

theorem OutOfReach.inRole {e : Eng} {s : State} (h : OutOfReach e s) : inRole e s = false := by
  rcases h with h | ⟨h, -⟩ <;> simp [Machine.inRole, h]

theorem dropEng_outOfReach {e : Eng} {s : State} (n : Nat) (h : OutOfReach e s) :
    ((dropEng e n s).eng e).health = (s.eng e).health := by
  have hr : ¬ ((s.eng e).health.role = .active ∨ (s.eng e).health.role = .standby) := by
    rw [← inRole_eq_true, h.inRole]; decide
  simp only [dropEng]
  rw [if_neg hr]
  rcases h with h | ⟨h, hs, hp⟩
  · rw [if_neg (by rw [h]; decide)]
  · rw [if_pos h, startStep1_s0 hp, State.modWin_eng, State.eng_modEng_same, ← hs]

theorem arbView_bothLost (c : Nat) (x y : Bool) (s : State) : ∃ n m : Nat, arbView (bothLost c x y s) =
    let u := dropEng .main m (dropEng .fore n (cancelSwitch (wbAbort s)))
    (u.engA.health, u.engB.health, { u.bstay.arb with
      lastCause := c, lastFrame := u.scan.frameCnt, undecided := false, handover := false, overlap := false, bothRun := 0 }) := by
  refine ⟨if c != 7 && x then 1 else 2, if c != 7 && y then 1 else 2, ?_⟩
  extract_lets u
  unfold bothLost
  extract_lets lf drop s1 b2 a2 s2 s3
  have hd (e : Eng) (n : Nat) (u : State) : drop e n u = dropEng e n u := by simp only [drop, dropEng]
  have e1 : s1 = markChange c u := by simp only [s1, hd, lf, u]
  clear_value s1 u
  have e2 : arbView s2 = (s1.engA.health, s1.engB.health,
      { s1.bstay.arb with undecided := false, handover := false, overlap := false, bothRun := 0 }) := rfl
  have e3 : arbView s3 = arbView s2 := arbView_raiseFault_elsewhere (by decide) (by decide) _ _ _ _ _
  rw [arbView_reqTrysail, arbView_queueEvent, e3, e2, e1]
  rfl

/-- Each engine is dropped from the state it had. -/
theorem bothLost_drops (c : Nat) (x y : Bool) (s : State) (e : Eng) : ∃ (n : Nat) (u : State),
    (u.eng e).health = (s.eng e).health ∧ u.pwr.pstate = s.pwr.pstate ∧
    ((bothLost c x y s).eng e).health = ((dropEng e n u).eng e).health := by
  obtain ⟨n, m, h⟩ := arbView_bothLost c x y s
  have hh := (cleared_keeps s).1
  have hp : (cancelSwitch (wbAbort s)).pwr.pstate = s.pwr.pstate :=
    pstate_of_untouched ((untouched_cancelSwitch _).trans (untouched_wbAbort s))
  generalize cancelSwitch (wbAbort s) = u at h hh hp
  cases e
  · refine ⟨n, u, hh _, hp, (congrArg Prod.fst h).trans ?_⟩
    exact congrArg Engine.health (dropEng_other .fore m (dropEng .fore n u))
  · refine ⟨m, dropEng .fore n u, ?_, ?_, congrArg (fun v => v.2.1) h⟩
    · exact (congrArg Engine.health (dropEng_other .main n u)).trans (hh _)
    · exact (pstate_of_untouched (untouched_dropEng _ _ _)).trans hp

theorem bothLost_undecided (c : Nat) (x y : Bool) (s : State) : (bothLost c x y s).bstay.arb.undecided = false := by
  obtain ⟨n, m, h⟩ := arbView_bothLost c x y s
  exact congrArg (fun v => v.2.2.undecided) h

theorem bothLost_role {e : Eng} {s : State} (c : Nat) (x y : Bool) (h : inRole e s = true) :
    ((bothLost c x y s).eng e).health.role = .failed := by
  obtain ⟨n, u, hh, -, hb⟩ := bothLost_drops c x y s e
  rw [hb]
  exact dropEng_inRole n (by rw [inRole, hh]; exact h)

theorem bothLost_outOfReach {e : Eng} {s : State} (c : Nat) (x y : Bool) (h : OutOfReach e s) :
    ((bothLost c x y s).eng e).health = (s.eng e).health := by
  obtain ⟨n, u, hh, hp, hb⟩ := bothLost_drops c x y s e
  rw [hb, ← hh]
  exact dropEng_outOfReach n (by rw [OutOfReach, hh, hp]; exact h)

/-! ### Engines that arbitration leaves alone -/

theorem health_arbitrate_outOfReach {e : Eng} {s : State} (x y : Bool) (h : OutOfReach e s) :
    ((arbitrate x y s).eng e).health = (s.eng e).health := by
  unfold arbitrate
  extract_lets hb
  split
  · rfl
  · split
    · rfl
    · rename_i a ha
      have hr : (s.eng a).health.role = .active := active_of_activeEng ha
      have hea : e = other a := by
        refine (eq_or_eq_other e a).resolve_left ?_
        rintro rfl
        exact absurd h.inRole (by rw [inRole_eq_true.2 (.inl hr)]; decide)
      have hst : (s.eng (other a)).health.role ≠ .standby := by
        rw [← hea]
        intro hs
        exact absurd h.inRole (by rw [inRole_eq_true.2 (.inr hs)]; decide)
      extract_lets fa fo cause
      split
      · rfl
      · split
        · exact congrArg Engine.health ((show _ = (cancelSwitch s).eng e by cases e <;> rfl).trans (cancelSwitch_eng s e))
        · unfold arbApply
          rw [if_neg hst]
          split
          · exact bothLost_outOfReach _ _ _ h
          · rfl

/-- The end of an evaluation leaves the health record of an engine out of reach alone. -/
theorem health_settle_outOfReach {e : Eng} {s : State} (h : OutOfReach e s) : ((settle s).eng e).health = (s.eng e).health :=
  (health_of_arbView (arbView_settle s) e).trans (health_arbitrate_outOfReach _ _ h)

end Sys2Proof.Machine
end

section
/-! Heartbeats (R183, R185, R186). -/

namespace Sys2Proof.Machine

/-! ### Strobes and tokens (R183) -/

/-- A health record whose engine has been asked for an answer (R183). -/
def strobed (h : Health) : Health := { h with hbWaiting := true, hbHeard := h.hbHeard && h.hbMisses != 0 }

theorem exec_heartbeatStrobe {s : State} (hf : supervised .fore s = true) (hm : supervised .main s = true) :
    exec .heartbeatStrobe s = .next (settle ((s.modHealth .fore strobed).modHealth .main strobed)) := by
  have hm' : supervised .main (s.modHealth .fore strobed) = true := hm
  have h : bothEngs.foldl (fun s e => if supervised e s then s.modHealth e strobed else s) s =
      (s.modHealth .fore strobed).modHealth .main strobed := by
    rw [bothEngs, List.foldl_cons, if_pos hf, List.foldl_cons, if_pos hm', List.foldl_nil]
  exact congrArg (fun u => Host.Outcome.next (settle u)) h

theorem exec_heartbeatToken_inSequence {e : Eng} {q p : BitVec 8} {s : State} (hs : supervised e s = true)
    (hn : tokensForced e s = false) (he : errLine e s = false) (hw : (s.eng e).health.hbWaiting = true)
    (hp : (s.eng e).health.hbPrev = some p) (hq : q = p + 1) :
    exec (.heartbeatToken e q) s = .next (settle (s.modHealth e (fun h => { h with
      hbPrev := some q, tokenErr := false, hbWaiting := false, hbMisses := 0 }))) := by
  subst hq
  show execHeartbeatToken e _ s = _
  simp only [execHeartbeatToken, done, hs, hn, he, if_true, Bool.false_eq_true, if_false]
  refine congrArg (fun u => Host.Outcome.next (settle u)) (State.modEng_congr ?_)
  simp [hw, hp]

/-! ### Windows without an answer (R185) -/

/-- The state in which an unanswered strobe of engine `e` has been counted (R185). -/
def missed (e : Eng) (s : State) : State :=
  (s.modHealth e (fun h => { h with
    hbWaiting := false, hbMisses := h.hbMisses + 1, hbMissCnt := satInc 16 h.hbMissCnt })).hit (engBlk e) 0xA014 0

/-- At the first miss in a row the count of them is 1. -/
theorem missed_first {e : Eng} {s : State} (h : (s.eng e).health.hbMisses = 0) :
    missed e s = (s.modEng e (fun x => { x with health := { x.health with
      hbWaiting := false, hbMisses := 1, hbMissCnt := satInc 16 x.health.hbMissCnt } })).hit (engBlk e) 0xA014 0 := by
  refine congrArg (fun u => State.hit u (engBlk e) 0xA014 0) (State.modEng_congr ?_)
  simp [h]

theorem missStrobe_unanswered {e : Eng} {s : State} (hs : supervised e s = true) (hw : (s.eng e).health.hbWaiting = true) :
    missStrobe e s = missed e s := by
  rw [missStrobe, hs, hw]
  rfl

theorem missStrobe_answered {e : Eng} {s : State} (hw : (s.eng e).health.hbWaiting = false) : missStrobe e s = s := by
  rw [missStrobe, hw, Bool.and_false]
  rfl

theorem missed_other (e : Eng) (s : State) : (missed e s).eng (other e) = s.eng (other e) := by cases e <;> rfl

theorem hbLost_answered {e : Eng} {s : State} (hw : (s.eng e).health.hbWaiting = false) : hbLost e s = false := by
  simp [hbLost, hw]

theorem hbLost_unanswered {e : Eng} {s : State} (hs : supervised e s = true) (hw : (s.eng e).health.hbWaiting = true) :
    hbLost e s = ((s.eng e).health.hbMisses == 1) := by
  simp [hbLost, hs, hw]

/-- The state in which the loss of the heartbeat of `e` is set, before arbitration acts (R185). -/
def hbFault (e : Eng) (s : State) : State :=
  raiseFault (engBlk e) 2 0 (realLoss e s) (tokensForced e s) (missed e s)

section
variable {e : Eng} {s : State} (hs : supervised e s = true) (hw : (s.eng e).health.hbWaiting = true)
  (ho : (s.eng (other e)).health.hbWaiting = false)
include hs hw ho

/-- A window in which `e` alone has not answered. -/
theorem missStrobes_one : missStrobe .main (missStrobe .fore s) = missed e s := by
  have hm : ((missed e s).eng (other e)).health.hbWaiting = false := by rw [missed_other]; exact ho
  cases e
  · rw [missStrobe_unanswered hs hw]
    exact missStrobe_answered hm
  · rw [show missStrobe .fore s = s from missStrobe_answered ho]
    exact missStrobe_unanswered hs hw

theorem exec_windowEnd_first (h0 : (s.eng e).health.hbMisses = 0) :
    exec .heartbeatWindowEnd s = .next (settle (arbitrate false false (missed e s))) := by
  have he : hbLost e s = false := by rw [hbLost_unanswered hs hw, h0]; rfl
  have hl : hbLost .fore s = false ∧ hbLost .main s = false := by
    cases e
    · exact ⟨he, hbLost_answered ho⟩
    · exact ⟨hbLost_answered ho, he⟩
  show execHeartbeatWindowEnd s = _
  simp only [execHeartbeatWindowEnd, done, hl.1, hl.2, missStrobes_one hs hw ho, Bool.false_eq_true, if_false]

theorem exec_windowEnd_second (h1 : (s.eng e).health.hbMisses = 1) :
    exec .heartbeatWindowEnd s = .next (settle (arbitrate (e == .fore) (e == .main) (hbFault e s))) := by
  have he : hbLost e s = true := by rw [hbLost_unanswered hs hw, h1]; rfl
  show execHeartbeatWindowEnd s = _
  simp only [execHeartbeatWindowEnd, done, missStrobes_one hs hw ho]
  cases e
  · rw [he, show hbLost .main s = false from hbLost_answered ho]
    rfl
  · rw [he, show hbLost .fore s = false from hbLost_answered ho]
    rfl

end

/-! ### What a heartbeat loss leaves as it was -/

theorem missed_role (e k : Eng) (s : State) : ((missed e s).eng k).health.role = (s.eng k).health.role := by
  cases e <;> cases k <;> rfl

theorem missed_errLine (e k : Eng) (s : State) : errLine k (missed e s) = errLine k s := by
  cases e <;> cases k <;> rfl

theorem noErrorLine_missed {s : State} (e : Eng) (h : NoErrorLine s) : NoErrorLine (missed e s) := by
  intro k hk
  rw [inRole, missed_role] at hk
  rw [missed_errLine]
  exact h k hk

theorem hbFault_role (e k : Eng) (s : State) : ((hbFault e s).eng k).health.role = (s.eng k).health.role :=
  (role_raiseFault _ _ _ _ _ _ k).trans (missed_role e k s)

theorem hbFault_arb (e : Eng) (s : State) : (hbFault e s).bstay.arb = s.bstay.arb :=
  (arb_raiseFault _ _ _ _ _ _).trans (by cases e <;> rfl)

theorem hbFault_pstate (e : Eng) (s : State) : (hbFault e s).pwr.pstate = s.pwr.pstate :=
  (raiseFault_pstate _ _ _ _ _ _).trans (by cases e <;> rfl)

theorem hbFault_errLine_other (e : Eng) (s : State) : errLine e (hbFault (other e) s) = errLine e s := by
  refine (errLine_congr ?_ ?_).trans (missed_errLine (other e) e s)
  · exact congrArg FltWin.status (raiseFault_win_ne _ _ _ _ _ (engBlk_other_ne e))
  · exact congrArg Health.resetErr (health_raiseFault_other e _ _ _ _ _)

/-! ### Arbitration on a heartbeat loss (R186, Table 06.2) -/

/-- The heartbeat loss of an engine among those of Fore and Main. -/
def lossOf (x y : Bool) : Eng → Bool
  | .fore => x
  | .main => y

theorem lossOf_self (e : Eng) : lossOf (e == .fore) (e == .main) e = true := by cases e <;> rfl

theorem lossOf_other (e : Eng) : lossOf (e == .fore) (e == .main) (other e) = false := by cases e <;> rfl

section
variable {a : Eng} {s : State} (hp : s.pwr.pstate = .s0) (h1 : s.bstay.arb.s1Pend = false)
  (hu : s.bstay.arb.undecided = false) (ha : activeEng s = some a) (ho : (s.eng (other a)).health.role = .standby)
include hp h1 hu ha

/-- In S0, with nothing latched and nothing undecided, arbitration acts at once on the flags of both engines. -/
theorem arbitrate_atOnce (x y : Bool) :
    arbitrate x y s =
      let fa := flagged a (lossOf x y a) s
      let fo := flagged (other a) (lossOf x y (other a)) s
      if !fa && !fo then s
      else arbApply a fa fo (arbCause false fa fo (lossOf x y a) (lossOf x y (other a))) x y s := by
  simp only [arbitrate, hp, ha, h1, hu, deep, Bool.false_eq_true, if_false, Bool.or_false, reduceCtorEq, decide_false]
  rfl

include ho

theorem arbitrate_activeSilent (he : errLine (other a) s = false) :
    arbitrate (a == .fore) (a == .main) s = switchOver a 1 s := by
  have hfa : flagged a true s = true := by simp [flagged, inRole, active_of_activeEng ha]
  have hfo : flagged (other a) false s = false := by simp [flagged, he]
  rw [arbitrate_atOnce hp h1 hu ha, lossOf_self, lossOf_other, hfa, hfo]
  simp [arbApply, ho, arbCause]

theorem arbitrate_standbySilent (he : errLine a s = false) :
    arbitrate (other a == .fore) (other a == .main) s = standbyFails (other a) 2 s := by
  have hfa : flagged a false s = false := by simp [flagged, he]
  have hfo : flagged (other a) true s = true := by simp [flagged, inRole, ho]
  have hla : lossOf (other a == .fore) (other a == .main) a = false := by
    simpa using lossOf_other (other a)
  rw [arbitrate_atOnce hp h1 hu ha, lossOf_self, hla, hfa, hfo]
  simp [arbApply, ho, arbCause]

end

/-! ### The second unanswered window (R186) -/

theorem supervised_pair {a : Eng} {s : State} (hp : s.pwr.pstate = .s0) (ha : activeEng s = some a)
    (ho : (s.eng (other a)).health.role = .standby) : supervised a s = true ∧ supervised (other a) s = true := by
  simp [supervised, inRole, active_of_activeEng ha, ho, hp, deep]

section
variable {a : Eng} {s : State} (hp : s.pwr.pstate = .s0) (h1 : s.bstay.arb.s1Pend = false)
  (hu : s.bstay.arb.undecided = false) (ha : activeEng s = some a) (ho : (s.eng (other a)).health.role = .standby)
include hp h1 hu ha ho

/-- The ACTIVE engine's loss switches over to a STANDBY engine whose error line is free. -/
theorem windowEnd_activeSilent (he : errLine (other a) s = false) (hw : (s.eng a).health.hbWaiting = true)
    (hm : (s.eng a).health.hbMisses = 1) (hw' : (s.eng (other a)).health.hbWaiting = false) :
    ∃ t, exec .heartbeatWindowEnd s = .next t ∧ (t.eng a).health.role = .failed ∧
      (t.eng (other a)).health.role = .active ∧ t.bstay.arb.handover = true ∧ (t.eng a).health.lastFail = 1 ∧
      t.bstay.arb.lastCause = 1 := by
  refine ⟨_, exec_windowEnd_second (supervised_pair hp ha ho).1 hw hw' hm, ?_⟩
  have hv : errLine (other a) (hbFault a s) = false := by
    have h := hbFault_errLine_other (other a) s
    rw [other_other] at h
    exact h.trans he
  have harb := hbFault_arb a s
  rw [arbitrate_activeSilent ((hbFault_pstate a s).trans hp) (by rw [harb, h1]) (by rw [harb, hu])
    ((activeEng_of_roles (hbFault_role a · s)).trans ha) ((hbFault_role a _ s).trans ho) hv]
  obtain ⟨hr, hl, hh, hd, hc, hf⟩ := switchOver_result a 1 (hbFault a s)
  generalize hbFault a s = v at *
  have hq : NoErrorLine (switchOver a 1 v) := by
    intro k hk
    rcases eq_or_eq_other k a with rfl | rfl
    · rw [not_inRole_of_failed hr] at hk; cases hk
    · refine (errLine_congr ?_ ?_).trans hv
      · rw [State.win, hf]; rfl
      · rw [hh]
  have ht := arbView_settle_quiet hq
  rw [health_of_arbView ht, health_of_arbView ht, arb_of_arbView ht, hh]
  exact ⟨hr, rfl, hd, hl, hc⟩

/-- The STANDBY engine's loss takes it to step 1, and the ACTIVE engine, whose error line is free, stays. -/
theorem windowEnd_standbySilent (he : errLine a s = false) (hw : (s.eng (other a)).health.hbWaiting = true)
    (hm : (s.eng (other a)).health.hbMisses = 1) (hw' : (s.eng a).health.hbWaiting = false) :
    ∃ t, exec .heartbeatWindowEnd s = .next t ∧ (t.eng (other a)).health.role = .failed ∧
      (t.eng (other a)).health.step = 1 ∧ (t.eng a).health.role = .active ∧ t.bstay.arb.handover = s.bstay.arb.handover ∧
      (t.eng (other a)).health.lastFail = 1 ∧ t.bstay.arb.lastCause = 2 := by
  refine ⟨_, exec_windowEnd_second (supervised_pair hp ha ho).2 hw (by rw [other_other]; exact hw') hm, ?_⟩
  have hv : errLine a (hbFault (other a) s) = false := (hbFault_errLine_other a s).trans he
  have harb := hbFault_arb (other a) s
  have hra := (hbFault_role (other a) a s).trans (active_of_activeEng ha)
  have hpv := (hbFault_pstate (other a) s).trans hp
  rw [arbitrate_standbySilent hpv (by rw [harb, h1]) (by rw [harb, hu])
    ((activeEng_of_roles (hbFault_role (other a) · s)).trans ha) ((hbFault_role (other a) _ s).trans ho) hv, ← harb]
  obtain ⟨hr, hs, hl, hh, hd, hc, hf⟩ := standbyFails_result hpv a 2
  generalize hbFault (other a) s = v at *
  have hq : NoErrorLine (standbyFails (other a) 2 v) := by
    intro k hk
    rcases eq_or_eq_other k a with rfl | rfl
    · refine (errLine_congr ?_ ?_).trans hv
      · rw [hf]
      · rw [hh]
    · rw [not_inRole_of_failed hr] at hk; cases hk
  have ht := arbView_settle_quiet hq
  rw [health_of_arbView ht, health_of_arbView ht, arb_of_arbView ht, hh]
  exact ⟨hr, hs, hra, hd, hl, hc⟩

end

/-- Settles O27: a window in which one engine has not answered leads to `missed` or, at the second, to arbitration on its
loss, whose outcome the end of the evaluation leaves as it is because no other error line is up. -/
theorem heartbeatLossSwitchesOver : Obligations.HeartbeatLossSwitchesOver := by
  refine ⟨fun s hf hm => ?_, fun e q p s hs hn he hw hq hqp => ?_, fun e s hf hm hn hw h0 ho => ?_,
    fun a s hp h1 hu ha ho hf hm => ⟨windowEnd_activeSilent hp h1 hu ha ho ?_, windowEnd_standbySilent hp h1 hu ha ho ?_⟩⟩
  · exact exec_heartbeatStrobe hf hm
  · exact exec_heartbeatToken_inSequence hs hn he hw hq hqp
  · have hs : supervised e s = true := by cases e <;> assumption
    rw [exec_windowEnd_first hs hw ho h0, arbitrate_calm _ (noErrorLine_missed e hn), missed_first h0]
  · cases a <;> assumption
  · cases a <;> assumption

end Sys2Proof.Machine
end

section
/-! Engine errors and undecided mismatches (R184, R186, R187, R189, R195). -/

namespace Sys2Proof.Machine

/-- A check that finds an error of its own, where none is injected or forced, sets its source as real. -/
theorem check_found {b n : Nat} (i : Nat) {s : State} (h : fails b n false s = false) :
    check b n i true s = raiseFault b n i true false s := by
  simp only [fails, Bool.false_or, Bool.or_eq_false_iff] at h
  simp [check, h]

theorem exec_engErrAssert {e : Eng} {s : State} (ho : blockOff (engBlk e) s = false) (src : Fin 3) :
    exec (.engErrAssert e src) s =
      .next (settle (if src = 1 then check (engBlk e) 1 0 true s else check (engBlk e) 0 0 (src == 0) s)) := by
  show execEngErrAssert e src s = _
  rw [execEngErrAssert, ho]
  rfl

/-! ### A mismatch that nothing has decided (R187, R189, R195) -/

theorem undecidedDue_eq_true {s : State} (hu : s.bstay.arb.undecided = true) (ht : s.bstay.arb.undecidedAt + 4000 ≤ s.ticks) :
    undecidedDue s = true := by
  simp [undecidedDue, hu, ht]

theorem exec_mismatchTimeout_notDue {s : State}
    (h : s.bstay.arb.undecided = false ∨ s.ticks < s.bstay.arb.undecidedAt + 4000) :
    exec .mismatchDecideTimeout s = .next (settle s) := by
  have hd : undecidedDue s = false := by
    rcases h with h | h
    · simp [undecidedDue, h]
    · simp [undecidedDue, h]
  show execMismatchDecideTimeout s = _
  rw [execMismatchDecideTimeout, hd]
  rfl

/-- Where neither error line is up, nothing tells the two engines apart: both are lost (R187, R189). -/
theorem decideMismatch_unflagged {a : Eng} {s : State} (ha : activeEng s = some a)
    (ho : (s.eng (other a)).health.role = .standby) (h : ∀ e, errLine e s = false) :
    decideMismatch s = bothLost 7 false false s := by
  have hq (e : Eng) : flagged e false s = false := by simp [flagged, h]
  simp only [decideMismatch, ha, hq, beq_self_eq_true, if_true, arbApply, ho, Bool.and_self]

theorem exec_mismatchTimeout_s0 {s : State} (hd : undecidedDue s = true) (hp : s.pwr.pstate = .s0) :
    exec .mismatchDecideTimeout s = .next (settle (decideMismatch s)) := by
  show execMismatchDecideTimeout s = _
  rw [execMismatchDecideTimeout, hd, hp]
  rfl

theorem exec_mismatchTimeout_s1 {s : State} (hd : undecidedDue s = true) (hp : s.pwr.pstate = .s1)
    (h1 : s.bstay.arb.s1Pend = false) :
    exec .mismatchDecideTimeout s = .next (settle ((cancelSwitch s).modArb (fun r => { r with
      undecided := false, s1Pend := true, s1Cause := 7, s1FailA := true, s1FailB := true }))) := by
  have hc : (cancelSwitch s).bstay.arb.s1Pend = false := (congrArg Arb.s1Pend (cancelSwitch_arb s)).trans h1
  show execMismatchDecideTimeout s = _
  simp only [execMismatchDecideTimeout, hd, hp, if_true, reduceCtorEq, if_false, State.modArb, State.modBstay, hc,
    Bool.false_eq_true]
  rfl

/-- With no switch and no recovery under way there is nothing to cancel (R194). -/
theorem cancelSwitch_idle {s : State} (hp : s.bstay.arb.planned = []) (hr : s.bstay.arb.recovery = []) : cancelSwitch s = s := by
  have h (r : Arb) (hp : r.planned = []) (hr : r.recovery = []) : { r with planned := [], recovery := [] } = r := by
    cases r
    cases hp
    cases hr
    rfl
  simp only [cancelSwitch, hp, hr, List.append_nil, List.foldl_nil, h _ hp hr]

/-- Both engines of a pair are FAILED after the decision, no error line counts, and the engine state is both lost. -/
theorem mismatchTimeout_bothLost {a : Eng} {s : State} (ha : activeEng s = some a)
    (ho : (s.eng (other a)).health.role = .standby) :
    estate (settle (bothLost 7 false false s)) = 3 ∧ (settle (bothLost 7 false false s)).bstay.arb.undecided = false := by
  have hr (e : Eng) : ((bothLost 7 false false s).eng e).health.role = .failed := by
    refine bothLost_role 7 false false (inRole_eq_true.2 ?_)
    rcases eq_or_eq_other e a with rfl | rfl
    · exact .inl (active_of_activeEng ha)
    · exact .inr ho
  have hq : NoErrorLine (bothLost 7 false false s) := fun e he => by
    rw [not_inRole_of_failed (hr e)] at he; cases he
  have ht := arbView_settle_quiet hq
  constructor
  · have hn : activeEng (settle (bothLost 7 false false s)) = none := by
      refine activeEng_eq_none (fun e => ?_)
      rw [health_of_arbView ht, hr]
      decide
    rw [estate, hn]
  · rw [arb_of_arbView ht]
    exact bothLost_undecided 7 false false s

/-- Settles O28: an error goes through `check_found`, a mismatch through `decideMismatch_unflagged` or, in S1, the latch. -/
theorem engineErrorsAndUndecidedMismatch : Obligations.EngineErrorsAndUndecidedMismatch := by
  refine ⟨fun e s ho h0 h1 => ⟨?_, ?_, ?_⟩, fun a s hu ht hp ha hst hf hm => ?_,
    fun s hu ht hp h1 => ⟨fun hpl hre => ?_, ?_, ?_, ?_⟩, fun s h => exec_mismatchTimeout_notDue h⟩
  · rw [exec_engErrAssert ho]
    exact congrArg (fun u => Host.Outcome.next (settle u)) (check_found 0 h0)
  · rw [exec_engErrAssert ho]
    exact congrArg (fun u => Host.Outcome.next (settle u)) (check_found 0 h1)
  · rw [exec_engErrAssert ho]
    exact congrArg (fun u => Host.Outcome.next (settle u)) (check_quiet _ 0 0 _ s h0)
  · have hl (e : Eng) : errLine e s = false := by cases e <;> assumption
    obtain ⟨he, hn⟩ := mismatchTimeout_bothLost ha hst
    refine ⟨_, ?_, he, (settle_safe _).1.2 he, hn⟩
    rw [exec_mismatchTimeout_s0 (undecidedDue_eq_true hu ht) hp, decideMismatch_unflagged ha hst hl]
  · rw [exec_mismatchTimeout_s1 (undecidedDue_eq_true hu ht) hp h1, cancelSwitch_idle hpl hre]
    rfl
  · exact congrArg Arb.planned (cancelSwitch_arb s)
  · exact congrArg Arb.recovery (cancelSwitch_arb s)
  · exact exec_mismatchTimeout_s1 (undecidedDue_eq_true hu ht) hp h1

end Sys2Proof.Machine
end

section
/-! Switch-over and resynchronisation (R190 to R193, R197, R198, Table 06.4). -/

namespace Sys2Proof.Machine

/-! ### The handover of the row bus (R190 to R193) -/

theorem exec_switchoverHandover {a : Eng} {s : State} (hh : s.bstay.arb.handover = true) (ho : s.bstay.arb.overlap = false)
    (ha : activeEng s = some a) :
    exec .switchoverHandover s = .next (settle ((s.modArb (fun r => { r with ownerMain := a == .main, overlap := true })).modEng a
      (fun x => { x with dirty := incomingDirty x, overlapFirst := [], overlapDue := false }))) := by
  show execSwitchoverHandover s = _
  simp only [execSwitchoverHandover, done, hh, ho, ha, Bool.not_false, Bool.and_self, if_true]

theorem exec_switchoverOverlapEnd {a : Eng} {s : State} (hh : s.bstay.arb.handover = true) (ho : s.bstay.arb.overlap = true)
    (ha : activeEng s = some a) :
    exec .switchoverOverlapEnd s = .next (settle (startStep1 (other a)
      (queueEvent 0x0A01 2 [put 8 s.bstay.arb.lastCause ||| put 4 (engNo a) ||| put 0 (engNo (other a))]
        ((s.modArb (fun r => { r with handover := false, overlap := false, ownerMain := a == .main })).modEng a
          (fun x => { x with dirty := setUnion x.dirty x.overlapFirst }))))) := by
  show execSwitchoverOverlapEnd s = _
  simp only [execSwitchoverOverlapEnd, endSwitchover, done, hh, ho, ha, if_true]

/-! ### A step that fails (R197) -/

/-- The first two attempts that fail lead back to step 1. -/
theorem restartResync_again {e : Eng} {s : State} (hp : s.pwr.pstate = .s0) (hn : (s.eng e).health.attempts < 2) :
    ((restartResync e s).eng e).health =
      { (s.eng e).health with attempts := (s.eng e).health.attempts + 1, matchRun := 0, shadowed := 0, step := 1 } ∧
    (restartResync e s).pwr.pstate = .s0 := by
  have h3 : ¬ 3 ≤ (s.eng e).health.attempts + 1 := by omega
  simp only [restartResync, if_neg h3]
  rw [startStep1_s0 (by simp [State.modHealth, hp])]
  simp [State.modHealth, hp]

/-- The third makes the engine PERM_FAILED, whatever the reactions of its source are. -/
theorem restartResync_third {e : Eng} {s : State} (hn : 2 ≤ (s.eng e).health.attempts) :
    ((restartResync e s).eng e).health.role = .permFailed := by
  have h3 : 3 ≤ (s.eng e).health.attempts + 1 := by omega
  simp only [restartResync, if_pos h3]
  rw [role_raiseFault]
  simp [State.modHealth]

/-- After a failed step that is tried again, the end of the evaluation leaves the engine in step 1 with one attempt more. -/
theorem settle_restartResync_again {e : Eng} {s : State} (hp : s.pwr.pstate = .s0) (hr : (s.eng e).health.role = .failed)
    (hn : (s.eng e).health.attempts < 2) :
    ((settle (restartResync e s)).eng e).health =
      { (s.eng e).health with attempts := (s.eng e).health.attempts + 1, matchRun := 0, shadowed := 0, step := 1 } := by
  obtain ⟨hh, hp'⟩ := restartResync_again hp hn
  rw [health_settle_outOfReach (.inr ⟨by rw [hh]; exact hr, by rw [hh], hp'⟩), hh]

theorem settle_restartResync_third {e : Eng} {s : State} (hn : 2 ≤ (s.eng e).health.attempts) :
    ((settle (restartResync e s)).eng e).health.role = .permFailed := by
  have h := restartResync_third hn
  rw [health_settle_outOfReach (.inl h), h]

/-! ### Step 1: the block reset (R197, R366) -/

/-- The engine at its reset values, but for its health record and its fault window (R197, R366). -/
def clearedEngine (e : Eng) (s : State) : State :=
  (s.modEng e (fun x => { health := { x.health with resetErr := false, hbPrev := none } })).modWin (engBlk e)
    (fun w => { w with resetting := false })

theorem clearedEngine_health (e : Eng) (s : State) :
    ((clearedEngine e s).eng e).health = { (s.eng e).health with resetErr := false, hbPrev := none } := by
  simp [clearedEngine]

theorem clearedEngine_pstate (e : Eng) (s : State) : (clearedEngine e s).pwr.pstate = s.pwr.pstate := by
  simp [clearedEngine]

section
variable {e : Eng} {s : State} (hr : (s.eng e).health.role = .failed) (hp : s.pwr.pstate = .s0)
include hr hp

theorem exec_engineBlockResetDone (tokens : Bool) (h1 : (s.eng e).health.step = 1) :
    exec (.engineBlockResetDone ⟨e, tokens⟩) s = .next (settle (
      if tokens && !tokensForced e s then (clearedEngine e s).modHealth e (fun h => { h with step := 2 })
      else restartResync e (clearedEngine e s))) := by
  show done (engineResetDone e tokens s) = _
  rw [engineResetDone, if_pos ⟨hr, h1, hp⟩]
  rfl

theorem blockReset_passes (h1 : (s.eng e).health.step = 1) (ht : tokensForced e s = false) :
    exec (.engineBlockResetDone ⟨e, true⟩) s = .next (settle ((s.modEng e (fun x => { health := { x.health with
      step := 2, resetErr := false, hbPrev := none } })).modWin (engBlk e) (fun w => { w with resetting := false }))) := by
  rw [exec_engineBlockResetDone hr hp true h1, ht]
  cases e <;> rfl

theorem blockReset_fails (h1 : (s.eng e).health.step = 1) :
    exec (.engineBlockResetDone ⟨e, false⟩) s = .next (settle (restartResync e (clearedEngine e s))) :=
  exec_engineBlockResetDone hr hp false h1

theorem blockReset_again (h1 : (s.eng e).health.step = 1) (hn : (s.eng e).health.attempts < 2) :
    ∃ t, exec (.engineBlockResetDone ⟨e, false⟩) s = .next t ∧ (t.eng e).health.attempts = (s.eng e).health.attempts + 1 ∧
      (t.eng e).health.step = 1 ∧ (t.eng e).health.role = .failed := by
  have hh := clearedEngine_health e s
  refine ⟨_, blockReset_fails hr hp h1, ?_⟩
  rw [settle_restartResync_again ((clearedEngine_pstate e s).trans hp) (by rw [hh]; exact hr) (by rw [hh]; exact hn), hh]
  exact ⟨rfl, rfl, hr⟩

theorem blockReset_third (h1 : (s.eng e).health.step = 1) (hn : 2 ≤ (s.eng e).health.attempts) :
    ∃ t, exec (.engineBlockResetDone ⟨e, false⟩) s = .next t ∧ (t.eng e).health.role = .permFailed :=
  ⟨_, blockReset_fails hr hp h1, settle_restartResync_third (by rw [clearedEngine_health]; exact hn)⟩

/-! ### Step 2: the self-test (R197, R200) -/

/-- A test that is passed leads to step 3 where the other engine is not lost as well. -/
theorem selfTest_passes (h2 : (s.eng e).health.step = 2) (he : estate s ≠ 3) :
    exec (.engineSelfTestDone e true) s = .next (settle (s.modEng e (fun x => { x with health := { x.health with
      step := 3, testResult := 1, testFrame := s.scan.frameCnt } }))) := by
  have hk (k : Eng) : ((s.modHealth e (fun h => { h with testResult := 1, testFrame := s.scan.frameCnt })).eng k).health.role =
      (s.eng k).health.role := by
    cases e <;> cases k <;> rfl
  have he' : estate (s.modHealth e (fun h => { h with testResult := 1, testFrame := s.scan.frameCnt })) ≠ 3 := by
    rw [estate_of_roles hk]; exact he
  show execEngineSelfTestDone e true s = _
  rw [execEngineSelfTestDone, if_pos ⟨hr, h2, hp⟩]
  simp only [if_true, if_neg he']
  cases e <;> rfl

/-- A test that fails is noted and reported, and the step fails (R197). -/
theorem exec_selfTest_fails (h2 : (s.eng e).health.step = 2) : ∃ u, exec (.engineSelfTestDone e false) s =
      .next (settle (restartResync e u)) ∧ u.pwr.pstate = .s0 ∧ (u.eng e).health.role = .failed ∧
      (u.eng e).health.attempts = (s.eng e).health.attempts ∧ (u.eng e).health.testResult = 2 := by
  have hx : exec (.engineSelfTestDone e false) s = .next (settle (restartResync e (raiseFault (engBlk e) 5 0 true false
      (s.modHealth e (fun h => { h with testResult := 2, testFrame := s.scan.frameCnt }))))) := by
    show execEngineSelfTestDone e false s = _
    rw [execEngineSelfTestDone, if_pos ⟨hr, h2, hp⟩]
    rfl
  have hv : ((s.modHealth e (fun h => { h with testResult := 2, testFrame := s.scan.frameCnt })).eng e).health =
      { (s.eng e).health with testResult := 2, testFrame := s.scan.frameCnt } := by simp [State.modHealth]
  obtain ⟨p, h⟩ := health_raiseFault (engBlk e) 5 0 true false
    (s.modHealth e (fun h => { h with testResult := 2, testFrame := s.scan.frameCnt })) e
  rw [hv] at h
  refine ⟨_, hx, ?_, ?_, ?_, ?_⟩
  · rw [raiseFault_pstate, State.modHealth, State.modEng_pwr, hp]
  · rw [h, resetHealth_role]
    exact hr
  · rw [h, resetHealth_attempts]
  · rw [h, resetHealth_testResult]

theorem selfTest_again (h2 : (s.eng e).health.step = 2) (hn : (s.eng e).health.attempts < 2) :
    ∃ t, exec (.engineSelfTestDone e false) s = .next t ∧ (t.eng e).health.attempts = (s.eng e).health.attempts + 1 ∧
      (t.eng e).health.step = 1 ∧ (t.eng e).health.role = .failed ∧ (t.eng e).health.testResult = 2 := by
  obtain ⟨u, hx, hpu, hru, ha, ht⟩ := exec_selfTest_fails hr hp h2
  refine ⟨_, hx, ?_⟩
  rw [settle_restartResync_again hpu hru (by rw [ha]; exact hn), ha]
  exact ⟨rfl, rfl, hru, ht⟩

theorem selfTest_third (h2 : (s.eng e).health.step = 2) (hn : 2 ≤ (s.eng e).health.attempts) :
    ∃ t, exec (.engineSelfTestDone e false) s = .next t ∧ (t.eng e).health.role = .permFailed := by
  obtain ⟨u, hx, -, -, ha, -⟩ := exec_selfTest_fails hr hp h2
  exact ⟨_, hx, settle_restartResync_third (by rw [ha]; exact hn)⟩

/-! ### Step 3: the copy (R197, R198) -/

theorem resyncCopy_ends {a : Eng} (h3 : (s.eng e).health.step = 3) (ha : activeEng s = some a) :
    exec (.resyncCopyDone e true) s = .next (settle (s.modEng e (fun x => { copyFrom (s.eng a) x with
      health := { x.health with step := 4, shadowed := 0, matchRun := 0, frameBad := false, rowsEqual := 0 } }))) := by
  show execResyncCopyDone e true s = _
  rw [execResyncCopyDone, if_pos ⟨hr, h3, hp⟩, ha]
  cases e <;> rfl

end

/-- An engine that is not FAILED is in no step (Table 06.4). -/
theorem resync_notInProgress {e : Eng} {s : State} (h : (s.eng e).health.role ≠ .failed) (tokens passed ok : Bool) :
    exec (.engineBlockResetDone ⟨e, tokens⟩) s = .next (settle s) ∧ exec (.engineSelfTestDone e passed) s = .next (settle s) ∧
      exec (.resyncCopyDone e ok) s = .next (settle s) :=
  ⟨congrArg (fun u => Host.Outcome.next (settle u)) (if_neg (fun hc => h hc.1)),
    congrArg (fun u => Host.Outcome.next (settle u)) (if_neg (fun hc => h hc.1)),
    congrArg (fun u => Host.Outcome.next (settle u)) (if_neg (fun hc => h hc.1))⟩

/-- Settles O29, row by row: a step that fails leaves an engine out of arbitration's reach, so that the end of the evaluation
keeps its health record. -/
theorem switchOverAndResynchronisation : Obligations.SwitchOverAndResynchronisation :=
  ⟨⟨fun _ _ hh ho ha => exec_switchoverHandover hh ho ha, fun _ _ hh ho ha => exec_switchoverOverlapEnd hh ho ha⟩,
    fun _ _ hr hp => ⟨blockReset_passes hr hp, blockReset_again hr hp, blockReset_third hr hp, selfTest_passes hr hp,
      selfTest_again hr hp, selfTest_third hr hp, fun _ => resyncCopy_ends hr hp⟩,
    fun _ tokens passed ok _ h => resync_notInProgress h tokens passed ok⟩

end Sys2Proof.Machine
end

section
/-! ENGINE_SWITCH and ENGINE_HEALTH (R196, R197, R201, R204, R314). -/

namespace Sys2Proof.Machine

/-! ### Fields of the commands' words -/

theorem within_iff {w mask : Word} : within w mask = true ↔ ∀ i, i < 32 → w.getLsbD i = true → mask.getLsbD i = true := by
  rw [within, beq_iff_eq]
  constructor
  · intro h i hi hw
    have hb := congrArg (·.getLsbD i) h
    simpa [hw, hi] using hb
  · intro h
    refine BitVec.eq_of_getLsbD_eq (fun i hi => ?_)
    cases hw : w.getLsbD i with
    | false => simp [hw]
    | true => simp [h i hi hw]

/-- A field that the mask covers can be set to anything. -/
theorem within_setField {w mask : Word} {lo len : Nat} (v : Nat) (h : within w mask = true)
    (hm : ∀ i, lo ≤ i → i < lo + len → mask.getLsbD i = true) : within (setField w lo len v) mask = true := by
  rw [within_iff] at h ⊢
  intro i hi hw
  rw [setField_getLsbD] at hw
  split at hw
  · rename_i hr
    exact hm i hr.1 hr.2
  · exact h i hi hw

/-- The word that a row of ENGINE_HEALTH stamps with its operation names the same engine and is well-formed (Table 11.9). -/
theorem healthWord_stamped {w : Word} (h : within w 0x103 = true) {v : Nat} (hv : v < 3) :
    within (setField w 0 2 v) 0x103 = true ∧ bits (setField w 0 2 v) 0 2 = v ∧ bit (setField w 0 2 v) 8 = bit w 8 := by
  refine ⟨within_setField v h (fun i _ hi => ?_), bits_setField_same (by omega) (by decide), ?_⟩
  · have hi' : i = 0 ∨ i = 1 := by omega
    rcases hi' with rfl | rfl <;> decide
  · rw [bit, setField_getLsbD, if_neg (by omega)]
    rfl

/-! ### ENGINE_SWITCH (R196) -/

/-- A fast-path command that is refused, with the state as it was. -/
theorem fast_refused {op : OpFn} {code : Nat} {c : CmdCtx} {ws : List Word} {s : State} {st : BitVec 8}
    (h : fastReady code c ws s = true) (e : op c ws s = endWith st s) :
    settle (submit op code c ws s) = settle (reply c code st [] s) := by
  rw [submit_fast_fin op code c ws s s st [] h e]

theorem estate_of_passedBoth {e : Eng} {s : State} (h : passedBoth e s = true) : estate s = 3 := by
  simp only [passedBoth, Bool.and_eq_true, beq_iff_eq] at h
  exact h.1.1.1

theorem opEngineSwitch_eq {w : Word} (c : CmdCtx) (s : State) (hw : within w 1 = true) :
    opEngineSwitch c [w] s =
      if s.pwr.pstate ≠ .s0 then endWith stBadState s
      else if estate s ≤ 1 ∧ (s.eng (engOf (bit w 0))).health.role = .standby ∧
          16 ≤ (s.eng (engOf (bit w 0))).health.matchRun then
        endWith stOk (s.modArb (fun a => { a with planned := a.planned ++ [(bit w 0, c.tag)] }))
      else if passedBoth (engOf (bit w 0)) s then
        endWith stOk (s.modArb (fun a => { a with recovery := a.recovery ++ [(bit w 0, c.tag)] }))
      else endWith stBadState s := by
  simp only [opEngineSwitch, List.getD_cons_zero, hw, Bool.not_true, Bool.false_eq_true, if_false]

theorem exec_engineSwitch (c : CmdCtx) (ws : List Word) (s : State) :
    exec (.engineSwitch c ws) s = .next (settle (submit opEngineSwitch 0x90 c ws s)) := rfl

/-! ### ENGINE_HEALTH (R197, R201, R204) -/

section
variable {w : Word} {c : CmdCtx} {s : State} (hw : within w 0x103 = true)
include hw

theorem opEngineHealth_read (h0 : bits w 0 2 = 0) : opEngineHealth c [w] s =
    if blockOff 5 s || blockOff 6 s || blockOff 10 s then endWith stBlockOff s
    else ((if (activeEng s).isNone then (s.draw).2 else s), .fin stOk (healthWords s)) := by
  simp only [opEngineHealth, List.getD_cons_zero, hw, h0, Bool.not_true, Nat.reduceBEq, Bool.or_self, Bool.false_eq_true,
    if_false, if_true]

theorem opEngineHealth_denied (h0 : bits w 0 2 = 1 ∨ bits w 0 2 = 2) (hs : inSession c s = false) :
    opEngineHealth c [w] s = endWith stDenied s := by
  rcases h0 with h0 | h0 <;>
    simp only [opEngineHealth, List.getD_cons_zero, hw, h0, hs, Bool.not_true, Bool.not_false, Nat.reduceBEq, Nat.reduceEqDiff,
      one_ne_zero, Bool.or_self, Bool.false_eq_true, if_false, if_true]

/-- RUN_TEST where the session and the word are right: the STANDBY engine, if there is one, starts at step 1 (R201). -/
theorem opEngineHealth_runTest (h1 : bits w 0 2 = 1) (hs : inSession c s = true) :
    (∀ a, activeEng s = some a → (s.eng (other a)).health.role = .standby →
      opEngineHealth c [w] s = endWith stOk (runResync (other a) c.tag s)) ∧
    ((∀ a, activeEng s = some a → (s.eng (other a)).health.role ≠ .standby) → opEngineHealth c [w] s = endWith stBadState s) := by
  have hop : opEngineHealth c [w] s = (activeEng s).elim (endWith stBadState s) (fun a =>
      if (s.eng (other a)).health.role = .standby then endWith stOk (runResync (other a) c.tag s) else endWith stBadState s) := by
    simp only [opEngineHealth, List.getD_cons_zero, hw, h1, hs, Bool.not_true, Nat.reduceBEq, one_ne_zero, Bool.or_self,
      Bool.false_eq_true, if_false, if_true]
    cases activeEng s <;> rfl
  rw [hop]
  refine ⟨fun a ha ho => ?_, fun h => ?_⟩
  · rw [ha]
    exact if_pos ho
  · cases ha : activeEng s with
    | none => rfl
    | some a => exact if_neg (h a ha)

theorem opEngineHealth_retry (h2 : bits w 0 2 = 2) (hs : inSession c s = true) : opEngineHealth c [w] s =
    if (s.eng (engOf (bit w 8))).health.role = .permFailed then endWith stOk (runResync (engOf (bit w 8)) c.tag s)
    else endWith stBadState s := by
  simp only [opEngineHealth, List.getD_cons_zero, hw, h2, hs, Bool.not_true, Nat.reduceBEq, Nat.reduceEqDiff, OfNat.ofNat_ne_zero,
    Bool.or_self, Bool.false_eq_true, if_false]

end

theorem exec_engineHealth (c : CmdCtx) (w : Word) (s : State) :
    exec (.engineHealthRead c [w]) s = .next (settle (submit opEngineHealth 0x91 c [setField w 0 2 0] s)) ∧
    exec (.engineHealthRunTest c [w]) s = .next (settle (submit opEngineHealth 0x91 c [setField w 0 2 1] s)) ∧
    exec (.engineHealthRetry c [w]) s = .next (settle (submit opEngineHealth 0x91 c [setField w 0 2 2] s)) := ⟨rfl, rfl, rfl⟩

/-- Settles O30: each answer is one branch of `opEngineSwitch` or, in the word its row stamps, of `opEngineHealth`. -/
theorem engineCommandsAct : Obligations.EngineCommandsAct := by
  constructor
  · intro c w s h hw
    simp only [exec_engineSwitch]
    refine ⟨fun hp he hr hm => congrArg Host.Outcome.next ?_, fun hp hb => congrArg Host.Outcome.next ?_,
      fun hp he hm => congrArg Host.Outcome.next ?_, fun hp => congrArg Host.Outcome.next ?_⟩
    · refine fast_answered h ?_
      rw [opEngineSwitch_eq c s hw, if_neg (not_not.2 hp), if_pos ⟨he, hr, hm⟩]
      rfl
    · refine fast_answered h ?_
      have he : ¬ estate s ≤ 1 := by rw [estate_of_passedBoth hb]; decide
      rw [opEngineSwitch_eq c s hw, if_neg (not_not.2 hp), if_neg (fun hc => he hc.1), if_pos hb]
      rfl
    · refine fast_refused h ?_
      have hb : ¬ passedBoth (engOf (bit w 0)) s = true := fun hb => by rw [estate_of_passedBoth hb] at he; omega
      rw [opEngineSwitch_eq c s hw, if_neg (not_not.2 hp), if_neg (fun hc => by omega), if_neg hb]
    · refine fast_refused h ?_
      rw [opEngineSwitch_eq c s hw, if_pos hp]
  · intro c w s hw restart
    obtain ⟨xread, xtest, xretry⟩ := exec_engineHealth c w s
    obtain ⟨w0, f0, -⟩ := healthWord_stamped hw (v := 0) (by decide)
    obtain ⟨w1, f1, -⟩ := healthWord_stamped hw (v := 1) (by decide)
    obtain ⟨w2, f2, b2⟩ := healthWord_stamped hw (v := 2) (by decide)
    rw [xread, xtest, xretry]
    refine ⟨fun h h5 h6 h10 => ⟨fun ha => ?_, fun ha => ?_⟩, fun h hoff => ?_, fun h hs => ?_, fun h hs ha => ?_, fun h hs => ?_,
      fun a h hs ha ho => ?_, fun h hs hr => ?_, fun h hs hr => ?_⟩
    · rw [submit_fast_fin _ _ _ _ _ s stOk (healthWords s) h, answered]
      rw [opEngineHealth_read w0 f0, h5, h6, h10]
      have hn : ¬ (activeEng s).isNone = true := by simpa using ha
      exact congrArg (·, OpRes.fin stOk (healthWords s)) (if_neg hn)
    · rw [submit_fast_fin _ _ _ _ _ (s.draw).2 stOk (healthWords s) h, answered]
      · rfl
      rw [opEngineHealth_read w0 f0, h5, h6, h10, ha]
      rfl
    · have hoff' : (blockOff 5 s || blockOff 6 s || blockOff 10 s) = true := by simpa [or_assoc] using hoff
      refine congrArg Host.Outcome.next (fast_refused h ?_)
      rw [opEngineHealth_read w0 f0, if_pos hoff']
    · exact congrArg Host.Outcome.next (fast_refused h (opEngineHealth_denied w1 (.inl f1) hs))
    · exact congrArg Host.Outcome.next (fast_refused h ((opEngineHealth_runTest w1 f1 hs).2 ha))
    · exact congrArg Host.Outcome.next (fast_refused h (opEngineHealth_denied w2 (.inr f2) hs))
    · exact congrArg Host.Outcome.next (fast_answered h ((opEngineHealth_runTest w1 f1 hs).1 a ha ho))
    · refine congrArg Host.Outcome.next (fast_answered h ?_)
      rw [opEngineHealth_retry w2 f2 hs, b2, if_pos hr]
      rfl
    · refine congrArg Host.Outcome.next (fast_refused h ?_)
      rw [opEngineHealth_retry w2 f2 hs, b2, if_neg hr]

end Sys2Proof.Machine
end

section
/-! The measurements of a gap: switch tests, dark probes, captures, and the sweep of one pixel that shows NODE (R206, R207,
R212, R214, R217, R220). -/

namespace Sys2Proof.Machine

/-! ### DIAG's record of a tile -/

theorem modAt_modAt {α : Type} (l : List α) (n : Nat) (f g : α → α) : modAt (modAt l n f) n g = modAt l n (fun a => g (f a)) := by
  induction l generalizing n with
  | nil => rfl
  | cons a l ih => cases n with
    | zero => rfl
    | succ n => exact congrArg (a :: ·) (ih n)

theorem modDiagTile_modDiagTile (t : Nat) (f g : DiagTile → DiagTile) (s : State) :
    (s.modDiagTile t f).modDiagTile t g = s.modDiagTile t (fun d => g (f d)) := by
  simp only [State.modDiagTile, modAt_modAt]

/-- A change of one record that leaves RETEST alone leaves it in every record. -/
theorem retest_modDiagTile (t k : Nat) {f : DiagTile → DiagTile} (h : ∀ d, (f d).retest = d.retest) (s : State) :
    ((s.modDiagTile t f).dtile k).retest = (s.dtile k).retest := by
  rcases getD_modAt {} s.diag.tiles t f k with e | e
  · exact congrArg DiagTile.retest e
  · exact (congrArg DiagTile.retest e).trans (h _)

/-- Changes of several records change nothing else. -/
theorem foldl_modDiagTile (f : Nat → DiagTile → DiagTile) (l : List Nat) (s : State) :
    ∃ x, l.foldl (fun u t => u.modDiagTile t (f t)) s = s.modDiag (fun d => { d with tiles := x }) := by
  induction l generalizing s with
  | nil => exact ⟨s.diag.tiles, rfl⟩
  | cons t l ih =>
    obtain ⟨x, hx⟩ := ih (s.modDiagTile t (f t))
    exact ⟨x, hx⟩

/-! ### The switch test of a closed tile (R214) -/

section
variable {t : Nat} {s : State} (hc : (s.tile t).swClosed = true)
include hc

theorem testOutcome_passed :
    testOutcome t false s = s.modDiagTile t (fun d => { d with suspectTest := false, retest := false }) := by
  simp only [testOutcome, hc, if_true, switchOutcome, Bool.not_false, modDiagTile_modDiagTile]

theorem testOutcome_firstFailure (hr : (s.dtile t).retest = false) :
    testOutcome t true s = s.modDiagTile t (fun d => { d with suspectTest := false, retest := true }) := by
  have hk := (retest_modDiagTile t t (f := fun d => { d with suspectTest := false }) (fun _ => rfl) s).trans hr
  simp only [testOutcome, hc, if_true, switchOutcome, hk, Bool.not_true, Bool.false_eq_true, if_false, modDiagTile_modDiagTile]

theorem testOutcome_retestFailure (hr : (s.dtile t).retest = true) :
    testOutcome t true s = raiseFault 9 2 t true false
      ((s.modDiagTile t (fun d => { d with suspectTest := false, retest := false })).modTile t (fun x => { x with swFail := true })) := by
  have hk := (retest_modDiagTile t t (f := fun d => { d with suspectTest := false }) (fun _ => rfl) s).trans hr
  simp only [testOutcome, hc, if_true, switchOutcome, hk, Bool.not_true, Bool.false_eq_true, if_false, modDiagTile_modDiagTile]

end

/-- A switch test that is due, where no DIAG_RUN waits for its result. -/
theorem exec_switchTest {s : State} (hg : inFullGap s = true) (ho : swtestOn s = true) (hp : s.diag.bridgePhase = 0)
    (ht : s.diag.testTile = none) (hb : s.diag.runBusy = false) (rail : Nat) :
    exec (.switchTest rail) s = .next (settle ((testOutcome (testChoice s).1 (decide (vOff s ≤ rail)) s).modDiag
      (fun d => { d with testTile := some (testChoice s).1, testAtPtr := (testChoice s).2 }))) := by
  show execSwitchTest rail s = _
  simp [execSwitchTest, done, hg, ho, hp, ht, testResult, hb]

/-! ### Dark probes and captures (R206, R207, R212) -/

theorem exec_darkProbe {s : State} (hg : inFullGap s = true) (nodes : List NodeSample) :
    exec (.darkProbe nodes) s = .next (settle (setLatches true nodes (probePixels s)
      (s.modDiag (fun d => { d with probed := probePixels s })))) := by
  show execDarkProbe nodes s = _
  simp only [execDarkProbe, done, hg, if_true]

/-- What a capture stores outside a bridge check: the results of the sampled pixels and of those that were probed. -/
def captured (u : State) (own : List Nat) (d : Diag) : Diag :=
  { d with
    capture := (setUnion own d.probed).map (fun k => (k, captureCode u k))
    sweeping := true, captWasFold := d.foldIsWindow, captVledOk := u.arr.vledOk, captPhase := 0, captLast := false }

theorem exec_capture {s : State} (hl : lit s = true) (hg : s.scan.inGap = true) (hs : s.diag.sweeping = false)
    (hp : s.diag.bridgePhase = 0) (nodes : List NodeSample) :
    exec (.capture nodes) s = .next (settle ((setLatches false nodes (litPixels s) s).modDiag
      (captured (setLatches false nodes (litPixels s) s) (litPixels s)))) := by
  have hp' : (setLatches false nodes (litPixels s) s).diag.bridgePhase = 0 := hp
  show execCapture nodes s = _
  simp [execCapture, done, hl, hg, hs, hp, hp', captured, State.modDiag]

/-! ### What reports and counts leave of DIAG -/

@[simp] theorem raiseFault_diag (b n i : Nat) (x y : Bool) (s : State) : (raiseFault b n i x y s).diag = s.diag :=
  keeps_of_untouched State.diag (fun _ => rfl) (untouched_raiseFault b n i x y s)

@[simp] theorem queueEvent_diag (c v : Nat) (ws : List Word) (s : State) : (queueEvent c v ws s).diag = s.diag :=
  keeps_of_untouched State.diag (fun _ => rfl) (untouched_queueEvent c v ws s)

@[simp] theorem hitIf_diag (c : Bool) (b o n : Nat) (s : State) : (s.hitIf c b o n).diag = s.diag :=
  keeps_of_untouched State.diag (fun _ => rfl) (untouched_hitIf c b o n s)

@[simp] theorem bumpTileCount_diag (t : Nat) (short : Bool) (s : State) : (bumpTileCount t short s).diag = s.diag :=
  queueWork_diag _ _ _

@[simp] theorem legacyPixel_diag (t : Nat) (short : Bool) (s : State) : (legacyPixel t short s).diag = s.diag := by
  unfold legacyPixel; split <;> rfl

@[simp] theorem dirtyMap_diag (s : State) : (dirtyMap s).diag = { s.diag with mapDirty := true } := queueWork_diag _ _ _

/-! ### Declarations (R220) -/

theorem declarePixel_diag (s : State) (p : Nat × BitVec 2) : (declarePixel s p).diag = { s.diag with
    deadMap := spSet s.diag.deadMap p.1 p.2, cand := spDel s.diag.cand p.1, healOne := setDel s.diag.healOne p.1 } := by
  simp only [declarePixel, legacyPixel_diag, bumpTileCount_diag, State.modDiag_diag]

theorem declareAll_diag (p : Nat × BitVec 2) (l : List (Nat × BitVec 2)) (s : State) :
    (declareAll (p :: l) s).diag = { ((p :: l).foldl declarePixel s).diag with mapDirty := true } := by
  simp only [declareAll, List.isEmpty_cons, Bool.false_eq_true, if_false, queueEvent_diag, raiseFault_diag, dirtyMap_diag]

/-! ### Table 07.4 where no tile has more than 64 flags and no bridge check is in progress -/

/-- The state in which a sweep is classified: the skipped tiles are counted (Table 07.4, step 3). -/
def skipsCounted (s : State) : State :=
  let skips := (allTiles.filter (fun t => tileIn s t && (s.dtile t).starved)).length
  (s.modDiag (fun d => { d with headSkipCnt := satAdd 16 d.headSkipCnt skips })).hitIf (skips != 0) 9 0x14 0

theorem skipsCounted_diag (s : State) : ∃ n, (skipsCounted s).diag = { s.diag with headSkipCnt := n } :=
  ⟨_, hitIf_diag _ _ _ _ _⟩

/-- What a sweep changes for pixels where no tile is suspect. -/
def sweepResult (s : State) : Sweep :=
  (pixelCodes s).foldl (sweepPixel s) ⟨s.diag.cand, [], s.diag.healOne, [], false⟩

/-- DIAG with what a sweep changes for pixels and the records `x` of the tiles; a candidate of a fold stroke asks for a
confirming one (R210). -/
def judged (w : Sweep) (x : List DiagTile) (d : Diag) : Diag :=
  { d with tiles := x, cand := w.cand, healOne := w.healOne, confirmPend := d.confirmPend || (d.captWasFold && w.created) }

theorem classify_vledBad {s : State} (h : s.diag.captVledOk = false) : classify s = s := by
  unfold classify
  rw [h]
  rfl

/-- No tile is over the limit of Table 07.4, step 6. -/
theorem overLimit_none {flags : List Nat} (hf : ∀ t, flagsOf flags t ≤ 64) (s : State) :
    allTiles.filter (fun t => tileIn s t && decide (64 < flagsOf flags t)) = [] :=
  List.filter_eq_nil_iff.2 (fun t _ => by simp [hf t])

theorem classify_fewFlags {s : State} (hv : s.diag.captVledOk = true) (hf : ∀ t, flagsOf (flagPixels (skipsCounted s)) t ≤ 64) :
    classify s = noteBridge (classifyTiles (flagPixels (skipsCounted s)) (skipsCounted s)) := by
  unfold classify
  rw [if_neg (by simp [hv])]
  refine if_neg (Nat.not_lt.2 ?_)
  exact (congrArg List.length (overLimit_none hf (skipsCounted s))).le.trans (Nat.zero_le 8)

theorem bridgeFlags_notLast {s : State} (h : s.diag.captLast = false) : bridgeFlags s = [] := by
  unfold bridgeFlags
  rw [h]
  rfl

theorem bridgeShorts_notLast {s : State} (h : s.diag.captLast = false) : bridgeShorts s = [] := by
  rw [bridgeShorts, bridgeFlags_notLast h]
  rfl

theorem bridgeDone_notLast {s : State} (h : s.diag.captLast = false) : bridgeDone s = s :=
  if_neg (by simp [h])

theorem noteBridge_noCheck {s : State} (h : s.diag.captPhase = 0) : noteBridge s = s := if_pos h

theorem noteFound_noCheck {s : State} (h : s.diag.captPhase = 0) (ts : List Nat) : noteFound ts s = s :=
  if_neg (not_not.2 h)

/-- Every tile that takes part is clean, and the pixels are judged one by one. -/
theorem classifyTiles_fewFlags {flags : List Nat} {s : State} (hf : ∀ t, flagsOf flags t ≤ 64) (hp : s.diag.captPhase = 0)
    (hl : s.diag.captLast = false) :
    ∃ x, classifyTiles flags s = healAll (sweepResult s).healed (declareAll (sweepResult s).declared
      (s.modDiag (judged (sweepResult s) x))) := by
  unfold classifyTiles
  extract_lets overLimit suspects s1 clean s2 w0 w shorts all s3 s4
  have hsus : suspects = [] := overLimit_none hf s
  have hw : w = sweepResult s := by
    simp only [w, hsus, List.contains_nil, Bool.not_false, List.filter_true]
    rfl
  have hshorts : shorts = [] := by
    simp only [shorts, bridgeShorts_notLast hl, List.filter_nil]
  have hall : all = (sweepResult s).declared := by
    simp only [all, hshorts, hw, List.map_nil, List.append_nil]
  obtain ⟨x, hx⟩ := foldl_modDiagTile
    (fun t d => { d with suspectRun := 0, suspect := false, flagsLast := flagsOf flags t }) clean s
  have hs3 : s3 = s.modDiag (judged (sweepResult s) x) := by
    simp only [s3, s2, s1, hsus, List.foldl_nil, hx, hw]
    rfl
  have hs4 : s4 = s3 := noteFound_noCheck (by rw [hs3]; exact hp) _
  exact ⟨x, by rw [hs4, hs3, hall, hw]⟩

/-! ### One pixel at NODE (R217, Table 07.5) -/

section
variable {k : Nat} {s : State} (w : Sweep) (hg : spGet s.diag.deadMap k 0 = 0)
include hg

theorem sweepPixel_nodeFirst (hc : spGet w.cand k 0 ≠ 2) :
    sweepPixel s w (k, 3) = { w with cand := spSet w.cand k 2, created := true } := by
  simp only [sweepPixel]
  rw [if_neg (not_not.2 hg), if_neg (by decide)]
  exact if_neg hc

theorem sweepPixel_nodeAgain (hc : spGet w.cand k 0 = 2) :
    sweepPixel s w (k, 3) = { w with cand := spDel w.cand k, declared := w.declared ++ [(k, 2)] } := by
  simp only [sweepPixel]
  rw [if_neg (not_not.2 hg), if_neg (by decide)]
  exact if_pos hc

end

/-- The capture holds one pixel, good and at NODE, of a tile that takes part, and no bridge check is in progress. -/
structure LoneNode (k : Nat) (s : State) : Prop where
  noCheck : s.diag.captPhase = 0
  notLast : s.diag.captLast = false
  capture : s.diag.capture = [(k, 3)]
  tileTakesPart : (s.dtile (tileOfPix k)).exclCapt = false
  good : spGet s.diag.deadMap k 0 = 0

namespace LoneNode
variable {k : Nat} {s : State} (h : LoneNode k s)
include h

theorem counted : LoneNode k (skipsCounted s) := by
  obtain ⟨n, hn⟩ := skipsCounted_diag s
  exact ⟨by rw [hn]; exact h.noCheck, by rw [hn]; exact h.notLast, by rw [hn]; exact h.capture,
    by rw [State.dtile, hn]; exact h.tileTakesPart, by rw [hn]; exact h.good⟩

theorem pixelCodes_eq : pixelCodes s = [(k, 3)] := by
  have hin : tileIn s (tileOfPix k) = true := by rw [tileIn, h.tileTakesPart]; rfl
  rw [pixelCodes, if_pos h.noCheck, sweepCodes, h.capture]
  simp [hin]

theorem flagPixels_eq : flagPixels s = [k] := by
  have hflag : ((3 : BitVec 2) == 2 || (3 : BitVec 2) == 3) && spGet s.diag.deadMap k 0 == 0 := by rw [h.good]; rfl
  rw [flagPixels, h.pixelCodes_eq, bridgeFlags_notLast h.notLast]
  simp only [List.filter_cons, hflag, if_true, List.filter_nil]
  rfl

theorem fewFlags (t : Nat) : flagsOf (flagPixels s) t ≤ 64 := by
  rw [h.flagPixels_eq]
  exact (List.length_filter_le _ _).trans (Nat.le_add_left 1 63)

theorem sweepResult_eq : sweepResult s = sweepPixel s ⟨s.diag.cand, [], s.diag.healOne, [], false⟩ (k, 3) := by
  rw [sweepResult, h.pixelCodes_eq]
  rfl

/-- The first time, the pixel becomes a candidate. -/
theorem sweepResult_candidate (hc : spGet s.diag.cand k 0 ≠ 2) :
    sweepResult s = ⟨spSet s.diag.cand k 2, [], s.diag.healOne, [], true⟩ := by
  rw [h.sweepResult_eq, sweepPixel_nodeFirst _ h.good hc]

/-- The second time in a row, it is declared. -/
theorem sweepResult_declared (hc : spGet s.diag.cand k 0 = 2) :
    sweepResult s = ⟨spDel s.diag.cand k, [(k, 2)], s.diag.healOne, [], false⟩ := by
  rw [h.sweepResult_eq, sweepPixel_nodeAgain _ h.good hc]
  rfl

theorem classify_eq (hv : s.diag.captVledOk = true) :
    classify s = noteBridge (classifyTiles (flagPixels (skipsCounted s)) (skipsCounted s)) :=
  classify_fewFlags hv h.counted.fewFlags

/-- The classification of a sweep that shows the pixel the first time declares nothing. -/
theorem classify_candidate (hv : s.diag.captVledOk = true) (hc : spGet s.diag.cand k 0 ≠ 2) :
    ∃ x, classify s = (skipsCounted s).modDiag (judged ⟨spSet s.diag.cand k 2, [], s.diag.healOne, [], true⟩ x) := by
  obtain ⟨n, hn⟩ := skipsCounted_diag s
  have hu := h.counted
  obtain ⟨x, e⟩ := classifyTiles_fewFlags hu.fewFlags hu.noCheck hu.notLast
  rw [hu.sweepResult_candidate (by rw [hn]; exact hc)] at e
  refine ⟨x, ?_⟩
  rw [h.classify_eq hv, e, hn]
  exact noteBridge_noCheck hu.noCheck

/-- The classification of the second in a row declares it SHORT. -/
theorem classify_declared (hv : s.diag.captVledOk = true) (hc : spGet s.diag.cand k 0 = 2) :
    ∃ x, classify s = declareAll [(k, 2)]
      ((skipsCounted s).modDiag (judged ⟨spDel s.diag.cand k, [(k, 2)], s.diag.healOne, [], false⟩ x)) := by
  obtain ⟨n, hn⟩ := skipsCounted_diag s
  have hu := h.counted
  obtain ⟨x, e⟩ := classifyTiles_fewFlags hu.fewFlags hu.noCheck hu.notLast
  rw [hu.sweepResult_declared (by rw [hn]; exact hc)] at e
  refine ⟨x, ?_⟩
  rw [h.classify_eq hv, e, hn]
  refine noteBridge_noCheck ?_
  rw [healAll, List.isEmpty_nil, if_pos rfl, declareAll_diag]
  simpa [declarePixel_diag, judged] using hu.noCheck

end LoneNode

/-! ### The end of a readback sweep -/

/-- The state with its sweep read out. -/
def sweepRead (s : State) : State := s.modDiag (fun d => { d with sweeping := false })

theorem exec_readbackSweepDone {s : State} (hl : lit s = true) (hs : s.diag.sweeping = true) :
    exec .readbackSweepDone s =
      .next (settle (bridgeDone (if classifyOn s then classify (sweepRead s) else sweepRead s))) := by
  show execReadbackSweepDone s = _
  simp only [execReadbackSweepDone, done, hl, hs, Bool.and_self, if_true]
  rfl

theorem exec_readbackSweepDone_unclassified {s : State} (hl : lit s = true) (hs : s.diag.sweeping = true)
    (hlast : s.diag.captLast = false) (h : classifyOn s = false ∨ s.diag.captVledOk = false) :
    exec .readbackSweepDone s = .next (settle (sweepRead s)) := by
  have hkeep : (if classifyOn s then classify (sweepRead s) else sweepRead s) = sweepRead s := by
    rcases h with h | h
    · rw [h]; rfl
    · rw [classify_vledBad (s := sweepRead s) h, ite_self]
  rw [exec_readbackSweepDone hl hs, hkeep, bridgeDone_notLast (s := sweepRead s) hlast]

theorem exec_readbackSweepDone_classified {s : State} (hl : lit s = true) (hs : s.diag.sweeping = true)
    (hc : classifyOn s = true) (hlast : (classify (sweepRead s)).diag.captLast = false) :
    exec .readbackSweepDone s = .next (settle (classify (sweepRead s))) := by
  rw [exec_readbackSweepDone hl hs, if_pos hc, bridgeDone_notLast hlast]

/-- Settles O17: each measurement is one branch of its command; the sweep of one pixel at NODE leaves every tile clean, so
its whole effect is what Table 07.5 says of that pixel. -/
theorem gapMeasurementsAreTaken : Obligations.GapMeasurementsAreTaken := by
  refine ⟨?_, fun nodes s hg => exec_darkProbe hg nodes, fun nodes s hl hg hs hp => exec_capture hl hg hs hp nodes, ?_⟩
  · rintro rail t s hg ho hp ht hb rfl hc noted
    rw [exec_switchTest hg ho hp ht hb]
    refine ⟨fun hr => ?_, fun hr hn => ?_, fun hr hn => ?_⟩
    · rw [decide_eq_false (Nat.not_le.2 hr), testOutcome_passed hc]
      rfl
    · rw [decide_eq_true hr, testOutcome_firstFailure hc hn]
      rfl
    · rw [decide_eq_true hr, testOutcome_retestFailure hc hn]
      rfl
  · intro s hl hs hlast
    refine ⟨exec_readbackSweepDone_unclassified hl hs hlast, fun k hc hv hp hcap hin hgood => ?_⟩
    have hk : LoneNode k (sweepRead s) := ⟨hp, hlast, hcap, hin, hgood⟩
    obtain ⟨n, hn⟩ := skipsCounted_diag (sweepRead s)
    refine ⟨fun hcand => ?_, fun hcand => ?_⟩
    · obtain ⟨x, he⟩ := hk.classify_candidate hv hcand
      have hd := congrArg State.diag he
      rw [State.modDiag_diag, hn] at hd
      refine ⟨_, exec_readbackSweepDone_classified hl hs hc (by rw [hd]; exact hlast), ?_⟩
      rw [settle_diag, hd]
      exact ⟨rfl, rfl, rfl⟩
    · obtain ⟨x, he⟩ := hk.classify_declared hv hcand
      have hd := congrArg State.diag he
      rw [declareAll_diag, List.foldl_cons, List.foldl_nil, declarePixel_diag, State.modDiag_diag, hn] at hd
      refine ⟨_, exec_readbackSweepDone_classified hl hs hc (by rw [hd]; exact hlast), ?_⟩
      rw [settle_diag, hd]
      exact ⟨rfl, rfl, rfl⟩

end Sys2Proof.Machine
end

section
/-! SET_LIGHT and STEER_INPUT (R240, R249, R251, R414). -/

namespace Sys2Proof.Machine

/-! ### SET_LIGHT (R249, R251) -/

/-- The word of SET_LIGHT with its operation stamped in is as acceptable as it came. -/
theorem lightWord_stamped {w : Word} (h : within w 3 = true) {v : Nat} (hv : v < 3) :
    within (setField w 0 2 v) 3 = true ∧ bits (setField w 0 2 v) 0 2 = v := by
  refine ⟨within_setField v h (fun i _ hi => ?_), bits_setField_same (by omega) (by decide)⟩
  have hi' : i = 0 ∨ i = 1 := by omega
  rcases hi' with rfl | rfl <;> decide

/-- What SET_LIGHT does in each of its operations (Table 11.6). -/
theorem opSetLight_stamped {w : Word} (h : within w 3 = true) {v : Nat} (hv : v < 3) (c : CmdCtx) (s : State) :
    opSetLight c (stamp 0 2 v [w]) s =
      if v = 0 then
        if !inSession c s then endWith stDenied s
        else if normalRefused s then endWith stBadState s
        else endWith stOk (s.modBstay (fun b => { b with safeNLatch := false, tryPend := false, normalPend := true }))
      else if v = 1 then
        if deep s.pwr.pstate then endWith stBadState s else endWith stOk (reqTrysail 5 s)
      else endWith stOk (reqDark s) := by
  obtain ⟨hw, hb⟩ := lightWord_stamped h hv
  have h3 : (v == 3) = false := beq_eq_false_iff_ne.mpr (by omega)
  simp only [opSetLight, stamp, List.getD_cons_zero, hw, hb, h3, Bool.not_true, Bool.or_self, Bool.false_eq_true, if_false]

section
variable {c : CmdCtx} {w : Word} {s : State}

theorem opSetLight_normal (h : within w 3 = true) (hs : inSession c s = true) (hn : normalRefused s = false) :
    opSetLight c (stamp 0 2 0 [w]) s =
      endWith stOk (s.modBstay (fun b => { b with safeNLatch := false, tryPend := false, normalPend := true })) := by
  simp [opSetLight_stamped h, hs, hn]

theorem opSetLight_normal_denied (h : within w 3 = true) (hs : inSession c s = false) :
    opSetLight c (stamp 0 2 0 [w]) s = endWith stDenied s := by
  simp [opSetLight_stamped h, hs]

theorem opSetLight_normal_badState (h : within w 3 = true) (hs : inSession c s = true) (hn : normalRefused s = true) :
    opSetLight c (stamp 0 2 0 [w]) s = endWith stBadState s := by
  simp [opSetLight_stamped h, hs, hn]

theorem opSetLight_trysail (h : within w 3 = true) (hd : deep s.pwr.pstate = false) :
    opSetLight c (stamp 0 2 1 [w]) s = endWith stOk (reqTrysail 5 s) := by
  simp [opSetLight_stamped h, hd]

theorem opSetLight_dark (h : within w 3 = true) : opSetLight c (stamp 0 2 2 [w]) s = endWith stOk (reqDark s) := by
  simp [opSetLight_stamped h]

/-- Whether SET_LIGHT is taken does not depend on its word (Tables 10.7 and 11.7). -/
theorem fastReady_stampedLight (v : Nat) (h : fastReady 0x30 c [w] s = true) :
    fastReady 0x30 c (stamp 0 2 v [w]) s = true := h

/-- Each condition of R251 refuses NORMAL. -/
theorem normalRefused_of_r251
    (h : s.bstay.safeNLevel = false ∨ estate s = 3 ∨ s.pwr.pstate ≠ .s0 ∨ lightHeld s = true) : normalRefused s = true := by
  rcases h with h | h | h | h <;> simp [normalRefused, h]

end

/-- Settles O1: an operation that is accepted answers OK with its change, one that is refused leaves the state alone. -/
theorem setLightActsOnBeam : Obligations.SetLightActsOnBeam := by
  refine ⟨fun c w s hw h => ⟨fun hs hn => ?_, fun hd => ?_, ?_⟩, fun c w s hw h => ⟨fun hs => ?_, fun hs hr => ?_⟩⟩
  · exact congrArg Host.Outcome.next (fast_answered (fastReady_stampedLight 0 h) (opSetLight_normal hw hs hn))
  · exact congrArg Host.Outcome.next (fast_answered (fastReady_stampedLight 1 h) (opSetLight_trysail hw hd))
  · exact congrArg Host.Outcome.next (fast_answered (fastReady_stampedLight 2 h) (opSetLight_dark hw))
  · exact congrArg Host.Outcome.next (fast_refused (fastReady_stampedLight 0 h) (opSetLight_normal_denied hw hs))
  · exact congrArg Host.Outcome.next (fast_refused (fastReady_stampedLight 0 h)
      (opSetLight_normal_badState hw hs (normalRefused_of_r251 hr)))

/-! ### STEER_INPUT (R240) -/

/-- The steps in SEQ from the last steering input accepted to the input `w0` (R240). -/
def seqStep (b : Bstay) (w0 : Word) : Nat := (bits w0 0 16 + 65536 - b.steerSeq.toNat) % 65536

theorem steerOk_iff {b : Bstay} {w0 : Word} {crcOk : Bool} :
    steerOk b w0 crcOk = true ↔ crcOk = true ∧ (signed 16 (bits w0 16 16)).natAbs ≤ 9000 ∧
      (b.steerFirst = true ∨ (1 ≤ seqStep b w0 ∧ seqStep b w0 ≤ 32767)) := by
  simp [steerOk, seqStep, and_assoc]

/-- The three grounds of R240 on which an input is refused. -/
theorem steerOk_eq_false {b : Bstay} {w0 : Word} {crcOk : Bool}
    (h : crcOk = false ∨ 9000 < (signed 16 (bits w0 16 16)).natAbs ∨
      (b.steerFirst = false ∧ (seqStep b w0 = 0 ∨ 32767 < seqStep b w0))) : steerOk b w0 crcOk = false := by
  rw [Bool.eq_false_iff, ne_eq, steerOk_iff]
  rintro ⟨hc, ha, hq⟩
  rcases h with h | h | ⟨hf, h⟩
  · exact absurd hc (by simp [h])
  · exact absurd ha (Nat.not_le.mpr h)
  · rcases hq with hq | ⟨h1, h2⟩
    · exact absurd hq (by simp [hf])
    · omega

theorem opSteerInput_accepted (c : CmdCtx) {w0 w1 : Word} {s : State} (hw : within w1 0xFFFF = true)
    (hq : fails 10 3 false s = false) (hc : steerCrc w0 = bits w1 0 16) (hk : steerOk s.bstay w0 true = true) :
    opSteerInput c [w0, w1] s = endWith stOk (s.modBstay (fun b => { b with
      steer := signed 16 (bits w0 16 16), steerSeq := w0.setWidth 16, steerStamp := some s.scan.strokeCnt
      steerFirst := false, steerAge := 0 })) := by
  simp only [opSteerInput, List.getD_cons_zero, List.getD_cons_succ, hw, hc, hk, hq, check_quiet _ _ _ _ _ hq, beq_self_eq_true,
    Bool.not_true, Bool.false_eq_true, if_false, if_true]

/-- The state in which the CRC of a steering input has been checked: a wrong one is counted in CRCU_FAIL1 (R489). -/
def steerChecked (w0 w1 : Word) (s : State) : State :=
  if steerCrc w0 = bits w1 0 16 then s else
    { s.hit 11 0x108 0 with crcu := { s.crcu with fails := modAt s.crcu.fails 1 (satInc 32) } }

theorem fails_steerChecked (b n : Nat) (x : Bool) (w0 w1 : Word) (s : State) :
    fails b n x (steerChecked w0 w1 s) = fails b n x s := by
  unfold steerChecked; split <;> rfl

theorem opSteerInput_refused (c : CmdCtx) {w0 w1 : Word} {s : State} (hw : within w1 0xFFFF = true)
    (hq : fails 10 3 false s = false) (hk : steerOk s.bstay w0 (steerCrc w0 == bits w1 0 16) = false) :
    opSteerInput c [w0, w1] s = endWith stCheckFail
      (((raiseFault 10 3 0 true false (steerChecked w0 w1 s)).modBstay (fun b => { b with
        steerBadCnt := satInc 16 b.steerBadCnt })).hit 10 0x24 16) := by
  have hx : fails 10 3 true s = true := rfl
  have he : (if (steerCrc w0 == bits w1 0 16) = true then s else crcFail 1 s) = steerChecked w0 w1 s := by
    simp only [beq_iff_eq]; rfl
  simp only [opSteerInput, List.getD_cons_zero, List.getD_cons_succ, hw, hk, hx, he, Bool.not_true, Bool.not_false,
    Bool.false_eq_true, if_false, if_true, check_real ((fails_steerChecked ..).trans hq)]

/-- Settles O3: an input is accepted where `steerOk` holds of it, with no injection armed. -/
theorem steerInputAcceptedOrCounted : Obligations.SteerInputAcceptedOrCounted := by
  refine fun c w0 w1 s h hw hq => ⟨fun hc hr => ?_, fun hr => ?_⟩
  · exact congrArg Host.Outcome.next (fast_answered h (opSteerInput_accepted c hw hq hc (steerOk_iff.2 ⟨rfl, hr⟩)))
  · have hk : steerOk s.bstay w0 (steerCrc w0 == bits w1 0 16) = false :=
      steerOk_eq_false (hr.imp_left beq_eq_false_iff_ne.mpr)
    intro s1
    exact congrArg (fun u => Host.Outcome.next (settle u))
      (submit_fast_fin opSteerInput 0x34 c [w0, w1] s _ stCheckFail [] h (opSteerInput_refused c hw hq hk))

end Sys2Proof.Machine
end

section
/-! The latches through the end of an evaluation (R48, R78). -/

namespace Sys2Proof.Machine

/-- The live and the next latches of every pixel (R48). -/
def latches (s : State) : Sparse Code × Sparse Code := (s.arr.live, s.arr.next)

theorem latches_foldl {α : Type} (f : State → α → State) (h : ∀ s a, latches (f s a) = latches s) (l : List α) (s : State) :
    latches (l.foldl f s) = latches s := by
  induction l generalizing s with
  | nil => rfl
  | cons a l ih => rw [List.foldl_cons, ih, h]

theorem latches_modEng (e : Eng) (f : Engine → Engine) (s : State) : latches (s.modEng e f) = latches s := by cases e <;> rfl

theorem latches_hitIf (c : Bool) (b o n : Nat) (s : State) : latches (s.hitIf c b o n) = latches s := by
  unfold State.hitIf; split <;> rfl

theorem latches_pushEvent (e : Event) (s : State) : latches (pushEvent e s) = latches s := by
  unfold pushEvent
  split
  · exact latches_hitIf _ _ _ _ _
  · rfl

theorem latches_queueEvent (c v : Nat) (ws : List Word) (s : State) : latches (queueEvent c v ws s) = latches s :=
  latches_pushEvent _ s

theorem latches_onceReact (b : Nat) (r : BitVec 8) (s : State) : latches (onceReact b r s) = latches s := by
  unfold onceReact
  extract_lets s0 s1 s2 s3 s4 s5 a6 s6
  have e1 : latches s1 = latches s := by simp only [s1]; split <;> rfl
  have e2 : latches s2 = latches s1 := by simp only [s2]; split <;> rfl
  have e3 : latches s3 = latches s2 := by simp only [s3]; split <;> rfl
  have e4 : latches s4 = latches s3 := by simp only [s4]; split <;> rfl
  have e5 : latches s5 = latches s4 := by simp only [s5]; split <;> rfl
  have e6 : latches s6 = latches s5 := by simp only [s6]; split <;> rfl
  rw [← e1, ← e2, ← e3, ← e4, ← e5, ← e6]
  split <;> rfl

theorem latches_legacyMark (b n i : Nat) (r : Bool) (s : State) : latches (legacyMark b n i r s) = latches s := by
  unfold legacyMark; split <;> rfl

theorem latches_raiseFault (b n i : Nat) (x y : Bool) (s : State) : latches (raiseFault b n i x y s) = latches s := by
  unfold raiseFault
  extract_lets stays w rising again sev h r count off timed logged applied f bitn s1 l2 s2 s3 s4
  have e3 : latches s3 = latches s := by simp only [s3]; split <;> rfl
  have e4 : latches s4 = latches s := (latches_legacyMark _ _ _ _ _).trans e3
  split
  · exact (latches_onceReact _ _ _).trans e4
  · exact e4

theorem latches_cancelSwitch (s : State) : latches (cancelSwitch s) = latches s :=
  latches_foldl _ (fun s _ => latches_pushEvent _ s) _ s

theorem latches_wbAbort (s : State) : latches (wbAbort s) = latches s := by
  unfold wbAbort; extract_lets; split <;> rfl

theorem latches_startStep1 (e : Eng) (s : State) : latches (startStep1 e s) = latches s := by
  unfold startStep1
  split <;> exact latches_modEng e _ s

theorem latches_markChange (c : Nat) (s : State) : latches (markChange c s) = latches s := rfl

theorem latches_reqTrysail (c : Nat) (s : State) : latches (reqTrysail c s) = latches s := rfl

theorem latches_bothLost (c : Nat) (x y : Bool) (s : State) : latches (bothLost c x y s) = latches s := by
  unfold bothLost
  extract_lets lf drop s1 b2 a2 s2 s3
  have hd (e : Eng) (n : Nat) (s : State) : latches (drop e n s) = latches s := by
    simp only [drop, failEng]
    split <;> split <;> simp only [latches_startStep1, latches_modEng]
  have e1 : latches s1 = latches s := by
    simp only [s1, latches_markChange, hd, latches_cancelSwitch, latches_wbAbort]
  clear_value s1
  have e2 : latches s2 = latches s1 := rfl
  have e3 : latches s3 = latches s2 := latches_raiseFault _ _ _ _ _ _
  rw [latches_reqTrysail, latches_queueEvent, e3, e2, e1]

theorem latches_switchOver (e : Eng) (c : Nat) (s : State) : latches (switchOver e c s) = latches s := by
  have h : latches (markChange c (setRole (other e) .active (failEng e (failCode c) (cancelSwitch (wbAbort s))))) = latches s := by
    simp only [latches_markChange, setRole, failEng, latches_modEng, latches_cancelSwitch, latches_wbAbort]
  exact h

theorem latches_standbyFails (e : Eng) (c : Nat) (s : State) : latches (standbyFails e c s) = latches s := by
  have h : latches (markChange c (startStep1 e (failEng e (failCode c) (cancelSwitch s)))) = latches s := by
    simp only [latches_markChange, latches_startStep1, failEng, latches_modEng, latches_cancelSwitch]
  exact h

theorem latches_arbApply (a : Eng) (x y : Bool) (c : Nat) (p q : Bool) (s : State) :
    latches (arbApply a x y c p q s) = latches s := by
  unfold arbApply
  repeat' split
  all_goals simp only [latches_bothLost, latches_switchOver, latches_standbyFails]

theorem latches_arbitrate (x y : Bool) (s : State) : latches (arbitrate x y s) = latches s := by
  unfold arbitrate
  extract_lets hb
  split
  · rfl
  · split
    · rfl
    · extract_lets
      split
      · rfl
      · split
        · exact latches_cancelSwitch s
        · exact latches_arbApply _ _ _ _ _ _ _

theorem latches_pushLog (r : LogRec) (s : State) : latches (pushLog r s) = latches s := by
  unfold pushLog; split <;> rfl

theorem latches_takeFirst (l : List Fresh) (s : State) : latches (takeFirst l s) = latches s :=
  latches_foldl _ (fun s f => by split <;> rfl) l s

theorem latches_flushFresh (s : State) : latches (flushFresh s) = latches s := by
  unfold flushFresh
  split
  · rfl
  · refine (latches_foldl _ (fun s f => ?_) _ _).trans (latches_takeFirst _ _)
    simp only []
    split <;> split <;> simp only [latches_queueEvent, latches_pushLog]

theorem latches_raiseTimes (b n k : Nat) (s : State) : latches (raiseTimes b n k s) = latches s := by
  induction k generalizing s with
  | zero => rfl
  | succ k ih => rw [raiseTimes, ih, latches_raiseFault]

theorem latches_raiseLost (s : State) : latches (raiseLost s) = latches s :=
  (latches_raiseTimes 17 4 _ _).trans (latches_raiseTimes 0 2 _ _)

theorem latches_reportLost (k : Nat) (s : State) : latches (reportLost k s) = latches s := by
  induction k generalizing s with
  | zero => rfl
  | succ k ih => rw [reportLost, ih, latches_flushFresh, latches_raiseLost]

theorem latches_reportBeam (s : State) : latches (reportBeam s) = latches s := by
  unfold reportBeam
  split
  · rfl
  · exact latches_queueEvent _ _ _ s

theorem latches_clearNow (s : State) : latches (clearNow s) = latches s := rfl

theorem latches_force (s : State) : latches (force s) = latches s := rfl

theorem tile_mem_of_closed {s : State} {t : Nat} (h : (s.tile t).swClosed = true) : s.tile t ∈ s.arr.tiles := by
  by_cases ht : t < s.arr.tiles.length
  · rw [State.tile, List.getD_eq_getElem _ _ ht]
    exact List.getElem_mem ht
  · rw [State.tile, List.getD_eq_default _ _ (Nat.not_lt.mp ht)] at h
    cases h

/-- The latches of a tile whose switch is closed after blanking are as they were. -/
theorem blank_next {s : State} {k : Nat} (d : Code) (h : ((blank s).tile (tileOfPix k)).swClosed = true) :
    spGet (blank s).arr.next k d = spGet s.arr.next k d := by
  refine spGet_filter _ _ _ _ (fun v => ?_)
  have hm : (blank s).tile (tileOfPix k) ∈ (blank s).arr.tiles := tile_mem_of_closed h
  have hd : ¬ ((blank s).bstay.beam = .dark ∨ tileCause (blank s) ((blank s).tile (tileOfPix k)) = true) :=
    fun hc => by simp [((tilesSafe_blank s).1 _ hm hc).1] at h
  have e : darkTile (blank s) (tileOfPix k) = false := by simpa [darkTile] using hd
  rw [← darkTile_blank, e]
  rfl

/-- The end of an evaluation leaves the next latches of a tile whose switch is still closed (R78). -/
theorem settle_next {s : State} {k : Nat} (d : Code) (h : ((settle s).tile (tileOfPix k)).swClosed = true) :
    spGet (settle s).arr.next k d = spGet s.arr.next k d := by
  rw [settle_eq] at h ⊢
  have e : latches (force (reportBeam (force (clearNow (reportLost 5 (flushFresh (arbitrate false false s))))))) = latches s := by
    rw [latches_force, latches_reportBeam, latches_force, latches_clearNow, latches_reportLost, latches_flushFresh,
      latches_arbitrate]
  generalize force (reportBeam (force (clearNow (reportLost 5 (flushFresh (arbitrate false false s)))))) = u at h e ⊢
  exact (blank_next d h).trans (congrArg (fun l => spGet l.2 k d) e)

end Sys2Proof.Machine
end

section
/-! The SLP check, and the way of a checked code into the next latches (R48, R78, R229, R231, R234). -/

namespace Sys2Proof.Machine

/-! ### The SLP check of one pixel (R229, R234) -/

theorem onCanvas_eq (p : Int × Int) : onCanvas p = decide (0 ≤ p.1 ∧ p.1 < 1024 ∧ 0 ≤ p.2 ∧ p.2 < 1024) := by
  simp [onCanvas, Bool.decide_and, Bool.and_assoc]

/-- The greatest c times d that the check leaves a code with this c at a limit in light units (R234). -/
def slpMost (lim : Nat) (x : Code) : Nat := limitUnits lim + x.c.toNat / 2

theorem clampCode_within {lim : Nat} {x : Code} (h : x.c.toNat * x.d.toNat ≤ slpMost lim x) : clampCode lim x = none :=
  if_neg (Nat.not_lt.mpr h)

theorem clampCode_above {lim : Nat} {x : Code} (h : slpMost lim x < x.c.toNat * x.d.toNat) :
    ∃ y, clampCode lim x = some y ∧ y.d.toNat = slpMost lim x / x.c.toNat ∧
      y.c.toNat = if slpMost lim x / x.c.toNat = 0 then 0 else x.c.toNat := by
  refine ⟨_, if_pos h, ?_, ?_⟩
  · have hd : slpMost lim x / x.c.toNat < x.d.toNat := Nat.div_lt_of_lt_mul h
    exact Nat.mod_eq_of_lt (hd.trans x.d.isLt)
  · show (if slpMost lim x / x.c.toNat = 0 then 0 else x.c.toNat) % 2 ^ 6 = _
    split
    · rfl
    · exact Nat.mod_eq_of_lt x.c.isLt

theorem slpPixel_none {b : Bstay} {p : Int × Int} (h : slpLimit b p = none) (x : Code) : (slpPixel b p x).1 = x := by
  simp only [slpPixel, h]

theorem slpPixel_within {b : Bstay} {p : Int × Int} {lim : Nat} {x : Code} (hl : slpLimit b p = some lim)
    (h : x.c.toNat * x.d.toNat ≤ slpMost lim x) : (slpPixel b p x).1 = x := by
  simp only [slpPixel, hl, clampCode_within h]

theorem slpPixel_above {b : Bstay} {p : Int × Int} {lim : Nat} {x : Code} (hl : slpLimit b p = some lim)
    (h : slpMost lim x < x.c.toNat * x.d.toNat) :
    (slpPixel b p x).1.d.toNat = slpMost lim x / x.c.toNat ∧
      (slpPixel b p x).1.c.toNat = if slpMost lim x / x.c.toNat = 0 then 0 else x.c.toNat := by
  obtain ⟨y, hy, hd, hc⟩ := clampCode_above h
  simp only [slpPixel, hl, hy, hd, hc, and_self]

/-- No checked code exceeds its limit by more than the rounding allowance (R234). -/
theorem slpPixel_le {b : Bstay} {p : Int × Int} {lim : Nat} (hl : slpLimit b p = some lim) (x : Code) :
    (slpPixel b p x).1.c.toNat * (slpPixel b p x).1.d.toNat ≤ slpMost lim x := by
  rcases Nat.lt_or_ge (slpMost lim x) (x.c.toNat * x.d.toNat) with h | h
  · obtain ⟨hd, hc⟩ := slpPixel_above hl h
    rw [hd, hc]
    split
    · simp
    · exact Nat.mul_div_le _ _
  · rw [slpPixel_within hl h]
    exact h

/-! ### A segment in the next latches (R48) -/

theorem spGet_spPut_same {α : Type} [DecidableEq α] (d : α) (m : Sparse α) (k : Nat) (v : α) : spGet (spPut d m k v) k d = v := by
  unfold spPut
  split
  · rename_i h; rw [spGet_spDel_same, h]
  · exact spGet_spSet_same m k v d

theorem spGet_spPut_other {α : Type} [DecidableEq α] (d : α) (m : Sparse α) {k a : Nat} (v : α) (h : a ≠ k) :
    spGet (spPut d m k v) a d = spGet m a d := by
  unfold spPut
  split
  · exact spGet_spDel_other m k a d h
  · exact spGet_spSet_other m k a v d h

theorem spGet_spPutAll_other {α : Type} [DecidableEq α] (d : α) (new : List (Nat × α)) (m : Sparse α) {k : Nat}
    (h : ∀ p ∈ new, p.1 ≠ k) : spGet (spPutAll d m new) k d = spGet m k d := by
  induction new generalizing m with
  | nil => rfl
  | cons q new ih =>
    obtain ⟨hq, hn⟩ := List.forall_mem_cons.mp h
    exact (ih (spPut d m q.1 q.2) hn).trans (spGet_spPut_other d m q.2 (Ne.symm hq))

/-- Of entries with keys all different, each is read back. -/
theorem spGet_spPutAll_mem {α : Type} [DecidableEq α] (d : α) {new : List (Nat × α)} (m : Sparse α) {k : Nat} {v : α}
    (hd : new.Pairwise (fun p q => p.1 ≠ q.1)) (h : (k, v) ∈ new) : spGet (spPutAll d m new) k d = v := by
  induction new generalizing m with
  | nil => cases h
  | cons q new ih =>
    obtain ⟨hq, hn⟩ := List.pairwise_cons.mp hd
    rcases List.mem_cons.mp h with rfl | h
    · exact (spGet_spPutAll_other d new _ (fun p hp => (hq p hp).symm)).trans (spGet_spPut_same d m k v)
    · exact ih (spPut d m q.1 q.2) hn h

/-- The pixel numbers of a segment with their codes. -/
def segPixels (g : Nat) (cs : List Code) : List (Nat × Code) :=
  ((List.range 64).zip cs).map (fun p => (1024 * (g / 16) + 64 * (g % 16) + p.1, p.2))

theorem segPixels_range (g : Nat) (f : Nat → Code) :
    segPixels g ((List.range 64).map f) =
      (List.range 64).map (fun u => (1024 * (g / 16) + 64 * (g % 16) + u, f u)) := by
  refine List.ext_getElem (by simp [segPixels]) (fun i hi hi' => ?_)
  simp [segPixels]

theorem latchSeg_next {g : Nat} {s : State} (h : (s.tile (tileOfSeg g)).swClosed = true) (f : Nat → Code) (u : Fin 64) :
    spGet (latchSeg g ((List.range 64).map f) s).arr.next (1024 * (g / 16) + 64 * (g % 16) + u.val) ⟨0, 0⟩ = f u.val := by
  have e : (latchSeg g ((List.range 64).map f) s).arr.next =
      spPutAll ⟨0, 0⟩ s.arr.next (segPixels g ((List.range 64).map f)) := by
    unfold latchSeg
    rw [if_pos h]
    rfl
  rw [e, segPixels_range]
  refine spGet_spPutAll_mem _ _ ?_ (List.mem_map.mpr ⟨u.val, List.mem_range.mpr u.isLt, rfl⟩)
  rw [List.pairwise_map]
  exact List.pairwise_lt_range.imp (fun h => by simp only; omega)

theorem latchSeg_tile (g : Nat) (cs : List Code) (s : State) (t : Nat) : (latchSeg g cs s).tile t = s.tile t := by
  unfold latchSeg
  extract_lets new
  split <;> rfl

/-! ### The segment writes -/

theorem tileOfPix_segment (g : Nat) (u : Fin 64) : tileOfPix (1024 * (g / 16) + 64 * (g % 16) + u.val) = tileOfSeg g := by
  unfold tileOfPix tileOfSeg
  omega

/-- After the evaluation in which a segment's codes were latched, a tile still closed holds them in its next latches. -/
theorem settle_latchedSeg {g : Nat} {s t : State} {f : Nat → Code} (ht : t.arr = (latchSeg g ((List.range 64).map f) s).arr)
    (u : Fin 64) (h : ((settle t).tile (tileOfSeg g)).swClosed = true) :
    spGet (settle t).arr.next (1024 * (g / 16) + (64 * (g % 16) + u.val)) ⟨0, 0⟩ = f u.val := by
  have hs : (s.tile (tileOfSeg g)).swClosed = true := by
    have hc := (noMoreLight_settle t).closed _ h
    rwa [State.tile, ht, ← State.tile, latchSeg_tile] at hc
  rw [← Nat.add_assoc, settle_next _ (by rw [tileOfPix_segment]; exact h), ht, latchSeg_next hs]

theorem noteSeg_arr (e : Eng) (g : Nat) (s : State) : (noteSeg e g s).arr = s.arr := by
  unfold noteSeg
  extract_lets sig own hx follows s1 s2
  have e2 : s2.arr = s.arr := by simp only [s2, s1]; split <;> simp
  split
  · split
    · simpa using e2
    · exact e2
  · exact e2

/-- The code that engine `x` writes to a pixel of segment `g`, after the SLP check (R231, R234). -/
def checkedCode (x : Engine) (b : Bstay) (g u : Nat) : Code :=
  let k := 1024 * (g / 16) + 64 * (g % 16) + u
  (slpPixel b (sceneOf x.job.flipH x.job.flipV x.job.aimV x.job.aimH (k % 1024) (g / 16)) (spGet x.codes k ⟨0, 0⟩)).1

theorem checkedSeg_codes (x : Engine) (b : Bstay) (g : Nat) :
    (checkedSeg x b g).1 = (List.range 64).map (checkedCode x b g) := List.map_map ..

/-- The code that the Trysail writer writes to a pixel of segment `g`, after the SLP check (R234, R250). -/
def checkedTryCode (s : State) (g u : Nat) : Code :=
  (slpPixel s.bstay (tryScene s (64 * (g % 16) + u) (g / 16)) (tryCode s (64 * (g % 16) + u) (g / 16))).1

theorem trySegCodes_codes (s : State) (g : Nat) : (trySegCodes s g).1 = (List.range 64).map (checkedTryCode s g) :=
  List.map_map ..

/-- Settles O26: a pixel above the ceiling has the limit of `slpLimit`, and a segment's checked codes are what a closed tile holds
once the evaluation has ended. -/
theorem slpClampsAboveTheCeiling : Obligations.SlpClampsAboveTheCeiling := by
  obtain ⟨hEng, hTry, -⟩ := segmentWritesAreCheckedAndNoted
  refine ⟨fun b p x => ?_, fun e g u s hw ha hd hr ht hp => ?_, fun g u s ho hd hb hp hq => ?_⟩
  · intro above lim most y
    have hl : slpLimit b p = if above = true then some lim else none := by
      simp only [slpLimit, onCanvas_eq]
      rfl
    have hsome (h : above = true) : slpLimit b p = some lim := hl.trans (if_pos h)
    exact ⟨fun h hx => slpPixel_above (hsome h) hx, fun h hx => slpPixel_within (hsome h) hx,
      fun h => slpPixel_le (hsome h) x, fun h => slpPixel_none (hl.trans (if_neg (by simp [h]))) x⟩
  · intro j x k
    refine ⟨_, hEng e g s hw ha hd hr ht hp, fun hc => ?_⟩
    have hk : 1024 * (g.val / 16) + 64 * (g.val % 16) + u.val = k := Nat.add_assoc ..
    have hx : k % 1024 = x := by simp only [k, x]; omega
    rw [settle_latchedSeg (f := checkedCode (s.eng e) s.bstay g.val) (s := s) ?_ u hc, checkedCode, hk, hx]
    rw [← checkedSeg_codes]
    exact noteSeg_arr _ _ _
  · intro x
    refine ⟨_, hTry g s ho hd hb hp hq, fun hc => ?_⟩
    rw [settle_latchedSeg (f := checkedTryCode s g.val) (s := s) ?_ u hc, checkedTryCode]
    rw [← trySegCodes_codes]
    rfl

end Sys2Proof.Machine
end

section
/-! A Halyard port through what closes an evaluation, and through the end of ACTIVE (R272, R273, R303, R308). -/

namespace Sys2Proof.Machine

/-! ### What the end of an evaluation leaves of a port -/

/-- A port without what the end of an evaluation may change in it: its roles and its events. -/
def barePort (h : Port) : Port := { h with role := .off, cfgRole := .off, events := {} }

theorem barePort_of_untouched {s t : State} (h : untouched t = untouched s) (p : HPort) :
    barePort (t.hport p) = barePort (s.hport p) :=
  keeps_of_untouched (fun u => barePort (u.hport p)) (fun _ => by cases p <;> rfl) h

/-- A field that `barePort` shows is the same in two states that `untouched` makes equal. -/
theorem port_of_untouched {α : Type} (g : Port → α) (hg : ∀ h, g (barePort h) = g h) {s t : State}
    (h : untouched t = untouched s) (p : HPort) : g (t.hport p) = g (s.hport p) := by
  rw [← hg, barePort_of_untouched h, hg]

/-- A field that `barePort` shows is the same after the end of an evaluation. -/
theorem port_settle {α : Type} (g : Port → α) (hg : ∀ h, g (barePort h) = g h) (s : State) (p : HPort) :
    g ((settle s).hport p) = g (s.hport p) := port_of_untouched g hg (untouched_settle s) p

@[simp] theorem State.hport_hit (b o n : Nat) (s : State) (p : HPort) : (s.hit b o n).hport p = s.hport p := by cases p <;> rfl

@[simp] theorem State.hport_hitIf (c : Bool) (b o n : Nat) (s : State) (p : HPort) : (s.hitIf c b o n).hport p = s.hport p := by
  unfold State.hitIf
  split
  · exact State.hport_hit _ _ _ _ _
  · rfl

theorem State.hport_modPort_ne {p q : HPort} (h : q ≠ p) (f : Port → Port) (s : State) : (s.modPort p f).hport q = s.hport q := by
  cases p with
  | p0 => cases q with
    | p0 => exact absurd rfl h
    | p1 => rfl
  | p1 => cases q with
    | p0 => rfl
    | p1 => exact absurd rfl h

/-- What a change of one port leaves of every port is left by the change of the state. -/
theorem port_modPort {α : Type} (g : Port → α) {f : Port → Port} (hf : ∀ h, g (f h) = g h) (p : HPort) (s : State) (q : HPort) :
    g ((s.modPort p f).hport q) = g (s.hport q) := by
  by_cases h : q = p
  · rw [h, State.hport_modPort_same, hf]
  · rw [State.hport_modPort_ne h]

/-! ### The end of ACTIVE -/

/-- A port without its replies as well, which it loses when it leaves ACTIVE (R303). -/
def drainedPort (h : Port) : Port := { barePort h with replies := [] }

theorem drainedPort_of_untouched {s t : State} (h : untouched t = untouched s) (p : HPort) :
    drainedPort (t.hport p) = drainedPort (s.hport p) :=
  congrArg (fun h : Port => { h with replies := [] }) (barePort_of_untouched h p)

theorem drainedPort_endSession (c : Nat) (s : State) (q : HPort) :
    drainedPort ((endSession c s).hport q) = drainedPort (s.hport q) := by
  cases h : s.cmd.sessOpen
  · simp only [endSession, h, Bool.false_eq_true, if_false]
    cases q <;> rfl
  · simp only [endSession, h, if_true]
    cases q
    · exact drainedPort_of_untouched (untouched_queueEvent _ _ _ _) .p0
    · exact drainedPort_of_untouched (untouched_queueEvent _ _ _ _) .p1

theorem drainedPort_quit (p : HPort) (s : State) (q : HPort) : drainedPort ((quit p s).hport q) = drainedPort (s.hport q) := by
  have h1 : drainedPort ((s.modPort p (fun h => { h with replies := [] })).hport q) = drainedPort (s.hport q) :=
    port_modPort drainedPort (f := fun h => { h with replies := [] }) (fun _ => rfl) p s q
  unfold quit leaveActive
  dsimp only
  split
  · split
    · exact (drainedPort_endSession _ _ q).trans h1
    · exact h1
  · rfl

/-- A field that `drainedPort` shows is the same once the port has left ACTIVE. -/
theorem port_quit {α : Type} (g : Port → α) (hg : ∀ h, g (drainedPort h) = g h) (p : HPort) (s : State) (q : HPort) :
    g ((quit p s).hport q) = g (s.hport q) := by
  rw [← hg, drainedPort_quit, hg]

/-- With no RETRAIN and no change of role waiting, the end of the replies owed does nothing more (R273, R282). -/
theorem afterReplies_nothingWaits {p : HPort} {s : State} (hp : (s.hport p).retrainPend = false) (hr : s.h1.roleChange = none) :
    afterReplies (cmdPort p) s = s := by
  unfold afterReplies
  cases p
  all_goals
    simp only [State.hport] at hp
    simp [cmdPort, hp, hr]

/-! ### RETRAIN of an ACTIVE port (R273) -/

section
variable {p : HPort} {s : State}

theorem detectEntry_port (quiet : Bool) :
    ((detectEntry quiet p s).hport p).state = .detect ∧ ((detectEntry quiet p s).hport p).retrainPend = false ∧
      ((detectEntry quiet p s).hport p).ctrlAct = hlyCtrl p s := by
  simp [detectEntry]

theorem detectEntry_roleChange (quiet : Bool) : (detectEntry quiet p s).h1.roleChange = s.h1.roleChange := by
  have hf : (detectEntry quiet p s).h1.roleChange = ((quit p s).hport .p1).roleChange := by
    unfold detectEntry
    dsimp only
    refine (port_modPort Port.roleChange ?_ p _ .p1).trans ?_
    · intro h; rfl
    · rw [State.hport_hitIf]
  exact hf.trans (port_quit Port.roleChange (fun _ => rfl) p s .p1)

/-- Without START a port that enters DETECT stays there. -/
theorem enterDetect_withoutStart (hb : bit (hlyCtrl p s) 4 = false) :
    enterDetect p s = detectEntry ((s.hport p).beaconOff || deep s.pwr.pstate) p s := by
  have hs (quiet : Bool) : startsBlind p (detectEntry quiet p s) = false := by
    simp only [startsBlind, (detectEntry_port quiet).2.2, hb, Bool.false_and]
  simp only [enterDetect, hs, Bool.and_false, Bool.false_eq_true, if_false]

theorem retrainNow_active (ha : (s.hport p).state = .active) : retrainNow p s = enterDetect p s := by
  unfold retrainNow
  rw [ha]

end

end Sys2Proof.Machine
end

section
/-! Packets received (R264, R286 to R293). -/

namespace Sys2Proof.Machine

/-! ### What the lanes' words change of a port (R264, R265) -/

/-- A port without its receive lanes, what they have not yet given to a packet, and its count of stuffing violations. -/
def beyondLanes (h : Port) : Port :=
  { h with rx0 := {}, rx1 := {}, rxPos := 0, rxLanes := 0, rxWords := [], hdrStamp := none, stuffErrCnt := 0 }

theorem beyondLanes_modRx (n : Nat) (f : RxLane → RxLane) (h : Port) : beyondLanes (h.modRx n f) = beyondLanes h := by
  unfold Port.modRx
  split <;> rfl

theorem beyondLanes_hear (p : HPort) (l : Nat) (line : List Bool) (s : State) :
    beyondLanes ((hear p l line s).1.hport p) = beyondLanes (s.hport p) := by
  simp only [hear, State.hport_modPort_same, State.hport_hitIf]
  exact beyondLanes_modRx _ _ _

theorem beyondLanes_hearWords (p : HPort) (l : Nat) (line : List Bool) (s : State) :
    beyondLanes ((hearWords p l line s).hport p) = beyondLanes (s.hport p) := by
  simp only [hearWords, State.hport_modPort_same, beyondLanes_modRx, beyondLanes_hear]

theorem beyondLanes_destripe (n : Nat) (h : Port) : beyondLanes (destripe n h).2 = beyondLanes h := by
  induction n generalizing h with
  | zero => rfl
  | succ n ih =>
    unfold destripe
    extract_lets h1
    split
    · rfl
    · extract_lets a b
      split
      · rfl
      · exact ih _

/-- What arrives on the lanes leaves the packet layer as it was, but for the words that waited. -/
theorem beyondLanes_arrive (p : HPort) (line : LaneBits) (s : State) :
    beyondLanes ((arrive p line s).2.hport p) = beyondLanes (s.hport p) ∧ ((arrive p line s).2.hport p).rxWords = [] := by
  simp only [arrive, gather, State.hport_modPort_same, and_true]
  exact (beyondLanes_destripe _ _).trans ((beyondLanes_hearWords _ _ _ _).trans (beyondLanes_hearWords _ _ _ _))

/-- A field that `beyondLanes` shows is the same after what arrives on the lanes. -/
theorem port_arrive {α : Type} (g : Port → α) (hg : ∀ h, g (beyondLanes h) = g h) (p : HPort) (line : LaneBits) (s : State) :
    g ((arrive p line s).2.hport p) = g (s.hport p) := by
  rw [← hg, (beyondLanes_arrive p line s).1, hg]

theorem exec_packetReceive {p : HPort} {l : LaneBits} {s : State} (hs : streamOn p s = true) {ws : List Word}
    (h : (arrive p l s).1 = ws) : exec (.packetReceive p l) s = .next (settle (delineate p ws.length ws (arrive p l s).2)) := by
  show done _ = _
  rw [if_pos hs, ← h]
  rfl

/-! ### The core header (R286) -/

theorem crcRun_lt (p : CrcP) (m : List Byte) {run : Nat} (h : run < 2 ^ p.width) : m.foldl (crcByte p) run < 2 ^ p.width := by
  induction m generalizing run with
  | nil => exact h
  | cons v m ih => exact ih (crcBit_lt p _ _)

theorem crc16_lt (m : List Byte) : crc16 m < 2 ^ 16 :=
  Nat.xor_lt_two_pow (crcRun_lt crc16P m (by decide)) (by decide)

theorem hec_lt (n : Nat) : hec n < 2 ^ 16 := crc16_lt _

theorem coreHeader_pli {n : Nat} (h : n < 2 ^ 16) : bits (coreHeader n) 16 16 = n := by
  rw [coreHeader, bits_or, bits_put_same h (by decide), bits_put_below 16 (hec_lt n) (by decide), Nat.or_zero]

theorem coreHeader_hec (n : Nat) : bits (coreHeader n) 0 16 = hec n := by
  rw [coreHeader, bits_or, bits_put_above _ (by decide), bits_put_same (hec_lt n) (by decide), Nat.zero_or]

theorem headerOk_coreHeader {n : Nat} (h : n < 2 ^ 16) : headerOk (coreHeader n) = true := by
  rw [headerOk, coreHeader_hec, coreHeader_pli h, beq_self_eq_true]

/-! ### Delineation (R287, R288) -/

/-- The words of a whole packet are taken as one body, with delineation in SYNC. -/
theorem delineate_packet (p : HPort) {k : Packet} (hlen : k.payload.length ≤ 1024) (s : State) :
    delineate p (packetWords k).length (packetWords k) s =
      dropHeader p (receiveBody p (bodyWords k) (s.modPort p (fun h => { h with sync := true }))) := by
  have hb : (bodyWords k).length = k.payload.length + 3 := bodyWords_length k
  have hlt : (bodyWords k).length < 2 ^ 16 := by omega
  have hpli : pliOk (coreHeader (bodyWords k).length) = true := by
    simp only [pliOk, coreHeader_pli hlt, Bool.and_eq_true, decide_eq_true_eq]
    omega
  have hnil (t : State) : delineate p (bodyWords k).length [] t = t := by
    cases (bodyWords k).length <;> rfl
  simp only [packetWords, List.length_cons, delineate, headerOk_coreHeader hlt, hpli, coreHeader_pli hlt, Bool.and_self,
    if_true, Nat.lt_irrefl, if_false, List.drop_length, List.take_length, hnil]

@[simp] theorem State.hport_crcFail (n : Nat) (s : State) (p : HPort) : (crcFail n s).hport p = s.hport p := by cases p <;> rfl

/-- A word that is no core header, met in SYNC, is counted and takes delineation to HUNT. -/
theorem delineate_badHeader {p : HPort} {w : Word} {s : State} (hw : headerOk w = false) (hs : (s.hport p).sync = true) :
    (delineate p [w].length [w] s).hport p = { s.hport p with hecErrCnt := satInc 16 (s.hport p).hecErrCnt, sync := false } := by
  simp only [List.length_singleton, delineate, hw, hs, Bool.false_and, Bool.false_eq_true, if_false, if_true, State.hport_modPort_same,
    State.hport_crcFail, State.hport_hit]

/-! ### A packet in sequence (R289, R290, R293) -/

theorem trailerOf_bodyWords (k : Packet) :
    trailerOf ((bodyWords k).take ((bodyWords k).length - 1)) = (bodyWords k).getD ((bodyWords k).length - 1) 0 := by
  simp [bodyWords]

/-- A CMD packet on an ACTIVE port that does not face a follower goes to the sequence check. -/
theorem receiveBody_cmd {p : HPort} {k : Packet} {s : State} (hf : facesFollower p s = false)
    (ha : (s.hport p).state = .active) (ht : k.ptype = .cmd) (hch : k.ch.toNat ≤ 12) (hg : k.gap = false)
    (hst : k.stamp = 0) : receiveBody p (bodyWords k) s = sequence p k s := by
  have h0 : (bodyWords k).getD 0 0 = headerWord0 k := rfl
  have h1 : (bodyWords k).getD 1 0 = k.hw1 := rfl
  have hpl : ((bodyWords k).drop 2).take ((bodyWords k).length - 3) = k.payload := by simp [bodyWords]
  have hty : ptypeOf (bits (headerWord0 k) 28 4) = some .cmd := by rw [headerWord0_type, ptypeOf_ptypeNo, ht]
  have hc : channelOk .cmd k.ch.toNat = true := decide_eq_true hch
  have hd : directionOk p .cmd s = true := by rw [directionOk, hf]; rfl
  have hk : ({ ptype := .cmd, ch := k.ch, flags := k.flags, seq := k.seq, hw1 := k.hw1, payload := k.payload } : Packet) = k := by
    rw [← ht, ← hg, ← hst]
  have htake : takePacket p .cmd (bodyWords k) s = sequence p k s := by
    simp only [takePacket, h0, h1, hpl, headerWord0_ch, headerWord0_flags, headerWord0_seq, BitVec.ofNat_toNat,
      BitVec.setWidth_eq, hc, hd, ha, hk]
    rfl
  simp only [receiveBody, hf, trailerOf_bodyWords, h0, hty, htake, Bool.false_and, Bool.false_eq_true, if_false, bne_self_eq_false]

/-- SEQ is the expected one, or the count starts anew (Table 10.5). -/
theorem seqClass_inOrder {e : Option (BitVec 16)} {rst : Bool} {q : BitVec 16} (h : rst = true ∨ e = some q) :
    seqClass e rst q = .inOrder := by
  cases e with
  | none => rfl
  | some e =>
    rcases h with h | h
    · simp [seqClass, h]
    · simp [seqClass, Option.some.inj h]

/-- A CMD packet in order is counted and queued, and the next number of its channel is expected. -/
theorem sequence_inOrder {p : HPort} {k : Packet} {s : State} (ht : k.ptype = .cmd) (hg : k.gap = false)
    (hq : k.flags.getLsbD 7 = true ∨ expected (s.hport p).expect k.ch.toNat = some k.seq) :
    (sequence p k s).hport p = { s.hport p with
      expect := spSet (s.hport p).expect k.ch.toNat (k.seq + 1), rxPkt := satInc 32 (s.hport p).rxPkt
      rxq := (s.hport p).rxq ++ [k] } := by
  have hk : ({ k with ptype := .cmd, gap := false } : Packet) = k := by rw [← ht, ← hg]
  have hc : ((SeqClass.inOrder) == .gap) = false := rfl
  simp only [sequence, seqClass_inOrder hq, hc, ht, accept, Bool.false_and, Bool.false_eq_true, if_false, hk,
    State.hport_modPort_same, State.hport_hitIf, reduceCtorEq]

theorem expected_spSet (m : Sparse (BitVec 16)) (ch : Nat) (v : BitVec 16) : expected (spSet m ch v) ch = some v := by
  induction m with
  | nil => simp [expected, spSet]
  | cons a m ih =>
    obtain ⟨j, u⟩ := a
    simp only [expected, spSet] at ih ⊢
    split
    · simp
    · split
      · simp
      · next hne => simpa [hne] using ih

/-- What a whole CMD packet in order leaves of its port. -/
theorem delineate_cmd {p : HPort} {k : Packet} {s : State} (hf : facesFollower p s = false) (ha : (s.hport p).state = .active)
    (ht : k.ptype = .cmd) (hch : k.ch.toNat ≤ 12) (hlen : k.payload.length ≤ 1024) (hg : k.gap = false) (hst : k.stamp = 0)
    (hq : k.flags.getLsbD 7 = true ∨ expected (s.hport p).expect k.ch.toNat = some k.seq) :
    (delineate p (packetWords k).length (packetWords k) s).hport p = { s.hport p with
      sync := true, hdrStamp := none, expect := spSet (s.hport p).expect k.ch.toNat (k.seq + 1)
      rxPkt := satInc 32 (s.hport p).rxPkt, rxq := (s.hport p).rxq ++ [k] } := by
  have hf' : facesFollower p (s.modPort p (fun h => { h with sync := true })) = false := by
    rw [← hf]; cases p <;> rfl
  rw [delineate_packet p hlen, receiveBody_cmd hf' (by rw [State.hport_modPort_same]; exact ha) ht hch hg hst, dropHeader,
    State.hport_modPort_same, sequence_inOrder ht hg (by rw [State.hport_modPort_same]; exact hq), State.hport_modPort_same]

/-! ### The row -/

theorem packetReceive_cmd {k : Packet} {l : LaneBits} {s : State} (hs : streamOn .p0 s = true) (ha : s.h0.state = .active)
    (hw : (arrive .p0 l s).1 = packetWords k) (ht : k.ptype = .cmd) (hch : k.ch.toNat ≤ 12) (hlen : k.payload.length ≤ 1024)
    (hg : k.gap = false) (hst : k.stamp = 0)
    (hq : k.flags.getLsbD 7 = true ∨ expected s.h0.expect k.ch.toNat = some k.seq) :
    ∃ t, exec (.packetReceive .p0 l) s = .next t ∧ t.h0.rxq = s.h0.rxq ++ [k] ∧ t.h0.rxWords = [] ∧
      expected t.h0.expect k.ch.toNat = some (k.seq + 1) ∧ t.h0.rxPkt = satInc 32 s.h0.rxPkt ∧ t.h0.sync = true := by
  have hstate := port_arrive Port.state (fun _ => rfl) .p0 l s
  have hexp := port_arrive Port.expect (fun _ => rfl) .p0 l s
  have hrxq := port_arrive Port.rxq (fun _ => rfl) .p0 l s
  have hcnt := port_arrive Port.rxPkt (fun _ => rfl) .p0 l s
  have hport := delineate_cmd (p := .p0) (s := (arrive .p0 l s).2) rfl (hstate.trans ha) ht hch hlen hg hst
    (by rw [hexp]; exact hq)
  refine ⟨_, exec_packetReceive hs hw, (port_settle Port.rxq (fun _ => rfl) _ .p0).trans ?_,
    (port_settle Port.rxWords (fun _ => rfl) _ .p0).trans ?_,
    (congrArg (expected · k.ch.toNat) (port_settle Port.expect (fun _ => rfl) _ .p0)).trans ?_,
    (port_settle Port.rxPkt (fun _ => rfl) _ .p0).trans ?_, (port_settle Port.sync (fun _ => rfl) _ .p0).trans ?_⟩
  · rw [hport, hrxq]; rfl
  · rw [hport]; exact (beyondLanes_arrive .p0 l s).2
  · rw [hport]; exact expected_spSet _ _ _
  · rw [hport, hcnt]; rfl
  · rw [hport]

theorem packetReceive_badHeader {w : Word} {l : LaneBits} {s : State} (hs : streamOn .p0 s = true) (hy : s.h0.sync = true)
    (hh : headerOk w = false) (hw : (arrive .p0 l s).1 = [w]) :
    ∃ t, exec (.packetReceive .p0 l) s = .next t ∧ t.h0.sync = false ∧ t.h0.hecErrCnt = satInc 16 s.h0.hecErrCnt ∧
      t.h0.rxq = s.h0.rxq := by
  have hsync := port_arrive Port.sync (fun _ => rfl) .p0 l s
  have hcnt := port_arrive Port.hecErrCnt (fun _ => rfl) .p0 l s
  have hrxq := port_arrive Port.rxq (fun _ => rfl) .p0 l s
  have hx := exec_packetReceive hs hw
  have hport := delineate_badHeader (p := .p0) hh (hsync.trans hy)
  generalize delineate .p0 [w].length [w] (arrive .p0 l s).2 = u at hx hport
  refine ⟨_, hx, (port_settle Port.sync (fun _ => rfl) u .p0).trans ?_,
    (port_settle Port.hecErrCnt (fun _ => rfl) u .p0).trans ?_, (port_settle Port.rxq (fun _ => rfl) u .p0).trans ?_⟩
  · rw [hport]
  · rw [hport, hcnt]; rfl
  · rw [hport]; exact hrxq

end Sys2Proof.Machine
end

section
/-! Packets sent and passed on (R264, R268, R294, R296, R301, R309, R310). -/

namespace Sys2Proof.Machine

/-! ### What a packet on the line changes of a port (R259, R264) -/

/-- A port without its transmit lanes, their STRIPE, its counts of LCWs and the packet sent last. -/
def beyondLine (h : Port) : Port :=
  { h with tx0 := {}, tx1 := {}, txLanes := 0, txMi := false, pmSent := 0, lastSent := [] }

theorem beyondLine_setTx (n : Nat) (t : TxLane) (h : Port) : beyondLine (h.setTx n t) = beyondLine h := by
  unfold Port.setTx
  split <;> rfl

theorem beyondLine_putLcws (h : Port) : beyondLine (putLcws h) = beyondLine h := by
  unfold putLcws
  extract_lets t
  split
  · rename_i mark h1 h2 _
    have e1 : beyondLine h1 = beyondLine h := by
      simp only [h1]
      split
      · exact beyondLine_setTx _ _ _
      · rfl
    have e2 : beyondLine h2 = beyondLine h1 := by
      simp only [h2]
      split
      · exact beyondLine_setTx _ _ _
      · rfl
    exact e2.trans e1
  · rfl

theorem beyondLine_putWord (h : Port) (w : Word) : beyondLine (putWord h w) = beyondLine h := by
  unfold putWord
  extract_lets n h1 o
  have e1 : beyondLine h1 = beyondLine h := beyondLine_setTx _ _ _
  split
  · exact (beyondLine_setTx _ _ _).trans e1
  · exact e1

theorem beyondLine_putStreams (ws : List Word) (h : Port) : beyondLine (ws.foldl putStream h) = beyondLine h := by
  induction ws generalizing h with
  | nil => rfl
  | cons w ws ih => exact (ih _).trans ((beyondLine_putWord _ w).trans (beyondLine_putLcws h))

theorem beyondLine_putPacket (ws : List Word) (h : Port) : beyondLine (putPacket ws h) = beyondLine h :=
  beyondLine_putStreams ws _

/-- A field that `beyondLine` shows is the same after a packet has gone out. -/
theorem port_putPacket {α : Type} (g : Port → α) (hg : ∀ h, g (beyondLine h) = g h) (ws : List Word) (h : Port) :
    g (putPacket ws h) = g h := by
  rw [← hg, beyondLine_putPacket, hg]

theorem putPacket_lastSent (ws : List Word) (h : Port) : (putPacket ws h).lastSent = ws := rfl

/-! ### TRAIN (R268, Table 09.3) -/

section
variable (p : HPort) (s : State)

theorem lastSent_detectEntry (quiet : Bool) : ((detectEntry quiet p s).hport p).lastSent = (s.hport p).lastSent := by
  simp only [detectEntry, State.hport_modPort_same, State.hport_hitIf]
  exact port_quit Port.lastSent (fun _ => rfl) p s p

theorem lastSent_enterDetect : ((enterDetect p s).hport p).lastSent = (s.hport p).lastSent := by
  unfold enterDetect
  extract_lets quiet s1
  have h1 : (s1.hport p).lastSent = (s.hport p).lastSent := lastSent_detectEntry p s quiet
  split
  · rw [enterBlind, State.hport_modPort_same]
    exact h1
  · exact h1

theorem lastSent_negotiate : ((negotiate p s).hport p).lastSent = (s.hport p).lastSent := by
  unfold negotiate
  extract_lets h rate lanes
  split
  · split
    · exact lastSent_enterDetect p s
    · split
      · simp only [enterStep, State.hport_modPort_same]
        rfl
      · rfl
  · rw [lastSent_enterDetect, port_of_untouched Port.lastSent (fun _ => rfl) (untouched_raiseFault _ _ _ _ _ _),
      State.hport_modPort_same, State.hport_hit]

theorem lastSent_trainSent : ((trainSent p s).hport p).lastSent = (s.hport p).lastSent := by
  unfold trainSent
  extract_lets s1 h
  have h1 : (s1.hport p).lastSent = (s.hport p).lastSent := by simp only [s1, State.hport_modPort_same]
  split
  · split
    · exact h1
    · unfold toNegotiate
      dsimp only
      split
      · rw [State.hport_modPort_same]
        exact h1
      · exact h1
  · split
    · exact (lastSent_negotiate p s1).trans h1
    · exact h1
  · exact h1

end

/-- In BASE and NEGOTIATE a TRAIN packet sent to a peer that has said neither LOCKED nor ACK changes no state. -/
theorem state_trainSent_waiting {p : HPort} {s : State} (h13 : bit (s.hport p).peerW0 13 = false)
    (h12 : bit (s.hport p).peerW0 12 = false) : ((trainSent p s).hport p).state = (s.hport p).state := by
  unfold trainSent
  extract_lets s1 h
  have h1 : (s1.hport p).state = (s.hport p).state := by simp only [s1, State.hport_modPort_same]
  have hw : (s1.hport p).peerW0 = (s.hport p).peerW0 := by simp only [s1, State.hport_modPort_same]
  split
  · simp only [toNegotiate, hw, h13, Bool.and_false, Bool.false_eq_true, if_false, ite_self, h1]
  · simp only [h, hw, h12, Bool.and_false, Bool.false_eq_true, if_false, h1]
  · exact h1

/-- In BASE the TRAIN packet that says LOCKED to a peer that has said so ends BASE. -/
theorem state_trainSent_locked {p : HPort} {s : State} (hb : (s.hport p).state = .base) (hl : (s.hport p).locked = true)
    (ht : (s.hport p).trains ≠ 0) (h13 : bit (s.hport p).peerW0 13 = true) :
    ((trainSent p s).hport p).state = .negotiate := by
  simp [trainSent, toNegotiate, hb, hl, ht, h13]

/-- The state in which the TRAIN packet of the port has been put on the line. -/
def trainOnLine (p : HPort) (s : State) : State := s.modPort p (fun h => putPacket (packetWords (trainPacket p h)) h)

theorem trainOnLine_port {α : Type} (g : Port → α) (hg : ∀ h, g (beyondLine h) = g h) (p : HPort) (s : State) :
    g ((trainOnLine p s).hport p) = g (s.hport p) := by
  rw [trainOnLine, State.hport_modPort_same, port_putPacket g hg]

theorem lastSent_sendTrain (p : HPort) (s : State) :
    ((sendTrain p s).hport p).lastSent = packetWords (trainPacket p (s.hport p)) := by
  refine (lastSent_trainSent p (trainOnLine p s)).trans ?_
  rw [trainOnLine, State.hport_modPort_same, putPacket_lastSent]

theorem state_sendTrain_waiting {p : HPort} {s : State} (h13 : bit (s.hport p).peerW0 13 = false)
    (h12 : bit (s.hport p).peerW0 12 = false) : ((sendTrain p s).hport p).state = (s.hport p).state := by
  have hw := trainOnLine_port Port.peerW0 (fun _ => rfl) p s
  exact (state_trainSent_waiting (s := trainOnLine p s) (by rw [hw, h13]) (by rw [hw, h12])).trans
    (trainOnLine_port Port.state (fun _ => rfl) p s)

theorem state_sendTrain_locked {p : HPort} {s : State} (hb : (s.hport p).state = .base) (hl : (s.hport p).locked = true)
    (ht : (s.hport p).trains ≠ 0) (h13 : bit (s.hport p).peerW0 13 = true) :
    ((sendTrain p s).hport p).state = .negotiate := by
  refine state_trainSent_locked (s := trainOnLine p s) ?_ ?_ ?_ ?_
  · rw [trainOnLine_port Port.state (fun _ => rfl), hb]
  · rw [trainOnLine_port Port.locked (fun _ => rfl), hl]
  · rwa [trainOnLine_port Port.trains (fun _ => rfl)]
  · rw [trainOnLine_port Port.peerW0 (fun _ => rfl), h13]

/-! ### The next packet of an ACTIVE port (R294, R296, R301) -/

theorem measureReply_onTime {start : Nat} (h : start ≤ 8000) (s : State) :
    measureReply start s = { s with cmd := { s.cmd with replyMax := max s.cmd.replyMax (min 65535 (start / 10)) } } := by
  rw [measureReply, if_neg (Nat.not_lt.mpr h)]

/-- The port with a counted packet gone out. -/
def countedSent (k : Packet) (h : Port) : Port :=
  putPacket (packetWords (number k h.ownSeq h.rstSent).1) { h with
    ownSeq := (number k h.ownSeq h.rstSent).2.1, rstSent := (number k h.ownSeq h.rstSent).2.2, txPkt := satInc 32 h.txPkt }

theorem sendCounted_eq (p : HPort) (k : Packet) (s : State) :
    sendCounted p k s = (s.hit (portBlk p) 0x104 0).modPort p (countedSent k) := rfl

section
variable {p : HPort} {k : Packet} {rest : List Packet} {start : Nat} {s : State}

/-- The state in which the measured reply has left the replies owed. -/
def replyTaken (p : HPort) (rest : List Packet) (start : Nat) (s : State) : State :=
  { s.modPort p (fun h => { h with replies := rest }) with
    cmd := { s.cmd with replyMax := max s.cmd.replyMax (min 65535 (start / 10)) } }

theorem replyTaken_port : (replyTaken p rest start s).hport p = { s.hport p with replies := rest } := by cases p <;> rfl

/-- The oldest reply goes out numbered where it begins within 8.0 us and no RETRAIN or change of role waits for it. -/
theorem sendNext_reply (h : (s.hport p).replies = k :: rest) (hs : start ≤ 8000) (hp : (s.hport p).retrainPend = false)
    (hr : s.h1.roleChange = none) : sendNext p start s = sendCounted p k (replyTaken p rest start s) := by
  have hport : (sendCounted p k (replyTaken p rest start s)).hport p = countedSent k { s.hport p with replies := rest } := by
    rw [sendCounted_eq, State.hport_modPort_same, State.hport_hit, replyTaken_port]
  have hpend : ((sendCounted p k (replyTaken p rest start s)).hport p).retrainPend = false := by
    rw [hport, countedSent, port_putPacket Port.retrainPend (fun _ => rfl), ← hp]
  have hchange : (sendCounted p k (replyTaken p rest start s)).h1.roleChange = none := by
    cases p with
    | p0 => exact hr
    | p1 =>
      refine (congrArg Port.roleChange hport).trans ?_
      rw [countedSent, port_putPacket Port.roleChange (fun _ => rfl), ← hr]
      rfl
  have htaken : measureReply start (s.modPort p (fun h => { h with replies := rest })) = replyTaken p rest start s := by
    rw [measureReply_onTime hs, replyTaken, State.modPort_cmd]
  rw [← afterReplies_nothingWaits hpend hchange, ← htaken]
  simp only [sendNext, h]

/-- With nothing to send the port fills with IDLE. -/
theorem sendNext_idle (hrep : (s.hport p).replies = []) (ht : (s.hport p).times = []) (he : (s.hport p).events.q = [])
    (hf : (s.hport p).forwards = []) (hi : (s.hport p).inner = []) (hl : (s.hport p).layers = []) :
    sendNext p start s = s.modPort p (putPacket idleWords) := by
  simp only [sendNext, hrep, ht, he, hf, hi, hl, ite_self]

end

/-! ### The rows -/

section
variable {p : HPort} {start : Nat} {s : State} (hl : linkOn p s = true) (hc : s.compat = false)
include hl hc

theorem exec_packetSend_train (hb : (s.hport p).state = .base ∨ (s.hport p).state = .negotiate) :
    exec (.packetSend p start) s = .next (settle (sendTrain p s)) := by
  show execPacketSend p start s = _
  rcases hb with hb | hb <;> simp only [execPacketSend, hl, hc, hb, Bool.false_eq_true, if_true, if_false, done]

theorem exec_packetSend_blind (hb : (s.hport p).state = .blind) :
    exec (.packetSend p start) s = .next (settle (s.modPort p (putPacket idleWords))) := by
  show execPacketSend p start s = _
  simp only [execPacketSend, hl, hc, hb, Bool.false_eq_true, if_true, if_false, done]

theorem exec_packetSend_active (ha : (s.hport p).state = .active) :
    exec (.packetSend p start) s = .next (settle (sendNext p start s)) := by
  show execPacketSend p start s = _
  simp only [execPacketSend, hl, hc, ha, Bool.false_eq_true, if_true, if_false, done]

end

/-- A reply of H0 goes out first, with the count of its channel, and its start is measured. -/
theorem packetSend_reply {start : Nat} {s : State} {k : Packet} {rest : List Packet} (hl : linkOn .p0 s = true)
    (hc : s.compat = false) (ha : s.h0.state = .active) (hp : s.h0.retrainPend = false) (hr : s.h1.roleChange = none)
    (h : s.h0.replies = k :: rest) (hs : start ≤ 8000) :
    ∃ t, exec (.packetSend .p0 start) s = .next t ∧ t.h0.replies = rest ∧
      t.h0.lastSent = packetWords (number k s.h0.ownSeq s.h0.rstSent).1 ∧ t.h0.txPkt = satInc 32 s.h0.txPkt ∧
      t.cmd.replyMax = max s.cmd.replyMax (min 65535 (start / 10)) ∧
      spGet t.h0.ownSeq k.ch.toNat 0 = spGet s.h0.ownSeq k.ch.toNat 0 + 1 := by
  have hx := exec_packetSend_active (start := start) hl hc ha
  rw [sendNext_reply (p := .p0) h hs hp hr] at hx
  have hport : (sendCounted .p0 k (replyTaken .p0 rest start s)).hport .p0 = countedSent k { s.h0 with replies := rest } := rfl
  have hput {α : Type} (g : Port → α) (hg : ∀ h, g (beyondLine h) = g h) := port_putPacket g hg
    (packetWords (number k s.h0.ownSeq s.h0.rstSent).1) { s.h0 with
      replies := rest, ownSeq := (number k s.h0.ownSeq s.h0.rstSent).2.1, rstSent := (number k s.h0.ownSeq s.h0.rstSent).2.2
      txPkt := satInc 32 s.h0.txPkt }
  refine ⟨_, hx, (port_settle Port.replies (fun _ => rfl) _ .p0).trans ?_,
    (port_settle Port.lastSent (fun _ => rfl) _ .p0).trans ?_, (port_settle Port.txPkt (fun _ => rfl) _ .p0).trans ?_,
    (settle_keeps (fun u => u.cmd.replyMax) (fun _ => rfl) _).trans ?_,
    (congrArg (spGet · k.ch.toNat 0) (port_settle Port.ownSeq (fun _ => rfl) _ .p0)).trans ?_⟩
  · rw [hport]; exact hput Port.replies (fun _ => rfl)
  · rw [hport]; rfl
  · rw [hport]; exact hput Port.txPkt (fun _ => rfl)
  · rfl
  · rw [hport]; exact (congrArg (spGet · k.ch.toNat 0) (hput Port.ownSeq (fun _ => rfl))).trans (spGet_spSet_same _ _ _ _)

/-- A FORWARD received is passed on to an ACTIVE H1 that leads, or discarded and counted (R309). -/
theorem exec_forwardReceive {k : Packet} {rest : List Packet} {s : State} (h : s.h0.rxq = k :: rest) (ht : k.ptype = .forward) :
    exec .forwardReceive s = .next (settle
      (if leads s && s.h1.state == .active && innerOk k.payload then
        { s with h0 := { s.h0 with rxq := rest }, h1 := { s.h1 with inner := s.h1.inner ++ [k.payload] } }
      else { s.hit 1 0x114 16 with h0 := { s.h0 with rxq := rest, fwdDropCnt := satInc 16 s.h0.fwdDropCnt } })) := by
  have hx : takeRx .p0 (fun k => k.ptype == .forward) s = _ := takeRx_head h (by simp [ht])
  show execForwardReceive s = _
  simp only [execForwardReceive, hx, done]
  rfl

theorem exec_followerPacketWrap {k : Packet} {rest : List Packet} {s : State} (h : s.h1.rxq = k :: rest)
    (ht : k.ptype = .forward) :
    exec .followerPacketWrap s = .next (settle { s with
      h1 := { s.h1 with rxq := rest }, h0 := { s.h0 with forwards := s.h0.forwards ++ [k] } }) := by
  have hx : takeRx .p1 (fun k => k.ptype == .forward) s = _ := takeRx_head h (by simp [ht])
  show execFollowerPacketWrap s = _
  simp only [execFollowerPacketWrap, hx, done]
  rfl

/-- Settles O50: a packet that arrives whole passes delineation, trailer and sequence; what a port sends is the choice of
`sendTrain` or `sendNext`, whose packet is put on the line. -/
theorem packetsArriveAndLeave : Obligations.PacketsArriveAndLeave := by
  refine ⟨fun k l s hs ha _ hw ht hch hlen hg hst hq => packetReceive_cmd hs ha hw ht hch hlen hg hst hq,
    fun w l s hs hy hh hw => packetReceive_badHeader hs hy hh hw, fun start s hl hc => ⟨fun hb => ?_, fun hb => ?_⟩,
    fun start s hl hc ha hp hr => ⟨fun k rest h hs => packetSend_reply hl hc ha hp hr h hs,
      fun hrep ht he hf hi hly => ?_⟩, fun k rest s => ⟨fun h ht => ⟨fun hl ha hi => ?_, fun hi => ?_⟩,
      fun h ht => exec_followerPacketWrap h ht⟩⟩
  · refine ⟨_, exec_packetSend_train hl hc hb, (port_settle Port.lastSent (fun _ => rfl) _ .p0).trans (lastSent_sendTrain .p0 s),
      fun h13 h12 => (port_settle Port.state (fun _ => rfl) _ .p0).trans (state_sendTrain_waiting h13 h12),
      fun hb hk ht h13 => (port_settle Port.state (fun _ => rfl) _ .p0).trans (state_sendTrain_locked hb hk ht h13)⟩
  · exact ⟨_, exec_packetSend_blind hl hc hb, port_settle Port.lastSent (fun _ => rfl) _ .p0⟩
  · refine ⟨_, exec_packetSend_active hl hc ha, ?_⟩
    rw [sendNext_idle (p := .p0) hrep ht he hf hi hly]
    exact ⟨port_settle Port.lastSent (fun _ => rfl) _ .p0, (port_settle Port.txPkt (fun _ => rfl) _ .p0).trans
      (port_putPacket Port.txPkt (fun _ => rfl) idleWords s.h0)⟩
  · rw [exec_forwardReceive h ht, if_pos (by simp [hl, ha, hi])]
  · rw [exec_forwardReceive h ht, if_neg (by simp [hi])]

end Sys2Proof.Machine
end

section
/-! Temperature readings (R391 to R395). -/

namespace Sys2Proof.Machine

/-! ### A sensor's reading (R393) -/

theorem reg13_inRange {v : Int} (h1 : -4095 ≤ v) (h2 : v ≤ 4095) : reg13 v = v := by
  rw [reg13, min_eq_right h2, max_eq_right h1]

section
variable {lo hi v : Int} (x : Sensor)

/-- A reading that converts is shown, in range or not. -/
theorem takeReading_shown : (takeReading lo hi (some v) x).shown = reg13 v := by
  unfold takeReading
  extract_lets shown
  split <;> rfl

theorem takeReading_good (h : lo ≤ v ∧ v ≤ hi) : (takeReading lo hi (some v) x).last = some v ∧
    (takeReading lo hi (some v) x).fails = 0 ∧ (x.broken = false → (takeReading lo hi (some v) x).broken = false) := by
  have hg : goodReading lo hi (some v) = some v := if_pos h
  simp only [takeReading, hg, true_and]
  intro hb
  rw [hb, Bool.false_and]

theorem takeReading_outOfRange (h : ¬(lo ≤ v ∧ v ≤ hi)) : (takeReading lo hi (some v) x).last = x.last ∧
    (takeReading lo hi (some v) x).fails = x.fails + 1 := by
  have hg : goodReading lo hi (some v) = none := if_neg h
  simp only [takeReading, hg, and_self]

/-- A failed reading after another declares the sensor broken. -/
theorem takeReading_failed (h : 1 ≤ x.fails) : (takeReading lo hi none x).broken = true ∧
    (takeReading lo hi none x).fails = x.fails + 1 := by
  simp only [takeReading, goodReading, h, decide_true, Bool.or_true, and_self]

theorem takeReading_levels (r : Option Int) : (takeReading lo hi r x).warn = x.warn ∧
    (takeReading lo hi r x).throttle = x.throttle ∧ (takeReading lo hi r x).shutdown = x.shutdown := by
  unfold takeReading
  extract_lets shown
  split <;> exact ⟨rfl, rfl, rfl⟩

end

/-! ### What a reading reports (R396, R398) -/

theorem untouched_thermEvent (g : TGroup) (l i : Nat) (a b : Bool) (s : State) : untouched (thermEvent g l i a b s) = untouched s := by
  unfold thermEvent
  split
  · rfl
  · unfold legacyWarn
    split <;> exact untouched_queueEvent _ _ _ s

theorem untouched_reportLevel (g : TGroup) (l i : Nat) (a b : Bool) (s : State) :
    untouched (reportLevel g l i a b s) = untouched s := by
  unfold reportLevel
  split
  · exact untouched_raiseFault _ _ _ _ _ _
  · rfl

theorem untouched_reportSensor (g : TGroup) (i : Nat) (a b : Sensor) (s : State) :
    untouched (reportSensor g i a b s) = untouched s := by
  simp only [reportSensor, untouched_reportLevel, untouched_thermEvent]

/-- The reports of a reading, a declaration as broken among them, and the end of the evaluation leave the rest as it was. -/
theorem untouched_reported (g : TGroup) (i : Nat) (a b : Sensor) (c : Bool) (n k : Nat) (s : State) :
    untouched (settle (reportSensor g i a b (if c then raiseFault 16 n k true false s else s))) = untouched s := by
  rw [untouched_settle, untouched_reportSensor]
  split
  · exact untouched_raiseFault _ _ _ _ _ _
  · rfl

theorem therm_of_untouched {s t : State} (h : untouched t = untouched s) : t.therm = s.therm :=
  keeps_of_untouched (fun u => u.therm) (fun _ => rfl) h

theorem tileShutdown_of_untouched {s t : State} (h : untouched t = untouched s) (k : Nat) :
    (t.tile k).shutdown = (s.tile k).shutdown := by
  have hb (u : State) : ((untouched u).tile k).shutdown = (u.tile k).shutdown := by
    show ((u.arr.tiles.map bareTile).getD k (bareTile {})).shutdown = _
    rw [List.getD_map]
    rfl
  exact keeps_of_untouched (fun u => (u.tile k).shutdown) hb h

/-! ### The sensors' records after a reading -/

/-- A tile sensor after a reading, with the value used and the levels. -/
def tileJudged (t : Nat) (r : Option Int) (aux : Nat) (s : State) : Sensor :=
  let x := takeReading (-880) 3200 r (s.therm.tiles.getD t {})
  let s1 := s.modTherm (fun h => { h with tiles := h.tiles.set t x })
  ({ x with used := reg13 (tileValue t aux x s1) } : Sensor).judge .tile s1

theorem getD_set_set {α : Type} {l : List α} {n : Nat} (a b d : α) (h : n < l.length) : ((l.set n a).set n b).getD n d = b := by
  simp [List.getD_eq_getElem?_getD, h]

theorem readTile_records {t : Nat} (r : Option Int) (aux : Nat) {s : State} (ht : t < s.therm.tiles.length)
    (ha : t < s.arr.tiles.length) :
    (settle (readTile t r aux s)).therm.tiles.getD t {} = tileJudged t r aux s ∧
      ((settle (readTile t r aux s)).tile t).shutdown = (tileJudged t r aux s).shutdown := by
  have hu : untouched (settle (readTile t r aux s)) = untouched _ := untouched_reported _ _ _ _ _ _ _ _
  refine ⟨?_, (tileShutdown_of_untouched hu t).trans ?_⟩
  · rw [therm_of_untouched hu]
    exact getD_set_set _ _ _ ht
  · exact congrArg Tile.shutdown
      (getD_modAt_same s.arr.tiles t (fun x => { x with shutdown := (tileJudged t r aux s).shutdown }) {} ha)

/-- A die sensor after a reading, with the value used and the levels. -/
def dieJudged (n : Nat) (r : Option Int) (s : State) : Sensor :=
  let x := takeReading (-880) 3200 r (s.therm.dies.getD n {})
  let s1 := s.modTherm (fun h => { h with dies := h.dies.set n x })
  ({ x with used := reg13 (if x.ok then x.last.getD 0 else dieSubstitute s1) } : Sensor).judge .die s1

/-- The NTC after a reading, with the value used and the levels. -/
def ntcJudged (r : Option Int) (res : Nat) (s : State) : Sensor :=
  let x := takeReading (-800) 2560 (r.map (fun _ => Config.ntcTemp res s.base.therm.ntcCfg)) s.therm.ntc
  ({ x with used := reg13 (if x.ok then x.last.getD 0 else sinkSubstitute s) } : Sensor).judge .sink s

/-- The global reefing target leaves the sensors and the count of scans alone (R400, R401). -/
theorem publishGlob_sensors (s : State) : (publishGlob s).therm.dies = s.therm.dies ∧ (publishGlob s).therm.ntc = s.therm.ntc ∧
    (publishGlob s).therm.ntcRes = s.therm.ntcRes ∧ (publishGlob s).therm.scanCnt = s.therm.scanCnt := by
  unfold publishGlob
  split <;> exact ⟨rfl, rfl, rfl, rfl⟩

theorem readDie_record {n : Nat} (r : Option Int) {s : State} (hn : n < s.therm.dies.length) :
    (settle (readDie n r s)).therm.dies.getD n {} = dieJudged n r s := by
  have hu : untouched (settle (readDie n r s)) = untouched _ := untouched_reported _ _ _ _ _ _ _ _
  rw [therm_of_untouched hu, (publishGlob_sensors _).1]
  exact getD_set_set _ _ _ hn

theorem readNtc_record (r : Option Int) (res : Nat) (s : State) :
    (settle (readNtc r res s)).therm.ntc = ntcJudged r res s ∧ (settle (readNtc r res s)).therm.ntcRes = min 0xFFFFFF res ∧
      (settle (readNtc r res s)).therm.scanCnt = s.therm.scanCnt + 1 := by
  have hu : untouched (settle (readNtc r res s)) = untouched _ := untouched_reported _ _ _ _ _ _ _ _
  obtain ⟨-, hntc, hres, hcnt⟩ := publishGlob_sensors (s.modTherm (fun h => { h with
    ntc := ntcJudged r res s, ntcRes := min 0xFFFFFF res, scanCnt := h.scanCnt + 1 }))
  rw [therm_of_untouched hu]
  exact ⟨hntc, hres, hcnt⟩

/-! ### The rows (R391, R392, Table 14.4) -/

section
variable {s : State} (hr : s.pwr.inReset = false)
include hr

theorem exec_thermReading (id : SensorId) (r : Option Int) (aux : Nat) :
    exec (.thermReading id r aux) s = .next (settle (takeSensor id r aux s)) := by
  show done _ = _
  rw [hr]
  rfl

theorem exec_thermReading_tile (t : Fin 256) (r : Option Int) (aux : Nat) (hp : s.pwr.pstate = .s0 ∨ s.pwr.pstate = .s1) :
    exec (.thermReading (.tile t) r aux) s = .next (settle (readTile t r aux s)) := by
  rw [exec_thermReading hr]
  unfold takeSensor
  rcases hp with hp | hp <;> rw [hp]

theorem exec_thermReading_tileInS2 (t : Fin 256) (r : Option Int) (aux : Nat) (hp : s.pwr.pstate = .s2) :
    exec (.thermReading (.tile t) r aux) s = .next (settle s) := by
  rw [exec_thermReading hr]
  unfold takeSensor
  rw [hp]

theorem exec_thermReading_die (n : Fin 4) (r : Option Int) (aux : Nat)
    (hp : s.pwr.pstate = .s0 ∨ s.pwr.pstate = .s1 ∨ s.pwr.pstate = .s2) :
    exec (.thermReading (.die n) r aux) s = .next (settle (readDie n r s)) := by
  rw [exec_thermReading hr]
  unfold takeSensor
  rcases hp with hp | hp | hp <;> rw [hp]

/-- The NTC is read in every power state but S4 and S5. -/
theorem exec_thermReading_ntc (r : Option Int) (aux : Nat) :
    exec (.thermReading .ntc r aux) s = .next (settle (if vault s.pwr.pstate then s else readNtc r aux s)) := by
  rw [exec_thermReading hr]
  unfold takeSensor
  cases s.pwr.pstate <;> rfl

/-- A good reading of a tile sensor: what is shown, the levels, and the value used (R392 to R395). -/
theorem tileReading_good (t : Fin 256) (aux : Nat) (hp : s.pwr.pstate = .s0 ∨ s.pwr.pstate = .s1)
    (hn : s.therm.tiles.length = 256) (ha : s.arr.tiles.length = 256) {v : Int} (h1 : -880 ≤ v) (h2 : v ≤ 3200) :
    let x := s.therm.tiles.getD t {}
    ∃ u, exec (.thermReading (.tile t) (some v) aux) s = .next u ∧
      let y := u.therm.tiles.getD t {}
      y.shown = v ∧ y.last = some v ∧ y.fails = 0 ∧ y.shutdown = levelAt x.shutdown (thr .tile 2 s) (hystNow s) y.used ∧
      y.warn = levelAt x.warn (thr .tile 0 s) (hystNow s) y.used ∧
      y.throttle = levelAt x.throttle (thr .tile 1 s) (hystNow s) y.used ∧ (u.tile t).shutdown = y.shutdown ∧
      (x.broken = false → y.used = reg13 (junction s.therm.theta.toNat v s.arr.vled aux)) := by
  intro x
  obtain ⟨hrec, hshut⟩ := readTile_records (some v) aux (t.isLt.trans_eq hn.symm) (t.isLt.trans_eq ha.symm)
  obtain ⟨hlast, hfails, hwhole⟩ := takeReading_good x ⟨h1, h2⟩
  obtain ⟨hw, ht, hs⟩ := takeReading_levels (lo := -880) (hi := 3200) x (some v)
  refine ⟨_, exec_thermReading_tile hr t (some v) aux hp, ?_⟩
  rw [hrec, hshut]
  refine ⟨?_, hlast, hfails, congrArg (levelAt · _ _ _) hs, congrArg (levelAt · _ _ _) hw, congrArg (levelAt · _ _ _) ht, rfl,
    fun hb => ?_⟩
  · exact (takeReading_shown x).trans (reg13_inRange (by omega) (by omega))
  · have hok : (takeReading (-880) 3200 (some v) x).ok = true := by
      simp only [Sensor.ok, hwhole hb, hlast, Option.isSome_some, Bool.not_false, Bool.and_self]
    show reg13 (tileValue t aux (takeReading (-880) 3200 (some v) x) _) = _
    rw [tileValue, hok, hlast]
    rfl

/-- A failed reading of a tile sensor after another (R393). -/
theorem tileReading_failed (t : Fin 256) (aux : Nat) (hp : s.pwr.pstate = .s0 ∨ s.pwr.pstate = .s1)
    (hn : s.therm.tiles.length = 256) (ha : s.arr.tiles.length = 256) (h : 1 ≤ (s.therm.tiles.getD t {}).fails) :
    ∃ u, exec (.thermReading (.tile t) none aux) s = .next u ∧ (u.therm.tiles.getD t {}).broken = true ∧
      (u.therm.tiles.getD t {}).fails = (s.therm.tiles.getD t {}).fails + 1 := by
  obtain ⟨hrec, -⟩ := readTile_records none aux (t.isLt.trans_eq hn.symm) (t.isLt.trans_eq ha.symm)
  refine ⟨_, exec_thermReading_tile hr t none aux hp, ?_⟩
  rw [hrec]
  exact takeReading_failed (lo := -880) (hi := 3200) _ h

theorem dieReading_good (n : Fin 4) (aux : Nat) (hn : s.therm.dies.length = 4)
    (hp : s.pwr.pstate = .s0 ∨ s.pwr.pstate = .s1 ∨ s.pwr.pstate = .s2) {v : Int} (h1 : -880 ≤ v) (h2 : v ≤ 3200) :
    ∃ u, exec (.thermReading (.die n) (some v) aux) s = .next u ∧
      let x := s.therm.dies.getD n {}
      let y := u.therm.dies.getD n {}
      y.shown = v ∧ y.last = some v ∧ y.fails = 0 ∧ y.warn = levelAt x.warn (thr .die 0 s) (hystNow s) y.used ∧
      y.throttle = levelAt x.throttle (thr .die 1 s) (hystNow s) y.used ∧
      y.shutdown = levelAt x.shutdown (thr .die 2 s) (hystNow s) y.used := by
  obtain ⟨hlast, hfails, -⟩ := takeReading_good (s.therm.dies.getD n {}) ⟨h1, h2⟩
  obtain ⟨hw, ht, hs⟩ := takeReading_levels (lo := -880) (hi := 3200) (s.therm.dies.getD n {}) (some v)
  refine ⟨_, exec_thermReading_die hr n (some v) aux hp, ?_⟩
  intro x
  rw [readDie_record (some v) (n.isLt.trans_eq hn.symm)]
  exact ⟨(takeReading_shown x).trans (reg13_inRange (by omega) (by omega)), hlast, hfails, congrArg (levelAt · _ _ _) hw,
    congrArg (levelAt · _ _ _) ht, congrArg (levelAt · _ _ _) hs⟩

/-- An NTC reading stands as the temperature of its resistance, good or not (R391, R393, R405). -/
theorem ntcReading_taken (v : Int) (aux : Nat) (hp : vault s.pwr.pstate = false) :
    let c := Config.ntcTemp aux s.base.therm.ntcCfg
    let good := -800 ≤ c ∧ c ≤ 2560
    ∃ u, exec (.thermReading .ntc (some v) aux) s = .next u ∧ u.therm.ntc.shown = reg13 c ∧
      (good → u.therm.ntc.last = some c ∧ u.therm.ntc.fails = 0) ∧
      (¬good → u.therm.ntc.last = s.therm.ntc.last ∧ u.therm.ntc.fails = s.therm.ntc.fails + 1) ∧
      u.therm.ntcRes = min 0xFFFFFF aux ∧ u.therm.scanCnt = s.therm.scanCnt + 1 := by
  intro c good
  obtain ⟨hrec, hres, hcnt⟩ := readNtc_record (some v) aux s
  have hx := exec_thermReading_ntc hr (some v) aux
  rw [if_neg (by simp [hp])] at hx
  refine ⟨_, hx, ?_⟩
  rw [hrec]
  refine ⟨takeReading_shown _, fun hg => ?_, fun hg => takeReading_outOfRange _ hg, hres, hcnt⟩
  obtain ⟨hlast, hfails, -⟩ := takeReading_good s.therm.ntc hg
  exact ⟨hlast, hfails⟩

end

end Sys2Proof.Machine
end

section
/-! THERM_FLOOR, NTC_CFG, HLY_CTRL and RETRAIN (R271, R273, R284, R405). -/

namespace Sys2Proof.Machine

/-! ### Registers of THERM (R405) -/

theorem exec_thermRegWrite {src : RegSrc} {s : State} (hr : regReady 16 src s = true) {off : BitVec 16} (v : Word)
    (ha : off.toNat % 4 = 0) (hf : off.toNat < 0xFF00) :
    exec (.thermRegWrite src off v) s = .next (settle { (thermWrite (srcSession src s) off.toNat v s).1 with
      lastStatus := (thermWrite (srcSession src s) off.toNat v s).2 }) := by
  show done _ = _
  rw [writeAt_ready 16 src off _ s hr ha, if_pos hf, done]

theorem thermWrite_floor (sess : Bool) (v : Word) (s : State) : thermWrite sess 4 v s =
    if sess then
      if bits v 0 17 = 0 ∨ 65536 < bits v 0 17 then (s, stBadParam)
      else (s.modTherm (fun h => { h with floor := v.setWidth 17 }), stOk)
    else (s, stDenied) := by
  cases sess <;> rfl

theorem thermWrite_ntcCfg (sess : Bool) (v : Word) (s : State) : thermWrite sess 0x518 v s =
    if bits v 0 16 = 0 ∨ bits v 16 16 = 0 then (s, stBadParam)
    else (s.modTherm (fun h => { h with ntcCfg := v }), stOk) := by
  cases sess <;> rfl

/-- THERM_FLOOR and NTC_CFG are stored in their ranges, THERM_FLOOR only in a session. -/
theorem thermRegWrite_row (src : RegSrc) (v : Word) (s : State) (hr : regReady 16 src s = true) :
    (srcSession src s = true → 1 ≤ bits v 0 17 → bits v 0 17 ≤ 65536 → exec (.thermRegWrite src 4 v) s =
      .next (settle { s with therm := { s.therm with floor := v.setWidth 17 }, lastStatus := stOk })) ∧
    (srcSession src s = true → bits v 0 17 = 0 ∨ 65536 < bits v 0 17 →
      exec (.thermRegWrite src 4 v) s = .next (settle { s with lastStatus := stBadParam })) ∧
    (srcSession src s = false → exec (.thermRegWrite src 4 v) s = .next (settle { s with lastStatus := stDenied })) ∧
    (bits v 0 16 ≠ 0 → bits v 16 16 ≠ 0 → exec (.thermRegWrite src 0x518 v) s =
      .next (settle { s with therm := { s.therm with ntcCfg := v }, lastStatus := stOk })) := by
  have hfloor := exec_thermRegWrite hr (off := 4) v (by decide) (by decide)
  have hntc := exec_thermRegWrite hr (off := 0x518) v (by decide) (by decide)
  rw [show (4 : BitVec 16).toNat = 4 from rfl, thermWrite_floor] at hfloor
  rw [show (0x518 : BitVec 16).toNat = 0x518 from rfl, thermWrite_ntcCfg] at hntc
  refine ⟨fun hs h1 h2 => ?_, fun hs h => ?_, fun hs => ?_, fun h0 h16 => ?_⟩
  · rw [hfloor, if_pos hs, if_neg (by omega)]
    rfl
  · rw [hfloor, if_pos hs, if_pos h]
  · rw [hfloor, if_neg (by simp [hs])]
  · rw [hntc, if_neg (by simp [h0, h16])]
    rfl

/-! ### HLY_CTRL (R271, R284) -/

section
variable {src : RegSrc} {p : HPort} {v : Word} {s : State}

theorem ctrlWrite_compat (hc : s.compat = true) : ctrlWrite src p v s = (s, stBadState) := by
  rw [ctrlWrite, if_pos hc]

theorem ctrlWrite_noRate (hc : s.compat = false) (hv : bits v 20 4 = 0) : ctrlWrite src p v s = (s, stBadParam) := by
  simp only [ctrlWrite, hc, ctlRates, hv, true_or, Bool.false_eq_true, if_false, if_true]

/-- With every rate allowed and a lane named the fields agree: the write is BAD_STATE for START on a port that leads or
follows, and is stored otherwise, RETRAIN then acting at once. -/
theorem ctrlWrite_allRates (hc : s.compat = false) (hv : bits v 20 4 = 15) (hl : bits v 12 2 ≠ 0) : ctrlWrite src p v s =
    if bit v 4 && ((s.hport p).role == .leader || (s.hport p).role == .follower || (s.hport p).cfgRole == .leader) then
      (s, stBadState)
    else
      let s1 := s.modPort p (fun h => { h with ctrl := v &&& 0x00F33014 })
      (if bit v 1 then doRetrain src p s1 else s1, stOk) := by
  have hrate (r : BitVec 2) : (15 : Nat).testBit r.toNat = true := by revert r; decide
  have hlane : ctlBlindLanes v ≠ 0 := by
    intro h
    have h2 := congrArg BitVec.toNat h
    rw [ctlBlindLanes, BitVec.toNat_ofNat] at h2
    exact hl ((Nat.mod_mod _ _).symm.trans h2)
  simp only [ctrlWrite, hc, ctlRates, hv, hrate, hlane, Bool.not_true, Bool.false_eq_true, or_self, if_false,
    OfNat.ofNat_ne_zero]

end

theorem hport_withStatus (s : State) (st : BitVec 8) (p : HPort) : ({ s with lastStatus := st } : State).hport p = s.hport p := by
  cases p <;> rfl

/-- With nothing that waits for the replies of the port, the write is all that the row does. -/
theorem exec_hlyCtrlWrite {src : RegSrc} {p : HPort} {v : Word} {s t : State} {st : BitVec 8}
    (hr : regReady (portBlk p) src s = true) (h : ctrlWrite src p v s = (t, st)) (hp : (t.hport p).retrainPend = false)
    (hc : t.h1.roleChange = none) : exec (.hlyCtrlWrite src p v) s = .next (settle { t with lastStatus := st }) := by
  have ha : afterReplies (cmdPort p) { t with lastStatus := st } = { t with lastStatus := st } :=
    afterReplies_nothingWaits (by rw [hport_withStatus, hp]) hc
  show done _ = _
  rw [writeRow_ready (portBlk p) src _ s hr, h, ha, done]

/-! ### RETRAIN (R273) -/

theorem exec_retrain {src : RegSrc} {p : HPort} {s t : State} {st : BitVec 8} (hr : regReady (portBlk p) src s = true)
    (h : ctrlWrite src p ((s.hport p).ctrl ||| 2) s = (t, st))
    (ha : afterReplies (cmdPort p) { t with lastStatus := st } = { t with lastStatus := st }) :
    exec (.retrain src p) s = .next (settle { t with lastStatus := st }) := by
  show done _ = _
  rw [writeRow_ready (portBlk p) src _ s hr, h, ha, done]

/-- The port with HLY_CTRL as it stands written again, RETRAIN apart. -/
def ctrlKept (p : HPort) (s : State) : State :=
  s.modPort p (fun h => { h with ctrl := ((s.hport p).ctrl ||| 2) &&& 0x00F33014 })

theorem start_withRetrain {w : Word} (h : bit w 4 = false) : bit (w ||| 2) 4 = false := by
  rw [bit, BitVec.getLsbD_or, show w.getLsbD 4 = false from h]
  rfl

theorem ctrlWrite_retrain {src : RegSrc} {p : HPort} {s : State} (hc : s.compat = false)
    (hv : bits (s.hport p).ctrl 20 4 = 15) (hl : bits (s.hport p).ctrl 12 2 ≠ 0) (h4 : bit (s.hport p).ctrl 4 = false) :
    ctrlWrite src p ((s.hport p).ctrl ||| 2) s = (doRetrain src p (ctrlKept p s), stOk) := by
  have h2 (lo len : Nat) (h : bits 2 lo len = 0) : bits ((s.hport p).ctrl ||| 2) lo len = bits (s.hport p).ctrl lo len := by
    rw [bits_or, h, Nat.or_zero]
  have hb1 : bit ((s.hport p).ctrl ||| 2) 1 = true := by
    rw [bit, BitVec.getLsbD_or]
    exact Bool.or_true _
  rw [ctrlWrite_allRates hc (by rw [h2 20 4 rfl, hv]) (by rwa [h2 12 2 rfl]), start_withRetrain h4, hb1]
  rfl

/-- RETRAIN by a core takes an ACTIVE port without START to DETECT. -/
theorem doRetrain_byCore {p : HPort} {s : State} (hc : s.compat = false) (h4 : bit (s.hport p).ctrl 4 = false)
    (ha : (s.hport p).state = .active) : ∃ quiet, doRetrain .service p (ctrlKept p s) = detectEntry quiet p (ctrlKept p s) := by
  have hport : (ctrlKept p s).hport p = _ := State.hport_modPort_same s p _
  have hcompat : (ctrlKept p s).compat = false := by rw [← hc]; cases p <;> rfl
  have hstart : bit (hlyCtrl p (ctrlKept p s)) 4 = false := by
    simp only [hlyCtrl, hcompat, hport, Bool.false_eq_true, if_false]
    rw [bit, BitVec.getLsbD_and, show ((s.hport p).ctrl ||| 2).getLsbD 4 = false from start_withRetrain h4, Bool.false_and]
  have hact : ((ctrlKept p s).hport p).state = .active := by rw [hport]; exact ha
  exact ⟨_, by rw [doRetrain, if_neg (by simp), retrainNow_active hact, enterDetect_withoutStart hstart]⟩

theorem retrain_byCore {p : HPort} {s : State} (hr : regReady (portBlk p) .service s = true) (hrole : s.h1.roleChange = none)
    (hc : s.compat = false) (hv : bits (s.hport p).ctrl 20 4 = 15) (hl : bits (s.hport p).ctrl 12 2 ≠ 0)
    (h4 : bit (s.hport p).ctrl 4 = false) (ha : (s.hport p).state = .active) :
    ∃ t, exec (.retrain .service p) s = .next t ∧ (t.hport p).state = .detect := by
  obtain ⟨quiet, hdo⟩ := doRetrain_byCore hc h4 ha
  obtain ⟨hstate, hpend, -⟩ := detectEntry_port (p := p) (s := ctrlKept p s) quiet
  have hchange : (detectEntry quiet p (ctrlKept p s)).h1.roleChange = none :=
    (detectEntry_roleChange quiet).trans (by rw [← hrole]; cases p <;> rfl)
  have hw := ctrlWrite_retrain (src := .service) hc hv hl h4
  rw [hdo] at hw
  refine ⟨_, exec_retrain hr hw (afterReplies_nothingWaits (by rw [hport_withStatus, hpend]) hchange), ?_⟩
  rw [port_settle Port.state (fun _ => rfl), hport_withStatus, hstate]

/-- RETRAIN through the port itself waits while a reply is owed there. -/
theorem retrain_byItsPort {p : HPort} {s : State} (hr : regReady (portBlk p) (.port (cmdPort p)) s = true)
    (hc : s.compat = false) (hv : bits (s.hport p).ctrl 20 4 = 15) (hl : bits (s.hport p).ctrl 12 2 ≠ 0)
    (h4 : bit (s.hport p).ctrl 4 = false) (ho : owed (cmdPort p) s ≠ []) :
    ∃ t, exec (.retrain (.port (cmdPort p)) p) s = .next t ∧ (t.hport p).state = (s.hport p).state ∧
      (t.hport p).retrainPend = true := by
  have hwait {u : State} (hu : owed (cmdPort p) u = owed (cmdPort p) s) : afterReplies (cmdPort p) u = u :=
    if_pos (by simp [hu, ho])
  have hpend : doRetrain (.port (cmdPort p)) p (ctrlKept p s) =
      (ctrlKept p s).modPort p (fun h => { h with retrainPend := true }) := if_pos rfl
  have hw := ctrlWrite_retrain (src := .port (cmdPort p)) hc hv hl h4
  rw [hpend] at hw
  refine ⟨_, exec_retrain hr hw (hwait (by cases p <;> rfl)), (port_settle Port.state (fun _ => rfl) _ p).trans ?_,
    (port_settle Port.retrainPend (fun _ => rfl) _ p).trans ?_⟩
  · cases p <;> rfl
  · cases p <;> rfl

/-- Settles O41, row by row. -/
theorem heatAndLinkRegisters : Obligations.HeatAndLinkRegisters := by
  refine ⟨fun t aux s hr hn ha => ⟨fun hp => ⟨fun v h1 h2 => tileReading_good hr t aux hp hn ha h1 h2,
      fun h => tileReading_failed hr t aux hp hn ha h⟩,
      fun hp r => exec_thermReading_tileInS2 hr t r aux hp⟩,
    fun v aux s hr => ⟨fun n hn hp h1 h2 => dieReading_good hr n aux hn hp h1 h2, fun hp => ntcReading_taken hr v aux hp,
      fun hp r => ?_⟩,
    thermRegWrite_row, fun src p v s hr h0 h1 hrole => ?_⟩
  · rw [exec_thermReading_ntc hr, if_pos hp]
  · have hpend : (s.hport p).retrainPend = false := by cases p with | p0 => exact h0 | p1 => exact h1
    refine ⟨fun hc => exec_hlyCtrlWrite hr (ctrlWrite_compat hc) hpend hrole,
      fun hc hv => exec_hlyCtrlWrite hr (ctrlWrite_noRate hc hv) hpend hrole, fun hc hv hl h4 h1 => ?_,
      fun hc hv hl h4 hlead => ?_, fun hc hv hl h4 => ⟨fun hsrc ha => ?_, fun hsrc ho => ?_⟩⟩
    · have hw : ctrlWrite src p v s = (s.modPort p (fun h => { h with ctrl := v &&& 0x00F33014 }), stOk) := by
        simp only [ctrlWrite_allRates hc hv hl, h4, h1, Bool.false_and, Bool.false_eq_true, if_false]
      refine exec_hlyCtrlWrite hr hw ?_ ?_
      · rw [State.hport_modPort_same]
        exact hpend
      · rw [← hrole]
        cases p <;> rfl
    · have hw : ctrlWrite src p v s = (s, stBadState) := by
        rw [ctrlWrite_allRates hc hv hl, if_pos]
        rcases hlead with hlead | hlead | hlead <;> simp [h4, hlead]
      exact exec_hlyCtrlWrite hr hw hpend hrole
    · subst hsrc
      exact retrain_byCore hr hrole hc hv hl h4 ha
    · subst hsrc
      exact retrain_byItsPort hr hc hv hl h4 ho

end Sys2Proof.Machine
end

section
/-! A step of the queue; PING, GET_STATUS and GET_EVENT; SESSION_OPEN (R298, R306, R312, R314). -/

namespace Sys2Proof.Machine

/-- Settles O56: a queue has a front command or is empty. -/
theorem stepRunsTheFrontCommand : Obligations.StepRunsTheFrontCommand :=
  ⟨fun _ _ _ => step_cons rfl, fun _ => step_nil⟩

/-- A fast-path command ends with the reply that its execution gives (R298, R322). -/
theorem fast_replied {op : OpFn} {code : Nat} {c : CmdCtx} {ws rs : List Word} {s t : State} {st : BitVec 8}
    (h : fastReady code c ws s = true) (e : op c ws s = (t, .fin st rs)) :
    settle (submit op code c ws s) = settle (reply c code st rs t) :=
  congrArg settle (submit_fast_fin op code c ws s t st rs h e)

/-! ### GET_EVENT (R312) -/

theorem opGetEvent_empty {c : CmdCtx} {s : State} (h : (evQueue c.port s).q = []) : opGetEvent c [] s = endWith stOk s := by
  simp only [opGetEvent, h]
  rfl

theorem opGetEvent_oldest {c : CmdCtx} {s : State} {e : Event} {rest : List Event} (h : (evQueue c.port s).q = e :: rest) :
    opGetEvent c [] s = (releaseSlow c.port e (setEvQueue c.port { q := rest, lost := false } s),
      .fin stOk ((eventPacket e (evQueue c.port s).lost).hw1 :: putb 0 (evQueue c.port s).lost :: e.words)) := by
  simp only [opGetEvent, h]

/-- Settles O8: the two status commands leave the state alone, and GET_EVENT is `opGetEvent_empty` or `opGetEvent_oldest`. -/
theorem statusCommandsAnswer : Obligations.StatusCommandsAnswer := by
  refine fun c s => ⟨fun ws _ h => ?_, fun h => ?_, fun h hq => ?_, fun h e rest hq => ?_⟩
  · have e : opPing c ws s = (s, .fin stOk ws) := rfl
    exact congrArg Host.Outcome.next (fast_replied h e)
  · have e : opGetStatus c [] s =
        (s, .fin stOk [statusWord0 s, put 0 s.scan.frameCnt.toNat, s.scan.strokeCnt, statusFaults s]) := rfl
    exact congrArg Host.Outcome.next (fast_replied h e)
  · exact congrArg Host.Outcome.next (fast_answered h (opGetEvent_empty hq))
  · exact congrArg Host.Outcome.next (fast_replied h (opGetEvent_oldest hq))

/-! ### SESSION_OPEN (R306, R314) -/

section
variable {c : CmdCtx} {s : State}

theorem opSessionOpen_deep (hd : deep s.pwr.pstate = true) : opSessionOpen c [] s = endWith stBadState s := by
  simp only [opSessionOpen, hd, if_true]

/-- Another port has a session or an attempt. -/
theorem opSessionOpen_busy (hd : deep s.pwr.pstate = false) (hs : s.cmd.sessOpen = true ∨ s.cmd.proving = true)
    (hp : s.cmd.sessPort ≠ c.port) : opSessionOpen c [] s = endWith stBusy s := by
  have hb : ((s.cmd.sessOpen || s.cmd.proving) && s.cmd.sessPort != c.port) = true := by
    simpa only [Bool.and_eq_true, Bool.or_eq_true, bne_iff_ne] using ⟨hs, hp⟩
  simp only [opSessionOpen, hd, hb, Bool.false_eq_true, if_false, if_true]

/-- No other port has a session or an attempt, so that the lockout decides. -/
theorem opSessionOpen_notBusy (hd : deep s.pwr.pstate = false)
    (hf : (s.cmd.sessOpen = false ∧ s.cmd.proving = false) ∨ s.cmd.sessPort = c.port) :
    opSessionOpen c [] s = if s.cmd.lockout then endWith stDenied s
      else (startAttempt c.port s, .fin stOk (put 0 (startAttempt c.port s).cmd.sessId.toNat ::
        bytesWords (challengeBytes (startAttempt c.port s).cmd.challenge))) := by
  have hb : ((s.cmd.sessOpen || s.cmd.proving) && s.cmd.sessPort != c.port) = false := by
    rcases hf with ⟨ho, hp⟩ | hp
    · simp [ho, hp]
    · simp [hp]
  simp only [opSessionOpen, hd, hb, Bool.false_eq_true, if_false]

end

/-- The ID that is drawn for a session is never 0 (R306). -/
theorem drawnId_ne_zero (v : Fin 65535) : BitVec.ofNat 16 (v.val + 1) ≠ 0 := by
  intro h
  have hv : (v.val + 1) % 2 ^ 16 = 0 := congrArg BitVec.toNat h
  omega

/-- Settles O9: the refusals in their order, and the attempt that `startAttempt` begins. -/
theorem sessionOpenDrawsChallenge : Obligations.SessionOpenDrawsChallenge := by
  refine fun c s h => ⟨fun hd => ?_, fun hd hs hp => ?_, fun hd hf => ⟨fun hl => ?_, fun hl => ⟨drawnId_ne_zero _, ?_⟩⟩⟩
  · exact congrArg Host.Outcome.next (fast_replied h (opSessionOpen_deep hd))
  · exact congrArg Host.Outcome.next (fast_replied h (opSessionOpen_busy hd hs hp))
  · have e := opSessionOpen_notBusy hd hf
    rw [if_pos hl] at e
    exact congrArg Host.Outcome.next (fast_replied h e)
  · have e := opSessionOpen_notBusy hd hf
    rw [hl, if_neg Bool.false_ne_true] at e
    exact congrArg Host.Outcome.next (fast_replied h e)

end Sys2Proof.Machine
end

section
/-! SESSION_PROVE (R307): what the accepting of the command and the read of the key leave of the attempt, the failed attempt, and
the sources that it sets. -/

namespace Sys2Proof.Machine

/-! ### The part of CMD that an attempt is about -/

/-- CMD without what the accepting of a command and the setting of a source change in it: the slow path, the time of the last
command of the session, and the lost events. -/
def sessionPart (x : Cmd) : Cmd := { x with slow := [], sessAt := 0, evLost := 0, lostNow := 0 }

/-- What `sessionPart` shows is the same where that part is. -/
theorem sessionPart_shows {α : Type} (g : Cmd → α) (hg : ∀ x, g (sessionPart x) = g x) {x y : Cmd}
    (h : sessionPart x = sessionPart y) : g x = g y := by
  rw [← hg x, h, hg]

theorem sessionPart_of_untouched {s t : State} (h : untouched t = untouched s) : sessionPart t.cmd = sessionPart s.cmd :=
  keeps_of_untouched (fun u => sessionPart u.cmd) (fun _ => rfl) h

theorem sessionPart_accepted (code : Nat) (c : CmdCtx) (ws : List Word) (s : State) :
    sessionPart (accepted code c ws s).cmd = sessionPart s.cmd := by
  have h : (reply c code stAccepted [] s).cmd = (noteSession c s).cmd := reply_cmd _ _ _ _ _
  simp only [accepted, h]
  rfl

theorem sessionPart_raiseFault (b n i : Nat) (x y : Bool) (s : State) :
    sessionPart (raiseFault b n i x y s).cmd = sessionPart s.cmd := sessionPart_of_untouched (untouched_raiseFault b n i x y s)

theorem sessionPart_completed (code : Nat) (c : CmdCtx) (st : BitVec 8) (rs : List Word) (s : State) :
    sessionPart (completed code c st rs s).cmd = sessionPart s.cmd := by
  unfold completed finishSlow queueDone
  cases c.port <;> rfl

theorem sessionPart_settle (s : State) : sessionPart (settle s).cmd = sessionPart s.cmd :=
  sessionPart_of_untouched (untouched_settle s)

/-! ### The read of the key (R539) -/

/-- A read of Keep changes nothing that `untouched` shows, but for the two counters of Keep. -/
theorem keepRead_keeps {α : Type} (g : State → α) (hu : ∀ u, g (untouched u) = g u)
    (hk : ∀ (u : State) (a b : Nat), g { u with keep := { u.keep with uncorr := a, corr := b } } = g u)
    (ecc : Nat) (s : State) :
    g (keepRead ecc s).1 = g s := by
  refine (hk _ _ _).trans (keeps_of_untouched g hu ?_)
  rw [untouched_hitIf, untouched_hitIf, untouched_check, untouched_check]

theorem forces_check (b n i : Nat) (c : Bool) (s : State) : forces (check b n i c s) = forces s := by
  unfold check
  extract_lets w inj frc s1
  have e1 : forces s1 = forces s := by
    simp only [s1]; split
    · exact forces_modWin _ _ _ (fun _ => rfl)
    · rfl
  split
  · rw [forces_raiseFault, e1]
  · exact e1

theorem forces_keepRead (ecc : Nat) (s : State) : forces (keepRead ecc s).1 = forces s := by
  have h : forces (keepRead ecc s).1 = forces (check 13 1 0 (ecc == 1) (check 13 0 0 (ecc == 2) s)) := by
    simp only [keepRead, State.modKeep, forces, hitIf_flt]
  rw [h, forces_check, forces_check]

theorem fltLength_of_forces {s t : State} (h : forces t = forces s) : t.flt.length = s.flt.length := by
  simpa only [forces, List.length_map] using congrArg List.length h

/-- The state on which SESSION_PROVE decides: the command is accepted, and the key has been read. -/
def keyRead (c : CmdCtx) (ws : List Word) (s : State) : State := (keepRead c.keepEcc (accepted 0x04 c ws s)).1

section
variable (c : CmdCtx) (ws : List Word) (s : State)

theorem keyRead_ticks : (keyRead c ws s).ticks = s.ticks :=
  (keepRead_keeps State.ticks (fun _ => rfl) (fun _ _ _ => rfl) _ _).trans (accepted_ticks 0x04 c ws s)

theorem keyRead_lock : (keyRead c ws s).keep.lock = s.keep.lock :=
  (keepRead_keeps (fun u => u.keep.lock) (fun _ => rfl) (fun _ _ _ => rfl) _ _).trans
    (accepted_keeps (fun u => u.keep.lock) (fun _ _ _ _ _ _ => rfl) 0x04 c ws s)

theorem keyRead_bytes : (keyRead c ws s).keep.bytes = s.keep.bytes :=
  (keepRead_keeps (fun u => u.keep.bytes) (fun _ => rfl) (fun _ _ _ => rfl) _ _).trans
    (accepted_keeps (fun u => u.keep.bytes) (fun _ _ _ _ _ _ => rfl) 0x04 c ws s)

theorem keyRead_sessionPart : sessionPart (keyRead c ws s).cmd = sessionPart s.cmd :=
  (keepRead_keeps (fun u => sessionPart u.cmd) (fun _ => rfl) (fun _ _ _ => rfl) _ _).trans (sessionPart_accepted 0x04 c ws s)

theorem keyRead_fltLength : (keyRead c ws s).flt.length = s.flt.length :=
  (fltLength_of_forces (forces_keepRead _ _)).trans
    (accepted_keeps (fun u => u.flt.length) (fun _ _ _ _ _ _ => rfl) 0x04 c ws s)

/-! ### The response (R307, R473) -/

theorem proofGood_iff : proofGood ws s = true ↔ s.keep.lock.getLsbD 0 = true ∧ s.ticks - s.cmd.openedAt ≤ 250000000 ∧
    wordsBytes ws = aesCmac (keepBytes 0x800 16 s) (proofMessage s) := by
  simp only [proofGood, Bool.and_eq_true, decide_eq_true_eq, beq_iff_eq, and_assoc]

/-- The check of the response finds lock, time, key and attempt as the command found them. -/
theorem proofGood_keyRead : proofGood ws (keyRead c ws s) = proofGood ws s := by
  have hp := keyRead_sessionPart c ws s
  have ho : (keyRead c ws s).cmd.openedAt = s.cmd.openedAt := sessionPart_shows Cmd.openedAt (fun _ => rfl) hp
  have hc : (keyRead c ws s).cmd.challenge = s.cmd.challenge := sessionPart_shows Cmd.challenge (fun _ => rfl) hp
  have hi : (keyRead c ws s).cmd.sessId = s.cmd.sessId := sessionPart_shows Cmd.sessId (fun _ => rfl) hp
  have hn : (keyRead c ws s).cmd.sessPort = s.cmd.sessPort := sessionPart_shows Cmd.sessPort (fun _ => rfl) hp
  simp only [proofGood, proofMessage, keepBytes, keyRead_ticks, keyRead_lock, keyRead_bytes, ho, hc, hi, hn]

end

/-- A SESSION_PROVE that is taken comes on the port of the attempt and bears its ID (R323). -/
theorem sessionProve_taken {c : CmdCtx} {ws : List Word} {s : State} (h : slowReady 0x04 c ws s = true) :
    s.cmd.proving = true ∧ s.cmd.sessPort = c.port ∧ c.session = s.cmd.sessId := by
  have ho : opInfo 0x04 = some ⟨0x04, true, .id, 4, 4⟩ := by decide
  simp only [slowReady, ho, sessionOk, Bool.and_eq_true, beq_iff_eq] at h
  obtain ⟨⟨⟨⟨-, -, ⟨hp, hn⟩, hi⟩, -⟩, -⟩, -⟩ := h
  exact ⟨hp, hn, hi⟩

/-- The execution of a SESSION_PROVE that is taken: the attempt is still there, so that the response decides. -/
theorem opSessionProve_taken {c : CmdCtx} {ws : List Word} {s : State} (h : slowReady 0x04 c ws s = true) :
    opSessionProve (slowCtx c.keepEcc (slowEntry 0x04 c ws)) ws (accepted 0x04 c ws s) =
      if proofGood ws s then endWith stOk { keyRead c ws s with cmd := { (keyRead c ws s).cmd with
        proving := false, sessOpen := true, sessAt := s.ticks, fails := 0 } }
      else endWith stDenied (proofFailed (keyRead c ws s)) := by
  obtain ⟨hp, hn, hi⟩ := sessionProve_taken h
  have ha := sessionPart_accepted 0x04 c ws s
  have hp' : (accepted 0x04 c ws s).cmd.proving = true := (sessionPart_shows Cmd.proving (fun _ => rfl) ha).trans hp
  have hn' : (accepted 0x04 c ws s).cmd.sessPort = c.port := (sessionPart_shows Cmd.sessPort (fun _ => rfl) ha).trans hn
  have hi' : (accepted 0x04 c ws s).cmd.sessId = c.session := (sessionPart_shows Cmd.sessId (fun _ => rfl) ha).trans hi.symm
  rw [← proofGood_keyRead c ws s]
  simp only [opSessionProve, slowCtx, slowEntry, hp', hn', hi', bne_self_eq_false, Bool.not_true, Bool.or_self,
    Bool.false_eq_true, if_false, accepted_ticks]
  rfl

/-! ### Sources that are set -/

theorem getLsbD_putb {n : Nat} (h : n < 32) : (putb n true).getLsbD n = true := by
  simp [putb, BitVec.getLsbD_ofNat, h, Nat.testBit_shiftLeft]

theorem NoBetter.isSet {b n : Nat} {s t : State} (h : NoBetter s t) (hs : isSet b n s = true) : isSet b n t = true := by
  have e := congrArg (BitVec.getLsbD · n) (h.sources b)
  have hn : n < 32 := BitVec.lt_of_getLsbD hs
  unfold Machine.isSet at *
  simpa [hs, hn] using e

/-- A setting of a source sets it (R361). -/
theorem isSet_raiseFault {b n : Nat} (i : Nat) (x y : Bool) {s : State} (hb : b < s.flt.length) (hn : n < 32) :
    isSet b n (raiseFault b n i x y s) = true := by
  unfold raiseFault
  extract_lets stays w rising again sev h r count off timed logged applied f bitn s1 l2 s2 s3 s4
  have e1 : isSet b n s1 = true := by
    have hw : s1.win b = _ := getD_modAt_same s.flt b _ {} hb
    rw [isSet, hw]
    show ((s.win b).status ||| bitn).getLsbD n = true
    rw [BitVec.getLsbD_or, getLsbD_putb hn, Bool.or_true]
  have e3 : s3.flt = s1.flt := by simp only [s3]; split <;> rfl
  have e4 : isSet b n s4 = true := (noBetter_legacyMark _ _ _ _ s3).isSet (by rw [isSet, State.win, e3]; exact e1)
  split
  · exact (noBetter_onceReact _ _ _).isSet e4
  · exact e4

theorem isSet_completed (b n code : Nat) (c : CmdCtx) (st : BitVec 8) (rs : List Word) (s : State) :
    isSet b n (completed code c st rs s) = isSet b n s := by
  unfold completed finishSlow queueDone
  cases c.port <;> rfl

theorem isSet_settle {b n : Nat} {s : State} (hb : b ≠ 2) (h : isSet b n s = true) : isSet b n (settle s) = true := by
  have e := congrArg (BitVec.getLsbD · n) (sources_settle (s := s) (.inl hb))
  have hn : n < 32 := BitVec.lt_of_getLsbD h
  unfold isSet at *
  simpa [h, hn] using e

/-! ### A failed attempt (R307) -/

/-- CMD after a failed attempt, at the time `now`: the attempt has ended and is counted, and the fourth failure in a row has
started a lockout. -/
def attemptFailed (now : Nat) (x : Cmd) : Cmd := { x with
  proving := false, sessId := 0, proveFail := satInc 16 x.proveFail
  fails := if x.fails < 3 then x.fails + 1 else 0
  lockout := if x.fails < 3 then x.lockout else true
  lockAt := if x.fails < 3 then x.lockAt else now }

/-- The first part of a failure: the attempt has ended, its failure is counted, and PROVE_FAIL is set. -/
def failureCounted (s : State) : State :=
  raiseFault 0 0 0 true false { s.hit 0 0x10 16 with cmd := { s.cmd with
    proving := false, sessId := 0, proveFail := satInc 16 s.cmd.proveFail, fails := s.cmd.fails + 1 } }

theorem failureCounted_cmd (s : State) : sessionPart (failureCounted s).cmd = { sessionPart s.cmd with
    proving := false, sessId := 0, proveFail := satInc 16 s.cmd.proveFail, fails := s.cmd.fails + 1 } :=
  sessionPart_raiseFault 0 0 0 true false _

theorem failureCounted_fltLength (s : State) : (failureCounted s).flt.length = s.flt.length :=
  fltLength_of_forces (forces_raiseFault 0 0 0 true false _)

/-- The lockout begins, with the run of failures cleared. -/
def lockoutBegun (now : Nat) (s : State) : State := { s with cmd := { s.cmd with lockout := true, lockAt := now, fails := 0 } }

section
variable {s : State}

theorem proofFailed_early (h : s.cmd.fails < 3) : proofFailed s = failureCounted s := if_pos (Nat.succ_lt_succ h)

theorem proofFailed_fourth (h : ¬ s.cmd.fails < 3) :
    proofFailed s = raiseFault 0 1 0 true false (lockoutBegun s.ticks (failureCounted s)) :=
  if_neg (fun h4 => h (Nat.lt_of_succ_lt_succ h4))

theorem proofFailed_cmd (s : State) : sessionPart (proofFailed s).cmd = sessionPart (attemptFailed s.ticks s.cmd) := by
  by_cases h : s.cmd.fails < 3
  · rw [proofFailed_early h, failureCounted_cmd]
    simp only [attemptFailed, h, if_true]
    rfl
  · have hl (u : State) : sessionPart (lockoutBegun s.ticks u).cmd =
        { sessionPart u.cmd with lockout := true, lockAt := s.ticks, fails := 0 } := rfl
    rw [proofFailed_fourth h, sessionPart_raiseFault, hl, failureCounted_cmd]
    simp only [attemptFailed, h, if_false]
    rfl

/-- Every failed attempt sets PROVE_FAIL. -/
theorem proofFailed_setsProveFail (hb : 0 < s.flt.length) : isSet 0 0 (proofFailed s) = true := by
  have h1 : isSet 0 0 (failureCounted s) = true := isSet_raiseFault 0 true false hb (by decide)
  by_cases h : s.cmd.fails < 3
  · rwa [proofFailed_early h]
  · rw [proofFailed_fourth h]
    exact (noBetter_raiseFault _ _ _ _ _ _).isSet h1

/-- The fourth failed attempt in a row sets SESSION_LOCK. -/
theorem proofFailed_setsSessionLock (hb : 0 < s.flt.length) (h : ¬ s.cmd.fails < 3) : isSet 0 1 (proofFailed s) = true := by
  rw [proofFailed_fourth h]
  exact isSet_raiseFault 0 true false ((failureCounted_fltLength s).symm ▸ hb) (by decide)

end

/-! ### The command -/

/-- The state after a SESSION_PROVE whose response is refused. -/
def refusedProof (c : CmdCtx) (ws : List Word) (s : State) : State :=
  settle (completed 0x04 c stDenied [] (proofFailed (keyRead c ws s)))

section
variable {c : CmdCtx} {ws : List Word} {s : State}

theorem exec_sessionProve_good (h : slowReady 0x04 c ws s = true) (hg : proofGood ws s = true) :
    exec (.sessionProve c ws) s = .next (concluded 0x04 c [] { keyRead c ws s with cmd := { (keyRead c ws s).cmd with
      proving := false, sessOpen := true, sessAt := s.ticks, fails := 0 } }) := by
  have e := opSessionProve_taken h
  rw [if_pos hg] at e
  exact congrArg Host.Outcome.next (slow_concluded h e)

theorem exec_sessionProve_refused (h : slowReady 0x04 c ws s = true) (hg : proofGood ws s = false) :
    exec (.sessionProve c ws) s = .next (refusedProof c ws s) := by
  have e := opSessionProve_taken h
  rw [hg, if_neg Bool.false_ne_true] at e
  exact congrArg (fun t => Host.Outcome.next (settle t)) (submit_slow_fin opSessionProve 0x04 c ws s _ stDenied [] h e)

theorem refusedProof_cmd (c : CmdCtx) (ws : List Word) (s : State) :
    sessionPart (refusedProof c ws s).cmd = sessionPart (attemptFailed s.ticks s.cmd) := by
  have hf (n : Nat) (x : Cmd) : sessionPart (attemptFailed n x) = attemptFailed n (sessionPart x) := rfl
  rw [refusedProof, sessionPart_settle, sessionPart_completed, proofFailed_cmd, keyRead_ticks, hf, keyRead_sessionPart, hf]

theorem isSet_refusedProof {n : Nat} (h : isSet 0 n (proofFailed (keyRead c ws s)) = true) :
    isSet 0 n (refusedProof c ws s) = true :=
  isSet_settle (by decide) ((isSet_completed 0 n 0x04 c stDenied [] _).trans h)

end

/-- Settles O10: the response decides on the state in which the key has been read, where it is checked as `proofGood_keyRead`
says; what a refused one leaves of CMD is `refusedProof_cmd`. -/
theorem sessionProveOpensOrFails : Obligations.SessionProveOpensOrFails := by
  intro c ws s h
  refine ⟨fun hl ht hw => exec_sessionProve_good h ((proofGood_iff ws s).mpr ⟨hl, ht, hw⟩), fun hbad hlen => ?_⟩
  have hg : proofGood ws s = false := by
    rw [← Bool.not_eq_true, proofGood_iff]
    rintro ⟨hl, ht, hw⟩
    rcases hbad with hl' | ht' | hw'
    · exact Bool.false_ne_true (hl'.symm.trans hl)
    · exact Nat.not_lt.mpr ht ht'
    · exact hw' hw
  have hflt : 0 < (keyRead c ws s).flt.length := by rw [keyRead_fltLength, hlen]; decide
  have hfails : (keyRead c ws s).cmd.fails = s.cmd.fails :=
    sessionPart_shows Cmd.fails (fun _ => rfl) (keyRead_sessionPart c ws s)
  have hc {α : Type} (g : Cmd → α) (hs : ∀ x, g (sessionPart x) = g x) :
      g (refusedProof c ws s).cmd = g (attemptFailed s.ticks s.cmd) := sessionPart_shows g hs (refusedProof_cmd c ws s)
  refine ⟨refusedProof c ws s, exec_sessionProve_refused h hg, rfl, hc Cmd.proving (fun _ => rfl),
    hc Cmd.sessOpen (fun _ => rfl), hc Cmd.sessId (fun _ => rfl), hc Cmd.proveFail (fun _ => rfl),
    isSet_refusedProof (proofFailed_setsProveFail hflt), fun h3 => ⟨?_, ?_⟩, fun h3 => ⟨?_, ?_, ?_, ?_⟩⟩
  · exact (hc Cmd.fails (fun _ => rfl)).trans (if_pos h3)
  · exact (hc Cmd.lockout (fun _ => rfl)).trans (if_pos h3)
  · exact (hc Cmd.fails (fun _ => rfl)).trans (if_neg (Nat.not_lt.mpr h3))
  · exact (hc Cmd.lockout (fun _ => rfl)).trans (if_neg (Nat.not_lt.mpr h3))
  · exact (hc Cmd.lockAt (fun _ => rfl)).trans (if_neg (Nat.not_lt.mpr h3))
  · exact isSet_refusedProof (proofFailed_setsSessionLock hflt (hfails ▸ Nat.not_lt.mpr h3))

end Sys2Proof.Machine
end

section
/-! The check-value units: CTRL, data, verdicts and the known-answer tests (R481 to R487, R490). -/

namespace Sys2Proof.Machine

/-! ### CRCU_CTRL with START and FINISH given by the row (R481, R483) -/

/-- Bits below a field that is replaced stay. -/
theorem bits_setField_below {w : Word} {lo len l n : Nat} (v : Nat) (h : l + n ≤ lo) :
    bits (setField w lo len v) l n = bits w l n := by
  apply Nat.eq_of_testBit_eq
  intro i
  rw [bits_testBit, bits_testBit, setField_getLsbD]
  by_cases hi : i < n
  · rw [if_neg (by omega)]
  · simp [hi]

theorem bit_setField_below {w : Word} {lo len n : Nat} (v : Nat) (h : n < lo) : bit (setField w lo len v) n = bit w n := by
  rw [bit, setField_getLsbD, if_neg (by omega), bit]

section
variable (v : Word) (k : Nat)

theorem ctrlBad_commands : ctrlBad (setField v 30 2 k) = ctrlBad v := by
  simp only [ctrlBad, bits_setField_below (lo := 30) k (by decide : 0 + 7 ≤ 30),
    bits_setField_below (lo := 30) k (by decide : 16 + 2 ≤ 30)]

theorem storeCtrl_commands (x : CrcUnit) : storeCtrl x (setField v 30 2 k) = storeCtrl x v := by
  simp only [storeCtrl, bits_setField_below (lo := 30) k (by decide : 20 + 2 ≤ 30),
    bits_setField_below (lo := 30) k (by decide : 16 + 2 ≤ 30), bits_setField_below (lo := 30) k (by decide : 0 + 7 ≤ 30),
    bit_setField_below (lo := 30) k (by decide : 10 < 30), bit_setField_below (lo := 30) k (by decide : 9 < 30),
    bit_setField_below (lo := 30) k (by decide : 8 < 30)]

theorem ctrlSame_commands (x : CrcUnit) : ctrlSame x (setField v 30 2 k) = ctrlSame x v := by
  simp only [ctrlSame, bits_setField_below (lo := 30) k (by decide : 16 + 2 ≤ 30),
    bits_setField_below (lo := 30) k (by decide : 0 + 7 ≤ 30), bit_setField_below (lo := 30) k (by decide : 10 < 30),
    bit_setField_below (lo := 30) k (by decide : 9 < 30), bit_setField_below (lo := 30) k (by decide : 8 < 30)]

/-- START is bit 31 and FINISH bit 30 of the field that the row gives. -/
theorem commandBits : bit (setField v 30 2 k) 31 = k.testBit 1 ∧ bit (setField v 30 2 k) 30 = k.testBit 0 := by
  rw [bit, bit, setField_getLsbD, setField_getLsbD, if_pos (by decide), if_pos (by decide)]
  exact ⟨rfl, rfl⟩

end

/-- A write to a unit that the source may write. -/
theorem done_unitRow {src : RegSrc} {u : Fin 4} {s : State} (hr : regReady 11 src s = true) (hd : unitDenied src u = false)
    (f : State → State × BitVec 8) :
    done (unitRow src u f s) = .next (settle { (f s).1 with lastStatus := (f s).2 }) := by
  rw [unitRow, done_writeRow hr, hd]
  rfl

/-- A change at a place of a list is what it does to the element that is there. -/
theorem modAt_congr {α : Type} {l : List α} {n : Nat} {f g : α → α} (d : α) (h : f (l.getD n d) = g (l.getD n d)) :
    modAt l n f = modAt l n g := by
  induction l generalizing n with
  | nil => rfl
  | cons a l ih => cases n with
    | zero => exact congrArg (· :: l) h
    | succ n => exact congrArg (a :: ·) (ih h)

theorem modUnit_congr {s : State} {u : Nat} {f g : CrcUnit → CrcUnit} (h : f (s.crcUnit u) = g (s.crcUnit u)) :
    s.modUnit u f = s.modUnit u g :=
  congrArg (fun l => { s with crcu := { s.crcu with units := l } }) (modAt_congr {} h)

section
variable {u : Nat} {v : Word} {s : State}

theorem crcuCtrl_started (hb : ctrlBad v = false) (k : Nat) (hk : k.testBit 1 = true) : crcuCtrl u (setField v 30 2 k) s =
    (s.modUnit u (fun x => if k.testBit 0 then complete (startUnit (storeCtrl x v)) else startUnit (storeCtrl x v)), stOk) := by
  simp only [crcuCtrl, commandBits, hk, ctrlBad_commands, hb, storeCtrl_commands, Bool.false_eq_true, if_true, if_false]

theorem crcuCtrl_finish : crcuCtrl u (setField v 30 2 1) s =
    (s.modUnit u (fun x => if x.active then runUnit { x with finishing := true } else x), stOk) := by
  have hbits := commandBits v 1
  simp only [crcuCtrl, hbits.1, hbits.2]
  rfl

theorem crcuCtrl_plain (hb : ctrlBad v = false) : crcuCtrl u (setField v 30 2 0) s =
    if (s.crcUnit u).active then
      if ctrlSame (s.crcUnit u) v then (s.modUnit u (fun x => { x with nbytes := BitVec.ofNat 2 (bits v 20 2) }), stOk)
      else (s, stBadState)
    else (s.modUnit u (fun x => storeCtrl x v), stOk) := by
  have hn : bits (setField v 30 2 0) 20 2 = bits v 20 2 := bits_setField_below (lo := 30) 0 (by decide)
  simp only [crcuCtrl, commandBits, ctrlBad_commands, hb, ctrlSame_commands, storeCtrl_commands, hn, Nat.zero_testBit,
    Bool.false_eq_true, if_false]

end

/-- FINISH of an active MODE 0 unit with no byte queued (R481). -/
theorem runUnit_finish {x : CrcUnit} (hm : x.mode = 0) (hi : x.inFifo = []) :
    runUnit { x with finishing := true } = { x with
      result := BitVec.ofNat 64 (unitResult x), done := true, active := false, finishing := false, inFifo := []
      outFifo := padOut x.outFifo, isMatch := false, mismatch := false, short := false } := by
  have hp : pump (({ x with finishing := true } : CrcUnit).inFifo.flatten.length) { x with finishing := true } =
      { x with finishing := true } := by rw [show ({ x with finishing := true } : CrcUnit).inFifo = [] from hi]; rfl
  rw [runUnit, hp, tryFinish]
  simp only [hi, hm, complete]
  rfl

/-- Settles O18: each row is one branch of `crcuCtrl`; a FINISH with no byte queued is `runUnit_finish`. -/
theorem checkUnitControl : Obligations.CheckUnitControl := by
  intro src u v s hr hd
  have hrow {f : State → State × BitVec 8} {t : State} {st : BitVec 8} (h : f s = (t, st)) :
      done (unitRow src u f s) = .next (settle { t with lastStatus := st }) := by rw [done_unitRow hr hd, h]
  refine ⟨fun hb => ⟨?_, ?_⟩, fun ha hi hm _ => ?_, fun hb ha => ?_, fun hb ha hs => ?_, fun hb ha hs => ?_⟩
  · exact hrow (crcuCtrl_started hb 2 rfl)
  · exact hrow (crcuCtrl_started hb 3 rfl)
  · refine (hrow crcuCtrl_finish).trans ?_
    rw [modUnit_congr (g := fun x => { x with
      result := BitVec.ofNat 64 (unitResult x), done := true, active := false, finishing := false, inFifo := []
      outFifo := padOut x.outFifo, isMatch := false, mismatch := false, short := false }) (by
        rw [if_pos ha]; exact runUnit_finish hm hi)]
    rfl
  · exact hrow ((crcuCtrl_plain hb).trans (if_neg (by rw [ha]; decide)))
  · exact hrow ((crcuCtrl_plain hb).trans ((if_pos ha).trans (if_pos hs)))
  · exact hrow ((crcuCtrl_plain hb).trans ((if_pos ha).trans (if_neg (by rw [hs]; decide))))

end Sys2Proof.Machine
end

section
/-! The running value of a unit whose WIDTH is below 64: bits of RUN at and above WIDTH stay as they were written (R483). -/

namespace Sys2Proof.Machine

/-- A unit of WIDTH 8 in the middle of a message, whose RUN has been written with bit 8 set (R486). -/
def highRun : State := State.reset.modUnit 0 (fun x => { x with active := true, width := 8, run := 0x100 })

/-- Bit 8 stays through a write of DATA_IN. -/
theorem dataIn_keepsHighRun :
    ∃ t, exec (.crcuDataIn .service 0 0) highRun = .next t ∧ (t.crcUnit 0).run.getLsbD 8 = true :=
  ⟨_, rfl, by decide +kernel⟩

/-- Refutes O19: the running value of a unit of WIDTH 8 takes the bytes in its low 8 bits, and what was written into the bits of
RUN above them stays, as R483 has it; the statement asks for those bits to be 0. -/
theorem not_checkUnitData : ¬ Obligations.CheckUnitData := by
  intro h
  obtain ⟨hin, -⟩ := h 0 highRun (by decide)
  obtain ⟨t, ht, -, hrun, -⟩ := hin .service 0 (by decide +kernel) rfl (by decide) (by decide)
    (by decide) (by decide) (by decide) (by decide)
  obtain ⟨u, hu, hbit⟩ := dataIn_keepsHighRun
  have htu : t = u := Host.Outcome.next.inj (ht.symm.trans hu)
  have hlow : (t.crcUnit 0).run.toNat < 2 ^ 8 := by
    rw [show t.crcUnit 0 = t.crcUnit (0 : Fin 4) from rfl, hrun]
    decide +kernel
  have hclear : (t.crcUnit 0).run.getLsbD 8 = false := Nat.testBit_lt_two_pow hlow
  rw [htu, hbit] at hclear
  cases hclear

end Sys2Proof.Machine
end

section
/-! Verdicts of a CHECK and the known-answer tests (R485, R487, R490). -/

namespace Sys2Proof.Machine

/-! ### Injections and forces through a setting of a source (R375, R377) -/

/-- The injections and force bits of the fault windows. -/
def arms (s : State) : List (Word × Word) := s.flt.map (fun w => (w.inject, w.force))

theorem arms_modWin (b : Nat) (f : FltWin → FltWin) (s : State) (h : ∀ w, ((f w).inject, (f w).force) = (w.inject, w.force)) :
    arms (s.modWin b f) = arms s := map_modAt _ _ _ _ h

theorem arms_legacyMark (b n i : Nat) (r : Bool) (s : State) : arms (legacyMark b n i r s) = arms s := by
  unfold legacyMark; split <;> rfl

theorem arms_onceReact (b : Nat) (r : BitVec 8) (s : State) : arms (onceReact b r s) = arms s := by
  unfold onceReact
  extract_lets s0 s1 s2 s3 s4 s5 a6 s6
  have e1 : arms s1 = arms s := by simp only [s1]; split <;> rfl
  have e2 : arms s2 = arms s1 := by simp only [s2]; split <;> rfl
  have e3 : arms s3 = arms s2 := by
    simp only [s3]; split
    · exact arms_modWin _ _ _ (fun _ => rfl)
    · rfl
  have e4 : arms s4 = arms s3 := by simp only [s4]; split <;> rfl
  have e5 : arms s5 = arms s4 := by simp only [s5]; split <;> rfl
  have e6 : arms s6 = arms s5 := by simp only [s6]; split <;> rfl
  rw [← e1, ← e2, ← e3, ← e4, ← e5, ← e6]
  split <;> rfl

theorem arms_raiseFault (b n i : Nat) (x y : Bool) (s : State) : arms (raiseFault b n i x y s) = arms s := by
  unfold raiseFault
  extract_lets stays w rising again sev h r count off timed logged applied f bitn s1 l2 s2 s3 s4
  have e1 : arms s1 = arms s := arms_modWin _ _ _ (fun _ => rfl)
  have e3 : arms s3 = arms s1 := by simp only [s3]; split <;> rfl
  have e4 : arms s4 = arms s3 := arms_legacyMark _ _ _ _ _
  split
  · rw [arms_onceReact, e4, e3, e1]
  · rw [e4, e3, e1]

/-- What the next check of a source finds armed or forced is read from `arms`. -/
theorem fails_of_arms {s t : State} (h : arms t = arms s) (b n : Nat) (c : Bool) : fails b n c t = fails b n c s := by
  have hw (u : State) : ((u.win b).inject, (u.win b).force) = (arms u).getD b (0, 0) := by
    simp only [State.win, arms, List.getD_eq_getElem?_getD, List.getElem?_map]
    cases u.flt[b]? <;> rfl
  have e := ((hw t).trans (congrArg (fun l => l.getD b (0, 0)) h)).trans (hw s).symm
  rw [fails, fails, (Prod.mk.inj e).1, (Prod.mk.inj e).2]

/-! ### A setting of a source and the check-value units -/

/-- The state with other check-value units. -/
def withCrcu (c : Crcu) (s : State) : State := { s with crcu := c }

theorem ite_withCrcu (p : Prop) [Decidable p] (f : State → State) {c : Crcu} (h : ∀ u, f (withCrcu c u) = withCrcu c (f u))
    (u : State) : (if p then f (withCrcu c u) else withCrcu c u) = withCrcu c (if p then f u else u) := by
  split
  · exact h u
  · rfl

theorem legacyMark_withCrcu (b n i : Nat) (r : Bool) (c : Crcu) (s : State) :
    legacyMark b n i r (withCrcu c s) = withCrcu c (legacyMark b n i r s) := by
  unfold legacyMark
  rw [show (withCrcu c s).compat = s.compat from rfl]
  split <;> rfl

theorem onceReact_withCrcu (b : Nat) (r : BitVec 8) (c : Crcu) (s : State) :
    onceReact b r (withCrcu c s) = withCrcu c (onceReact b r s) := by
  unfold onceReact
  extract_lets s0 s1 s2 s3 s4 s5 a6 s6 p t0 t1 t2 t3 t4 t5 b6 t6
  have e1 : s1 = withCrcu c t1 := ite_withCrcu _ (reqTrysail 3) (fun _ => rfl) t0
  have e2 : s2 = withCrcu c t2 := by simp only [s2, e1]; exact ite_withCrcu _ reqDark (fun _ => rfl) t1
  have e3 : s3 = withCrcu c t3 := by
    simp only [s3, e2]; exact ite_withCrcu _ (fun u => u.modWin b (fun w => { w with resetting := true })) (fun _ => rfl) t2
  have e4 : s4 = withCrcu c t4 := by
    simp only [s4, e3]; exact ite_withCrcu _ (fun u => u.modEng .fore _) (fun _ => rfl) t3
  have e5 : s5 = withCrcu c t5 := by
    simp only [s5, e4]; exact ite_withCrcu _ (fun u => u.modEng .main _) (fun _ => rfl) t4
  have e6 : s6 = withCrcu c t6 := by simp only [s6, t6, a6, e5]; split <;> rfl
  simp only [p, e6]
  split <;> rfl

/-- A setting of a source neither reads nor changes the check-value units. -/
theorem raiseFault_withCrcu (b n i : Nat) (x y : Bool) (c : Crcu) (s : State) :
    raiseFault b n i x y (withCrcu c s) = withCrcu c (raiseFault b n i x y s) := by
  unfold raiseFault
  extract_lets stays w rising again sev h r count off timed logged applied f bitn s1 l2 s2 s3 s4
    stays' w' rising' again' h' r' count' off' logged' applied' f' t1 k2 t2 t3 t4
  have e3 : s3 = withCrcu c t3 := ite_withCrcu _ (takeTileOff b n i) (fun _ => rfl) t2
  have e4 : s4 = withCrcu c t4 := (congrArg (legacyMark b n i rising) e3).trans (legacyMark_withCrcu _ _ _ _ _ _)
  rw [e4]
  exact ite_withCrcu _ (onceReact b r') (onceReact_withCrcu b r' c) t4

/-! ### The known-answer tests (R487, R490) -/

/-- The setting of KAT_FAIL by checker `n`, where its own result is wrong. -/
def katFault (bad : BitVec 4) (s : State) (n : Nat) : State := if bad.getLsbD n then raiseFault 11 0 n true false s else s

/-- The PASS bits after the test of checker `n`. -/
def katPass (bad : BitVec 4) (p : BitVec 4) (n : Nat) : BitVec 4 :=
  if !bad.getLsbD n then p ||| BitVec.ofNat 4 (1 <<< n) else p &&& ~~~ BitVec.ofNat 4 (1 <<< n)

/-- The test of checker `n`, as `katRun` makes it. -/
def katStep (bad : BitVec 4) (s : State) (n : Nat) : State :=
  let ok := !fails 11 0 (bad.getLsbD n) s
  let s1 := check 11 0 n (bad.getLsbD n) s
  let m := BitVec.ofNat 4 (1 <<< n)
  { s1 with crcu := { s1.crcu with pass := if ok then s1.crcu.pass ||| m else s1.crcu.pass &&& ~~~ m } }

theorem katRun_eq (bad : BitVec 4) (s : State) : katRun bad s = [0, 1, 2, 3].foldl (katStep bad) s := rfl

theorem katFault_crcu (bad : BitVec 4) (s : State) (n : Nat) : (katFault bad s n).crcu = s.crcu := by
  unfold katFault
  split
  · exact keeps_of_untouched (fun u => u.crcu) (fun _ => rfl) (untouched_raiseFault _ _ _ _ _ _)
  · rfl

theorem katFault_withCrcu (bad : BitVec 4) (c : Crcu) (s : State) (n : Nat) :
    katFault bad (withCrcu c s) n = withCrcu c (katFault bad s n) :=
  ite_withCrcu _ (raiseFault 11 0 n true false) (raiseFault_withCrcu 11 0 n true false c) s

theorem arms_katFault (bad : BitVec 4) (s : State) (n : Nat) : arms (katFault bad s n) = arms s := by
  unfold katFault
  split
  · exact arms_raiseFault _ _ _ _ _ _
  · rfl

theorem katFaults_withCrcu (bad : BitVec 4) (c : Crcu) (l : List Nat) (s : State) :
    l.foldl (katFault bad) (withCrcu c s) = withCrcu c (l.foldl (katFault bad) s) := by
  induction l generalizing s with
  | nil => rfl
  | cons n l ih => rw [List.foldl_cons, List.foldl_cons, katFault_withCrcu, ih]

/-- Where nothing is injected or forced, a test sets KAT_FAIL by its own result alone. -/
theorem katStep_quiet {bad : BitVec 4} {s : State} (h : fails 11 0 false s = false) (n : Nat) :
    katStep bad s n = withCrcu { s.crcu with pass := katPass bad s.crcu.pass n } (katFault bad s n) := by
  have hf : fails 11 0 (bad.getLsbD n) s = bad.getLsbD n := by
    rw [fails, Bool.or_assoc]
    rw [fails, Bool.false_or] at h
    rw [h, Bool.or_false]
  have hc : check 11 0 n (bad.getLsbD n) s = katFault bad s n := by
    unfold katFault
    cases bad.getLsbD n
    · exact check_quiet _ _ _ _ _ h
    · exact check_found n h
  rw [← katFault_crcu bad s n, ← hc]
  simp only [katStep, hf]
  rfl

theorem katSteps_quiet {bad : BitVec 4} (l : List Nat) {s : State} (h : fails 11 0 false s = false) :
    l.foldl (katStep bad) s =
      withCrcu { s.crcu with pass := l.foldl (katPass bad) s.crcu.pass } (l.foldl (katFault bad) s) := by
  induction l generalizing s with
  | nil => rfl
  | cons n l ih =>
    have hn : fails 11 0 false (katStep bad s n) = false := by
      rw [katStep_quiet h]
      exact (fails_of_arms (arms_katFault bad s n) 11 0 false).trans h
    rw [List.foldl_cons, ih hn, katStep_quiet h, katFaults_withCrcu]
    rfl

/-- Each of the four tests writes its own PASS bit. -/
theorem katPass_all : ∀ bad p : BitVec 4, [0, 1, 2, 3].foldl (katPass bad) p = ~~~ bad := by decide

/-! ### A CHECK at its end (R485) -/

theorem crcUnit_settle (u : Nat) (s : State) : (settle s).crcUnit u = s.crcUnit u :=
  congrArg (fun c : Crcu => c.units.getD u {}) (settle_crcu s)

theorem crcUnit_modUnit {u : Nat} {s : State} (h : u < s.crcu.units.length) (f : CrcUnit → CrcUnit) :
    (s.modUnit u f).crcUnit u = f (s.crcUnit u) := getD_modAt_same _ _ _ _ h

/-- A CHECK whose COUNT has reached LEN completes. -/
theorem exec_crcuCheckDone {u : Fin 4} {s : State} (ho : blockOff 11 s = false) (ha : (s.crcUnit u).active = true)
    (hm : (s.crcUnit u).mode = 2) (hc : (s.crcUnit u).count.toNat = (s.crcUnit u).len.toNat)
    (hl : checkLen (s.crcUnit u) ≤ (s.crcUnit u).len.toNat) :
    exec (.crcuCheckDone u) s = .next (settle (s.modUnit u complete)) := by
  show Host.Outcome.next (settle (if blockOff 11 s then s else s.modUnit u _)) = _
  rw [ho, if_neg Bool.false_ne_true]
  exact congrArg (fun t => Host.Outcome.next (settle t)) (modUnit_congr (if_pos (by simp [ha, hm, hc, hl])))

/-- Settles O20: a CHECK completes by `complete`; the four tests write the PASS bits apart from the settings of KAT_FAIL. -/
theorem checkUnitVerdicts : Obligations.CheckUnitVerdicts := by
  refine ⟨fun u s ho hlen ha hm hc hl => ⟨_, exec_crcuCheckDone ho ha hm hc hl, ?_⟩, fun bad s ho hf => ?_⟩
  · have hshort : ¬ (s.crcUnit u).len.toNat < checkLen (s.crcUnit u) := Nat.not_lt.mpr hl
    rw [crcUnit_settle, crcUnit_modUnit (u.isLt.trans_eq hlen.symm)]
    simp [complete, hm, hc, hshort]
  · show Host.Outcome.next (settle (if blockOff 11 s then s else katRun bad s)) = _
    rw [ho, if_neg Bool.false_ne_true, katRun_eq, katSteps_quiet _ hf, katPass_all]
    refine congrArg (fun t => Host.Outcome.next (settle t)) ?_
    have hcrcu : ([0, 1, 2, 3].foldl (katFault bad) s).crcu = s.crcu := by simp only [List.foldl, katFault_crcu]
    rw [← hcrcu]
    rfl

end Sys2Proof.Machine
end

section
/-! The watchdogs of the Rigger cores (R16, R387, R388). -/

namespace Sys2Proof.Machine

/-- The core whose accesses the watchdog watches. -/
def coreOf (safety : Bool) : RegSrc := if safety then .safety else .service

/-- The key that the next good kick bears (R387). -/
def kickKey (w : Wdog) : Nat := if w.second then 0xA53C else 0x5AC3

/-- A kick by the core of the watchdog (R387). -/
theorem wdogKick_own {safety : Bool} {v : Word} (h : bit v 31 = safety) (s : State) :
    wdogKick (coreOf safety) v s =
      if !(s.wdog safety).en then (s, stOk)
      else
        let dt := s.ticks - (s.wdog safety).from_
        let right := bits v 0 16 == kickKey (s.wdog safety)
        let s1 := s.modWdog safety (fun w => { w with from_ := s.ticks, second := if right then !w.second else w.second })
        (if right && wdogTicks safety s ≤ 4 * dt && dt ≤ wdogTicks safety s then s1 else wdogFault safety s1, stOk) := by
  subst h
  simp only [wdogKick, coreOf]
  cases hb : bit v 31
  · rfl
  · rfl

/-- A kick by a port is refused (R387). -/
theorem wdogKick_port (p : CmdPort) (v : Word) (s : State) : wdogKick (.port p) v s = (s, stDenied) := rfl

section
variable {safety : Bool} {v : Word} {s : State} (hk : bit v 31 = safety)
include hk

theorem wdogKick_disarmed (he : (s.wdog safety).en = false) : wdogKick (coreOf safety) v s = (s, stOk) := by
  rw [wdogKick_own hk, he]
  rfl

theorem wdogKick_rightKey (he : (s.wdog safety).en = true) (hr : bits v 0 16 = kickKey (s.wdog safety)) :
    wdogKick (coreOf safety) v s =
      let dt := s.ticks - (s.wdog safety).from_
      let s1 := s.modWdog safety (fun w => { w with from_ := s.ticks, second := !w.second })
      (if wdogTicks safety s ≤ 4 * dt ∧ dt ≤ wdogTicks safety s then s1 else wdogFault safety s1, stOk) := by
  rw [wdogKick_own hk, he, hr]
  simp only [beq_self_eq_true, Bool.true_and, Bool.and_eq_true, decide_eq_true_eq, Bool.not_true, Bool.false_eq_true,
    if_true, if_false]

theorem wdogKick_wrongKey (he : (s.wdog safety).en = true) (hr : bits v 0 16 ≠ kickKey (s.wdog safety)) :
    wdogKick (coreOf safety) v s =
      (wdogFault safety (s.modWdog safety (fun w => { w with from_ := s.ticks })), stOk) := by
  rw [wdogKick_own hk, he]
  simp only [beq_false_of_ne hr, Bool.false_and, Bool.not_true, Bool.false_eq_true, if_false]

end

theorem exec_watchdogKick {src : RegSrc} {v : Word} {s t : State} {st : BitVec 8} (hr : regReady 17 src s = true)
    (h : wdogKick src v s = (t, st)) : exec (.watchdogKick src v) s = .next (settle { t with lastStatus := st }) := by
  refine (done_writeRow hr (wdogKick src v)).trans ?_
  rw [h]

theorem exec_watchdogArm {src : RegSrc} {s : State} (hr : regReady 17 src s = true) (v : Word) :
    exec (.watchdogArm src v) s = .next (settle { wdogArm v s with lastStatus := stOk }) :=
  done_writeRow hr (fun s => (wdogArm v s, stOk))

theorem exec_watchdogToWrite {src : RegSrc} {v : Word} {s t : State} {st : BitVec 8} (hr : regReady 17 src s = true)
    (h : wdogTo v s = (t, st)) : exec (.watchdogToWrite src v) s = .next (settle { t with lastStatus := st }) := by
  refine (done_writeRow hr (wdogTo v)).trans ?_
  rw [h]

/-- An armed watchdog's timeout changes with the write (R388). -/
def toLocked (v : Word) (s : State) : Prop :=
  (s.rigger.safeW.en = true ∧ bits v 16 16 ≠ bits s.rigger.wdogTo 16 16) ∨
    (s.rigger.svcW.en = true ∧ bits v 0 16 ≠ bits s.rigger.wdogTo 0 16)

theorem wdogTo_outOfRange {v : Word} (s : State)
    (h : bits v 16 16 = 0 ∨ 1000 < bits v 16 16 ∨ bits v 0 16 = 0 ∨ 10000 < bits v 0 16) : wdogTo v s = (s, stBadParam) := by
  unfold wdogTo
  exact if_pos (by omega)

section
variable {v : Word} {s : State} (h1 : 1 ≤ bits v 16 16) (h2 : bits v 16 16 ≤ 1000) (h3 : 1 ≤ bits v 0 16)
  (h4 : bits v 0 16 ≤ 10000)
include h1 h2 h3 h4

theorem wdogTo_locked (h : toLocked v s) : wdogTo v s = (s, stBadState) := by
  unfold wdogTo
  refine (if_neg (by omega)).trans (if_pos ?_)
  simpa [toLocked] using h

theorem wdogTo_stored (h : ¬ toLocked v s) : wdogTo v s = ({ s with rigger := { s.rigger with wdogTo := v } }, stOk) := by
  unfold wdogTo
  refine (if_neg (by omega)).trans (if_neg ?_)
  simpa [toLocked] using h

end

theorem wdogDue_armed {safety : Bool} {s : State} (he : (s.wdog safety).en = true) :
    wdogDue safety s = decide ((s.wdog safety).from_ + wdogTicks safety s ≤ s.ticks) := by
  rw [wdogDue, he, Bool.true_and]

theorem exec_watchdogTimeout {safety : Bool} {s : State} (hv : vault s.pwr.pstate = false) :
    exec (.watchdogTimeout safety) s = .next (settle (if wdogDue safety s then
      wdogFault safety (s.modWdog safety (fun w => { w with from_ := s.ticks })) else s)) := by
  show Host.Outcome.next (settle (if wdogDue safety s && !vault s.pwr.pstate then _ else s)) = _
  rw [hv, Bool.not_false, Bool.and_true]

/-- Settles O37: kicks by `wdogKick_own` and its cases, arming and timeouts by the rows' own equations. -/
theorem watchdogsWatchTheCores : Obligations.WatchdogsWatchTheCores := by
  refine ⟨?_, fun p v s hr => exec_watchdogKick hr (wdogKick_port p v s), fun src v s hr => ⟨?_, fun h => ?_, ?_⟩,
    fun safety s he hv => ⟨fun ht => ?_, fun ht => ?_⟩⟩
  · intro safety v s src key dt hr hk
    refine ⟨fun he hkey => ⟨fun h4 h1 => ?_, fun hbad => ?_⟩, fun he hkey => ?_, fun he => ?_⟩
    · exact exec_watchdogKick hr ((wdogKick_rightKey hk he hkey).trans (congrArg (·, stOk) (if_pos ⟨h4, h1⟩)))
    · exact exec_watchdogKick hr ((wdogKick_rightKey hk he hkey).trans (congrArg (·, stOk) (if_neg (by omega))))
    · exact exec_watchdogKick hr (wdogKick_wrongKey hk he hkey)
    · exact exec_watchdogKick hr (wdogKick_disarmed hk he)
  · exact exec_watchdogArm hr v
  · exact exec_watchdogToWrite hr (wdogTo_outOfRange s h)
  · intro h1 h2 h3 h4
    refine ⟨fun hsafe hsvc => ?_, fun hl => exec_watchdogToWrite hr (wdogTo_locked h1 h2 h3 h4 hl)⟩
    have hfree : ¬ toLocked v s := by
      rintro (⟨he, hn⟩ | ⟨he, hn⟩)
      · exact hn (hsafe he)
      · exact hn (hsvc he)
    rw [exec_watchdogToWrite hr (wdogTo_stored h1 h2 h3 h4 hfree)]
  · rw [exec_watchdogTimeout hv, wdogDue_armed he, if_pos (decide_eq_true ht)]
  · rw [exec_watchdogTimeout hv, wdogDue_armed he, decide_eq_false (Nat.not_le.mpr ht)]
    rfl

end Sys2Proof.Machine
end

section
/-! READ_REG, WRITE_REG, MODIFY_REG and REGISTER_WRITE (R13, R317, R327 to R329). -/

namespace Sys2Proof.Machine

/-! ### Lists of accesses (R327) -/

theorem readAll_snoc (l : List Word) (a : Word) (s : State) :
    (readAll (l ++ [a]) s).2.1 = (readAll l s).2.1 ++ [(regRead a (readAll l s).1).2.2] ∧
    (readAll (l ++ [a]) s).2.2 = (readAll l s).2.2 ++ [(regRead a (readAll l s).1).2.1] := by
  simp only [readAll, List.foldl_append, List.foldl_cons, List.foldl_nil, and_self]

/-- There is a value and a status for each read. -/
theorem readAll_lengths (l : List Word) (s : State) :
    (readAll l s).2.1.length = l.length ∧ (readAll l s).2.2.length = l.length := by
  induction l using List.reverseRecOn with
  | nil => exact ⟨rfl, rfl⟩
  | append_singleton l a ih =>
    obtain ⟨hv, hst⟩ := readAll_snoc l a s
    rw [hv, hst]
    simp [ih]

theorem writeAll_snoc (src : RegSrc) (ses : Bool) (l : List (Word × Word)) (p : Word × Word) (s : State) :
    (writeAll src ses (l ++ [p]) s).2 =
      (writeAll src ses l s).2 ++ [(regWrite src ses p.1 p.2 (writeAll src ses l s).1).2] := by
  simp only [writeAll, List.foldl_append, List.foldl_cons, List.foldl_nil]

/-- There is a status for each write. -/
theorem writeAll_length (src : RegSrc) (ses : Bool) (l : List (Word × Word)) (s : State) :
    (writeAll src ses l s).2.length = l.length := by
  induction l using List.reverseRecOn with
  | nil => rfl
  | append_singleton l p ih => rw [writeAll_snoc, List.length_append, List.length_append, ih]; rfl

/-- An even list of words is taken in pairs. -/
theorem pairs_length (ws : List Word) : (pairs ws).length = ws.length / 2 := by
  induction ws using pairs.induct with
  | case1 a b rest ih => simp only [pairs, List.length_cons, ih]; omega
  | case2 ws h =>
    rcases ws with _ | ⟨a, _ | ⟨b, rest⟩⟩
    · rfl
    · simp [pairs]
    · exact absurd rfl (h a b rest)

/-- WRITE_REG is taken with an even number of words (R321). -/
theorem writeReg_even {c : CmdCtx} {ws : List Word} {s : State} (h : fastReady 0x11 c ws s = true) : ws.length % 2 = 0 := by
  have ho : opInfo 0x11 = some ⟨0x11, false, .no, 2, 128⟩ := by decide
  simp only [fastReady, ho, lengthOk, Bool.and_eq_true] at h
  simpa using h.2.1.2.2

/-! ### Single accesses (R13, R328) -/

theorem addrOk_iff (a : Word) : addrOk a = true ↔ bits a 24 8 = 0 ∧ bits a 0 2 = 0 ∧ bits a 16 8 ≤ 0x11 := by
  show _ ↔ _ ∧ _ ∧ addrBlock a ≤ 0x11
  simp only [addrOk, Bool.and_eq_true, beq_iff_eq, decide_eq_true_eq, and_assoc]

theorem access_badAddress {a : Word} (h : addrOk a = false) (src : RegSrc) (ses : Bool) (v : Word) (s : State) :
    regRead a s = (s, stBadParam, 0) ∧ regWrite src ses a v s = (s, stBadParam) := by
  simp [regRead, regWrite, h]

theorem access_blockOff {a : Word} {s : State} (h : addrOk a = true) (ho : blockOff (addrBlock a) s = true) (src : RegSrc)
    (ses : Bool) (v : Word) : regRead a s = (s, stBlockOff, 0) ∧ regWrite src ses a v s = (countOff s, stBlockOff) := by
  simp [regRead, regWrite, h, ho]

/-! ### CMD_SESS_CFG (R317, R329) -/

section
variable {s : State} (ho : blockOff 0 s = false)
include ho

theorem regRead_sessCfg : regRead 0x000004 s = (s, stOk, s.cmd.idle.setWidth 32) := by
  have hv : cmdRead 4 s = s.cmd.idle.setWidth 32 := by
    show put 0 s.cmd.idle.toNat = _
    rw [put, Nat.shiftLeft_zero, BitVec.ofNat_toNat]
  show (if blockOff 0 s then _ else (s, stOk, cmdRead 4 s)) = _
  rw [ho, if_neg Bool.false_ne_true, hv]

theorem regWrite_sessCfg (src : RegSrc) (ses : Bool) (v : Word) : regWrite src ses 0x000004 v s =
    if bits v 0 16 < 10 ∨ 60000 < bits v 0 16 then (s, stBadParam)
    else ({ s with cmd := { s.cmd with idle := v.setWidth 16 } }, stOk) := by
  show (if blockOff 0 s then _ else cmdWrite 4 v s) = _
  rw [ho, if_neg Bool.false_ne_true]
  rfl

end

theorem bits_low16 (v : Word) : bits v 0 16 = (v.setWidth 16).toNat := by simp [bits]

/-- What MODIFY_REG writes to CMD_SESS_CFG: no bit of it is RW1C. -/
def mergedIdle (m v : Word) (s : State) : Word := (s.cmd.idle.setWidth 32 &&& ~~~ m) ||| (v &&& m)

section
variable {c : CmdCtx} {m v : Word} {s : State} (ho : blockOff 0 s = false)
include ho

theorem opModifyReg_sessCfg : opModifyReg c [0x000004, m, v] s =
    let w := regWrite (.port c.port) (sessionOn c.port s) 0x000004 (mergedIdle m v s) s
    ((regRead 0x000004 w.1).1, .fin w.2 [s.cmd.idle.setWidth 32, (regRead 0x000004 w.1).2.2]) := by
  have hr := regRead_sessCfg ho
  have hk : s.cmd.idle.setWidth 32 &&& ~~~ m &&& ~~~ rw1cBits (addrBlock 0x000004) (addrOff 0x000004) =
      s.cmd.idle.setWidth 32 &&& ~~~ m := by
    rw [show ~~~ rw1cBits (addrBlock 0x000004) (addrOff 0x000004) = BitVec.allOnes 32 by decide, BitVec.and_allOnes]
  simp only [opModifyReg, List.getD_cons_zero, List.getD_cons_succ, hr, hk]
  rfl

theorem opModifyReg_stored (h : 10 ≤ ((mergedIdle m v s).setWidth 16).toNat)
    (h' : ((mergedIdle m v s).setWidth 16).toNat ≤ 60000) :
    opModifyReg c [0x000004, m, v] s =
      ({ s with cmd := { s.cmd with idle := (mergedIdle m v s).setWidth 16 } },
        .fin stOk [s.cmd.idle.setWidth 32, ((mergedIdle m v s).setWidth 16).setWidth 32]) := by
  rw [opModifyReg_sessCfg ho, regWrite_sessCfg ho, bits_low16, if_neg (by omega)]
  simp only [regRead_sessCfg (show blockOff 0 { s with cmd := { s.cmd with idle := (mergedIdle m v s).setWidth 16 } } = false from ho)]

theorem opModifyReg_refused (h : ((mergedIdle m v s).setWidth 16).toNat < 10 ∨ 60000 < ((mergedIdle m v s).setWidth 16).toNat) :
    opModifyReg c [0x000004, m, v] s =
      (s, .fin stBadParam [s.cmd.idle.setWidth 32, s.cmd.idle.setWidth 32]) := by
  rw [opModifyReg_sessCfg ho, regWrite_sessCfg ho, bits_low16, if_pos h]
  simp only [regRead_sessCfg ho]

end

theorem exec_registerWrite_sessCfg {src : RegSrc} {s : State} (hr : regReady 0 src s = true) (v : Word) :
    exec (.registerWrite src 0x000004 v) s = .next (settle
      (if bits v 0 16 < 10 ∨ 60000 < bits v 0 16 then { s with lastStatus := stBadParam }
      else { s with cmd := { s.cmd with idle := v.setWidth 16 }, lastStatus := stOk })) := by
  simp only [regReady, Bool.and_eq_true, Bool.not_eq_true'] at hr
  obtain ⟨⟨hon, ho⟩, hq⟩ := hr
  show Host.Outcome.next (settle (if srcOn src s then _ else s)) = _
  rw [hon, srcRead_quiet src s hq, if_pos rfl, regWrite_sessCfg ho]
  split <;> rfl

/-- Settles O12: lists by `readAll_lengths` and `writeAll_length`, single accesses by address, CMD_SESS_CFG by its own write. -/
theorem registerAccessesAreChecked : Obligations.RegisterAccessesAreChecked := by
  refine ⟨⟨fun c ws s h => ?_, fun c ws s h => ?_⟩, ?_, ?_, ?_, ?_⟩
  · obtain ⟨hv, hst⟩ := readAll_lengths ws s
    exact ⟨hv, hst, congrArg Host.Outcome.next (fast_replied (op := opReadReg) h rfl)⟩
  · refine ⟨?_, congrArg Host.Outcome.next (fast_replied (op := opWriteReg) h rfl)⟩
    rw [writeAll_length, pairs_length]
    have := writeReg_even h
    omega
  · intro a v src ses s h
    refine access_badAddress ?_ src ses v s
    rw [← Bool.not_eq_true, addrOk_iff]
    omega
  · intro a v src ses s h24 h2 hb ho
    exact access_blockOff ((addrOk_iff a).mpr ⟨h24, h2, hb⟩) ho src ses v
  · intro c m v s h ho x
    exact ⟨fun h10 h60 => congrArg Host.Outcome.next (fast_replied h (opModifyReg_stored ho h10 h60)),
      fun hx => congrArg Host.Outcome.next (fast_replied h (opModifyReg_refused ho hx))⟩
  · intro src v s hr
    rw [exec_registerWrite_sessCfg hr]
    exact ⟨fun h10 h60 => by rw [if_neg (by omega)], fun hx => by rw [if_pos hx]⟩

end Sys2Proof.Machine
end

section
/-! ERA, the latches of NS and WK_NS, PULSE_SET, captures and FLIP_AT (R338, R348, R353 to R356). -/

namespace Sys2Proof.Machine

/-! ### ERA (R338, R348) -/

/-- ERA written, with WRAP_PEND as it then stands. -/
def eraPut (k : Bool) (v : Word) (pend : Bool) (s : State) : State :=
  s.modDom k (fun d => { d with era := v.setWidth 16, eraAt := some s.ticks, lostDue := false, wrapPend := pend })

theorem writeEra_eq (k : Bool) (v : Word) (s : State) : writeEra k (v.setWidth 16) s =
    let t := eraPut k v ((s.dom k).wrapPend && (s.dom k).wrapAt == some s.ticks) s
    if extFrac (t.dom k) = extFrac (s.dom k) then t else absorbStep k (extFrac (s.dom k)) t := by
  have ht : s.modDom k (fun d => { d with
      era := v.setWidth 16, eraAt := some s.ticks, lostDue := false, wrapPend := d.wrapPend && d.wrapAt == some s.ticks }) =
      eraPut k v ((s.dom k).wrapPend && (s.dom k).wrapAt == some s.ticks) s := modDom_congr rfl
  simp only [writeEra, ht]

theorem exec_eraWrite {src : RegSrc} {s : State} (hr : regReady 3 src s = true) (k : Bool) (v : Word) :
    exec (.eraWrite src k v) s = .next (settle { writeEra k (v.setWidth 16) s with lastStatus := stOk }) :=
  done_writeRow hr (fun s => (writeEra k (v.setWidth 16) s, stOk))

/-! ### The latches (R356) -/

theorem exec_timeNsRead {src : RegSrc} {off : BitVec 16} {s : State} (hr : regReady 3 src s = true)
    (ho : off = 0x0100 ∨ off = 0x0180 ∨ off = 0x0200) : exec (.timeNsRead src off) s =
      .next (settle { (timeRead off.toNat s).1 with lastStatus := stOk, lastRead := (timeRead off.toNat s).2 }) := by
  show done _ = _
  rw [readRow_ready _ _ _ _ hr, if_pos ho]
  rfl

/-- Settles O32: a write of ERA is `writeEra_eq`; the three reads are branches of `timeRead`. -/
theorem timeRegistersLatchAndAnchor : Obligations.TimeRegistersLatchAndAnchor := by
  refine ⟨fun src k v s hr => ⟨fun hw => ?_, fun hw => ?_⟩, fun src s hr => ⟨?_, ?_, ?_⟩⟩
  · rw [exec_eraWrite hr, writeEra_eq, beq_false_of_ne hw, Bool.and_false]
    rfl
  · rw [exec_eraWrite hr, writeEra_eq, hw, beq_self_eq_true, Bool.and_true]
    rfl
  · exact exec_timeNsRead hr (.inl rfl)
  · exact exec_timeNsRead hr (.inr (.inl rfl))
  · exact exec_timeNsRead hr (.inr (.inr rfl))

/-! ### PULSE_SET (R353) -/

/-- The setting that a command asks for. -/
def pulseOf (m : Nat) (t : BitVec 48) (w3 w4 : Word) : Pulse := { mode := m, start := t, period := w3, width := w4 }

section
variable {c : CmdCtx} {w0 w1 w2 w3 w4 : Word} {s : State} (ho : blockOff 3 s = false) (h0 : within w0 0x301 = true)
  (h2 : within w2 0xFFFF = true)
include ho h0 h2

theorem opPulseSet_off (hm : bits w0 8 2 = 0) : opPulseSet c [w0, w1, w2, w3, w4] s =
    endWith stOk (s.modPulse (bit w0 0) (fun _ => pulseOf 0 (time48 w1 w2) w3 w4)) := by
  simp only [opPulseSet, timeOp, ho, List.getD_cons_zero, List.getD_cons_succ, h0, h2, hm]
  rfl

theorem opPulseSet_on {m : Nat} (hm : bits w0 8 2 = m) (h12 : m = 1 ∨ m = 2) : opPulseSet c [w0, w1, w2, w3, w4] s =
    if pulseBad m (time48 w1 w2) w3.toNat w4.toNat s then endWith stBadParam s
    else if (s.pulse (bit w0 0)).level then
      endWith stOk (s.modPulse (bit w0 0) (fun p => { p with waiting := some (m, time48 w1 w2, w3, w4) }))
    else endWith stOk (s.modPulse (bit w0 0) (fun _ => pulseOf m (time48 w1 w2) w3 w4)) := by
  have h0' : m ≠ 0 := by omega
  have h3 : m ≠ 3 := by omega
  simp only [opPulseSet, timeOp, ho, List.getD_cons_zero, List.getD_cons_succ, h0, h2, hm, h0', beq_false_of_ne h3, Bool.not_true,
    Bool.or_false, Bool.false_eq_true, if_false, pulseOf]

end

/-- The row puts its mode into the command's word (R353). -/
theorem exec_pulseSet (c : CmdCtx) (w0 : Word) (ws : List Word) (s : State) :
    exec (.pulseSetOff c (w0 :: ws)) s = .next (settle (submit opPulseSet 0x52 c (setField w0 8 2 0 :: ws) s)) ∧
    ∀ m, m = 1 ∨ m = 2 → exec (if m = 1 then .pulseSetOneShot c (w0 :: ws) else .pulseSetPeriodic c (w0 :: ws)) s =
      .next (settle (submit opPulseSet 0x52 c (setField w0 8 2 m :: ws) s)) := by
  refine ⟨rfl, fun m hm => ?_⟩
  rcases hm with rfl | rfl <;> rfl

/-! ### The edges of a pulse (R353) -/

theorem modPulse_congr {o : Bool} {f g : Pulse → Pulse} {s : State} (h : f (s.pulse o) = g (s.pulse o)) :
    s.modPulse o f = s.modPulse o g := by
  cases o
  · exact congrArg (fun p => s.modTime (fun t => { t with p0 := p })) h
  · exact congrArg (fun p => s.modTime (fun t => { t with p1 := p })) h

/-- An output after a fall: low, or with the setting that waited. -/
def fallen (p : Pulse) : Pulse :=
  match p.waiting with
  | none => { p with level := false, k := p.k + 1 }
  | some (m, st, pe, w) => { mode := m, start := st, period := pe, width := w }

section
variable {o : Bool} {s : State} (ht : timeOn s = true)
include ht

theorem exec_tpulseRise_due (hl : (s.pulse o).level = false)
    (hm : (s.pulse o).mode = 2 ∨ ((s.pulse o).mode = 1 ∧ (s.pulse o).k = 0)) (ha : ahead (riseAt (s.pulse o)) s ≤ 0) :
    exec (.tpulseRise o) s = .next (settle (s.modPulse o (fun p => { p with level := true, high := 0 }))) := by
  refine congrArg (fun t => Host.Outcome.next (settle t)) (if_pos ?_)
  rcases hm with hm | ⟨hm, hk⟩ <;> simp [*]

theorem exec_tpulseFall_due (hl : (s.pulse o).level = true) (hw : ((s.pulse o).width.toNat : Int) * 2 ^ 32 ≤ (s.pulse o).high) :
    exec (.tpulseFall o) s = .next (settle (if (s.pulse o).mode = 1 then
      queueEvent 0x0303 0 [put 0 (domNo o)] (s.modPulse o fallen) else s.modPulse o fallen)) := by
  have hf : (s.modPulse o fun p => match p.waiting with
      | some (m, st, pe, w) => { mode := m, start := st, period := pe, width := w }
      | none => { p with level := false, k := p.k + 1 }) = s.modPulse o fallen :=
    modPulse_congr (by unfold fallen; cases (s.pulse o).waiting <;> rfl)
  rw [← hf]
  exact congrArg (fun t => Host.Outcome.next (settle t)) (if_pos (by rw [ht, hl, decide_eq_true hw]; rfl))

end

theorem exec_tpulseFall_early {o : Bool} {s : State} (hw : (s.pulse o).high < ((s.pulse o).width.toNat : Int) * 2 ^ 32) :
    exec (.tpulseFall o) s = .next (settle s) :=
  congrArg (fun t => Host.Outcome.next (settle t)) (if_neg (by
    rw [decide_eq_false (Int.not_le.mpr hw), Bool.and_false]; exact Bool.false_ne_true))

/-! ### Captures (R354) -/

/-- The edge comes less than 1 µs after the last captured one. -/
def edgeSoon (s : State) : Bool := match s.time.tcaptLast with | none => false | some l => decide (s.ticks < l + 250)

theorem exec_tcaptEdge {s : State} (ht : timeOn s = true) (hb : bit s.time.ctrl 17 = true) :
    exec .tcaptEdge s = .next (settle (
      if edgeSoon s then (s.hit 3 0x18 8).modTime (fun t => { t with tcaptMiss := satInc 8 t.tcaptMiss })
      else queueEvent 0x0302 0 [put 0 (workNs s), put 0 (workNs s / 2 ^ 32)]
        (s.modTime (fun t => { t with tcapt := BitVec.ofNat 48 (workNs s), tcaptLast := some s.ticks })))) :=
  congrArg (fun t => Host.Outcome.next (settle t)) (if_pos (by rw [ht, hb]; rfl))

/-! ### FLIP_AT (R355) -/

/-- FLIP_AT is too early or too late for the flip that it names. -/
def flipAtRefused (t : Nat) (s : State) : Prop :=
  s.time.wkSync = false ∨ after3 t s.scan.lastFlip3 ≤ 0 ∨ (composePassed s = true ∧ after3 t (nextFlip3 s) ≤ 0)

section
variable {w0 w1 : Word} {s : State} (c : CmdCtx) (ho : blockOff 3 s = false) (hw : within w1 0xFFFF = true)
include ho hw

theorem opFlipAt_far (ha : 2 ^ 32 < ahead (time48 w0 w1).toNat s) : opFlipAt c [w0, w1] s = endWith stBadParam s := by
  simp only [opFlipAt, timeOp, ho, List.getD_cons_zero, List.getD_cons_succ, hw, decide_eq_true ha, Bool.or_true,
    Bool.false_eq_true, if_true, if_false]

theorem opFlipAt_refused (ha : ahead (time48 w0 w1).toNat s ≤ 2 ^ 32) (hr : flipAtRefused (time48 w0 w1).toNat s) :
    opFlipAt c [w0, w1] s = endWith stBadState s := by
  have hb : (!s.time.wkSync || decide (after3 (time48 w0 w1).toNat s.scan.lastFlip3 ≤ 0) ||
      (composePassed s && decide (after3 (time48 w0 w1).toNat (nextFlip3 s) ≤ 0))) = true := by
    rcases hr with h | h | ⟨h, h'⟩ <;> simp [*]
  simp only [opFlipAt, timeOp, ho, hw, Int.not_lt.mpr ha, List.getD_cons_zero, List.getD_cons_succ, hb, decide_false, Bool.not_true,
    Bool.or_false, Bool.false_eq_true, if_true, if_false]

theorem opFlipAt_taken (ha : ahead (time48 w0 w1).toNat s ≤ 2 ^ 32) (hr : ¬ flipAtRefused (time48 w0 w1).toNat s) :
    opFlipAt c [w0, w1] s = endWith stOk (s.modTime (fun x => { x with flipAt := time48 w0 w1, flipAtPend := true })) := by
  simp only [flipAtRefused, not_or, not_and, Int.not_le, Bool.not_eq_false] at hr
  obtain ⟨hs, hl, hn⟩ := hr
  have hb : (!s.time.wkSync || decide (after3 (time48 w0 w1).toNat s.scan.lastFlip3 ≤ 0) ||
      (composePassed s && decide (after3 (time48 w0 w1).toNat (nextFlip3 s) ≤ 0))) = false := by
    cases hc : composePassed s
    · simp [hs, hl]
    · simp [hs, hl, hn hc]
  simp only [opFlipAt, timeOp, ho, hw, Int.not_lt.mpr ha, List.getD_cons_zero, List.getD_cons_succ, hb, decide_false, Bool.not_true,
    Bool.or_false, Bool.false_eq_true, if_false]

end

/-- Settles O34: PULSE_SET and FLIP_AT by their operations, each edge by its row's equation. -/
theorem pulsesCapturesAndTimedFlips : Obligations.PulsesCapturesAndTimedFlips := by
  refine ⟨⟨?_, fun o s ht => ⟨fun hl hm ha => exec_tpulseRise_due ht hl hm ha, fun hl hw => ⟨fun hm => ?_, fun hm => ?_⟩,
    fun _ hw => exec_tpulseFall_early hw⟩⟩, fun s ht hb => ⟨fun hl => ?_, fun l hl hs => ?_⟩, ?_⟩
  · intro c w0 w1 w2 w3 w4 s ho h2 t
    refine ⟨fun m h12 h0 hf => ?_, fun h0 hf => ?_⟩
    · have hm : bits (setField w0 8 2 m) 8 2 = m := bits_setField_same (by omega) (by decide)
      have hop := opPulseSet_on (c := c) (w1 := w1) (w3 := w3) (w4 := w4) ho h0 h2 hm h12
      have hrow := (exec_pulseSet c w0 [w1, w2, w3, w4] s).2 m h12
      refine ⟨fun hbad => ?_, fun hgood hl => ?_, fun hgood hl => ?_⟩
      · rw [hbad, if_pos rfl] at hop
        exact hrow.trans (congrArg Host.Outcome.next (fast_refused hf hop))
      · rw [hgood, hl, if_neg Bool.false_ne_true, if_neg Bool.false_ne_true] at hop
        exact hrow.trans (congrArg Host.Outcome.next (fast_answered hf hop))
      · rw [hgood, hl, if_neg Bool.false_ne_true, if_pos rfl] at hop
        exact hrow.trans (congrArg Host.Outcome.next (fast_answered hf hop))
    · exact (exec_pulseSet c w0 [w1, w2, w3, w4] s).1.trans (congrArg Host.Outcome.next
        (fast_answered hf (opPulseSet_off ho h0 h2 (bits_setField_same (by decide) (by decide)))))
  · rw [exec_tpulseFall_due ht hl hw, if_neg hm]
    rfl
  · rw [exec_tpulseFall_due ht hl hw, if_pos hm]
    rfl
  · rw [exec_tcaptEdge ht hb, edgeSoon, hl]
    rfl
  · rw [exec_tcaptEdge ht hb, edgeSoon, hl]
    simp only [decide_eq_true hs]
    rfl
  · intro c w0 w1 s hf ho hw t
    refine ⟨fun ha => ?_, fun ha hs => ?_, fun ha hl => ?_, fun ha hc hn => ?_, fun ha hs hl hn => ?_⟩
    · exact congrArg Host.Outcome.next (fast_refused hf (opFlipAt_far c ho hw ha))
    · exact congrArg Host.Outcome.next (fast_refused hf (opFlipAt_refused c ho hw ha (.inl hs)))
    · exact congrArg Host.Outcome.next (fast_refused hf (opFlipAt_refused c ho hw ha (.inr (.inl hl))))
    · exact congrArg Host.Outcome.next (fast_refused hf (opFlipAt_refused c ho hw ha (.inr (.inr ⟨hc, hn⟩))))
    · refine congrArg Host.Outcome.next (fast_answered hf (opFlipAt_taken c ho hw ha ?_))
      rintro (h | h | ⟨h, h'⟩)
      · exact Bool.false_ne_true (h.symm.trans hs)
      · exact Int.not_le.mpr hl h
      · rcases hn with hn | hn
        · exact Bool.false_ne_true (hn.symm.trans h)
        · exact Int.not_le.mpr hn h'

end Sys2Proof.Machine
end

section
/-! Ticks of the TIME clock: both counters, WK_OFS and the model's elapsed time (R337, R338, R347, R413). -/

namespace Sys2Proof.Machine

/-! ### What a tick leaves alone -/

/-- What decides how ticks run: the power state, the clocks and the force bits. -/
def tickSetting (s : State) : (PState × Bool) × Clk × List Word := ((s.pwr.pstate, s.pwr.inReset), s.clk, forces s)

theorem tickSetting_of_untouched {s t : State} (h : untouched t = untouched s) (hf : forces t = forces s) :
    tickSetting t = tickSetting s := by
  have hp := keeps_of_untouched (fun u => (u.pwr.pstate, u.pwr.inReset)) (fun _ => rfl) h
  have hc := keeps_of_untouched (fun u => u.clk) (fun _ => rfl) h
  exact Prod.ext hp (Prod.ext hc hf)

theorem timeOn_of_tickSetting {s t : State} (h : tickSetting t = tickSetting s) : timeOn t = timeOn s := by
  obtain ⟨hp, -⟩ := Prod.mk.inj h
  obtain ⟨hs, hr⟩ := Prod.mk.inj hp
  rw [timeOn, timeOn, arrayOn, arrayOn, hs, hr]

theorem coast_of_tickSetting {s t : State} (h : tickSetting t = tickSetting s) : t.clk.coast = s.clk.coast :=
  congrArg (fun v => v.2.1.coast) h

/-- The counter of a domain with its INC and ERA. -/
def reading (d : Domain) : (Nat × Nat) × BitVec 36 × BitVec 16 := ((d.ns.toNat, d.frac.toNat), d.inc, d.era)

/-- NS and FRAC of a domain as one number. -/
def counter (d : Domain) : Nat := d.ns.toNat * 2 ^ 32 + d.frac.toNat

theorem counter_lt (d : Domain) : counter d < 2 ^ 64 := by
  have h1 := d.ns.isLt
  have h2 := d.frac.isLt
  unfold counter
  omega

theorem counter_of_reading {d e : Domain} (h : reading d = reading e) : counter d = counter e ∧ d.inc = e.inc ∧ d.era = e.era := by
  obtain ⟨hc, hr⟩ := Prod.mk.inj h
  obtain ⟨h1, h2⟩ := Prod.mk.inj hc
  obtain ⟨h3, h4⟩ := Prod.mk.inj hr
  exact ⟨by rw [counter, counter, h1, h2], h3, h4⟩

/-- No time goes from `s` to `t`: the counters, WK_OFS and the elapsed time stand. -/
structure NoTime (s t : State) : Prop where
  setting : tickSetting t = tickSetting s
  ticks : t.ticks = s.ticks
  wkOfs : t.time.wkOfs = s.time.wkOfs
  reading : ∀ k, reading (t.dom k) = reading (s.dom k)

namespace NoTime

theorem refl (s : State) : NoTime s s := ⟨rfl, rfl, rfl, fun _ => rfl⟩

theorem trans {s t u : State} (h : NoTime s t) (h' : NoTime t u) : NoTime s u :=
  ⟨h'.setting.trans h.setting, h'.ticks.trans h.ticks, h'.wkOfs.trans h.wkOfs, fun k => (h'.reading k).trans (h.reading k)⟩

theorem of_untouched {s t : State} (h : untouched t = untouched s) (hf : forces t = forces s) : NoTime s t := by
  have ht := keeps_of_untouched (fun u => u.time) (fun _ => rfl) h
  exact ⟨tickSetting_of_untouched h hf, keeps_of_untouched (fun u => u.ticks) (fun _ => rfl) h, by rw [ht],
    fun k => by rw [dom_congr ht]⟩

theorem foldl {α : Type} (f : State → α → State) (h : ∀ s a, NoTime s (f s a)) (l : List α) (s : State) :
    NoTime s (l.foldl f s) := by
  induction l generalizing s with
  | nil => exact refl s
  | cons a l ih => exact (h s a).trans (ih _)

end NoTime

theorem noTime_modDom {k : Bool} {f : Domain → Domain} (s : State) (h : ∀ d, reading (f d) = reading d) :
    NoTime s (s.modDom k f) := by
  refine ⟨rfl, rfl, ?_, fun j => ?_⟩
  · cases k <;> rfl
  · cases k <;> cases j
    · exact h _
    · rfl
    · rfl
    · exact h _

theorem noTime_settleLost (k : Bool) (s : State) : NoTime s (settleLost k s) := by
  unfold settleLost
  split
  · have h1 : NoTime s ((s.hit 3 4 10).modDom k (fun d => { d with lostDue := false })) :=
      NoTime.trans (.of_untouched (untouched_hit 3 4 10 s) rfl) (noTime_modDom _ (fun _ => rfl))
    have h2 : NoTime s (((s.hit 3 4 10).modDom k (fun d => { d with lostDue := false })).modTime (fun t => { t with eraLost := true })) :=
      h1.trans ⟨rfl, rfl, rfl, fun j => by cases j <;> rfl⟩
    exact h2.trans (.of_untouched (untouched_raiseFault _ _ _ _ _ _) (forces_raiseFault _ _ _ _ _ _))
  · exact .refl s

theorem noTime_nsWrapped (k : Bool) (a : Nat) (s : State) : NoTime s (nsWrapped k a s) := by
  unfold nsWrapped
  extract_lets u
  have hu : NoTime s u := by
    simp only [u]
    split
    · exact .refl s
    · exact noTime_settleLost k s
  refine NoTime.trans (hu.trans ?_) (.of_untouched (untouched_queueEvent _ _ _ _) (forces_queueEvent _ _ _ _))
  exact noTime_modDom u (fun _ => rfl)

theorem noTime_endTick (s : State) : NoTime s (endTick s) := (noTime_settleLost false s).trans (noTime_settleLost true _)

theorem noTime_newClock (s : State) : NoTime s (newClock s) := by
  refine ⟨?_, rfl, rfl, fun _ => rfl⟩
  have hf : forces (newClock s) = forces s := by
    rw [forces, forces, newClock, List.map_map]
    rfl
  exact congrArg (fun l => ((s.pwr.pstate, s.pwr.inReset), s.clk, l)) hf

/-! ### A domain that advances (R337, R338) -/

/-- A domain with NS and FRAC those of `v`. -/
def setCounter (k : Bool) (v : Nat) (s : State) : State :=
  s.modDom k (fun d => { d with ns := BitVec.ofNat 32 (v / 2 ^ 32), frac := BitVec.ofNat 32 v })

/-- The wraps of a domain, at the moments `g`. -/
def wrapsAt (k : Bool) (g : Nat → Nat) (l : List Nat) (s : State) : State := l.foldl (fun t j => nsWrapped k (g j) t) s

/-- NS and FRAC as one number after `n` ticks, before they wrap. -/
def ranTo (n : Nat) (d : Domain) : Nat := counter d + n * d.inc.toNat

theorem advanceDom_eq (k : Bool) (n : Nat) (s : State) : advanceDom k n s =
    wrapsAt k (fun j => s.ticks + span (wrapTicks (s.dom k) (j + 1)) s) (List.range (ranTo n (s.dom k) / 2 ^ 64))
      (setCounter k (ranTo n (s.dom k)) s) := rfl

theorem noTime_wrapsAt (k : Bool) (g : Nat → Nat) (l : List Nat) (s : State) : NoTime s (wrapsAt k g l s) :=
  NoTime.foldl _ (fun t j => noTime_nsWrapped k (g j) t) l s

theorem setCounter_keeps (k : Bool) (v : Nat) (s : State) :
    tickSetting (setCounter k v s) = tickSetting s ∧ (setCounter k v s).ticks = s.ticks ∧
    (setCounter k v s).time.wkOfs = s.time.wkOfs ∧ (setCounter k v s).dom (!k) = s.dom (!k) := by
  cases k <;> exact ⟨rfl, rfl, rfl, rfl⟩

theorem advanceDom_keeps (k : Bool) (n : Nat) (s : State) :
    tickSetting (advanceDom k n s) = tickSetting s ∧ (advanceDom k n s).ticks = s.ticks ∧
    (advanceDom k n s).time.wkOfs = s.time.wkOfs ∧ reading ((advanceDom k n s).dom (!k)) = reading (s.dom (!k)) := by
  rw [advanceDom_eq]
  generalize List.range _ = l
  generalize ranTo n (s.dom k) = v
  have h := noTime_wrapsAt k (fun j => s.ticks + span (wrapTicks (s.dom k) (j + 1)) s) l (setCounter k v s)
  obtain ⟨hset, ht, hofs, hother⟩ := setCounter_keeps k v s
  exact ⟨h.setting.trans hset, h.ticks.trans ht, h.wkOfs.trans hofs, (h.reading (!k)).trans (congrArg reading hother)⟩

theorem counter_setCounter (k : Bool) (v : Nat) (s : State) :
    counter ((setCounter k v s).dom k) = v % 2 ^ 64 ∧ ((setCounter k v s).dom k).inc = (s.dom k).inc ∧
    ((setCounter k v s).dom k).era = (s.dom k).era := by
  rw [setCounter, dom_modDom]
  refine ⟨?_, rfl, rfl⟩
  rw [counter, BitVec.toNat_ofNat, BitVec.toNat_ofNat]
  omega

theorem advanceDom_counter (k : Bool) (n : Nat) (s : State) :
    counter ((advanceDom k n s).dom k) = (counter (s.dom k) + n * (s.dom k).inc.toNat) % 2 ^ 64 ∧
    ((advanceDom k n s).dom k).inc = (s.dom k).inc ∧ ((advanceDom k n s).dom k).era = (s.dom k).era := by
  rw [advanceDom_eq]
  generalize List.range _ = l
  obtain ⟨hc, hi, he⟩ := counter_setCounter k (ranTo n (s.dom k)) s
  obtain ⟨hc', hi', he'⟩ := counter_of_reading
    ((noTime_wrapsAt k (fun j => s.ticks + span (wrapTicks (s.dom k) (j + 1)) s) l (setCounter k (ranTo n (s.dom k)) s)).reading k)
  exact ⟨hc'.trans hc, hi'.trans hi, he'.trans he⟩

/-! ### `n` ticks of the TIME clock (R337, R347, R413) -/

/-- Outside a coast a tick lasts 4 ns; in one it lasts three to five times as long (R413). -/
theorem span_bounds (n : Nat) (s : State) :
    (s.clk.coast = false → span n s = n) ∧ (s.clk.coast = true → 3 * n ≤ span n s ∧ span n s ≤ 5 * n) := by
  refine ⟨fun h => by rw [span, h]; rfl, fun h => ?_⟩
  rw [span, h, if_pos rfl]
  have hr : (Config.freeWord s.freeCtr).toNat % 6 < 6 := Nat.mod_lt _ (by decide)
  generalize (Config.freeWord s.freeCtr).toNat % 6 = r at hr
  have hlo : n * 9 ≤ n * (10 + r) := Nat.mul_le_mul_left n (by omega)
  have hhi : n * (10 + r) ≤ n * 15 := Nat.mul_le_mul_left n (by omega)
  omega

theorem takeCode_keeps (s : State) : ∃ a, takeCode s = { s with arr := a } := by
  unfold takeCode
  split
  · split
    · exact ⟨_, rfl⟩
    · exact ⟨s.arr, rfl⟩
  · exact ⟨s.arr, rfl⟩

/-- `n` ticks of a counter with its INC and ERA: what `t` shows of domain `k` after what `s` shows. -/
def Ran (n : Nat) (d e : Domain) : Prop :=
  counter e = (counter d + n * d.inc.toNat) % 2 ^ 64 ∧ e.inc = d.inc ∧ e.era = d.era

theorem Ran.of_reading {n : Nat} {d e e' : Domain} (h : Ran n d e) (hr : reading e' = reading e) : Ran n d e' := by
  obtain ⟨hc, hi, he⟩ := counter_of_reading hr
  exact ⟨hc.trans h.1, hi.trans h.2.1, he.trans h.2.2⟩

theorem Ran.reading_of {n : Nat} {d d' e : Domain} (h : Ran n d e) (hr : reading d = reading d') : Ran n d' e := by
  obtain ⟨hc, hi, he⟩ := counter_of_reading hr
  rw [Ran, ← hc, ← hi, ← he]
  exact h

theorem Ran.add {m n : Nat} {d e f : Domain} (h : Ran m d e) (h' : Ran n e f) : Ran (m + n) d f := by
  obtain ⟨hc, hi, he⟩ := h
  obtain ⟨hc', hi', he'⟩ := h'
  refine ⟨?_, hi'.trans hi, he'.trans he⟩
  rw [hc', hc, hi, Nat.mod_add_mod, Nat.add_mul, Nat.add_assoc]

theorem advanceDoms_ran (n : Nat) (s : State) (k : Bool) : Ran n (s.dom k) ((advanceDom true n (advanceDom false n s)).dom k) := by
  have hf := advanceDom_counter false n s
  have ht := advanceDom_counter true n (advanceDom false n s)
  obtain ⟨-, -, -, hother⟩ := advanceDom_keeps false n s
  obtain ⟨-, -, -, hother'⟩ := advanceDom_keeps true n (advanceDom false n s)
  cases k
  · exact Ran.of_reading hf hother'
  · exact Ran.reading_of ht hother

/-- What `n` ticks make of the state, where TIME is on. -/
structure Ticked (n : Nat) (s t : State) : Prop where
  setting : tickSetting t = tickSetting s
  ran : ∀ k, Ran n (s.dom k) (t.dom k)
  wkOfs : t.time.wkOfs = slewOfs n s.time.wkOfs

theorem advance_ticks (n : Nat) (s : State) : (advance n s).ticks = s.ticks + span n s := by
  unfold advance
  extract_lets s1
  obtain ⟨a, ha⟩ := takeCode_keeps { s1 with ticks := s.ticks + span n s, freeCtr := s.freeCtr + if s.clk.coast then 1 else 0 }
  rw [ha]

/-- WK_OFS, the pulse outputs and the time run on. -/
def runOn (f : Int → Int) (r : Pulse → Pulse) (ticks freeCtr : Nat) (u : State) : State :=
  { u.modTime (fun t => { t with wkOfs := f t.wkOfs, p0 := r t.p0, p1 := r t.p1 }) with ticks := ticks, freeCtr := freeCtr }

theorem takeCode_runOn (f : Int → Int) (r : Pulse → Pulse) (ticks freeCtr : Nat) (u : State) :
    tickSetting (takeCode (runOn f r ticks freeCtr u)) = tickSetting u ∧
    (takeCode (runOn f r ticks freeCtr u)).time.wkOfs = f u.time.wkOfs ∧
    ∀ k, (takeCode (runOn f r ticks freeCtr u)).dom k = u.dom k := by
  obtain ⟨a, ha⟩ := takeCode_keeps (runOn f r ticks freeCtr u)
  rw [ha]
  exact ⟨rfl, rfl, fun k => by cases k <;> rfl⟩

theorem advance_of_timeOn {s : State} (h : timeOn s = true) (n : Nat) :
    advance n s = takeCode (runOn (slewOfs n) (runPulse n s) (s.ticks + span n s) (s.freeCtr + if s.clk.coast then 1 else 0)
      (advanceDom true n (advanceDom false n s))) := by
  unfold advance
  rw [if_pos h]
  rfl

theorem advance_on {s : State} (h : timeOn s = true) (n : Nat) : Ticked n s (advance n s) := by
  rw [advance_of_timeOn h]
  obtain ⟨hset, hofs, hdom⟩ := takeCode_runOn (slewOfs n) (runPulse n s) (s.ticks + span n s)
    (s.freeCtr + if s.clk.coast then 1 else 0) (advanceDom true n (advanceDom false n s))
  obtain ⟨hset1, -, hofs1, -⟩ := advanceDom_keeps false n s
  obtain ⟨hset2, -, hofs2, -⟩ := advanceDom_keeps true n (advanceDom false n s)
  refine ⟨hset.trans (hset2.trans hset1), fun k => ?_, ?_⟩
  · rw [hdom]
    exact advanceDoms_ran n s k
  · rw [hofs, hofs2, hofs1]

theorem advance_off {s : State} (h : timeOn s = false) (n : Nat) :
    tickSetting (advance n s) = tickSetting s ∧ (advance n s).time = s.time := by
  unfold advance
  extract_lets s1
  obtain ⟨a, ha⟩ := takeCode_keeps { s1 with ticks := s.ticks + span n s, freeCtr := s.freeCtr + if s.clk.coast then 1 else 0 }
  have h1 : s1 = s := if_neg (by rw [h]; decide)
  rw [ha, h1]
  exact ⟨rfl, rfl⟩

/-- The state in which the last of `m + 1` ticks begins. -/
def beforeLast (m : Nat) (s : State) : State := newClock (endTick (advance m (endTick s)))

theorem tick_succ (m : Nat) (s : State) : tick (m + 1) s = advance 1 (beforeLast m s) := rfl

theorem noTime_beforeLast (m : Nat) (s : State) : NoTime (advance m (endTick s)) (beforeLast m s) :=
  (noTime_endTick _).trans (noTime_newClock _)

theorem Ticked.of_noTime {n : Nat} {s s' t t' : State} (h : NoTime s s') (ht : Ticked n s' t) (h' : NoTime t t') : Ticked n s t' :=
  ⟨h'.setting.trans (ht.setting.trans h.setting),
    fun k => ((ht.ran k).reading_of (h.reading k)).of_reading (h'.reading k),
    h'.wkOfs.trans (ht.wkOfs.trans (congrArg (slewOfs n) h.wkOfs))⟩

theorem beforeLast_on {s : State} (h : timeOn s = true) (m : Nat) : Ticked m s (beforeLast m s) :=
  .of_noTime (noTime_endTick s) (advance_on ((timeOn_of_tickSetting (noTime_endTick s).setting).trans h) m) (noTime_beforeLast m s)

/-- WK_OFS moves towards 0 by the same step in each tick (R347). -/
theorem slewOfs_add (m n : Nat) (o : Int) : slewOfs n (slewOfs m o) = slewOfs (m + n) o := by
  unfold slewOfs toward
  rw [Nat.add_mul]
  split_ifs <;> push_cast <;> omega

theorem Ticked.add {m n : Nat} {s t u : State} (h : Ticked m s t) (h' : Ticked n t u) : Ticked (m + n) s u :=
  ⟨h'.setting.trans h.setting, fun k => (h.ran k).add (h'.ran k), by rw [h'.wkOfs, h.wkOfs, slewOfs_add]⟩

theorem Ticked.zero (s : State) : Ticked 0 s s := by
  refine ⟨rfl, fun k => ⟨?_, rfl, rfl⟩, ?_⟩
  · rw [Nat.zero_mul, Nat.add_zero, Nat.mod_eq_of_lt (counter_lt _)]
  · unfold slewOfs toward
    split <;> omega

theorem tick_on {s : State} (h : timeOn s = true) (n : Nat) : Ticked n s (tick n s) := by
  cases n with
  | zero => exact .zero s
  | succ m =>
    have hb := beforeLast_on h m
    exact hb.add (advance_on ((timeOn_of_tickSetting hb.setting).trans h) 1)

/-- What `n` ticks leave where TIME is off (Table 12.4). -/
theorem tick_off {s : State} (h : timeOn s = false) (n : Nat) :
    tickSetting (tick n s) = tickSetting s ∧ (tick n s).time.wkOfs = s.time.wkOfs ∧
      ∀ k, reading ((tick n s).dom k) = reading (s.dom k) := by
  cases n with
  | zero => exact ⟨rfl, rfl, fun _ => rfl⟩
  | succ m =>
    have h0 := noTime_endTick s
    obtain ⟨hset, htime⟩ := advance_off ((timeOn_of_tickSetting h0.setting).trans h) m
    have h1 := noTime_beforeLast m s
    have hset1 := h1.setting.trans (hset.trans h0.setting)
    obtain ⟨hset', htime'⟩ := advance_off ((timeOn_of_tickSetting hset1).trans h) 1
    rw [tick_succ]
    refine ⟨hset'.trans hset1, ?_, fun k => ?_⟩
    · rw [htime', h1.wkOfs, htime, h0.wkOfs]
    · rw [dom_congr htime', h1.reading, dom_congr htime, h0.reading]

/-- The time that `n` ticks last (R413). -/
theorem tick_ticks (n : Nat) (s : State) :
    (s.clk.coast = false → (tick n s).ticks = s.ticks + n) ∧
    (s.clk.coast = true → s.ticks + 3 * n ≤ (tick n s).ticks ∧ (tick n s).ticks ≤ s.ticks + 5 * n) := by
  cases n with
  | zero => exact ⟨fun _ => rfl, fun _ => ⟨le_rfl, le_rfl⟩⟩
  | succ m =>
    have h0 := noTime_endTick s
    have h1 := noTime_beforeLast m s
    have hset : tickSetting (advance m (endTick s)) = tickSetting s := by
      refine Eq.trans ?_ h0.setting
      cases ht : timeOn (endTick s)
      · exact (advance_off ht m).1
      · exact (advance_on ht m).setting
    have hc0 : (endTick s).clk.coast = s.clk.coast := coast_of_tickSetting h0.setting
    have hc1 : (beforeLast m s).clk.coast = s.clk.coast := coast_of_tickSetting (h1.setting.trans hset)
    have hm := span_bounds m (endTick s)
    have hl := span_bounds 1 (beforeLast m s)
    rw [hc0] at hm
    rw [hc1] at hl
    have ht : (tick (m + 1) s).ticks = s.ticks + span m (endTick s) + span 1 (beforeLast m s) := by
      rw [tick_succ, advance_ticks, h1.ticks, advance_ticks, h0.ticks]
    rw [ht]
    refine ⟨fun hc => ?_, fun hc => ?_⟩
    · rw [hm.1 hc, hl.1 hc]; omega
    · have hm' := hm.2 hc
      have hl' := hl.2 hc
      omega

/-! ### TIME_TICK -/

theorem forcedChecks_none {b : Nat} {s : State} (h : ∀ w ∈ s.flt, w.force = 0) (n i : Nat) (c : Bool) (k : Nat) :
    forcedChecks b n i c k s = s := by
  have hw : (s.win b).force = 0 := by
    unfold State.win
    rw [List.getD_eq_getElem?_getD]
    cases hb : s.flt[b]? with
    | none => rfl
    | some w => exact h w (List.mem_of_getElem? hb)
  rw [forcedChecks, hw]
  exact if_neg (by simp)

theorem windowChecks_none {s : State} (h : ∀ w ∈ s.flt, w.force = 0) (a : Nat) : windowChecks a s = s := by
  simp [windowChecks, forcedChecks_none h]

theorem exec_timeTick_unforced {s : State} (h : ∀ w ∈ s.flt, w.force = 0) (n : Nat)
    (hs : tickSetting (tick n s) = tickSetting s) : exec (.timeTick n) s = .next (settle (tick n s)) := by
  have hf : forces (tick n s) = forces s := congrArg (fun v => v.2.2) hs
  show Host.Outcome.next (settle (windowChecks s.ticks (tick n s))) = _
  rw [windowChecks_none (noForce_of_forces hf h)]

/-! ### NS_WRAP (R338) -/

theorem wrapPend_nsWrapped (k j : Bool) (a : Nat) (s : State) (h : k = j ∨ (s.dom j).wrapPend = true) :
    ((nsWrapped k a s).dom j).wrapPend = true := by
  unfold nsWrapped
  extract_lets u
  rw [dom_congr (queueEvent_time _ _ _ _)]
  rcases h with rfl | h
  · rw [dom_modDom]
  · have hl : ((settleLost k s).dom j).wrapPend = (s.dom j).wrapPend := by
      unfold settleLost
      split
      · rw [dom_congr (raiseFault_time _ _ _ _ _ _)]
        cases k <;> cases j <;> rfl
      · rfl
    have hu : (u.dom j).wrapPend = true := by
      simp only [u]
      split
      · exact h
      · exact hl.trans h
    cases k <;> cases j
    · rfl
    · exact hu
    · exact hu
    · rfl

theorem wrapPend_wrapsAt {k j : Bool} (g : Nat → Nat) (l : List Nat) (s : State) (h : (s.dom j).wrapPend = true) :
    ((wrapsAt k g l s).dom j).wrapPend = true := by
  induction l generalizing s with
  | nil => exact h
  | cons i l ih => exact ih _ (wrapPend_nsWrapped k j _ s (.inr h))

/-- A counter that wraps leaves WRAP_PEND set. -/
theorem wrapPend_advanceDom {k : Bool} {n : Nat} {s : State} (h : 2 ^ 64 ≤ counter (s.dom k) + n * (s.dom k).inc.toNat) :
    ((advanceDom k n s).dom k).wrapPend = true := by
  rw [advanceDom_eq]
  have hv : 0 < ranTo n (s.dom k) / 2 ^ 64 := Nat.div_pos h (by decide)
  obtain ⟨m, hm⟩ := Nat.exists_eq_succ_of_ne_zero hv.ne'
  rw [hm, List.range_succ_eq_map]
  generalize List.map Nat.succ (List.range m) = l
  generalize setCounter k (ranTo n (s.dom k)) s = t
  exact wrapPend_wrapsAt _ l _ (wrapPend_nsWrapped k k _ t (.inl rfl))

theorem wrapPend_setCounter (k j : Bool) (v : Nat) (s : State) :
    ((setCounter k v s).dom j).wrapPend = (s.dom j).wrapPend := by
  cases k <;> cases j <;> rfl

theorem wrapPend_advanceDom_other {k j : Bool} (n : Nat) {s : State} (h : (s.dom j).wrapPend = true) :
    ((advanceDom k n s).dom j).wrapPend = true := by
  rw [advanceDom_eq]
  exact wrapPend_wrapsAt _ _ _ ((wrapPend_setCounter k j _ s).trans h)

theorem wrapPend_advance {k : Bool} {n : Nat} {s : State} (ht : timeOn s = true)
    (h : 2 ^ 64 ≤ counter (s.dom k) + n * (s.dom k).inc.toNat) : ((advance n s).dom k).wrapPend = true := by
  have hdoms : ((advanceDom true n (advanceDom false n s)).dom k).wrapPend = true := by
    cases k
    · exact wrapPend_advanceDom_other n (wrapPend_advanceDom h)
    · obtain ⟨-, -, -, hother⟩ := advanceDom_keeps false n s
      obtain ⟨hc, hi, -⟩ := counter_of_reading hother
      exact wrapPend_advanceDom (by rw [Bool.not_false] at hc hi; rw [hc, hi]; exact h)
  rw [advance_of_timeOn ht]
  obtain ⟨-, -, hdom⟩ := takeCode_runOn (slewOfs n) (runPulse n s) (s.ticks + span n s)
    (s.freeCtr + if s.clk.coast then 1 else 0) (advanceDom true n (advanceDom false n s))
  rw [hdom]
  exact hdoms

/-- The ticks to a wrap: one before them the counter has not wrapped, after them it has. -/
theorem ticksToWrap_spec {d : Domain} (h : 0 < d.inc.toNat) : ∃ m, ticksToWrap d = m + 1 ∧
    counter d + m * d.inc.toNat < 2 ^ 64 ∧ 2 ^ 64 ≤ counter d + (m + 1) * d.inc.toNat := by
  have hc := counter_lt d
  have hw : ticksToWrap d = (2 ^ 64 - counter d + d.inc.toNat - 1) / d.inc.toNat := by
    rw [ticksToWrap, wrapTicks, Nat.one_mul, counter]
  generalize counter d = c at hc hw ⊢
  generalize d.inc.toNat = i at h hw ⊢
  have hpos : 0 < ticksToWrap d := by rw [hw]; exact Nat.div_pos (by omega) h
  obtain ⟨m, hm⟩ := Nat.exists_eq_succ_of_ne_zero hpos.ne'
  have hlo : (m + 1) * i ≤ 2 ^ 64 - c + i - 1 := by
    rw [← Nat.succ_eq_add_one, ← hm, hw]; exact Nat.div_mul_le_self _ _
  have hhi : 2 ^ 64 - c + i - 1 < (m + 1) * i + i := by
    rw [← Nat.succ_eq_add_one, ← hm, hw]
    exact Nat.lt_div_mul_add h
  rw [Nat.add_mul, Nat.one_mul] at hlo hhi
  exact ⟨m, hm, by omega, by rw [Nat.add_mul, Nat.one_mul]; omega⟩

/-- Settles O31: `Ticked` says what ticks make of the counters, `tick_ticks` how long they last; the last of the ticks to a wrap
wraps the counter. -/
theorem ticksAdvanceBothCounters : Obligations.TicksAdvanceBothCounters := by
  refine ⟨fun n s ht hf => ?_, fun n s ht hf => ?_, fun k s ht hi => ?_⟩
  · have h := tick_on ht n
    refine ⟨_, exec_timeTick_unforced hf n h.setting, ?_, ?_, fun k => ?_, ?_⟩
    · rw [settle_ticks]; exact (tick_ticks n s).1
    · rw [settle_ticks]; exact (tick_ticks n s).2
    · rw [dom_settle]; exact h.ran k
    · rw [settle_time]; exact h.wkOfs
  · obtain ⟨hset, hofs, hread⟩ := tick_off ht n
    refine ⟨_, exec_timeTick_unforced hf n hset, ?_, ?_, fun k => ?_, ?_⟩
    · rw [settle_ticks]; exact (tick_ticks n s).1
    · rw [settle_ticks]; exact (tick_ticks n s).2
    · rw [dom_settle]
      obtain ⟨hc, hr⟩ := Prod.mk.inj (hread k)
      obtain ⟨hns, hfrac⟩ := Prod.mk.inj hc
      exact ⟨BitVec.eq_of_toNat_eq hns, BitVec.eq_of_toNat_eq hfrac, (Prod.mk.inj hr).2⟩
    · rw [settle_time]; exact hofs
  · obtain ⟨m, hm, hbefore, hafter⟩ := ticksToWrap_spec hi
    have hb := beforeLast_on ht m
    have hon := (timeOn_of_tickSetting hb.setting).trans ht
    obtain ⟨hc, hinc, hera⟩ := hb.ran k
    obtain ⟨hc', -, hera'⟩ := (advance_on hon 1).ran k
    rw [Nat.mod_eq_of_lt hbefore] at hc
    rw [Nat.add_mul, Nat.one_mul, ← Nat.add_assoc] at hafter
    refine ⟨settle (tick (ticksToWrap (s.dom k)) s), ?_, ?_⟩
    · exact congrArg (fun t => Host.Outcome.next (settle t)) (if_pos ht)
    · rw [dom_settle, hm, tick_succ]
      refine ⟨wrapPend_advance hon ?_, hera'.trans hera, ?_⟩
      · rw [Nat.one_mul, hc, hinc]; exact hafter
      · show counter _ < _
        rw [hc', Nat.one_mul, hc, hinc]
        omega

end Sys2Proof.Machine
end

section
/-! A parity sweep that finds LINK1's register bad while H1 is about to be turned off (R282, R373, R385). -/

namespace Sys2Proof.Machine

/-- Compatibility mode, with H1 still the leader of its link: the forcing rules of Table 01.7, applied at the end of each
evaluation, turn it off. -/
def compatStillLeading : State :=
  { State.reset with
    mode := { State.reset.mode with ifMode := .compat }
    h1 := { State.reset.h1 with cfgRole := .leader } }

/-- A sweep that finds LINK1's first reaction register bad: the end of the evaluation resets the window, PAR_ERR with it. -/
theorem paritySweep_compatStillLeading :
    ∃ t, exec (.paritySweep ⟨[(2, 0xFF20)], []⟩) compatStillLeading = .next t ∧ (t.win 2).parErr = false :=
  ⟨_, rfl, by decide +kernel⟩

/-- Refutes O38: the statement is about every state, one that the forcing rules are still to take hold of included. There LINK1,
not off when the sweep finds its register bad, is off at the end of the evaluation, and its window with PAR_ERR is lost. -/
theorem not_escalationSweepAndResets : ¬ Obligations.EscalationSweepAndResets := by
  intro ⟨_, _, hsweep, _⟩
  obtain ⟨-, hbad⟩ := hsweep compatStillLeading (by decide +kernel)
  obtain ⟨t, ht, -, herr⟩ := hbad 2 0xFF20 (by decide +kernel) (by decide +kernel) rfl
  obtain ⟨u, hu, hnot⟩ := paritySweep_compatStillLeading
  have htu : t = u := Host.Outcome.next.inj (ht.symm.trans hu)
  rw [htu] at herr
  exact Bool.noConfusion (hnot.symm.trans herr)

end Sys2Proof.Machine
end

section
/-! FAULT_INJECT, FAULT_ACK, FAULT_CONFIG and the clear bits of the fault windows (R334, R362, R365, R371, R375, R377, R379). -/

namespace Sys2Proof.Machine

/-! ### The words of the commands (Table 11.9) -/

/-- The word that names source `n` of block `b`. -/
def sourceWord (b n : Nat) : Word := put 16 b ||| put 0 n

section
variable {b n : Nat} (hb : b < 18) (hn : n < 32)
include hb hn

theorem bits_sourceWord_block : bits (sourceWord b n) 16 8 = b := by
  rw [sourceWord, bits_or, bits_put_same (by omega) (by decide), bits_put_below 8 (n := 5) hn (by decide), Nat.or_zero]

omit hb in
theorem bits_sourceWord_number : bits (sourceWord b n) 0 5 = n := by
  rw [sourceWord, bits_or, bits_put_above b (by decide), bits_put_same hn (by decide), Nat.zero_or]

theorem sourceWord_getLsbD_of_gap {i : Nat} (h : 5 ≤ i) (h' : i < 16 ∨ 21 ≤ i) : (sourceWord b n).getLsbD i = false := by
  have h5 : n.testBit i = false := Nat.testBit_lt_two_pow (Nat.lt_of_lt_of_le hn (Nat.pow_le_pow_right (show 0 < 2 by decide) h))
  rw [sourceWord, BitVec.getLsbD_or, put_getLsbD, put_getLsbD, Nat.sub_zero, h5, Bool.and_false, Bool.or_false]
  rcases h' with h16 | h21
  · rw [decide_eq_false (p := 16 ≤ i) (by omega), Bool.and_false, Bool.false_and]
  · have h21' : b.testBit (i - 16) = false :=
      Nat.testBit_lt_two_pow (Nat.lt_of_lt_of_le (show b < 2 ^ 5 from by omega) (Nat.pow_le_pow_right (by decide) (by omega)))
    rw [h21', Bool.and_false]

theorem within_sourceWord : within (sourceWord b n) 0x00FF001F = true := by
  rw [within_iff]
  intro i hi hw
  by_cases h5 : i < 5
  · exact (by decide : ∀ j : Fin 5, (0x00FF001F : Word).getLsbD j = true) ⟨i, h5⟩
  · by_cases h16 : 16 ≤ i ∧ i < 21
    · have h := (by decide : ∀ j : Fin 5, (0x00FF001F : Word).getLsbD (16 + j) = true) ⟨i - 16, by omega⟩
      rwa [show 16 + (i - 16) = i by omega] at h
    · rw [sourceWord_getLsbD_of_gap hb hn (by omega) (by omega)] at hw
      exact absurd hw Bool.false_ne_true

end

theorem bit_setField_same {w : Word} {lo : Nat} (hl : lo < 32) (v : Bool) : bit (setField w lo 1 v.toNat) lo = v := by
  rw [bit, setField_getLsbD, if_pos (by omega), Nat.sub_self, decide_eq_true hl, Bool.true_and]
  cases v <;> rfl

theorem within_mono {w m m' : Word} (h : within w m = true)
    (hm : ∀ i : Fin 32, m.getLsbD i = true → m'.getLsbD i = true) : within w m' = true :=
  within_iff.mpr (fun i hi hw => hm ⟨i, hi⟩ (within_iff.mp h i hi hw))

/-- A field of one bit that is clear already. -/
theorem setField_clear {w : Word} {lo : Nat} (h : w.getLsbD lo = false) : setField w lo 1 0 = w := by
  refine BitVec.eq_of_getLsbD_eq (fun i hi => ?_)
  rw [setField_getLsbD]
  split
  · have : i = lo := by omega
    rw [this, h, Nat.zero_testBit, Bool.and_false]
  · rfl

/-- The word of FAULT_INJECT for source `n` of block `b`, with its KIND and SET. -/
def injectWord (b n : Nat) (kind set : Bool) : Word := setField (setField (sourceWord b n) 12 1 set.toNat) 8 1 kind.toNat

/-- The fields of a word of FAULT_INJECT. -/
structure InjectFields (b n : Nat) (kind set : Bool) (w : Word) : Prop where
  valid : within w 0x00FF111F = true
  block : bits w 16 8 = b
  number : bits w 0 5 = n
  kind : bit w 8 = kind
  set : bit w 12 = set

theorem injectWord_fields {b n : Nat} (hb : b < 18) (hn : n < 32) (kind set : Bool) :
    InjectFields b n kind set (injectWord b n kind set) := by
  unfold injectWord
  refine ⟨?_, ?_, ?_, bit_setField_same (by decide) kind, ?_⟩
  · have hw' : within (sourceWord b n) 0x00FF111F = true := within_mono (within_sourceWord hb hn) (by decide)
    refine within_setField _ (within_setField _ hw' (fun i h1 h2 => ?_)) (fun i h1 h2 => ?_)
    · rw [show i = 12 by omega]; decide
    · rw [show i = 8 by omega]; decide
  · rw [bits_setField_above _ (by decide), bits_setField_above _ (by decide), bits_sourceWord_block hb hn]
  · rw [bits_setField_below _ (by decide), bits_setField_below _ (by decide), bits_sourceWord_number hn]
  · rw [bit, setField_getLsbD, if_neg (by omega), ← bit, bit_setField_same (by decide)]

/-! ### FAULT_INJECT (R375, R377, R379) -/

section
variable {b n : Nat} {set : Bool} {w : Word} {s : State} (c : CmdCtx) (hb : b < 18)
include hb

theorem opFaultInject_noInjection (h : InjectFields b n false set w) (hm : injMask b &&& putb n true = 0) :
    opFaultInject c [w] s = endWith stBadParam s := by
  have hb' : ¬ 0x11 < b := by omega
  simp only [opFaultInject, List.getD_cons_zero, h.valid, h.block, h.number, h.kind, decide_eq_false hb', hm, beq_self_eq_true,
    Bool.not_true, Bool.or_false, Bool.false_eq_true, if_false, if_true]

theorem opFaultInject_injection (h : InjectFields b n false set w) (hm : injMask b &&& putb n true ≠ 0) (hi : injOff s = false)
    (ho : blockOff b s = false) : opFaultInject c [w] s = endWith stOk (s.modWin b (fun x => { x with
      inject := if set then x.inject ||| putb n true else x.inject &&& ~~~ putb n true })) := by
  have hb' : ¬ 0x11 < b := by omega
  simp only [opFaultInject, List.getD_cons_zero, h.valid, h.block, h.number, h.kind, decide_eq_false hb', beq_false_of_ne hm,
    hi, ho, h.set,
    Bool.not_true, Bool.or_false, Bool.false_eq_true, if_false]

theorem opFaultInject_noSession (h : InjectFields b n true set w) (hm : forceMask b &&& putb n true ≠ 0)
    (hs : inSession c s = false) : opFaultInject c [w] s = endWith stDenied s := by
  have hb' : ¬ 0x11 < b := by omega
  simp only [opFaultInject, List.getD_cons_zero, h.valid, h.block, h.number, h.kind, decide_eq_false hb', beq_false_of_ne hm, hs,
    Bool.not_true, Bool.not_false, Bool.or_false, Bool.false_eq_true, if_false, if_true]

theorem opFaultInject_force (h : InjectFields b n true set w) (hm : forceMask b &&& putb n true ≠ 0)
    (hs : inSession c s = true) (hi : injOff s = false) (ho : blockOff b s = false) :
    opFaultInject c [w] s = endWith stOk (s.modWin b (fun x => { x with
      force := if set then x.force ||| putb n true else x.force &&& ~~~ putb n true })) := by
  have hb' : ¬ 0x11 < b := by omega
  simp only [opFaultInject, List.getD_cons_zero, h.valid, h.block, h.number, h.kind, decide_eq_false hb', beq_false_of_ne hm,
    hs, hi, ho, h.set,
    Bool.not_true, Bool.or_false, Bool.false_eq_true, if_false, if_true]

end

/-! ### The clear bits (R334, R362) -/

theorem win_modWin_same {b : Nat} {s : State} (hb : b < s.flt.length) (f : FltWin → FltWin) : (s.modWin b f).win b = f (s.win b) :=
  getD_modAt_same s.flt b f {} hb

theorem status_modWin_of {b k : Nat} {f : FltWin → FltWin} (hf : ∀ w, (f w).status = w.status) (s : State) :
    ((s.modWin b f).win k).status = (s.win k).status := by
  rcases getD_modAt ({} : FltWin) s.flt b f k with h | h
  · exact congrArg FltWin.status h
  · exact (congrArg FltWin.status h).trans (hf _)

theorem status_clearSources {b : Nat} {s : State} (hb : b < s.flt.length) (k : Word) :
    ((clearSources b k s).win b).status = (s.win b).status &&&
      ~~~ (k &&& ~~~ (s.win b).force &&& ~~~ ((s.win b).injNow ||| (s.win b).realNow)) := by
  unfold clearSources
  extract_lets f m s1 tiles s2
  have h2 : (s2.win b).status = (s.win b).status &&& ~~~ m := congrArg FltWin.status (win_modWin_same hb _)
  split
  · exact (status_modWin_of (f := fun w => { w with escRun := false, escDone := false }) (fun _ => rfl) s2).trans h2
  · exact h2

theorem recordFirst_none {b : Nat} {s : State} (h : (s.win b).status &&& ~~~ (s.base.win b).status = 0) :
    recordFirst b s = s.modWin b (fun x => { x with first := x.first &&& ~~~ putb 31 true }) := by
  have hnone : (List.range 32).find? (fun n => (s.win b).status.getLsbD n && !(s.base.win b).status.getLsbD n) = none := by
    rw [List.find?_eq_none]
    intro n hn
    have hbit := congrArg (·.getLsbD n) h
    simpa [List.mem_range.mp hn] using hbit
  refine congrArg (fun l => { s with flt := l }) (modAt_congr ({} : FltWin) ?_)
  show (match (List.range 32).find? (fun n => (s.win b).status.getLsbD n && !(s.base.win b).status.getLsbD n) with
    | none => _ | some n => _) = _
  rw [hnone]

theorem exec_fltStatusClear {b : Fin 18} {src : RegSrc} {s : State} (hr : regReady b.val src s = true) (k : Word) :
    exec (.fltStatusClear src b k) s = .next (settle { clearSources b.val k s with lastStatus := stOk }) :=
  done_writeRow hr (fun s => faultWrite (srcSession src s) b 0xFF00 k s)

theorem exec_clrFirst {b : Fin 18} {src : RegSrc} {s : State} (hr : regReady b.val src s = true) :
    exec (.clrFirst src b) s = .next (settle { recordFirst b.val s with lastStatus := stOk }) :=
  done_writeRow hr (fun s => faultWrite (srcSession src s) b 0xFF88 2 s)

/-! ### FAULT_CONFIG (R365, R371) -/

theorem byteOf_put (r : BitVec 8) : byteOf (put 0 r.toNat) 0 = r := by
  rw [byteOf, bits_put_same r.isLt (by decide), BitVec.ofNat_toNat, BitVec.setWidth_eq]

theorem within_byte (r : BitVec 8) : within (put 0 r.toNat) 0xFF = true := by
  rw [within_iff]
  intro i hi h
  rw [put_getLsbD, Nat.sub_zero] at h
  by_cases h8 : i < 8
  · exact (by decide : ∀ j : Fin 8, (0xFF : Word).getLsbD j = true) ⟨i, h8⟩
  · rw [Nat.testBit_lt_two_pow (Nat.lt_of_lt_of_le r.isLt (Nat.pow_le_pow_right (show 0 < 2 by decide) (Nat.le_of_not_lt h8))),
      Bool.and_false] at h
    exact absurd h Bool.false_ne_true

section
variable {b n : Nat} {r : BitVec 8} {s : State} (c : CmdCtx) (hb : b < 18) (hn : n < 32)
include hb hn

theorem opFaultConfig_reactRefused (hr : reactOkFor b n r = false) :
    opFaultConfig c [sourceWord b n, put 0 r.toNat] s = endWith stBadParam s := by
  have hb' : ¬ 0x11 < b := by omega
  have hw : within (sourceWord b n) 0x00FF011F = true := within_mono (within_sourceWord hb hn) (by decide)
  have hk : bit (sourceWord b n) 8 = false := sourceWord_getLsbD_of_gap hb hn (by decide) (by decide)
  simp only [opFaultConfig, List.getD_cons_zero, List.getD_cons_succ, hw, hk, bits_sourceWord_block hb hn,
    bits_sourceWord_number hn, decide_eq_false hb', within_byte, byteOf_put, hr,
    Bool.not_true, Bool.not_false, Bool.or_false, Bool.or_true, Bool.false_eq_true, if_false, if_true]

theorem opFaultConfig_react (hr : reactOkFor b n r = true) (ho : blockOff b s = false) :
    opFaultConfig c [sourceWord b n, put 0 r.toNat] s =
      endWith stOk (setReact b n r (reactAccess b (0xFF20 + 4 * (n / 4)) s)) := by
  have hb' : ¬ 0x11 < b := by omega
  have hw : within (sourceWord b n) 0x00FF011F = true := within_mono (within_sourceWord hb hn) (by decide)
  have hk : bit (sourceWord b n) 8 = false := sourceWord_getLsbD_of_gap hb hn (by decide) (by decide)
  simp only [opFaultConfig, List.getD_cons_zero, List.getD_cons_succ, hw, hk, bits_sourceWord_block hb hn,
    bits_sourceWord_number hn, decide_eq_false hb', within_byte, byteOf_put, hr, ho,
    Bool.not_true, Bool.or_false, Bool.false_eq_true, if_false]

end

/-- The word that names the escalation of ARRAY. -/
def escWord : Word := put 16 8 ||| putb 8 true

theorem opFaultConfig_esc {v : Word} {s : State} (c : CmdCtx) (hv : within v 0xFF01FFFF = true) (ho : blockOff 8 s = false) :
    opFaultConfig c [escWord, v] s =
      if escOk v then endWith stOk (setEsc v (reactAccess 8 0xFF1C s)) else endWith stBadParam s := by
  have hw : within escWord 0x00FF011F = true := by decide
  have hk : bit escWord 8 = true := by decide
  have hb : bits escWord 16 8 = 8 := by decide
  have hn : bits escWord 0 5 = 0 := by decide
  cases he : escOk v <;>
    simp only [opFaultConfig, List.getD_cons_zero, List.getD_cons_succ, hw, hk, hb, hn, hv, ho, he, ne_eq, not_true_eq_false,
      Nat.reduceLT, decide_false, Bool.not_true, Bool.not_false, Bool.or_false, Bool.false_eq_true, or_false, or_true, if_false, if_true]

/-- The four rows of FAULT_INJECT put their KIND and SET into the command's word. -/
theorem exec_faultInject (c : CmdCtx) (b n : Nat) (s : State) :
    exec (.faultInjectArm c [sourceWord b n]) s = .next (settle (submit opFaultInject 0x80 c [injectWord b n false true] s)) ∧
    exec (.faultInjectDisarm c [sourceWord b n]) s = .next (settle (submit opFaultInject 0x80 c [injectWord b n false false] s)) ∧
    exec (.faultForceSet c [sourceWord b n]) s = .next (settle (submit opFaultInject 0x80 c [injectWord b n true true] s)) ∧
    exec (.faultForceClear c [sourceWord b n]) s = .next (settle (submit opFaultInject 0x80 c [injectWord b n true false] s)) :=
  ⟨rfl, rfl, rfl, rfl⟩

theorem exec_faultConfigReact (c : CmdCtx) (b : Fin 18) (n : Fin 32) (v : Word) (s : State) :
    exec (.faultConfigReact c [sourceWord b n, v]) s = .next (settle (submit opFaultConfig 0x82 c [sourceWord b n, v] s)) := by
  show Host.Outcome.next (settle (submit opFaultConfig 0x82 c [setField (sourceWord b n) 8 1 0, v] s)) = _
  rw [setField_clear (sourceWord_getLsbD_of_gap b.isLt n.isLt (by decide) (by decide))]

theorem exec_faultConfigEsc (c : CmdCtx) (v : Word) (s : State) :
    exec (.faultConfigEsc c [escWord, v]) s = .next (settle (submit opFaultConfig 0x82 c [escWord, v] s)) := by
  have he : setField escWord 8 1 1 = escWord := by decide
  show Host.Outcome.next (settle (submit opFaultConfig 0x82 c [setField escWord 8 1 1, v] s)) = _
  rw [he]

/-- A slow-path command that is refused, with the state in which it was accepted. -/
theorem slow_refused {op : OpFn} {code : Nat} {c : CmdCtx} {ws : List Word} {s : State} {st : BitVec 8}
    (h : slowReady code c ws s = true)
    (e : op (slowCtx c.keepEcc (slowEntry code c ws)) ws (accepted code c ws s) = endWith st (accepted code c ws s)) :
    settle (submit op code c ws s) = settle (completed code c st [] (accepted code c ws s)) :=
  congrArg settle (submit_slow_fin op code c ws s _ st [] h e)

theorem blockOff_accepted (b code : Nat) (c : CmdCtx) (ws : List Word) (s : State) :
    blockOff b (accepted code c ws s) = blockOff b s := by
  unfold accepted reply noteSession
  dsimp only
  split <;> split <;> rfl

theorem faultInject_row (c : CmdCtx) (b : Fin 18) (n : Fin 32) (s : State) (h : fastReady 0x80 c [sourceWord b n] s = true) :
    let w := sourceWord b n
    let m := putb n true
    (injMask b &&& m ≠ 0 → injOff s = false → blockOff b s = false →
      exec (.faultInjectArm c [w]) s = .next (answered 0x80 c [] (s.modWin b (fun x => { x with inject := x.inject ||| m }))) ∧
      exec (.faultInjectDisarm c [w]) s =
        .next (answered 0x80 c [] (s.modWin b (fun x => { x with inject := x.inject &&& ~~~ m })))) ∧
    (injMask b &&& m = 0 → exec (.faultInjectArm c [w]) s = .next (settle (reply c 0x80 stBadParam [] s))) ∧
    (forceMask b &&& m ≠ 0 → inSession c s = true → injOff s = false → blockOff b s = false →
      exec (.faultForceSet c [w]) s = .next (answered 0x80 c [] (s.modWin b (fun x => { x with force := x.force ||| m }))) ∧
      exec (.faultForceClear c [w]) s =
        .next (answered 0x80 c [] (s.modWin b (fun x => { x with force := x.force &&& ~~~ m })))) ∧
    (forceMask b &&& m ≠ 0 → inSession c s = false →
      exec (.faultForceSet c [w]) s = .next (settle (reply c 0x80 stDenied [] s))) := by
  have hf := injectWord_fields b.isLt n.isLt
  have hr (kind set : Bool) : fastReady 0x80 c [injectWord b n kind set] s = true := h
  obtain ⟨harm, hdisarm, hset, hclear⟩ := exec_faultInject c b n s
  refine ⟨fun hm hi ho => ⟨?_, ?_⟩, fun hm => ?_, fun hm hs hi ho => ⟨?_, ?_⟩, fun hm hs => ?_⟩
  · rw [harm, fast_answered (hr false true) (opFaultInject_injection c b.isLt (hf false true) hm hi ho)]; rfl
  · rw [hdisarm, fast_answered (hr false false) (opFaultInject_injection c b.isLt (hf false false) hm hi ho)]; rfl
  · rw [harm, fast_refused (hr false true) (opFaultInject_noInjection c b.isLt (hf false true) hm)]
  · rw [hset, fast_answered (hr true true) (opFaultInject_force c b.isLt (hf true true) hm hs hi ho)]; rfl
  · rw [hclear, fast_answered (hr true false) (opFaultInject_force c b.isLt (hf true false) hm hs hi ho)]; rfl
  · rw [hset, fast_refused (hr true true) (opFaultInject_noSession c b.isLt (hf true true) hm hs)]

/-- Settles O36: the words of each command name what its execution tests. -/
theorem faultCommandsAct : Obligations.FaultCommandsAct := by
  intro c b n s w m
  refine ⟨faultInject_row c b n s, fun k ho hl => ⟨status_clearSources (by omega) k, fun h => ?_, fun src hr =>
    ⟨exec_fltStatusClear hr k, exec_clrFirst hr, fun h0 => ?_⟩⟩, fun r h ho => ⟨fun hr => ?_, fun hr => ?_⟩, ?_⟩
  · exact congrArg Host.Outcome.next (fast_replied h (opFaultAck_on c b k ho))
  · rw [exec_clrFirst hr, recordFirst_none h0]
  · have ho' := (blockOff_accepted b 0x82 c [w, put 0 r.toNat] s).trans ho
    exact (exec_faultConfigReact c b n _ s).trans
      (congrArg Host.Outcome.next (slow_concluded h (opFaultConfig_react _ b.isLt n.isLt hr ho')))
  · exact (exec_faultConfigReact c b n _ s).trans
      (congrArg Host.Outcome.next (slow_refused h (opFaultConfig_reactRefused _ b.isLt n.isLt hr)))
  · intro v e h ho hv
    have hop := opFaultConfig_esc (slowCtx c.keepEcc (slowEntry 0x82 c [e, v])) hv ((blockOff_accepted 8 0x82 c [e, v] s).trans ho)
    refine ⟨fun hr => ?_, fun hr => ?_⟩
    · rw [if_pos hr] at hop
      exact (exec_faultConfigEsc c v s).trans (congrArg Host.Outcome.next (slow_concluded h hop))
    · rw [if_neg (by rw [hr]; decide)] at hop
      exact (exec_faultConfigEsc c v s).trans (congrArg Host.Outcome.next (slow_refused h hop))

end Sys2Proof.Machine
end

section
/-! DVFS_SET and the sequence to an operating point (R420 to R422). -/

namespace Sys2Proof.Machine

section
variable {op : Fin 4} {s : State} (c : CmdCtx)

theorem operatingPointWord (op : Fin 4) : within (put 0 op.val) 3 = true ∧ bits (put 0 op.val) 0 2 = op.val :=
  (by decide : ∀ op : Fin 4, within (put 0 op.val) 3 = true ∧ bits (put 0 op.val) 0 2 = op.val) op

theorem opDvfsSet_refused (h : loadFits op.val s = false) : opDvfsSet c [put 0 op.val] s = endWith stBadState s := by
  obtain ⟨hw, hb⟩ := operatingPointWord op
  simp only [opDvfsSet, List.getD_cons_zero, hw, hb, h, Bool.not_true, Bool.not_false, Bool.false_eq_true, if_false, if_true]

theorem opDvfsSet_inForce (h : loadFits op.val s = true) (ho : s.clk.opAct.toNat = op.val) :
    opDvfsSet c [put 0 op.val] s = endWith stOk { s with clk := { s.clk with opTgt := BitVec.ofNat 2 op.val } } := by
  obtain ⟨hw, hb⟩ := operatingPointWord op
  simp only [opDvfsSet, List.getD_cons_zero, hw, hb, h, ho, Bool.not_true, Bool.false_eq_true, if_false, if_true]
  rfl

theorem opDvfsSet_starts (h : loadFits op.val s = true) (ho : s.clk.opAct.toNat ≠ op.val) :
    opDvfsSet c [put 0 op.val] s = ({ s with clk := { s.clk with
      opTgt := BitVec.ofNat 2 op.val, dvfsBusy := true, dvfsStep := if op.val < s.clk.opAct.toNat then 1 else 3 } }, .started) := by
  obtain ⟨hw, hb⟩ := operatingPointWord op
  simp only [opDvfsSet, List.getD_cons_zero, hw, hb, h, Ne.symm ho, Bool.not_true, Bool.false_eq_true, if_false]
  rfl

end

theorem accepted_clk (code : Nat) (c : CmdCtx) (ws : List Word) (s : State) : (accepted code c ws s).clk = s.clk :=
  accepted_keeps State.clk (fun _ _ _ _ _ _ => rfl) code c ws s

theorem accepted_loadFits (op code : Nat) (c : CmdCtx) (ws : List Word) (s : State) :
    loadFits op (accepted code c ws s) = loadFits op s := accepted_keeps (loadFits op) (fun _ _ _ _ _ _ => rfl) code c ws s

/-- A slow-path command whose end is awaited. -/
theorem slow_begun {op : OpFn} {code : Nat} {c : CmdCtx} {ws : List Word} {s t : State} (h : slowReady code c ws s = true)
    (e : op (slowCtx c.keepEcc (slowEntry code c ws)) ws (accepted code c ws s) = (t, .started)) :
    settle (submit op code c ws s) =
      settle (markSlow c.port c.tag (fun y => { y with started := true, startedAt := s.ticks }) t) :=
  congrArg settle (submit_slow_started op code c ws s t h e)

theorem dvfsSet_row (c : CmdCtx) (op : Fin 4) (s : State) (h : slowReady 0x61 c [put 0 op.val] s = true) :
    let s1 := accepted 0x61 c [put 0 op.val] s
    (loadFits op.val s = false → exec (.dvfsSet c [put 0 op.val]) s = .next (settle (completed 0x61 c stBadState [] s1))) ∧
    (loadFits op.val s = true →
      (s.clk.opAct.toNat = op.val → exec (.dvfsSet c [put 0 op.val]) s = .next (concluded 0x61 c []
        { s1 with clk := { s1.clk with opTgt := BitVec.ofNat 2 op.val } })) ∧
      (s.clk.opAct.toNat ≠ op.val → exec (.dvfsSet c [put 0 op.val]) s = .next (settle (markSlow c.port c.tag
        (fun y => { y with started := true, startedAt := s.ticks })
        { s1 with clk := { s1.clk with
          opTgt := BitVec.ofNat 2 op.val, dvfsBusy := true, dvfsStep := if op.val < s1.clk.opAct.toNat then 1 else 3 } })))) := by
  intro s1
  have hclk : s1.clk = s.clk := accepted_clk 0x61 c [put 0 op.val] s
  have hl : loadFits op.val s1 = loadFits op.val s := accepted_loadFits op.val 0x61 c [put 0 op.val] s
  refine ⟨fun hf => ?_, fun hf => ⟨fun ho => ?_, fun ho => ?_⟩⟩
  · exact congrArg Host.Outcome.next (slow_refused h (opDvfsSet_refused _ (hl.trans hf)))
  · exact congrArg Host.Outcome.next (slow_concluded h (opDvfsSet_inForce _ (hl.trans hf) (hclk ▸ ho)))
  · exact congrArg Host.Outcome.next (slow_begun h (opDvfsSet_starts _ (hl.trans hf) (hclk ▸ ho)))

/-- The steps of the sequence, outside a coast. -/
theorem dvfsSteps {s : State} (hc : s.clk.coast = false) :
    (s.clk.dvfsStep = 1 → exec .dvfsRampEnd s = .next (settle { s with
      clk := { s.clk with vpix := vpixOf s.clk.opTgt.toNat, dvfsStep := 2, settleFrom := s.ticks } })) ∧
    (s.clk.dvfsStep = 4 → exec .dvfsRampEnd s = .next (settle (finishStarted 0x61 stOk [] { s with
      clk := { s.clk with vpix := vpixOf s.clk.opAct.toNat, dvfsStep := 0, dvfsBusy := false } }))) ∧
    (s.clk.dvfsStep = 5 → exec .dvfsRampEnd s = .next (settle (finishStarted 0x61 stTimeout [] { s with
      clk := { s.clk with vpix := vpixOf s.clk.opAct.toNat, dvfsStep := 0, dvfsBusy := false } }))) ∧
    (s.clk.dvfsStep = 2 → exec .dvfsSettled s = .next (settle { s with clk := { s.clk with dvfsStep := 3 } })) := by
  refine ⟨fun h => ?_, fun h => ?_, fun h => ?_, fun h => ?_⟩
  · show done _ = _
    rw [hc, h]; rfl
  · show done _ = _
    rw [hc, h]; rfl
  · show done _ = _
    rw [hc, h]; rfl
  · show done _ = _
    rw [hc, h]; rfl

theorem exec_dvfsSettleTimeout {s : State} (hc : s.clk.coast = false) (h2 : s.clk.dvfsStep = 2) :
    exec .dvfsSettleTimeout s = .next (settle (if settleDue s then
      raiseFault 14 7 0 true false { s with clk := { s.clk with dvfsStep := 5 } } else s)) := by
  show done _ = _
  rw [hc, h2]
  rfl

/-- Settles O43: the sequence starts with its step of the direction; each step follows the one before it. -/
theorem operatingPointsAreChangedInSteps : Obligations.OperatingPointsAreChangedInSteps := by
  refine ⟨fun c op s h => ?_, fun s hc => ?_⟩
  · intro s1
    have hclk : s1.clk = s.clk := accepted_clk 0x61 c [put 0 op.val] s
    obtain ⟨hrefused, htaken⟩ := dvfsSet_row c op s h
    refine ⟨hrefused, fun hf => ⟨(htaken hf).1, fun hup => ?_, fun hdown => ?_⟩⟩
    · rw [(htaken hf).2 (by omega), if_pos (hclk ▸ hup)]
    · rw [(htaken hf).2 (by omega), if_neg (hclk ▸ Nat.not_lt.mpr hdown.le)]
  · obtain ⟨h1, h4, h5, h2⟩ := dvfsSteps hc
    refine ⟨h1, h4, h5, fun hs => ⟨h2 hs, fun hd => ?_, fun hd => ?_⟩⟩
    · rw [exec_dvfsSettleTimeout hc hs, if_pos (show settleDue s = true from decide_eq_true hd)]
    · rw [exec_dvfsSettleTimeout hc hs, if_neg (by rw [settleDue, decide_eq_true_eq]; omega)]

end Sys2Proof.Machine
end

section
/-! Clock trips, coasts, relocks and loop timing (R409 to R415). -/

namespace Sys2Proof.Machine

/-! ### What a change of a link leaves alone -/

/-- The state but for the ports, their queues, the command engine, the fault windows, the marks of the clock and the staged copies
of a session. -/
def offLinks (s : State) : State :=
  { s with
    h0 := {}, h1 := {}, spi := {}, cmd := {}, flt := [], base := {}
    bstay := { s.bstay with stageCeil := [], stageZlim := [] } }

theorem offLinks_modPort (p : HPort) (f : Port → Port) (s : State) : offLinks (s.modPort p f) = offLinks s := by cases p <;> rfl

theorem offLinks_hitIf (c : Bool) (b o n : Nat) (s : State) : offLinks (s.hitIf c b o n) = offLinks s := by cases c <;> rfl

theorem offLinks_queueEvent (c v : Nat) (ws : List Word) (s : State) : offLinks (queueEvent c v ws s) = offLinks s := by
  unfold queueEvent pushEvent
  split
  · rw [offLinks_hitIf]; rfl
  · rfl

theorem offLinks_endSession (c : Nat) (s : State) : offLinks (endSession c s) = offLinks s := by
  unfold endSession
  cases s.cmd.sessOpen
  · rfl
  · exact offLinks_queueEvent _ _ _ _

theorem offLinks_quit (p : HPort) (s : State) : offLinks (quit p s) = offLinks s := by
  unfold quit leaveActive
  split
  · extract_lets s1
    have h1 : offLinks s1 = offLinks s := offLinks_modPort _ _ _
    split
    · rw [offLinks_endSession, h1]
    · exact h1
  · rfl

theorem offLinks_enterOff (p : HPort) (s : State) : offLinks (enterOff p s) = offLinks s := by
  unfold enterOff
  rw [offLinks_modPort]
  exact offLinks_quit p s

theorem offLinks_enterDetect (p : HPort) (s : State) : offLinks (enterDetect p s) = offLinks s := by
  have h (q : Bool) : offLinks (detectEntry q p s) = offLinks s := by
    unfold detectEntry
    rw [offLinks_modPort, offLinks_hitIf, offLinks_quit]
  unfold enterDetect
  extract_lets quiet s1
  split
  · exact (offLinks_modPort _ _ _).trans (h quiet)
  · exact h quiet

theorem offLinks_retrainNow (p : HPort) (s : State) : offLinks (retrainNow p s) = offLinks s := by
  unfold retrainNow
  split
  · exact offLinks_modPort _ _ _
  · exact offLinks_modPort _ _ _
  · exact offLinks_modPort _ _ _
  · exact offLinks_enterDetect p s

theorem offLinks_changeRole (q : PRole) (s : State) : offLinks (changeRole q s) = offLinks s := by
  unfold changeRole
  extract_lets r s1
  have h1 : offLinks s1 = offLinks s := offLinks_modPort _ _ _
  split
  · exact (offLinks_enterOff _ _).trans h1
  · exact (offLinks_enterDetect _ _).trans h1

theorem offLinks_afterReplies (p : CmdPort) (s : State) : offLinks (afterReplies p s) = offLinks s := by
  unfold afterReplies
  split
  · rfl
  · extract_lets s1
    have h1 : offLinks s1 = offLinks s := by
      cases p with
      | h0 =>
        simp only [s1]
        split
        · exact offLinks_retrainNow _ _
        · rfl
      | h1 =>
        simp only [s1]
        split
        · exact offLinks_retrainNow _ _
        · rfl
      | spi => rfl
    split
    · split
      · rw [offLinks_changeRole, h1]
      · exact h1
    · exact h1

theorem clk_of_offLinks {s t : State} (h : offLinks t = offLinks s) : t.clk = s.clk := by
  have hc : (offLinks t).clk = (offLinks s).clk := by rw [h]
  exact hc

/-! ### Trips (R409, R410, R414) -/

theorem raiseFault_clk (b n i : Nat) (x y : Bool) (s : State) : (raiseFault b n i x y s).clk = s.clk :=
  keeps_of_untouched (fun u => u.clk) (fun _ => rfl) (untouched_raiseFault b n i x y s)

theorem offLinks_pushLink (a b : Bool) (c v : Nat) (w : Word) (s : State) : offLinks (pushLink a b c v w s) = offLinks s := by
  unfold pushLink
  extract_lets x y e n
  split
  · exact offLinks_hitIf (n != 0) 0 0x10 0 s
  · rfl

theorem linkDown_clk (p : HPort) (s : State) : (linkDown p s).clk = s.clk := by
  unfold linkDown
  extract_lets s1 s2 s3
  have h2 : offLinks s2 = offLinks s1 := offLinks_pushLink _ _ _ _ _ _
  have h3 : offLinks s3 = offLinks s2 := (offLinks_modPort _ _ _).trans (offLinks_quit p s2)
  have h4 : offLinks (enterStep p (s3.hport p).rate s3) = offLinks s3 := offLinks_modPort _ _ _
  have h : (afterReplies (cmdPort p) (enterStep p (s3.hport p).rate s3)).clk = s1.clk :=
    clk_of_offLinks (((offLinks_afterReplies _ _).trans h4).trans (h3.trans h2))
  exact h.trans (raiseFault_clk _ _ _ _ _ _)

/-- The report of a trip that no injected or forced error precedes. -/
theorem ownCheck_found {b n : Nat} (i : Nat) {s : State} (h : fails b n false s = false) :
    ownCheck b n i s = raiseFault b n i true false s := by
  have hf : (s.win b).force.getLsbD n = false := by
    simp only [fails, Bool.false_or, Bool.or_eq_false_iff] at h
    exact h.2
  rw [ownCheck, if_neg (by rw [hf]; decide), check_found i h]

/-- PLLs that coast towards FBOSC (R410, R411). -/
def toFbosc (s : State) : Clk :=
  { s.clk with
    coast := true, lockA := false, lockB := false, failsA := 0, failsB := 0
    coastFrom := if s.clk.coast then s.clk.coastFrom else s.ticks
    coastCnt := if s.clk.coast then s.clk.coastCnt else satInc 16 s.clk.coastCnt
    toFb := true, relocking := s.clk.fbReady && s.clk.fbGood, waitFb := !(s.clk.fbReady && s.clk.fbGood) }

theorem coastToFb_clk (s : State) : (coastToFb s).clk = toFbosc s := by
  unfold coastToFb startCoast
  cases s.clk.coast <;> rfl

theorem refTrip_clk {s : State} (h0 : s.clk.sel = 0) (hf : s.clk.onFb = false) :
    (refTrip s).clk = { toFbosc s with refOk := false } := by
  have hdown (l : List HPort) (u : State) : (l.foldl (fun s p =>
      if (s.hport p).state == .active && !(s.hport p).rx0.locked then linkDown p s else s) u).clk = u.clk := by
    induction l generalizing u with
    | nil => rfl
    | cons p l ih =>
      rw [List.foldl_cons, ih]
      split
      · exact linkDown_clk p u
      · rfl
  have hsel : selTripped 0 (s.modClk (fun c => { c with refOk := false })) = coastToFb (s.modClk (fun c => { c with refOk := false })) := by
    refine if_pos ?_
    show (s.clk.sel.toNat = 0 && !(s.clk.onFb && _)) = true
    rw [h0, hf]; rfl
  unfold refTrip
  rw [hdown, hsel, coastToFb_clk]
  rfl

section
variable {s : State}

theorem exec_clkMonitorTrip {c : MonClk} (hm : monitorOn c s = true) : exec (.clkMonitorTrip c) s = .next (settle (trip c s)) := by
  show done _ = _
  rw [if_pos hm]
  rfl

theorem exec_clkMonitorGood {c : MonClk} (hm : monitorOn c s = true) :
    exec (.clkMonitorGood c) s = .next (settle (clockGood c (markClock c false s))) := by
  show done _ = _
  rw [if_pos hm]
  rfl

/-- A reported trip, before its effect: FAILED and nothing else of CLK changes. -/
theorem markFailed_raiseFault_clk (n i : Nat) (s : State) : (markFailed n true (raiseFault 14 n i true false s)).clk =
    { s.clk with failed := s.clk.failed ||| BitVec.ofNat 7 (1 <<< n) } := by
  rw [markFailed, State.modClk, raiseFault_clk]
  rfl

theorem trip_refosc (h : fails 14 0 false s = false) :
    trip .refosc s = refTrip (markFailed 0 true (raiseFault 14 0 0 true false s)) := by
  show refTrip (markFailed 0 true (ownCheck 14 0 0 s)) = _
  rw [ownCheck_found 0 h]

theorem trip_refosc_clk (h : fails 14 0 false s = false) (h0 : s.clk.sel = 0) (hf : s.clk.onFb = false) :
    (trip .refosc s).clk = { toFbosc s with refOk := false, failed := s.clk.failed ||| 1 } := by
  have hc := markFailed_raiseFault_clk 0 0 s
  have ht : (raiseFault 14 0 0 true false s).ticks = s.ticks :=
    keeps_of_untouched (fun u => u.ticks) (fun _ => rfl) (untouched_raiseFault 14 0 0 true false s)
  replace ht : (markFailed 0 true (raiseFault 14 0 0 true false s)).ticks = s.ticks := ht
  rw [trip_refosc h]
  generalize markFailed 0 true (raiseFault 14 0 0 true false s) = u at hc ht
  rw [refTrip_clk (by rw [hc]; exact h0) (by rw [hc]; exact hf), toFbosc, hc, ht]
  rfl

theorem trip_lposc (h : fails 14 6 false s = false) : trip .lposc s = markFailed 6 true (raiseFault 14 6 0 true false s) := by
  show markFailed 6 true (ownCheck 14 6 0 s) = _
  rw [ownCheck_found 0 h]

/-! ### The light goes (R414, R415) -/

theorem settle_dark (h : s.bstay.beam = .dark) :
    (settle s).bstay.beam = .dark ∧ ∀ x ∈ (settle s).arr.tiles, x.swClosed = false := by
  have hb := (noMoreLight_settle s).dark h
  obtain ⟨-, -, -, ⟨htiles, -, -⟩, -, -⟩ := settle_safe s
  exact ⟨hb, fun x hx => (htiles x hx (.inl hb)).1⟩

/-- A cause that every tile has leaves no light. -/
theorem settle_opens (h : ∀ x, tileCause (settle s) x = true) :
    (settle s).arr.live = [] ∧ (settle s).arr.next = [] ∧ ∀ x ∈ (settle s).arr.tiles, x.swClosed = false := by
  obtain ⟨-, -, -, ⟨htiles, hlive, hnext⟩, -, -⟩ := settle_safe s
  have hd (t : Nat) : darkTile (settle s) t = true := by rw [darkTile, h, Bool.or_true]
  refine ⟨List.eq_nil_iff_forall_not_mem.mpr (fun p hp => ?_), List.eq_nil_iff_forall_not_mem.mpr (fun p hp => ?_),
    fun x hx => (htiles x hx (.inr (h x))).1⟩
  · exact absurd ((hd _).symm.trans (hlive p hp)) (by decide)
  · exact absurd ((hd _).symm.trans (hnext p hp)) (by decide)

theorem coastToFb_bstay (s : State) : (coastToFb s).bstay = s.bstay := by
  unfold coastToFb startCoast
  cases s.clk.coast <;> rfl

theorem fbTrip_effect (s : State) : (fbTrip s).bstay.beam = .dark ∧ (fbTrip s).clk.fbGood = false := by
  unfold fbTrip
  extract_lets s1
  split
  · rw [coastToFb_bstay, coastToFb_clk]
    exact ⟨rfl, rfl⟩
  · exact ⟨rfl, rfl⟩

theorem exec_fboscFail (hm : monitorOn .fbosc s = true) : ∃ u, exec .fboscFail s = .next (settle (fbTrip u)) := by
  show ∃ u, done _ = _
  rw [if_pos hm]
  split
  · exact ⟨s, rfl⟩
  · exact ⟨_, rfl⟩

/-! ### PLLs (R410, R411) -/

theorem pllTrip_clk (b : Bool) (s : State) : (pllTrip b s).clk = { s.clk with
    lockA := s.clk.lockA && b, lockB := s.clk.lockB && !b, relocking := s.clk.relocking || sourceGood s
    toFb := if s.clk.coast then s.clk.toFb else s.clk.onFb } := rfl

/-- What the trip of a PLL leaves of CLK. -/
def Unlocked (b : Bool) (s t : State) : Prop :=
  t.clk.relocking = (s.clk.relocking || sourceGood s) ∧ t.clk.lockA = (s.clk.lockA && b) ∧
  t.clk.lockB = (s.clk.lockB && !b) ∧ t.clk.coast = s.clk.coast

theorem unlocked_pllTrip (b : Bool) (n : Nat) (s : State) :
    Unlocked b s (pllTrip b (markFailed n true (raiseFault 14 n 0 true false s))) := by
  have hc := markFailed_raiseFault_clk n 0 s
  have hr : sourceGood (raiseFault 14 n 0 true false s) = sourceGood s :=
    keeps_of_untouched sourceGood (fun _ => rfl) (untouched_raiseFault 14 n 0 true false s)
  replace hr : sourceGood (markFailed n true (raiseFault 14 n 0 true false s)) = sourceGood s := hr
  rw [Unlocked, pllTrip_clk, hr, hc]
  exact ⟨rfl, rfl, rfl, rfl⟩

theorem unlocked_trip {b : Bool} (h : fails 14 (if b then 5 else 4) false s = false) :
    Unlocked b s (trip (if b then .pllb else .plla) s) := by
  cases b
  · show Unlocked false s (pllTrip false (markFailed 4 true (ownCheck 14 4 0 s)))
    rw [ownCheck_found (n := 4) 0 h]
    exact unlocked_pllTrip false 4 s
  · show Unlocked true s (pllTrip true (markFailed 5 true (ownCheck 14 5 0 s)))
    rw [ownCheck_found (n := 5) 0 h]
    exact unlocked_pllTrip true 5 s

theorem exec_pllUnlock (hm : monitorOn .plla s = true) (b : Bool) :
    exec (.pllUnlock b) s = .next (settle (trip (if b then .pllb else .plla) s)) := by
  show done _ = _
  rw [if_pos hm]
  rfl

theorem exec_pllRelockDone (hm : monitorOn .plla s = true) (hr : s.clk.relocking = true) :
    ∃ t, exec .pllRelockDone s = .next t ∧ t.clk.coast = false ∧ t.clk.relocking = false ∧ t.clk.lockA = true ∧
      t.clk.lockB = true ∧ t.clk.onFb = (if s.clk.coast then s.clk.toFb else s.clk.onFb) ∧
      t.clk.failed = s.clk.failed &&& 0x4F := by
  have hf : s.clk.failed &&& ~~~ (BitVec.ofNat 7 (1 <<< 5)) &&& ~~~ (BitVec.ofNat 7 (1 <<< 4)) = s.clk.failed &&& 0x4F := by
    rw [BitVec.and_assoc]
    rfl
  show ∃ t, done _ = _ ∧ _
  rw [hr, hm, ← hf]
  refine ⟨_, rfl, ?_⟩
  rw [settle_clk]
  cases hc : s.clk.coast
  · exact ⟨hc, rfl, rfl, rfl, rfl, rfl⟩
  · exact ⟨rfl, rfl, rfl, rfl, rfl, rfl⟩

theorem exec_pllRelockTimeout (hm : monitorOn .plla s = true) (hr : s.clk.relocking = true) (b : Bool) :
    exec (.pllRelockTimeout b) s = .next (settle (
      let n := (if b then s.clk.failsB else s.clk.failsA) + 1
      if 3 ≤ n then coastToFb s
      else s.modClk (fun c => { c with failsA := if b then c.failsA else n, failsB := if b then n else c.failsB }))) := by
  show done _ = _
  rw [hr, hm]
  rfl

/-! ### ROW (R415) -/

/-- A trip of ROW is reported outside a coast, and in one that is longer than 25 µs. -/
theorem row_reported : (!s.clk.coast || coastLong s) = true ↔ s.clk.coast = false ∨ s.clk.coastFrom + 6250 < s.ticks := by
  unfold coastLong
  cases s.clk.coast <;> simp

theorem trip_row (h : fails 14 3 false s = false) (hl : s.clk.coast = false ∨ s.clk.coastFrom + 6250 < s.ticks) (b : Bool) :
    trip (.row b) s = markClock (.row b) true (raiseFault 14 3 0 true false s) := by
  show markClock (.row b) true (if !s.clk.coast || coastLong s then ownCheck 14 3 0 s else s) = _
  rw [if_pos (row_reported.mpr hl), ownCheck_found 0 h]

theorem monitorOn_row (b : Bool) : monitorOn (.row b) s = monitorOn .plla s := by
  unfold monitorOn
  cases s.pwr.pstate <;> rfl

theorem markClock_row (b : Bool) (u : State) :
    markClock (.row false) true u = markFailed 3 true u ∧ (markClock (.row true) true u).clk.rowStop = true ∧
    (markClock (.row b) false u).clk.rowStop = false ∧ (markClock (.row b) false u).clk.failed.getLsbD 3 = false := by
  refine ⟨rfl, rfl, rfl, ?_⟩
  show (u.clk.failed &&& ~~~ BitVec.ofNat 7 (1 <<< 3)).getLsbD 3 = false
  rw [BitVec.getLsbD_and, show (~~~ BitVec.ofNat 7 (1 <<< 3)).getLsbD 3 = false from rfl, Bool.and_false]

/-- ROW stopped leaves no light. -/
theorem tileCause_of_rowStop (h : s.clk.rowStop = true) (x : Tile) : tileCause s x = true := by
  unfold tileCause
  rw [h, Bool.or_true, Bool.true_or]

theorem exec_rowMon (hm : monitorOn .plla s = true) : exec .rowMon s =
    .next (settle (if !s.clk.coast || coastLong s then trip (.row false) s else s)) := by
  show done _ = _
  rw [monitorOn_row, hm]
  rfl

end

/-- Settles O42, clock by clock. -/
theorem clocksTripCoastAndRelock : Obligations.ClocksTripCoastAndRelock := by
  refine ⟨fun s => ⟨fun hm hf => ⟨fun h0 hb => ?_, ?_⟩, fun hm hf => ?_, fun hm => ⟨?_, ?_⟩⟩, fun s hm => ⟨fun b hf => ?_, fun hr =>
    ⟨exec_pllRelockDone hm hr, fun h3 => ?_, fun h3 => ?_⟩, fun hf => ⟨fun hl => ⟨?_, ?_⟩, fun hc hl => ?_, ?_⟩⟩,
    fun p s => ⟨fun ha hl hr => ?_, fun hr hd => ?_, fun hd => ?_⟩⟩
  · refine ⟨_, exec_clkMonitorTrip hm, ?_⟩
    rw [settle_clk, trip_refosc_clk hf h0 hb]
    exact ⟨rfl, rfl, rfl, rfl, rfl, rfl⟩
  · exact exec_clkMonitorGood hm
  · rw [exec_clkMonitorTrip hm, trip_lposc hf]
  · obtain ⟨u, hu⟩ := exec_fboscFail hm
    obtain ⟨hdark, hgood⟩ := fbTrip_effect u
    obtain ⟨hbeam, hopen⟩ := settle_dark hdark
    exact ⟨_, hu, hbeam, by rw [settle_clk, hgood], hopen⟩
  · show done _ = _
    rw [if_pos hm]
    rfl
  · refine ⟨_, exec_pllUnlock hm b, ?_⟩
    rw [settle_clk]
    exact unlocked_trip hf
  · rw [exec_pllRelockTimeout hm hr]
    dsimp only
    rw [if_neg Bool.false_ne_true, if_neg (Nat.not_le.mpr h3)]
    rfl
  · rw [exec_pllRelockTimeout hm hr]
    dsimp only
    rw [if_pos rfl, if_pos h3.ge]
    refine ⟨_, rfl, ?_⟩
    rw [settle_clk, coastToFb_clk]
    exact ⟨rfl, rfl⟩
  · rw [exec_rowMon hm, if_pos (row_reported.mpr hl), trip_row hf hl, (markClock_row false _).1]
  · have hstop : (settle (trip (.row true) s)).clk.rowStop = true := by
      rw [settle_clk, trip_row hf hl]
      exact (markClock_row true _).2.1
    exact ⟨_, exec_clkMonitorTrip ((monitorOn_row true).trans hm), hstop, settle_opens (tileCause_of_rowStop hstop)⟩
  · have hn : ¬ (s.clk.coast = false ∨ s.clk.coastFrom + 6250 < s.ticks) := by
      rw [hc]
      rintro (h | h)
      · cases h
      · omega
    rw [exec_rowMon hm, if_neg (mt row_reported.mp hn)]
  · obtain ⟨-, -, hstop, hfailed⟩ := markClock_row false s
    refine ⟨_, exec_clkMonitorGood ((monitorOn_row false).trans hm), ?_⟩
    rw [settle_clk]
    exact ⟨hstop, hfailed⟩
  · show done _ = _
    rw [ha, hl, hr]
    rfl
  · show done _ = _
    rw [hr, show decide (s.clk.refFrom + ticksPerMs ≤ s.ticks) = true from decide_eq_true hd]
    rfl
  · have hn : (s.clk.refOk && decide (s.clk.refFrom + ticksPerMs ≤ s.ticks)) = false := by
      rcases hd with h | h
      · rw [h, Bool.false_and]
      · rw [show decide (s.clk.refFrom + ticksPerMs ≤ s.ticks) = false from decide_eq_false (Nat.not_le.mpr h), Bool.and_false]
    show done _ = _
    rw [hn]
    rfl

end Sys2Proof.Machine
end

section
/-! The registers of CLK, PWR, XMEM and RIGGER whose writes act: CLK_SEL, CLK_GATE, SAVE_NOW, XMEM_CTRL, CONFIRM and PIN_CLR
(R381, R416, R417, R436, R461, R463). -/

namespace Sys2Proof.Machine

/-! ### CLK_SEL and CLK_GATE (R416, R417) -/

section
variable {src : RegSrc} {v : Word} {s : State} (hr : regReady 14 src s = true)
include hr

theorem exec_clkSelWrite : exec (.clkSelWrite src v) s =
    .next (settle { (selWrite v s).1 with lastStatus := (selWrite v s).2 }) := done_writeRow hr (selWrite v)

theorem exec_clkGateWrite : exec (.clkGateWrite src v) s =
    .next (settle { (gateWrite v s).1 with lastStatus := (gateWrite v s).2 }) := done_writeRow hr (gateWrite v)

end

theorem startCoast_eq (s : State) : startCoast s = { s.hitIf (!s.clk.coast) 14 0x0204 16 with
    clk := { s.clk with
      coast := true, lockA := false, lockB := false, failsA := 0, failsB := 0
      coastFrom := if s.clk.coast then s.clk.coastFrom else s.ticks
      coastCnt := if s.clk.coast then s.clk.coastCnt else satInc 16 s.clk.coastCnt } } := by
  have hc (b : Bool) : (s.hitIf b 14 0x0204 16).clk = s.clk := by cases b <;> rfl
  rw [startCoast, State.modClk, hc]

theorem selWrite_good {v : Word} {s : State} (h3 : bits v 0 2 ≠ 3) (hg : selGood (bits v 0 2) s = true) :
    selWrite v s = ((startCoast s).modClk (fun c => { c with
      sel := BitVec.ofNat 2 (bits v 0 2), toFb := false, waitFb := false, relocking := true }), stOk) := by
  simp only [selWrite, if_neg h3, hg, Bool.not_true, Bool.false_eq_true, if_false]

theorem selWrite_bad {v : Word} {s : State} (h3 : bits v 0 2 ≠ 3) (hg : selGood (bits v 0 2) s = false) :
    selWrite v s = (s, stBadState) := by
  simp only [selWrite, if_neg h3, hg, Bool.not_false, if_true]

theorem gateWrite_allowed {v : Word} {s : State} (hm : s.mode.ifMode ≠ .compat)
    (h : ∀ n, n < 6 → v.getLsbD n = true → s.clk.gate.getLsbD n = true ∨ mayStop n (v.setWidth 6) s = true) :
    gateWrite v s = ({ s with clk := { s.clk with gate := v.setWidth 6 } }, stOk) := by
  have hall : (List.range 6).all (fun n =>
      !(v.setWidth 6 &&& ~~~ s.clk.gate : BitVec 6).getLsbD n || mayStop n (v.setWidth 6) s) = true := by
    rw [List.all_eq_true]
    intro n hn
    have h6 : n < 6 := List.mem_range.mp hn
    rw [BitVec.getLsbD_and, BitVec.getLsbD_setWidth, BitVec.getLsbD_not]
    cases hv : v.getLsbD n
    · simp
    · rcases h n h6 hv with hg | hs
      · simp [hg]
      · simp [hs]
  simp only [gateWrite, if_neg hm, hall, if_true]
  rfl

/-! ### SAVE_NOW (R436) -/

theorem state_enterOff (p : HPort) (s : State) : ((enterOff p s).hport p).state = .off := by
  unfold enterOff
  rw [State.hport_modPort_same]

theorem state_enterOff_other (s : State) : (enterOff .p1 s).h0.state = s.h0.state := by
  have h : ((quit .p1 s).hport .p0).state = (s.hport .p0).state := port_quit (fun h => h.state) (fun _ => rfl) .p1 s .p0
  exact h

/-- A save that has begun with a cause, both ports OFF, any transition given up (R431, R436). -/
structure SaveBegun (cause : Nat) (s t : State) : Prop where
  saving : t.pwr.saving = some cause
  entryTo : t.pwr.entryTo = none
  wakeStage : t.pwr.wakeStage = 0
  trig : t.pwr.vhuTrig = s.pwr.vhuMv
  level : t.pwr.saveLvl = s.pwr.saveLvl
  present : t.pwr.present = s.pwr.present
  off0 : t.h0.state = .off
  off1 : t.h1.state = .off

theorem saveBegun_of_untouched {cause : Nat} {s t u : State} (h : SaveBegun cause s t) (hu : untouched u = untouched t) :
    SaveBegun cause s u := by
  have hp := keeps_of_untouched (fun u => (u.pwr.saving, u.pwr.entryTo, u.pwr.wakeStage, u.pwr.vhuTrig, u.pwr.saveLvl, u.pwr.present))
    (fun _ => rfl) hu
  have h0 := keeps_of_untouched (fun u => (u.h0.state, u.h1.state)) (fun _ => rfl) hu
  simp only [Prod.mk.injEq] at hp h0
  obtain ⟨hs, he, hw, ht, hl, hpr⟩ := hp
  obtain ⟨h00, h01⟩ := h0
  exact ⟨hs.trans h.saving, he.trans h.entryTo, hw.trans h.wakeStage, ht.trans h.trig, hl.trans h.level, hpr.trans h.present,
    h00.trans h.off0, h01.trans h.off1⟩

/-- Every tile has the cause of a save (Table 16.8). -/
theorem tileCause_of_saving {s : State} (h : s.pwr.saving.isSome = true) (x : Tile) : tileCause s x = true := by
  unfold tileCause
  rw [h, Bool.or_true, Bool.true_or, Bool.true_or]

theorem SaveBegun.opens {cause : Nat} {s t : State} (h : SaveBegun cause s (settle t)) :
    ∀ x ∈ (settle t).arr.tiles, x.swClosed = false := by
  obtain ⟨-, -, hopen⟩ := settle_opens (tileCause_of_saving (s := settle t) (by rw [h.saving]; rfl))
  exact hopen

theorem saveBegun_beginSave {s : State} (hr : s.pwr.inReset = false) (hp : s.pwr.porHeld = false) (hs : s.pwr.saving = none)
    (h5 : s.pwr.pstate ≠ .s5) (cause : Nat) : SaveBegun cause s (beginSave cause s) := by
  have hpwr : (enterOff .p1 (enterOff .p0 s)).pwr = s.pwr := ((powerKept_enterOff .p0 s).trans (powerKept_enterOff .p1 _)).1
  have h0 : (enterOff .p1 (enterOff .p0 s)).h0.state = .off := (state_enterOff_other _).trans (state_enterOff .p0 s)
  have h1 : (enterOff .p1 (enterOff .p0 s)).h1.state = .off := state_enterOff .p1 _
  have hb : beginSave cause s = (enterOff .p1 (enterOff .p0 s)).modPwr (fun p => { p with
      saving := some cause, saveFlags := 0, vhuTrig := p.vhuMv, entryTo := none, wakeStage := 0, wakeTries := 0
      wakeLatched := none }) := by
    simp only [beginSave, hr, hp, hs, if_neg h5, Bool.or_self, Bool.false_eq_true, if_false]
  rw [hb]
  generalize enterOff .p1 (enterOff .p0 s) = u at hpwr h0 h1
  have hv : u.pwr.vhuMv = s.pwr.vhuMv := by rw [hpwr]
  have hl : u.pwr.saveLvl = s.pwr.saveLvl := by rw [hpwr]
  have hn : u.pwr.present = s.pwr.present := by rw [hpwr]
  exact ⟨rfl, rfl, rfl, hv, hl, hn, h0, h1⟩

theorem exec_saveNow {src : RegSrc} {s : State} (hr : regReady 15 src s = true) :
    exec (.saveNow src) s = .next (settle { beginSave 3 s with lastStatus := stOk }) :=
  done_writeRow hr (fun s => (beginSave 3 s, stOk))

/-- A save that begins in an evaluation leaves every switch open. -/
theorem saveBegun_settle {cause : Nat} {s u : State} (h : SaveBegun cause s u) :
    SaveBegun cause s (settle u) ∧ ∀ x ∈ (settle u).arr.tiles, x.swClosed = false :=
  have ht := saveBegun_of_untouched h (untouched_settle u)
  ⟨ht, ht.opens⟩

theorem saveBegun_withStatus {cause : Nat} {s u : State} (h : SaveBegun cause s u) (st : BitVec 8) :
    SaveBegun cause s { u with lastStatus := st } :=
  ⟨h.saving, h.entryTo, h.wakeStage, h.trig, h.level, h.present, h.off0, h.off1⟩

/-! ### XMEM_CTRL (R461) -/

theorem reloadWrite_calib {s : State} (h : s.pwr.pstate = .s0) : reloadWrite 1 s = (s, stBadState) := by
  rw [reloadWrite, h]
  rfl

theorem reloadWrite_tiles {s : State} (hq : s.xmem.queue.contains (.reload 1) = false) (hb : s.xmem.busy ≠ some (.reload 1)) :
    reloadWrite 2 s = ({ s with xmem := { s.xmem with queue := s.xmem.queue ++ [.reload 1] } }, stOk) := by
  have hks : [0, 1, 2].filter (fun k => bit 2 k && !(s.xmem.queue.contains (.reload k) || s.xmem.busy == some (.reload k))) = [1] := by
    have h0 : bit 2 0 = false := rfl
    have h1 : bit 2 1 = true := rfl
    have h2 : bit 2 2 = false := rfl
    simp only [List.filter_cons, List.filter_nil, h0, h1, h2, hq, beq_false_of_ne hb, Bool.false_and, Bool.true_and, Bool.or_false,
      Bool.not_false, if_true, Bool.false_eq_true, if_false]
  have h0 : (bit 2 0 && s.pwr.pstate == .s0) = false := rfl
  rw [reloadWrite, h0, hks]
  rfl

/-! ### CONFIRM and PIN_CLR (R381, R463) -/

theorem fwConfirm_core {src : RegSrc} {s : State} (hs : src = .safety ∨ src = .service) (hn : s.keep.running ≠ 0) :
    fwConfirm src 1 s = (writeHeader { s with keep := { s.keep with
      trial := 0, minSvn := if s.keep.minSvn < s.keep.svnRun then s.keep.svnRun else s.keep.minSvn } }, stOk) := by
  have hn' : (s.keep.running != 0) = true := bne_iff_ne.mpr hn
  rcases hs with rfl | rfl <;> (unfold fwConfirm; dsimp only; rw [hn']; rfl)

theorem writeHeader_log (s : State) : (writeHeader s).log = s.log := rfl

theorem writeHeader_rigger (s : State) : (writeHeader s).rigger = s.rigger := rfl

/-- What PIN_CLR writes into RIGGER_LOG_CTRL. -/
theorem pinClrWord (m : BitVec 2) : bit (putb 8 true ||| put 0 m.toNat) 8 = true ∧ (putb 8 true ||| put 0 m.toNat).setWidth 2 = m :=
  (by decide : ∀ m : BitVec 2, bit (putb 8 true ||| put 0 m.toNat) 8 = true ∧ (putb 8 true ||| put 0 m.toNat).setWidth 2 = m) m

theorem pinClr_row {src : RegSrc} {s : State} (hr : regReady 17 src s = true) :
    (srcSession src s = false → exec (.pinClr src) s = .next (settle { s with lastStatus := stDenied })) ∧
    (srcSession src s = true →
      ∃ t, exec (.pinClr src) s = .next t ∧ t.log.pinUsed = 0 ∧ t.rigger.minSev = s.rigger.minSev ∧ t.lastStatus = stOk) := by
  obtain ⟨h8, hw⟩ := pinClrWord s.rigger.minSev
  have hx : exec (.pinClr src) s = _ :=
    done_writeRow hr (logCtrlWrite (srcSession src s) (putb 8 true ||| put 0 s.rigger.minSev.toNat))
  rw [hx]
  refine ⟨fun hs => ?_, fun hs => ⟨_, rfl, ?_⟩⟩
  · simp only [logCtrlWrite, h8, hs, Bool.not_false, Bool.and_self, if_true]
  · have hpin := settle_keeps (fun u => (u.log.pinUsed, u.rigger.minSev, u.lastStatus)) (fun _ => rfl)
    simp only [Prod.mk.injEq] at hpin
    rw [(hpin _).1, (hpin _).2.1, (hpin _).2.2]
    simp only [logCtrlWrite, h8, hs, hw, Bool.not_true, Bool.and_false, Bool.false_eq_true, if_false, if_true,
      writeHeader_log, writeHeader_rigger, and_self]

/-- Settles O40, register by register. -/
theorem clockSupplyAndMemoryRegisters : Obligations.ClockSupplyAndMemoryRegisters := by
  refine ⟨fun src v s hr => ⟨fun h0 hg => ?_, fun h0 hg => ?_, fun h1 hg => ?_, fun h3 => ?_, fun hm h => ?_, fun hm => ?_⟩,
    fun src s hr hir hpor hs h5 => ?_, fun src s hr => ⟨fun h0 => ?_, fun hq hb => ?_⟩,
    fun src s hr => ⟨fun hs hn => ?_, ?_, (pinClr_row hr).1, (pinClr_row hr).2⟩⟩
  · rw [exec_clkSelWrite hr, selWrite_good (by omega) (by rw [h0]; exact hg), startCoast_eq, h0]
    rfl
  · rw [exec_clkSelWrite hr, selWrite_bad (by omega) (by rw [h0]; exact hg)]
  · rw [exec_clkSelWrite hr, selWrite_bad (by omega) (by rw [h1]; exact hg)]
  · rw [exec_clkSelWrite hr, selWrite, if_pos h3]
  · rw [exec_clkGateWrite hr, gateWrite_allowed hm h]
  · rw [exec_clkGateWrite hr, gateWrite, if_pos hm]
  · have hb := saveBegun_withStatus (saveBegun_beginSave hir hpor hs h5 3) stOk
    obtain ⟨ht, hopen⟩ := saveBegun_settle hb
    have hst := settle_lastStatus { beginSave 3 s with lastStatus := stOk }
    rw [exec_saveNow hr]
    generalize settle { beginSave 3 s with lastStatus := stOk } = t at ht hopen hst
    exact ⟨t, rfl, ht.saving, ht.entryTo, ht.wakeStage, ht.off0, ht.off1, hst, hopen⟩
  · have hx : exec (.xmemReload src 1) s = _ := done_writeRow hr (reloadWrite 1)
    rw [hx, reloadWrite_calib h0]
  · have hx : exec (.xmemReload src 2) s = _ := done_writeRow hr (reloadWrite 2)
    rw [hx, reloadWrite_tiles hq hb]
  · have hx : exec (.fwConfirm src) s = _ := done_writeRow hr (fwConfirm src 1)
    rw [hx, fwConfirm_core hs hn]
  · rintro p rfl
    exact done_writeRow hr (fwConfirm (.port p) 1)

end Sys2Proof.Machine
end

section
/-! The save, the park that follows it, the contact PRESENT_N before READY, and the seconds count (R431, R436 to R440, R518). -/

namespace Sys2Proof.Machine

/-! ### Triggers (R436) -/

theorem beginSave_saving {cause k : Nat} {s : State} (hr : s.pwr.inReset = false) (hp : s.pwr.porHeld = false)
    (hs : s.pwr.saving = some k) : beginSave cause s = s.modPwr (fun p => { p with
      saveFlags := p.saveFlags ||| BitVec.ofNat 8 (1 <<< (cause - 1)) }) := by
  simp only [beginSave, hr, hp, hs, Bool.or_self, Bool.false_eq_true, if_false]

section
variable {s : State} (hr : s.pwr.inReset = false) (hp : s.pwr.porHeld = false) (hs : s.pwr.saving = none) (h5 : s.pwr.pstate ≠ .s5)
include hr hp hs h5

theorem saveSupervisorTrip_begins (mv : Supply) : ∃ t, exec (.saveSupervisorTrip mv) s = .next t ∧ t.pwr.saving = some 1 ∧
    t.pwr.saveLvl = true ∧ t.pwr.vhuTrig = min mv.vhu 8191 ∧ t.h0.state = .off ∧ t.h1.state = .off ∧
    ∀ x ∈ t.arr.tiles, x.swClosed = false := by
  have hb := saveBegun_beginSave (s := s.modPwr (fun p => { takeSupply mv p with saveLvl := true })) hr hp hs h5 1
  have hx : exec (.saveSupervisorTrip mv) s =
      .next (settle (beginSave 1 (s.modPwr (fun p => { takeSupply mv p with saveLvl := true })))) := rfl
  obtain ⟨ht, hopen⟩ := saveBegun_settle hb
  exact ⟨_, hx, ht.saving, ht.level, ht.trig, ht.off0, ht.off1, hopen⟩

theorem presentNRemoved_begins (hready : s.pwr.ready = true) : ∃ t, exec .presentNRemoved s = .next t ∧ t.pwr.saving = some 2 ∧
    t.pwr.present = false ∧ ∀ x ∈ t.arr.tiles, x.swClosed = false := by
  have hb := saveBegun_beginSave (s := s.modPwr (fun p => { p with present := false })) hr hp hs h5 2
  have hx : exec .presentNRemoved s = .next (settle (raiseFault 15 6 0 true false
      (beginSave 2 (s.modPwr (fun p => { p with present := false }))))) := by
    show done _ = _
    dsimp only
    rw [hready, show ((s.modPwr (fun p => { p with present := false })).pwr.saving.isNone &&
      (beginSave 2 (s.modPwr (fun p => { p with present := false }))).pwr.saving.isSome) = true by
        rw [hb.saving]; exact congrArg (fun o : Option Nat => o.isNone && true) hs]
    rfl
  obtain ⟨ht, hopen⟩ := saveBegun_settle (saveBegun_of_untouched hb (untouched_raiseFault 15 6 0 true false _))
  exact ⟨_, hx, ht.saving, ht.present, hopen⟩

end

/-! ### The end of a save (R436, Table 16.8) -/

theorem park_pwr (cause : Nat) (s : State) : ∃ b, (park cause s).pwr = { s.pwr with
    heldBeam := b, saving := none, saveFlags := 0, parked := some cause, image := none, retFw := [], restoring := false
    from_ := s.pwr.pstate, pstate := .s5, lastCause := 7 } := by
  obtain ⟨⟨b, hb⟩, -⟩ := goDeep_power s
  refine ⟨b, ?_⟩
  unfold park
  rw [changeState_pwr, offClk, State.modClk, (asleep_power _ _).1, hb]

theorem queueMirror_pwr (s : State) : (queueMirror s).pwr = s.pwr := by
  unfold queueMirror queueWork
  split <;> rfl

theorem queueMirror_keep (s : State) : (queueMirror s).keep = s.keep := by
  unfold queueMirror queueWork
  split <;> rfl

/-- What a save that has been completed leaves of PWR. -/
structure SaveDone (cause mv us : Nat) (s t : State) : Prop where
  pstate : t.pwr.pstate = .s5
  from_ : t.pwr.from_ = s.pwr.pstate
  lastCause : t.pwr.lastCause = 7
  parked : t.pwr.parked = some cause
  saving : t.pwr.saving = none
  saveCnt : t.pwr.saveCnt = satInc 16 s.pwr.saveCnt
  lastUs : t.pwr.lastUs = min us 255
  vhuEnd : t.pwr.vhuEnd = min mv 8191
  slots : t.pwr.slots = s.pwr.slots.set (freeSlot s) (some (saveRecord cause s.pwr.saveFlags s))

theorem saveDone_of_untouched {cause mv us : Nat} {s t u : State} (h : SaveDone cause mv us s t) (hu : untouched u = untouched t) :
    SaveDone cause mv us s u := by
  have hp := keeps_of_untouched (fun u => (u.pwr.pstate, u.pwr.from_, u.pwr.lastCause, u.pwr.parked, u.pwr.saving, u.pwr.saveCnt,
    u.pwr.lastUs, u.pwr.vhuEnd, u.pwr.slots)) (fun _ => rfl) hu
  simp only [Prod.mk.injEq] at hp
  obtain ⟨h1, h2, h3, h4, h5, h6, h7, h8, h9⟩ := hp
  exact ⟨h1.trans h.pstate, h2.trans h.from_, h3.trans h.lastCause, h4.trans h.parked, h5.trans h.saving, h6.trans h.saveCnt,
    h7.trans h.lastUs, h8.trans h.vhuEnd, h9.trans h.slots⟩

/-- The state in which the record of a save stands in its slot and is counted. -/
def recorded (cause mv us : Nat) (s : State) : State :=
  (putRecord (saveRecord cause s.pwr.saveFlags s) true s).modPwr (fun p => { p with
    saveCnt := satInc 16 p.saveCnt, lastUs := min us 255, vhuEnd := min mv 8191, vhuMv := min mv 8191
    saveOwed := 7 + cause + 0 })

theorem saveDone_park (cause mv us : Nat) (s : State) :
    SaveDone cause mv us s (park cause (queueMirror (writeHeader (recorded cause mv us s)))) := by
  obtain ⟨b, hb⟩ := park_pwr cause (queueMirror (writeHeader (recorded cause mv us s)))
  have hq : (queueMirror (writeHeader (recorded cause mv us s))).pwr = (recorded cause mv us s).pwr := queueMirror_pwr _
  rw [hq] at hb
  generalize park cause (queueMirror (writeHeader (recorded cause mv us s))) = t at hb
  constructor <;> rw [hb] <;> rfl

theorem saveDone_holdTest {cause mv us : Nat} {s t : State} (h : SaveDone cause mv us s t) : SaveDone cause mv us s (holdTest t) :=
  ⟨h.pstate, h.from_, h.lastCause, h.parked, h.saving, h.saveCnt, h.lastUs, h.vhuEnd, h.slots⟩

theorem exec_saveComplete {cause mv us : Nat} {s : State} (hs : s.pwr.saving = some cause) (hf : fails 15 4 false s = false)
    (hr : s.pwr.resetHeld = false) : exec (.saveComplete mv us true) s = .next (settle (
      let t := park cause (queueMirror (writeHeader (recorded cause mv us s)))
      if s.pins.testN then t else holdTest t)) := by
  show done _ = _
  rw [hs]
  simp only [Bool.not_true, hf, check_quiet 15 4 0 false s hf, Bool.not_false, Bool.false_eq_true, if_false, hr]
  rfl

theorem freeSlot_lt (s : State) : freeSlot s < 2 := by
  unfold freeSlot
  split <;> decide

theorem saveComplete_row (cause mv us : Nat) (s : State) (hs : s.pwr.saving = some cause) (hf : fails 15 4 false s = false)
    (hr : s.pwr.resetHeld = false) (hl : s.pwr.slots.length = 2) : ∃ t, exec (.saveComplete mv us true) s = .next t ∧
    t.pwr.pstate = .s5 ∧ t.pwr.from_ = s.pwr.pstate ∧ t.pwr.lastCause = 7 ∧ t.pwr.parked = some cause ∧ t.pwr.saving = none ∧
    t.pwr.saveCnt = satInc 16 s.pwr.saveCnt ∧ t.pwr.lastUs = min us 255 ∧ t.pwr.vhuEnd = min mv 8191 ∧
    t.pwr.slots.getD (freeSlot s) none = some (saveRecord cause s.pwr.saveFlags s) ∧ t.bstay.beam = .dark := by
  have hd : SaveDone cause mv us s (
      let t := park cause (queueMirror (writeHeader (recorded cause mv us s)))
      if s.pins.testN then t else holdTest t) := by
    dsimp only
    split
    · exact saveDone_park cause mv us s
    · exact saveDone_holdTest (saveDone_park cause mv us s)
  have hx := exec_saveComplete (mv := mv) (us := us) hs hf hr
  generalize (let t := park cause (queueMirror (writeHeader (recorded cause mv us s)))
      if s.pins.testN then t else holdTest t) = u at hd hx
  have ht := saveDone_of_untouched hd (untouched_settle u)
  have hslot : (settle u).pwr.slots.getD (freeSlot s) none = some (saveRecord cause s.pwr.saveFlags s) := by
    have hlt := freeSlot_lt s
    rw [ht.slots, List.getD_eq_getElem?_getD, List.getElem?_set_self (by omega)]
    rfl
  exact ⟨_, hx, ht.pstate, ht.from_, ht.lastCause, ht.parked, ht.saving, ht.saveCnt, ht.lastUs, ht.vhuEnd, hslot,
    ((settle_safe u).deep_dark (by rw [ht.pstate]; rfl)).1⟩

/-! ### Parked modules (R439) -/

theorem exec_parkedWake {s : State} (h5 : s.pwr.pstate = .s5) (hr : s.pwr.inReset = false) (hw : s.pwr.wakeStage = 0)
    (hp : s.pwr.parked = some 1) : exec .parkedWake s = .next (settle (
      let s1 := s.modPwr (fun p => { p with low := false, saveLvl := false, lastSrc := 7 })
      if s.pwr.s5Image.isSome then startExit 4 7 .s0 s1 else endExit (backToBoot false 4 s1))) := by
  show done _ = _
  rw [if_pos ⟨h5, hr, hw⟩, hp]
  rfl

/-- The exit from S5 begins with stage 1 (Table 16.4). -/
theorem startExit_s5 (cause src : Nat) {s : State} (h5 : s.pwr.pstate = .s5) :
    (startExit cause (src + 1) .s0 s).pwr.wakeStage = 1 ∧ (startExit cause (src + 1) .s0 s).pwr.wakeCause = cause ∧
    (startExit cause (src + 1) .s0 s).pwr.lastSrc = src + 1 ∧ (startExit cause (src + 1) .s0 s).pwr.pstate = .s5 := by
  have h1 : s.pwr.pstate ≠ .s1 := by rw [h5]; decide
  unfold startExit
  dsimp only
  rw [if_neg h1]
  exact ⟨congrArg firstStage h5, rfl, rfl, h5⟩

theorem endExit_backToBoot (cause : Nat) (s : State) : (endExit (backToBoot false cause s)).pwr.pstate = .s0 ∧
    (endExit (backToBoot false cause s)).pwr.ready = false ∧ (endExit (backToBoot false cause s)).pwr.lastCause = cause := by
  have h := backToBoot_pwr false cause s
  show (backToBoot false cause s).pwr.pstate = .s0 ∧ (backToBoot false cause s).pwr.ready = false ∧
    (backToBoot false cause s).pwr.lastCause = cause
  rw [h]
  exact ⟨rfl, rfl, rfl⟩

theorem parkedWake_row (s : State) (h5 : s.pwr.pstate = .s5) (hr : s.pwr.inReset = false) (hw : s.pwr.wakeStage = 0)
    (hp : s.pwr.parked = some 1) :
    (s.pwr.s5Image.isSome = true → ∃ t, exec .parkedWake s = .next t ∧ t.pwr.wakeStage = 1 ∧ t.pwr.wakeCause = 4 ∧
      t.pwr.lastSrc = 7 ∧ t.pwr.pstate = .s5) ∧
    (s.pwr.s5Image = none → ∃ t, exec .parkedWake s = .next t ∧ t.pwr.pstate = .s0 ∧ t.pwr.ready = false ∧
      t.pwr.lastCause = 4) := by
  have hx := exec_parkedWake h5 hr hw hp
  refine ⟨fun hi => ⟨_, hx, ?_⟩, fun hi => ⟨_, hx, ?_⟩⟩
  · dsimp only
    rw [if_pos hi, settle_wakeStage, settle_wakeCause, settle_lastSrc, settle_pstate]
    exact startExit_s5 4 6 h5
  · dsimp only
    rw [hi, settle_pstate, settle_ready, settle_lastCause]
    exact endExit_backToBoot 4 _

/-! ### PRESENT_N before READY and the seconds (R440, R518) -/

theorem tileCause_of_presentBlank {s : State} (h : s.pwr.presentBlank = true) (x : Tile) : tileCause s x = true := by
  unfold tileCause
  rw [h, Bool.or_true, Bool.true_or, Bool.true_or, Bool.true_or]

/-- PRESENT_N away before READY (R518). -/
def absent (s : State) : State := { s with pwr := { s.pwr with present := false, presentBlank := true } }

theorem presentNBootBlank_row {s : State} (h : s.pwr.ready = false) : ∃ t, exec .presentNBootBlank s = .next t ∧
    t.pwr.presentBlank = true ∧ t.pwr.present = false ∧ ∀ x ∈ t.arr.tiles, x.swClosed = false := by
  have hx : exec .presentNBootBlank s = .next (settle (absent s)) := by
    show done _ = _
    rw [h]
    rfl
  have hb : (settle (absent s)).pwr.presentBlank = true := settle_keeps (fun u => u.pwr.presentBlank) (fun _ => rfl) (absent s)
  have hp : (settle (absent s)).pwr.present = false := settle_keeps (fun u => u.pwr.present) (fun _ => rfl) (absent s)
  obtain ⟨-, -, hopen⟩ := settle_opens (tileCause_of_presentBlank hb)
  exact ⟨_, hx, hb, hp, hopen⟩

theorem exec_presentNBootRestore {s : State} (h : s.pwr.presentBlank = true) : exec .presentNBootRestore s =
    .next (settle { s with pwr := { s.pwr with present := true, presentBlank := false } }) := by
  show done _ = _
  rw [h]
  rfl

theorem exec_opsecTick {s : State} (h : s.pwr.porHeld = false) : exec .opsecTick s = .next (settle (
    let s1 := s.modPwr (fun p => { p with opsec := p.opsec + 1 })
    if (s.pwr.opsec + 1).toNat % 256 = 0 then queueMirror (writeHeader s1) else s1)) := by
  show done _ = _
  rw [h]
  rfl

theorem opsecTick_header {s : State} (h : s.pwr.porHeld = false) (h0 : (s.pwr.opsec + 1).toNat % 256 = 0) :
    ∃ t, exec .opsecTick s = .next t ∧ t.pwr.opsec = s.pwr.opsec + 1 ∧ t.keep.kseq = s.keep.kseq + 1 ∧
      t.keep.hdrOne = !s.keep.hdrOne := by
  refine ⟨_, exec_opsecTick h, ?_⟩
  dsimp only
  have hk (u : State) : (settle u).pwr.opsec = u.pwr.opsec := settle_keeps (fun u => u.pwr.opsec) (fun _ => rfl) u
  rw [if_pos h0, hk, settle_keep, queueMirror_pwr, queueMirror_keep]
  exact ⟨rfl, rfl, rfl⟩

/-- Settles O45: what each row begins or ends stands in PWR through the end of the evaluation. -/
theorem savesParkAndCountSeconds : Obligations.SavesParkAndCountSeconds := by
  refine ⟨fun s hr hp => ⟨fun hs h5 => ⟨saveSupervisorTrip_begins hr hp hs h5, presentNRemoved_begins hr hp hs h5⟩, fun k mv hs => ?_,
    fun h => ?_⟩, saveComplete_row, parkedWake_row,
    fun s => ⟨presentNBootBlank_row, exec_presentNBootRestore, fun hp => ⟨fun h => ?_, opsecTick_header hp⟩⟩⟩
  · show done (beginSave 1 (s.modPwr (fun p => { takeSupply mv p with saveLvl := true }))) = _
    rw [beginSave_saving (s := s.modPwr (fun p => { takeSupply mv p with saveLvl := true })) hr hp hs]
    rfl
  · show done _ = _
    rw [h]
    rfl
  · rw [exec_opsecTick hp]
    dsimp only
    rw [if_neg h]
    rfl

end Sys2Proof.Machine
end

section
/-! The log writer: the ring, the pinned entries and the header of Keep (R380, R381, R384, R474). -/

namespace Sys2Proof.Machine

/-! ### Stores into ranges apart (R472) -/

theorem filter_memCells {d : Byte} {bs : List Byte} {a : Nat} (f : Host.Cell → Bool) (v : Bool)
    (h : ∀ p : Host.Cell, a ≤ p.1 → p.1 < a + bs.length → f p = v) :
    (memCells d a bs).filter f = if v then memCells d a bs else [] := by
  have hv : ∀ p ∈ memCells d a bs, f p = v := fun p hp => by
    obtain ⟨h1, h2, -⟩ := mem_memCells d bs a p hp
    exact h p h1 h2
  cases v
  · rw [if_neg Bool.false_ne_true, List.filter_eq_nil_iff]
    exact fun p hp => by rw [hv p hp]; decide
  · rw [if_pos rfl, List.filter_eq_self]
    exact hv

/-- Two stores of which the second lies below the first can be made in the other order, in any memory. -/
theorem memWrite_comm {b : Nat} (d : Byte) (m : List Host.Cell) {a : Nat} {bs cs : List Byte} (h : b + cs.length ≤ a) :
    memWrite d (memWrite d m a bs) b cs = memWrite d (memWrite d m b cs) a bs := by
  have hlow (p : Host.Cell) : (decide (p.1 < b) && decide (p.1 < a)) = decide (p.1 < b) := by
    rw [← Bool.decide_and, decide_eq_decide]; omega
  have hhigh (p : Host.Cell) : (decide (b + cs.length ≤ p.1) && decide (a + bs.length ≤ p.1)) = decide (a + bs.length ≤ p.1) := by
    rw [← Bool.decide_and, decide_eq_decide]; omega
  have hlow' (p : Host.Cell) : (decide (p.1 < a) && decide (p.1 < b)) = decide (p.1 < b) := (Bool.and_comm _ _).trans (hlow p)
  have hhigh' (p : Host.Cell) : (decide (a + bs.length ≤ p.1) && decide (b + cs.length ≤ p.1)) = decide (a + bs.length ≤ p.1) :=
    (Bool.and_comm _ _).trans (hhigh p)
  have hmid (p : Host.Cell) : (decide (p.1 < a) && decide (b + cs.length ≤ p.1)) =
      (decide (b + cs.length ≤ p.1) && decide (p.1 < a)) := Bool.and_comm _ _
  have none1 : m.filter (fun p => decide (p.1 < b) && decide (a + bs.length ≤ p.1)) = [] := by
    rw [List.filter_eq_nil_iff]
    intro p _
    rw [← Bool.decide_and, decide_eq_true_eq]; omega
  have none2 : m.filter (fun p => decide (a + bs.length ≤ p.1) && decide (p.1 < b)) = [] := by
    rw [List.filter_eq_nil_iff]
    intro p _
    rw [← Bool.decide_and, decide_eq_true_eq]; omega
  have e1 : (memCells d a bs).filter (fun p => decide (p.1 < b)) = [] :=
    filter_memCells _ false (fun p h1 h2 => decide_eq_false (by omega))
  have e2 : (memCells d a bs).filter (fun p => decide (b + cs.length ≤ p.1)) = memCells d a bs :=
    filter_memCells _ true (fun p h1 h2 => decide_eq_true (by omega))
  have e3 : (memCells d b cs).filter (fun p => decide (p.1 < a)) = memCells d b cs :=
    filter_memCells _ true (fun p h1 h2 => decide_eq_true (by omega))
  have e4 : (memCells d b cs).filter (fun p => decide (a + bs.length ≤ p.1)) = [] :=
    filter_memCells _ false (fun p h1 h2 => decide_eq_false (by omega))
  unfold memWrite
  simp only [List.filter_append, List.filter_filter, e1, e2, e3, e4, hlow, hhigh, hlow', hhigh', hmid, none1, none2,
    List.append_nil, List.nil_append, List.append_assoc]

/-! ### Lengths (Tables 13.5 and 17.16) -/

theorem natBytes_length (n v : Nat) : (natBytes n v).length = n := by
  induction n generalizing v with
  | zero => rfl
  | succ n ih => rw [natBytes, List.length_cons, ih]

theorem withCrc32c_length (bs : List Byte) : (withCrc32c bs).length = bs.length + 4 := by
  rw [withCrc32c, List.length_append, natBytes_length]

theorem entryBytes_length (r : LogRec) (lseq : BitVec 32) : (entryBytes r lseq).length = 32 := by
  rw [entryBytes, withCrc32c_length]
  rfl

theorem headerBytes_length (op : Nat) (s : State) : (headerBytes op s).length = 128 := by
  simp only [headerBytes, withCrc32c_length, List.length_append, natBytes_length, List.length_replicate]

/-! ### The header, the ring and the pinned entries -/

/-- A write of the header stores below 0x100. -/
theorem writeHeader_bytes (s : State) : ∃ a bs, a + bs.length ≤ 0x100 ∧
    (writeHeader s).keep.bytes = memWrite 0 s.keep.bytes a bs := by
  refine ⟨if !s.keep.hdrOne then 0x80 else 0, headerBytes s.clk.opAct.toNat (s.modKeep (fun k => { k with
    kseq := k.kseq + 1, hdrOne := !s.keep.hdrOne, hdrValid := k.hdrValid ||| (if !s.keep.hdrOne then 2 else 1) })), ?_, rfl⟩
  rw [headerBytes_length]
  split <;> decide

/-- What is stored at 0x100 or above reads back after a write of the header. -/
theorem keepBytes_writeHeader {s : State} {m : List Host.Cell} {a : Nat} {bs : List Byte} (ha : 0x100 ≤ a)
    (h : s.keep.bytes = memWrite 0 m a bs) : keepBytes a bs.length (writeHeader s) = bs := by
  obtain ⟨b, cs, hb, hk⟩ := writeHeader_bytes s
  rw [keepBytes, hk, h, memWrite_comm 0 m (by omega), memRead_memWrite]

theorem ringAt_ge (k : Nat) : 0x10000 ≤ ringAt k := Nat.le_add_right _ _

/-- An entry goes into the next pinned entry. -/
theorem pinEntry_taken {sev : Nat} {bs : List Byte} {s : State} (h : 2 ≤ sev) (hp : s.log.pinUsed < 16) :
    pinEntry sev bs s = { keepStore (0x2000 + 32 * s.log.pinUsed) bs s with log := { s.log with pinUsed := s.log.pinUsed + 1 } } :=
  if_pos ⟨h, hp⟩

theorem pinEntry_keeps (sev : Nat) (bs : List Byte) (s : State) :
    (pinEntry sev bs s).log.lseq = s.log.lseq ∧ (pinEntry sev bs s).log.head = s.log.head := by
  unfold pinEntry
  split <;> exact ⟨rfl, rfl⟩

/-- An entry in the ring reads back after its pinned copy and the header have been written. -/
theorem keepBytes_ring {s : State} {m : List Host.Cell} {k : Nat} {bs : List Byte} (hl : bs.length = 32)
    (h : s.keep.bytes = memWrite 0 m (ringAt k) bs) (sev : Nat) :
    keepBytes (ringAt k) 32 (writeHeader (pinEntry sev bs s)) = bs := by
  have hr := ringAt_ge k
  have hb : ∃ m', (pinEntry sev bs s).keep.bytes = memWrite 0 m' (ringAt k) bs := by
    unfold pinEntry
    split
    · next hp =>
      refine ⟨memWrite 0 m (0x2000 + 32 * s.log.pinUsed) bs, ?_⟩
      show memWrite 0 s.keep.bytes (0x2000 + 32 * s.log.pinUsed) bs = _
      rw [h, memWrite_comm 0 m (by omega)]
    · exact ⟨m, h⟩
  obtain ⟨m', hm⟩ := hb
  rw [← hl]
  exact keepBytes_writeHeader (by omega) hm

/-- The pinned copy reads back after the header has been written. -/
theorem keepBytes_pinned {s : State} {sev : Nat} {bs : List Byte} (hl : bs.length = 32) (h : 2 ≤ sev) (hp : s.log.pinUsed < 16) :
    keepBytes (0x2000 + 32 * s.log.pinUsed) 32 (writeHeader (pinEntry sev bs s)) = bs := by
  rw [pinEntry_taken h hp, ← hl]
  exact keepBytes_writeHeader (m := s.keep.bytes) (by omega) rfl

/-! ### LOG_ENTRY_WRITE -/

/-- The place of the log: LSEQ, the head of the ring and the pinned entries taken. -/
def logPlace (s : State) : BitVec 32 × Nat × Nat := (s.log.lseq, s.log.head, s.log.pinUsed)

theorem logPlace_settle (s : State) : logPlace (settle s) = logPlace s := settle_keeps logPlace (fun _ => rfl) s

theorem pushLog_keeps (r : LogRec) (s : State) : (pushLog r s).keep = s.keep ∧ logPlace (pushLog r s) = logPlace s := by
  unfold pushLog
  split <;> exact ⟨rfl, rfl⟩

/-- What follows the writes of an entry. -/
theorem logTail_keeps (s : State) : (queueDrop (noteUnflushed s)).keep = s.keep ∧
    logPlace (queueDrop (noteUnflushed s)) = logPlace s := by
  have hn : (noteUnflushed s).keep = s.keep ∧ logPlace (noteUnflushed s) = logPlace s := by
    unfold noteUnflushed queueWork
    split <;> exact ⟨rfl, rfl⟩
  obtain ⟨hk, hl⟩ := hn
  rw [← hk, ← hl]
  generalize noteUnflushed s = u
  unfold queueDrop
  split
  · exact ⟨rfl, rfl⟩
  · exact pushLog_keeps _ _

/-- The oldest record is taken from the queue, with the next LSEQ. -/
def takeRecordOff (rest : List LogRec) (s : State) : State :=
  { s with log := { s.log with q := rest, lseq := s.log.lseq + 1 } }

theorem exec_logEntryWrite {r : LogRec} {rest : List LogRec} {s : State} (hq : s.log.q = r :: rest)
    (h0 : fails 13 0 false s = false) (h1 : fails 13 1 false s = false) (bad : Nat) : exec (.logEntryWrite bad 0) s =
      .next (settle (queueDrop (noteUnflushed (writeHeader (pinEntry (recSev r) (entryBytes r (s.log.lseq + 1))
        (writeEntry bad (entryBytes r (s.log.lseq + 1)) (takeRecordOff rest s))))))) := by
  have hk : keepRead 0 (takeRecordOff rest s) = (takeRecordOff rest s, false) := keepRead_quiet h0 h1
  show done _ = _
  rw [hq]
  dsimp only
  rw [show ({ s with log := { s.log with q := rest, lseq := s.log.lseq + 1 } } : State) = takeRecordOff rest s from rfl, hk]
  rfl

/-- What an entry that has been written, with its pinned copy and the header, leaves. -/
theorem logWritten (u : State) (sev : Nat) (bs : List Byte) :
    let t := settle (queueDrop (noteUnflushed (writeHeader (pinEntry sev bs u))))
    t.keep = (writeHeader (pinEntry sev bs u)).keep ∧ t.log.lseq = u.log.lseq ∧ t.log.head = u.log.head ∧
      t.log.pinUsed = (pinEntry sev bs u).log.pinUsed := by
  intro t
  obtain ⟨hk, hl⟩ := logTail_keeps (writeHeader (pinEntry sev bs u))
  have hp : logPlace t = logPlace (pinEntry sev bs u) := (logPlace_settle _).trans hl
  simp only [logPlace, Prod.mk.injEq] at hp
  obtain ⟨hlseq, hhead, hpin⟩ := hp
  obtain ⟨hlseq', hhead'⟩ := pinEntry_keeps sev bs u
  exact ⟨(settle_keep _).trans hk, hlseq.trans hlseq', hhead.trans hhead', hpin⟩

/-- An entry that passes its read-back at once, or the second time, in the slot after (R384). -/
theorem writeEntry_stored (s : State) (bs : List Byte) :
    ((writeEntry 0 bs s).keep.bytes = memWrite 0 s.keep.bytes (ringAt s.log.head) bs ∧
      (writeEntry 0 bs s).log = { s.log with head := (s.log.head + 1) % 2048 }) ∧
    ((∃ m, (writeEntry 1 bs s).keep.bytes = memWrite 0 m (ringAt (s.log.head + 1)) bs) ∧
      (writeEntry 1 bs s).log = { s.log with head := (s.log.head + 2) % 2048 }) :=
  ⟨⟨rfl, rfl⟩, ⟨_, rfl⟩, rfl⟩

/-- Settles O46: the entry stands in the ring above the pinned entries and the header, which are written after it. -/
theorem logEntriesReachTheRing : Obligations.LogEntriesReachTheRing := by
  intro s
  refine ⟨fun hq => ?_, fun r rest hq h0 h1 => ?_⟩
  · show done _ = _
    rw [hq]
    rfl
  have hl := entryBytes_length r (s.log.lseq + 1)
  have hx := exec_logEntryWrite hq h0 h1
  generalize entryBytes r (s.log.lseq + 1) = bs at hl hx
  obtain ⟨⟨hbytes, hlog⟩, ⟨m, hbytes1⟩, hlog1⟩ := writeEntry_stored (takeRecordOff rest s) bs
  refine ⟨?_, ?_⟩
  · have hx0 := hx 0
    generalize writeEntry 0 bs (takeRecordOff rest s) = u at hbytes hlog hx0
    have hpin : u.log.pinUsed = s.log.pinUsed := by rw [hlog]; rfl
    have hseq : u.log.lseq = s.log.lseq + 1 := by rw [hlog]; rfl
    have hnext : u.log.head = (s.log.head + 1) % 2048 := by rw [hlog]; rfl
    obtain ⟨hk, hlseq, hhead, hused⟩ := logWritten u (recSev r) bs
    refine ⟨_, hx0, hlseq.trans hseq, hhead.trans hnext, ?_, fun h2 hp => ⟨?_, ?_⟩, fun h2 => ?_⟩
    · rw [keepBytes, hk]
      exact keepBytes_ring hl hbytes (recSev r)
    · rw [hused, pinEntry_taken h2 (hpin ▸ hp), hpin]
    · rw [keepBytes, hk, ← hpin]
      exact keepBytes_pinned hl h2 (hpin ▸ hp)
    · rw [hused, pinEntry, if_neg (by omega), hpin]
  · have hx1 := hx 1
    generalize writeEntry 1 bs (takeRecordOff rest s) = u at hbytes1 hlog1 hx1
    have hseq : u.log.lseq = s.log.lseq + 1 := by rw [hlog1]; rfl
    have hnext : u.log.head = (s.log.head + 2) % 2048 := by rw [hlog1]; rfl
    obtain ⟨hk, hlseq, hhead, -⟩ := logWritten u (recSev r) bs
    refine ⟨_, hx1, hlseq.trans hseq, hhead.trans hnext, ?_⟩
    rw [keepBytes, hk]
    exact keepBytes_ring hl hbytes1 (recSev r)

end Sys2Proof.Machine
end

section
/-! The bytes that a program, an erase and a write to Keep change (R450, R470, R472). -/

namespace Sys2Proof.Machine

/-- A program or an erase changes VERIFIED marks beside its bytes, and no memory. -/
theorem unverify_mdev (cs cs' : Bool) (a n : Nat) (s : State) : (unverify cs a n s).mdev cs' = s.mdev cs' := rfl

theorem unverify_keep (cs : Bool) (a n : Nat) (s : State) : (unverify cs a n s).keep = s.keep := rfl

theorem mdev_modDev (cs : Bool) (f : MemDev → MemDev) (s : State) :
    (s.modDev cs f).mdev cs = f (s.mdev cs) ∧ (s.modDev cs f).mdev (!cs) = s.mdev (!cs) := by
  cases cs <;> exact ⟨rfl, rfl⟩

theorem memGet_memErase_other (d : Byte) (m : List Host.Cell) {a n k : Nat} (h : k < a ∨ a + n ≤ k) :
    memGet d (memErase m a n) k = memGet d m k :=
  spGet_filter m _ k d (fun v => by
    rcases h with h | h
    · rw [decide_eq_true h, Bool.true_or]
    · rw [decide_eq_true h, Bool.or_true])

theorem memGet_memErase_in (d : Byte) (m : List Host.Cell) {a n k : Nat} (ha : a ≤ k) (hk : k < a + n) :
    memGet d (memErase m a n) k = d := by
  refine spGet_absent _ k d (fun p hp => ?_)
  have hf := (List.mem_filter.mp hp).2
  simp only [Bool.or_eq_true, decide_eq_true_eq] at hf
  omega

/-- An erased range reads erased. -/
theorem memRead_memErase {d : Byte} {m : List Host.Cell} (a n : Nat) (h : Memory.wf d m = true) :
    memRead d (memErase m a n) a n = List.replicate n d := by
  have hwf := Memory.wf_memErase d m a n h
  rw [Memory.wf_iff] at hwf
  rw [memRead_eq d _ a n hwf.1, List.eq_replicate_iff]
  refine ⟨by rw [List.length_map, List.length_range], fun v hv => ?_⟩
  obtain ⟨i, hi, rfl⟩ := List.mem_map.mp hv
  have hi' := List.mem_range.mp hi
  exact memGet_memErase_in d m (by omega) (by omega)

/-- Settles O60, by the laws of the byte memories. -/
theorem memoryWritesTouchOnlyTheirBytes : Obligations.MemoryWritesTouchOnlyTheirBytes := by
  refine ⟨fun cs a bs s h => ?_, fun cs a n s h => ?_, fun a bs s h => ?_⟩
  · intro t
    obtain ⟨hdev, hother⟩ := mdev_modDev cs (fun d => { d with bytes := memWrite erased d.bytes a bs }) s
    have hb : (t.mdev cs).bytes = memWrite erased (s.mdev cs).bytes a bs := congrArg MemDev.bytes hdev
    refine ⟨?_, ?_, congrArg MemDev.bytes hother, rfl, fun k hk => ?_⟩
    · rw [devBytes, hb, memRead_memWrite]
    · rw [hb]; exact Memory.wf_memWrite erased bs _ a h
    · rw [hb]; exact memGet_memWrite_other erased bs _ a k hk
  · intro t
    obtain ⟨hdev, hother⟩ := mdev_modDev cs (fun d => { d with bytes := memErase d.bytes a n }) s
    have hb : (t.mdev cs).bytes = memErase (s.mdev cs).bytes a n := congrArg MemDev.bytes hdev
    refine ⟨?_, ?_, congrArg MemDev.bytes hother, rfl, fun k hk => ?_⟩
    · rw [devBytes, hb, memRead_memErase a n h]
    · rw [hb]; exact Memory.wf_memErase erased _ a n h
    · rw [hb]; exact memGet_memErase_other erased _ hk
  · exact ⟨memRead_memWrite 0 s.keep.bytes a bs, Memory.wf_memWrite 0 bs _ a h, rfl,
      fun k hk => memGet_memWrite_other 0 bs _ a k hk⟩

end Sys2Proof.Machine
end

section
/-! TEST_N, EXTEST and the test access port (R519, R520). The contacts' input levels stay through the end of an evaluation. -/

namespace Sys2Proof.Machine

/-! ### Contact levels through the end of an evaluation -/

theorem pins_foldl {α : Type} (f : State → α → State) (h : ∀ s a, (f s a).pins = s.pins) (l : List α) (s : State) :
    (l.foldl f s).pins = s.pins := by
  induction l generalizing s with
  | nil => rfl
  | cons a l ih => rw [List.foldl_cons, ih, h]

theorem hitIf_pins (c : Bool) (b o n : Nat) (s : State) : (s.hitIf c b o n).pins = s.pins := by
  unfold State.hitIf; split <;> rfl

theorem pushEvent_pins (e : Event) (s : State) : (pushEvent e s).pins = s.pins := by
  unfold pushEvent
  split
  · exact hitIf_pins _ _ _ _ _
  · rfl

theorem queueEvent_pins (c v : Nat) (ws : List Word) (s : State) : (queueEvent c v ws s).pins = s.pins :=
  pushEvent_pins _ s

theorem onceReact_pins (b : Nat) (r : BitVec 8) (s : State) : (onceReact b r s).pins = s.pins := by
  unfold onceReact
  extract_lets s0 s1 s2 s3 s4 s5 a6 s6
  have e1 : s1.pins = s.pins := by simp only [s1]; split <;> rfl
  have e2 : s2.pins = s1.pins := by simp only [s2]; split <;> rfl
  have e3 : s3.pins = s2.pins := by simp only [s3]; split <;> rfl
  have e4 : s4.pins = s3.pins := by simp only [s4]; split <;> rfl
  have e5 : s5.pins = s4.pins := by simp only [s5]; split <;> rfl
  have e6 : s6.pins = s5.pins := by simp only [s6]; split <;> rfl
  rw [← e1, ← e2, ← e3, ← e4, ← e5, ← e6]
  split <;> rfl

theorem legacyMark_pins (b n i : Nat) (r : Bool) (s : State) : (legacyMark b n i r s).pins = s.pins := by
  unfold legacyMark; split <;> rfl

theorem raiseFault_pins (b n i : Nat) (x y : Bool) (s : State) : (raiseFault b n i x y s).pins = s.pins := by
  unfold raiseFault
  extract_lets stays w rising again sev h r count off timed logged applied f bitn s1 l2 s2 s3 s4
  have e3 : s3.pins = s.pins := by simp only [s3]; split <;> rfl
  have e4 : s4.pins = s.pins := (legacyMark_pins _ _ _ _ _).trans e3
  split
  · rw [onceReact_pins, e4]
  · exact e4

theorem cancelSwitch_pins (s : State) : (cancelSwitch s).pins = s.pins :=
  pins_foldl _ (fun s _ => pushEvent_pins _ s) _ s

theorem startStep1_pins (e : Eng) (s : State) : (startStep1 e s).pins = s.pins := by
  unfold startStep1; split <;> simp

theorem failEng_pins (e : Eng) (n : Nat) (s : State) : (failEng e n s).pins = s.pins := State.modEng_pins s e _

theorem setRole_pins (e : Eng) (r : Role) (s : State) : (setRole e r s).pins = s.pins := State.modEng_pins s e _

theorem markChange_pins (c : Nat) (s : State) : (markChange c s).pins = s.pins := rfl

theorem wbAbort_pins (s : State) : (wbAbort s).pins = s.pins := by
  unfold wbAbort
  split <;> simp

theorem bothLost_pins (c : Nat) (x y : Bool) (s : State) : (bothLost c x y s).pins = s.pins := by
  unfold bothLost
  extract_lets lf drop s1 b2 a2 s2 s3
  have hd (e : Eng) (n : Nat) (u : State) : (drop e n u).pins = u.pins := by
    simp only [drop]
    split <;> split <;> simp only [startStep1_pins, failEng_pins]
  have e1 : s1.pins = s.pins := by
    simp only [s1, markChange_pins, hd, cancelSwitch_pins, wbAbort_pins]
  clear_value s1
  have e3 : s3.pins = s1.pins := raiseFault_pins _ _ _ _ _ s2
  exact (queueEvent_pins _ _ _ s3).trans (e3.trans e1)

theorem switchOver_pins (e : Eng) (c : Nat) (s : State) : (switchOver e c s).pins = s.pins := by
  unfold switchOver
  extract_lets s0 s1
  have e1 : s1.pins = s.pins := by
    simp only [s1, s0, markChange_pins, setRole_pins, failEng_pins, wbAbort_pins, cancelSwitch_pins]
  exact e1

theorem standbyFails_pins (e : Eng) (c : Nat) (s : State) : (standbyFails e c s).pins = s.pins := by
  simp only [standbyFails, markChange_pins, startStep1_pins, failEng_pins, cancelSwitch_pins]

theorem arbApply_pins (a : Eng) (x y : Bool) (c : Nat) (p q : Bool) (s : State) :
    (arbApply a x y c p q s).pins = s.pins := by
  unfold arbApply
  repeat' split
  all_goals simp only [bothLost_pins, switchOver_pins, standbyFails_pins]

theorem arbitrate_pins (x y : Bool) (s : State) : (arbitrate x y s).pins = s.pins := by
  unfold arbitrate
  extract_lets hb
  split
  · rfl
  · split
    · rfl
    · extract_lets
      split
      · rfl
      · split
        · exact cancelSwitch_pins s
        · exact arbApply_pins _ _ _ _ _ _ _

theorem pushLog_pins (r : LogRec) (s : State) : (pushLog r s).pins = s.pins := by
  unfold pushLog; split <;> rfl

theorem flushFresh_pins (s : State) : (flushFresh s).pins = s.pins := by
  unfold flushFresh
  split
  · rfl
  · extract_lets l g s1
    have e1 : s1.pins = s.pins := pins_foldl _ (fun s f => by split <;> rfl) l _
    rw [pins_foldl _ (fun s f => ?_) l s1, e1]
    simp only []
    split <;> split <;> simp only [queueEvent_pins, pushLog_pins]

theorem raiseTimes_pins (b n k : Nat) (s : State) : (raiseTimes b n k s).pins = s.pins := by
  induction k generalizing s with
  | zero => rfl
  | succ k ih => rw [raiseTimes, ih, raiseFault_pins]

theorem raiseLost_pins (s : State) : (raiseLost s).pins = s.pins := by
  unfold raiseLost
  rw [raiseTimes_pins]
  exact raiseTimes_pins _ _ _ _

theorem reportLost_pins (k : Nat) (s : State) : (reportLost k s).pins = s.pins := by
  induction k generalizing s with
  | zero => rfl
  | succ k ih => rw [reportLost, ih, flushFresh_pins, raiseLost_pins]

theorem reportBeam_pins (s : State) : (reportBeam s).pins = s.pins := by
  unfold reportBeam
  split
  · rfl
  · exact queueEvent_pins _ _ _ s

/-- The end of an evaluation drives the outputs and leaves the level of TEST_N. -/
theorem settle_testN (s : State) : (settle s).pins.testN = s.pins.testN := by
  have hf (u : State) : (force u).pins = u.pins := rfl
  have hb (u : State) : (driven (blank u)).pins.testN = u.pins.testN := rfl
  have hc (u : State) : (clearNow u).pins = u.pins := rfl
  rw [settle_eq, hb, hf, reportBeam_pins, hf, hc, reportLost_pins, flushFresh_pins, arbitrate_pins]

/-! ### The test access port -/

theorem pushLog_tap (r : LogRec) (s : State) : (pushLog r s).tap = s.tap := by
  unfold pushLog; split <;> rfl

theorem loadExtest_tap (s : State) : (loadExtest s).tap = s.tap := pushLog_tap _ s

/-- EXTEST takes the light (R520). -/
theorem settle_loadExtest (s : State) : (settle (loadExtest s)).mode.extestHeld = true ∧
    (settle (loadExtest s)).bstay.beam = .dark ∧ ∀ x ∈ (settle (loadExtest s)).arr.tiles, x.swClosed = false :=
  ⟨by rw [settle_mode]; rfl, settle_dark rfl⟩

theorem execExtestLoad_dark {s : State} (h : tapOn s = true) :
    ∃ t, exec .extestLoad s = .next t ∧ t.mode.extestHeld = true ∧ t.bstay.beam = .dark ∧ t.tap.ir = 0 ∧
      ∀ x ∈ t.arr.tiles, x.swClosed = false := by
  have e : exec .extestLoad s = done (loadExtest { s with tap := { s.tap with ir := 0 } }) := by
    show done _ = _
    rw [h]; rfl
  obtain ⟨hheld, hdark, hopen⟩ := settle_loadExtest { s with tap := { s.tap with ir := 0 } }
  exact ⟨_, e, hheld, hdark, by rw [settle_tap, loadExtest_tap], hopen⟩

/-- What the controller's step leaves of its registers, whether or not EXTEST takes effect. -/
theorem tapEnter_tap (st : TapState) (s : State) : ∃ tdo ir bsr, (tapEnter st s).tap =
    { s.tap with st := st, tdo := tdo, ir := ir, bsr := bsr } ∧ (st = .reset → ir = 0xF) := by
  unfold tapEnter
  extract_lets t tdo t1 s1
  refine ⟨t1.tdo, t1.ir, t1.bsr, ?_, fun h => if_pos h⟩
  split
  · exact loadExtest_tap s1
  · rfl

/-- A rising edge of TCK with the port on: the count of TMS high and the controller's next state (R520). -/
theorem execTapTckEdge_on {s : State} (h : tapOn s = true) (tms tdi : Bool) {n : Nat}
    (hn : (if tms then min 5 (s.tap.tmsHigh + 1) else 0) = n) {st : TapState}
    (hst : (if n = 5 then TapState.reset else tapNext s.tap.st tms) = st) :
    ∃ tdo ir bsr t, exec (.tapTckEdge tms tdi) s = .next t ∧ (st = .reset → ir = 0xF) ∧
      t.tap = { (tapShift tdi s).tap with tmsHigh := n, st := st, tdo := tdo, ir := ir, bsr := bsr } := by
  have hsh : (tapShift tdi s).tap.tmsHigh = s.tap.tmsHigh ∧ (tapShift tdi s).tap.st = s.tap.st := by
    unfold tapShift
    split <;> exact ⟨rfl, rfl⟩
  obtain ⟨hhigh, hold⟩ := hsh
  have e : exec (.tapTckEdge tms tdi) s =
      done (tapEnter st { tapShift tdi s with tap := { (tapShift tdi s).tap with tmsHigh := n } }) := by
    show done (if tapOn s then _ else s) = _
    rw [if_pos h]
    simp only [hhigh, hold, hn, hst]
  obtain ⟨tdo, ir, bsr, ht, hir⟩ := tapEnter_tap st { tapShift tdi s with tap := { (tapShift tdi s).tap with tmsHigh := n } }
  exact ⟨tdo, ir, bsr, _, e, hir, by rw [settle_tap, ht]⟩

theorem tapShift_shIr {s : State} (h : s.tap.st = .shIr) (tdi : Bool) :
    (tapShift tdi s).tap.irShift = (s.tap.irShift >>> 1) ||| (if tdi then 8 else 0) := by
  simp only [tapShift, h]

theorem tapShift_shDr {s : State} (h : s.tap.st = .shDr) (tdi : Bool) :
    (tapShift tdi s).tap.dr = s.tap.dr.drop 1 ++ [tdi] := by
  simp only [tapShift, h]

/-! ### TEST_N -/

/-- TEST_N low outside a save holds the beam Dark and stops a boot before READY (R519). -/
theorem execTestNLow_holds {s : State} (h : s.pwr.saving = none) :
    ∃ t, exec .testNLow s = .next t ∧ t.mode.testHeld = true ∧ t.pins.testN = false ∧ t.bstay.beam = .dark ∧
      t.pwr.bootStopped = (s.pwr.bootStopped || !s.pwr.ready) ∧ ∀ x ∈ t.arr.tiles, x.swClosed = false := by
  have e : exec .testNLow s = done (holdTest { s with pins := { s.pins with testN := false } }) := by
    show done _ = _
    simp only [h]; rfl
  obtain ⟨hdark, hopen⟩ := settle_dark (s := holdTest { s with pins := { s.pins with testN := false } }) rfl
  refine ⟨_, e, by rw [settle_mode]; rfl, by rw [settle_testN]; rfl, hdark, ?_, hopen⟩
  exact settle_keeps (fun u => u.pwr.bootStopped) (fun _ => rfl) _

/-- Settles O48: TEST_N and EXTEST request Dark, and the tiles are opened at the end of the evaluation; the controller moves
after its registers have shifted. -/
theorem testContactsHoldTheLight : Obligations.TestContactsHoldTheLight := by
  unfold Obligations.TestContactsHoldTheLight
  refine fun s => ⟨execTestNLow_holds, fun h => ?_, fun hon => ⟨execExtestLoad_dark hon, fun tms tdi htms => ?_, fun hhigh tdi => ?_⟩⟩
  · show done _ = _
    rw [if_pos h]; rfl
  · have hlow : (if tms then s.tap.tmsHigh + 1 else 0) < 5 := by
      rcases htms with rfl | hlt
      · exact Nat.zero_lt_succ 4
      · split <;> omega
    have hn : (if tms then min 5 (s.tap.tmsHigh + 1) else 0) = if tms then s.tap.tmsHigh + 1 else 0 := by
      cases tms
      · rfl
      · exact Nat.min_eq_right hlow.le
    obtain ⟨tdo, ir, bsr, t, ht, -, htap⟩ := execTapTckEdge_on hon tms tdi hn (if_neg hlow.ne)
    refine ⟨t, ht, by rw [htap], by rw [htap], fun hst => ?_, fun hst => ?_⟩
    · rw [htap, ← tapShift_shIr hst]
    · rw [htap, ← tapShift_shDr hst]
  · have hn : (if true then min 5 (s.tap.tmsHigh + 1) else 0) = 5 := Nat.min_eq_left (by omega)
    obtain ⟨tdo, ir, bsr, t, ht, hir, htap⟩ := execTapTckEdge_on hon true tdi hn (if_pos rfl)
    exact ⟨t, ht, by rw [htap], by rw [htap]; exact hir rfl⟩

end Sys2Proof.Machine
end

section
/-! What the end of an evaluation leaves of the light of the tiles, of the legacy FAULT register and of a block reset of XMEM: its
reports are of no source of ARRAY or XMEM, so that no tile goes off and no block reset begins there, and a bit of FAULT stays set
(R366, R502, R503). -/

namespace Sys2Proof.Machine

/-- TILE_CTRL.ON of every tile (R86). -/
def tilesOn (s : State) : List Bool := s.arr.tiles.map (·.on)

/-- A block reset of XMEM runs (R366). -/
def xmemResets (s : State) : Bool := (s.win 12).resetting

/-- From `s` to `t` no tile is turned on or off, no bit of the legacy FAULT is cleared and no block reset of XMEM begins or ends. -/
structure KeepsMarks (s t : State) : Prop where
  on : tilesOn t = tilesOn s
  fault : ∀ k, s.legacy.fault.getLsbD k = true → t.legacy.fault.getLsbD k = true
  resets : xmemResets t = xmemResets s

theorem xmemResets_modWin {b : Nat} {f : FltWin → FltWin} (h : b ≠ 12 ∨ ∀ w, (f w).resetting = w.resetting) (s : State) :
    xmemResets (s.modWin b f) = xmemResets s := by
  rcases h with h | h
  · have hw : (s.modWin b f).win 12 = s.win 12 := by
      simp only [State.win, State.modWin, List.getD_eq_getElem?_getD, getElem?_modAt_ne _ _ _ _ h]
    exact congrArg FltWin.resetting hw
  · rcases (getD_modAt ({} : FltWin) s.flt b f 12) with e | e
    · exact congrArg FltWin.resetting e
    · exact (congrArg FltWin.resetting e).trans (h _)

/-- The array, the legacy registers and whether a block reset of XMEM runs. -/
def lightParts (s : State) : Arr × Legacy × Bool := (s.arr, s.legacy, xmemResets s)

namespace KeepsMarks

theorem of_eq {s t : State} (h : lightParts t = lightParts s) : KeepsMarks s t := by
  obtain ⟨ha, h'⟩ := Prod.mk.inj h
  obtain ⟨hl, hr⟩ := Prod.mk.inj h'
  exact ⟨by rw [tilesOn, ha]; rfl, fun k hk => by rw [hl]; exact hk, hr⟩

theorem refl (s : State) : KeepsMarks s s := of_eq rfl

theorem trans {s t u : State} (h : KeepsMarks s t) (h' : KeepsMarks t u) : KeepsMarks s u :=
  ⟨h'.on.trans h.on, fun k hk => h'.fault k (h.fault k hk), h'.resets.trans h.resets⟩

end KeepsMarks

theorem lightParts_modWin {b : Nat} {f : FltWin → FltWin} (h : b ≠ 12 ∨ ∀ w, (f w).resetting = w.resetting) (s : State) :
    lightParts (s.modWin b f) = lightParts s :=
  congrArg (fun r => (s.arr, s.legacy, r)) (xmemResets_modWin h s)

/-! ### Reports -/

theorem lightParts_foldl {α : Type} (f : State → α → State) (h : ∀ s a, lightParts (f s a) = lightParts s) (l : List α)
    (s : State) : lightParts (l.foldl f s) = lightParts s := by
  induction l generalizing s with
  | nil => rfl
  | cons a l ih => rw [List.foldl_cons, ih, h]

theorem lightParts_hitIf (c : Bool) (b o n : Nat) (s : State) : lightParts (s.hitIf c b o n) = lightParts s := by
  unfold State.hitIf; split <;> rfl

theorem lightParts_pushEvent (e : Event) (s : State) : lightParts (pushEvent e s) = lightParts s := by
  unfold pushEvent
  split
  · exact lightParts_hitIf _ _ _ _ _
  · rfl

theorem lightParts_queueEvent (c v : Nat) (ws : List Word) (s : State) : lightParts (queueEvent c v ws s) = lightParts s :=
  lightParts_pushEvent _ s

theorem lightParts_pushLog (r : LogRec) (s : State) : lightParts (pushLog r s) = lightParts s := by
  unfold pushLog; split <;> rfl

/-- A once reaction of a block other than ARRAY and XMEM resets no tile, and not XMEM. -/
theorem keepsMarks_onceReact {b : Nat} (hb : b ≠ 8) (hx : b ≠ 12) (r : BitVec 8) (s : State) : KeepsMarks s (onceReact b r s) := by
  have h8 : (b == 8) = false := beq_eq_false_iff_ne.mpr hb
  unfold onceReact
  extract_lets s0 s1 s2 s3 s4 s5 a6 s6
  have e1 : KeepsMarks s s1 := by simp only [s1]; split <;> exact .of_eq rfl
  have e2 : KeepsMarks s1 s2 := by simp only [s2]; split <;> exact .of_eq rfl
  have e3 : KeepsMarks s2 s3 := by
    simp only [s3]
    split
    · exact .of_eq (lightParts_modWin (.inl hx) s2)
    · exact .refl s2
  have e4 : KeepsMarks s3 s4 := by simp only [s4]; split <;> exact .of_eq rfl
  have e5 : KeepsMarks s4 s5 := by simp only [s5]; split <;> exact .of_eq rfl
  have e6 : KeepsMarks s5 s6 := by simp only [s6, h8, Bool.and_false, Bool.false_eq_true, if_false]; exact .refl s5
  refine e1.trans (e2.trans (e3.trans (e4.trans (e5.trans (e6.trans ?_)))))
  split <;> exact .of_eq rfl

theorem keepsMarks_setLegacy (f : BitVec 14) (n : Nat) (t : BitVec 16) (s : State) : KeepsMarks s (setLegacy f n t s) :=
  ⟨rfl, fun k h => by
    show (s.legacy.fault ||| f).getLsbD k = true
    rw [BitVec.getLsbD_or, h, Bool.true_or], rfl⟩

theorem keepsMarks_legacyMark (b n i : Nat) (r : Bool) (s : State) : KeepsMarks s (legacyMark b n i r s) := by
  unfold legacyMark
  split
  · exact keepsMarks_setLegacy _ _ _ s
  · exact .refl s

theorem keepsMarks_takeTileOff (b n t : Nat) (s : State) : KeepsMarks s (takeTileOff b n t s) :=
  ⟨map_modAt _ _ _ _ (fun _ => rfl), fun _ h => h, rfl⟩

theorem keepsMarks_raiseFault {b : Nat} (hb : b ≠ 8) (hx : b ≠ 12) (n i : Nat) (x y : Bool) (s : State) :
    KeepsMarks s (raiseFault b n i x y s) := by
  unfold raiseFault
  extract_lets stays w rising again sev h r count off timed logged applied f bitn s1 l2 s2 s3 s4
  have e1 : lightParts s1 = lightParts s := by
    refine lightParts_modWin (.inr ?_) s
    exact fun _ => rfl
  have e2 : KeepsMarks s s2 := .of_eq e1
  have e3 : KeepsMarks s2 s3 := by
    simp only [s3]
    split
    · exact keepsMarks_takeTileOff _ _ _ _
    · exact .refl _
  have e4 : KeepsMarks s s4 := e2.trans (e3.trans (keepsMarks_legacyMark _ _ _ _ _))
  split
  · exact e4.trans (keepsMarks_onceReact hb hx _ _)
  · exact e4

/-! ### Arbitration -/

theorem lightParts_modEng (e : Eng) (f : Engine → Engine) (s : State) : lightParts (s.modEng e f) = lightParts s :=
  Prod.ext (State.modEng_arr s e f) (Prod.ext (State.modEng_legacy s e f) (by cases e <;> rfl))

theorem lightParts_cancelSwitch (s : State) : lightParts (cancelSwitch s) = lightParts s :=
  lightParts_foldl _ (fun s _ => lightParts_pushEvent _ s) _ s

theorem lightParts_startStep1 (e : Eng) (s : State) : lightParts (startStep1 e s) = lightParts s := by
  have he : engBlk e ≠ 12 := by cases e <;> decide
  unfold startStep1
  split
  · exact (lightParts_modWin (.inl he) _).trans (lightParts_modEng _ _ _)
  · exact lightParts_modEng _ _ _

theorem lightParts_failEng (e : Eng) (n : Nat) (s : State) : lightParts (failEng e n s) = lightParts s :=
  lightParts_modEng e _ s

theorem lightParts_setRole (e : Eng) (r : Role) (s : State) : lightParts (setRole e r s) = lightParts s :=
  lightParts_modEng e _ s

theorem lightParts_markChange (c : Nat) (s : State) : lightParts (markChange c s) = lightParts s := rfl

theorem lightParts_wbAbort (s : State) : lightParts (wbAbort s) = lightParts s := by
  unfold wbAbort; split <;> simp [lightParts, xmemResets, State.win]

theorem keepsMarks_bothLost (c : Nat) (x y : Bool) (s : State) : KeepsMarks s (bothLost c x y s) := by
  unfold bothLost
  extract_lets lf drop s1 b2 a2 s2 s3
  have hd (e : Eng) (n : Nat) (u : State) : lightParts (drop e n u) = lightParts u := by
    simp only [drop]
    split <;> split <;> simp only [lightParts_startStep1, lightParts_failEng]
  have e1 : lightParts s1 = lightParts s := by
    simp only [s1, lightParts_markChange, hd, lightParts_cancelSwitch, lightParts_wbAbort]
  clear_value s1
  have e3 : KeepsMarks s2 s3 := keepsMarks_raiseFault (by decide) (by decide) _ _ _ _ _
  have e2 : KeepsMarks s s2 := .of_eq e1
  exact e2.trans (e3.trans (.of_eq (lightParts_queueEvent _ _ _ s3)))

theorem lightParts_switchOver (e : Eng) (c : Nat) (s : State) : lightParts (switchOver e c s) = lightParts s := by
  unfold switchOver
  extract_lets s0 s1
  have e1 : lightParts s1 = lightParts s := by
    simp only [s1, s0, lightParts_markChange, lightParts_setRole, lightParts_failEng, lightParts_wbAbort,
      lightParts_cancelSwitch]
  exact e1

theorem lightParts_standbyFails (e : Eng) (c : Nat) (s : State) : lightParts (standbyFails e c s) = lightParts s := by
  unfold standbyFails
  extract_lets s1
  have e1 : lightParts s1 = lightParts s := by
    simp only [s1, lightParts_markChange, lightParts_startStep1, lightParts_failEng, lightParts_cancelSwitch]
  exact e1

theorem keepsMarks_arbApply (a : Eng) (x y : Bool) (c : Nat) (p q : Bool) (s : State) :
    KeepsMarks s (arbApply a x y c p q s) := by
  unfold arbApply
  repeat' split
  all_goals first
    | exact .refl s
    | exact keepsMarks_bothLost _ _ _ s
    | exact .of_eq (lightParts_switchOver _ _ s)
    | exact .of_eq (lightParts_standbyFails _ _ s)

theorem keepsMarks_arbitrate (x y : Bool) (s : State) : KeepsMarks s (arbitrate x y s) := by
  unfold arbitrate
  extract_lets hb
  split
  · exact .of_eq rfl
  · split
    · exact .of_eq rfl
    · extract_lets
      split
      · exact .of_eq rfl
      · split
        · exact .of_eq (lightParts_cancelSwitch s)
        · exact keepsMarks_arbApply _ _ _ _ _ _ s

/-! ### The end of the evaluation -/

theorem lightParts_flushFresh (s : State) : lightParts (flushFresh s) = lightParts s := by
  unfold flushFresh
  split
  · rfl
  · extract_lets l g s1
    have e1 : lightParts s1 = lightParts s := lightParts_foldl _ (fun s f => by
      split
      · exact lightParts_modWin (.inr (fun w => by split <;> rfl)) s
      · exact lightParts_modWin (.inr (fun w => by split <;> rfl)) s) l _
    rw [lightParts_foldl _ (fun s f => ?_) l s1, e1]
    simp only []
    split <;> split <;> simp only [lightParts_queueEvent, lightParts_pushLog]

theorem keepsMarks_raiseTimes {b : Nat} (hb : b ≠ 8) (hx : b ≠ 12) (n k : Nat) (s : State) : KeepsMarks s (raiseTimes b n k s) := by
  induction k generalizing s with
  | zero => exact .refl s
  | succ k ih => exact (keepsMarks_raiseFault hb hx n 0 true false s).trans (ih _)

theorem keepsMarks_raiseLost (s : State) : KeepsMarks s (raiseLost s) := by
  have h0 : (0 : Nat) ≠ 8 ∧ (0 : Nat) ≠ 12 := by decide
  have h17 : (17 : Nat) ≠ 8 ∧ (17 : Nat) ≠ 12 := by decide
  unfold raiseLost
  extract_lets c0 s1
  have e0 : KeepsMarks s { s with cmd := { s.cmd with lostNow := 0 } } := .of_eq rfl
  have e1 : KeepsMarks s s1 := e0.trans (keepsMarks_raiseTimes h0.1 h0.2 2 _ _)
  have e2 : KeepsMarks s1 { s1 with log := { s1.log with dropNow := 0 } } := .of_eq rfl
  exact e1.trans (e2.trans (keepsMarks_raiseTimes h17.1 h17.2 4 _ _))

theorem keepsMarks_reportLost (k : Nat) (s : State) : KeepsMarks s (reportLost k s) := by
  induction k generalizing s with
  | zero => exact .refl s
  | succ k ih => exact (keepsMarks_raiseLost s).trans ((KeepsMarks.of_eq (lightParts_flushFresh _)).trans (ih _))

theorem keepsMarks_reportBeam (s : State) : KeepsMarks s (reportBeam s) := by
  unfold reportBeam
  split
  · exact .refl s
  · exact .of_eq (lightParts_queueEvent _ _ _ s)

theorem keepsMarks_blank (s : State) : KeepsMarks s (blank s) := by
  refine ⟨?_, fun _ h => h, rfl⟩
  simp only [tilesOn, blank, List.map_map]
  refine List.map_congr_left (fun t _ => ?_)
  simp only [Function.comp]
  split <;> rfl

theorem xmemResets_force (s : State) : xmemResets (force s) = xmemResets s := by
  have hw (l : List FltWin) : ((modAt l 2 (fun _ => {})).getD 12 {} : FltWin) = l.getD 12 {} := by
    rw [List.getD_eq_getElem?_getD, getElem?_modAt_ne _ _ _ _ (by decide), ← List.getD_eq_getElem?_getD]
  have hm : ((s.flt.map (fun w : FltWin => { w with inject := 0, force := 0 })).getD 12 {}).resetting = (s.flt.getD 12 {}).resetting := by
    simp only [List.getD_eq_getElem?_getD, List.getElem?_map]
    cases s.flt[12]? <;> rfl
  show ((forcedWindows s).getD 12 {}).resetting = _
  unfold forcedWindows
  extract_lets l
  have hl : (l.getD 12 {}).resetting = (s.flt.getD 12 {}).resetting := by
    simp only [l]
    split
    · exact hm
    · rfl
  split
  · rw [hw]; exact hl
  · exact hl

/-- The end of an evaluation turns no tile on or off and clears no bit of the legacy FAULT. -/
theorem keepsMarks_settle (s : State) : KeepsMarks s (settle s) := by
  have hf (u : State) : KeepsMarks u (force u) := ⟨rfl, fun _ h => h, xmemResets_force u⟩
  have hc (u : State) : KeepsMarks u (clearNow u) := .of_eq rfl
  have hd (u : State) : KeepsMarks u (driven u) := .of_eq rfl
  rw [settle_eq]
  exact (keepsMarks_arbitrate _ _ s).trans ((KeepsMarks.of_eq (lightParts_flushFresh _)).trans
    ((keepsMarks_reportLost _ _).trans ((hc _).trans ((hf _).trans ((keepsMarks_reportBeam _).trans
      ((hf _).trans ((keepsMarks_blank _).trans (hd _))))))))

theorem settle_fault {s : State} {k : Nat} (h : s.legacy.fault.getLsbD k = true) :
    (settle s).legacy.fault.getLsbD k = true := (keepsMarks_settle s).fault k h

theorem tile_on_of_tilesOn {s t : State} (h : tilesOn t = tilesOn s) (k : Nat) : (t.tile k).on = (s.tile k).on := by
  have hk (u : State) : (u.tile k).on = (tilesOn u).getD k false := by
    simp only [State.tile, tilesOn, List.getD_eq_getElem?_getD, List.getElem?_map]
    cases u.arr.tiles[k]? <;> rfl
  rw [hk, hk, h]

theorem settle_tile_on (s : State) (k : Nat) : ((settle s).tile k).on = (s.tile k).on :=
  tile_on_of_tilesOn (keepsMarks_settle s).on k

end Sys2Proof.Machine
end

section
/-! The legacy port in compatibility mode (R492 to R496, R503, R505, R508): the frames, and what the legacy registers do with
them. -/

namespace Sys2Proof.Machine

/-! ### Frames (Table 19.1) -/

theorem bits_withCrc8 {l n : Nat} (w : Word) (h : 8 ≤ l) : bits (withCrc8 w) l n = bits w l n :=
  bits_setField_above _ (by omega)

theorem bit_withCrc8 (w : Word) : bit (withCrc8 w) 31 = bit w 31 := by
  have hout : ¬ (0 ≤ 31 ∧ 31 < 0 + 8) := by decide
  rw [withCrc8, bit, setField_getLsbD, if_neg hout]; rfl

section
variable {a v : Nat} (ha : a < 128) (hv : v < 65536)
include ha hv

theorem bits_writeFrame_addr : bits (writeFrame a v) 24 7 = a := by
  have hb : bits (putb 31 true) 24 7 = 0 := by decide
  rw [writeFrame, bits_withCrc8 _ (by decide), bits_or, bits_or, hb, bits_put_same (lo := 24) ha (by decide),
    bits_put_below (n := 16) 7 hv (by decide), Nat.zero_or, Nat.or_zero]

omit ha in
theorem bits_writeFrame_data : bits (writeFrame a v) 8 16 = v := by
  have hb : bits (putb 31 true) 8 16 = 0 := by decide
  rw [writeFrame, bits_withCrc8 _ (by decide), bits_or, bits_or, hb, bits_put_above a (by decide),
    bits_put_same (lo := 8) (len := 16) hv (by decide), Nat.zero_or, Nat.zero_or]

omit ha hv in
theorem bit_writeFrame : bit (writeFrame a v) 31 = true := by
  have hb : (putb 31 true).getLsbD 31 = true := by decide
  rw [writeFrame, bit_withCrc8, bit, BitVec.getLsbD_or, BitVec.getLsbD_or, hb, Bool.true_or, Bool.true_or]

omit hv in
theorem bits_readFrame_addr : bits (readFrame a) 24 7 = a := by
  rw [readFrame, bits_withCrc8 _ (by decide), bits_put_same (lo := 24) ha (by decide)]

omit hv in
theorem bit_readFrame : bit (readFrame a) 31 = false := by
  rw [readFrame, bit_withCrc8, bit, put_getLsbD, Nat.testBit_lt_two_pow ha, Bool.and_false]

end

/-! ### What a frame does in compatibility mode (R492 to R494) -/

/-- A valid frame has begun: the pending reply goes out, and half a KEY is forgotten (R493, R508). -/
def framed (s : State) : State := s.modLegacy (fun l => { l with sent := l.reply, keyHalf := false })

/-- The reply that the next frame will send (R493). -/
def frameAnswered (w : Word) (s : State) : State := s.modLegacy (fun l => { l with reply := w })

theorem runFrame_modLegacy_sent (w : Word) (s : State) :
    runFrame w (s.modLegacy (fun l => { l with sent := l.reply })) =
      let a := bits w 24 7
      if !legacyAssigned a then (framed s, legacyReply true a 2)
      else if bit w 31 then
        match legacyWrite a (bits w 8 16) s.legacy.keyHalf (framed s) with
        | (s1, true) => (s1, legacyReply false a (legacyReg a s1))
        | (s1, false) => (legacyFault 8 s1, legacyReply true a 3)
      else (legacyClear a (framed s), legacyReply false a (legacyReg a (framed s))) := rfl

theorem crc8Ok_writeFrame (a v : Nat) : crc8Ok (writeFrame a v) = true := crc8Ok_withCrc8 _

theorem crc8Ok_readFrame (a : Nat) : crc8Ok (readFrame a) = true := crc8Ok_withCrc8 _

section
variable {s : State} (hon : spiOn s = true) (hm : s.mode.ifMode = .compat)
include hon hm

theorem spiPeriod_compat (edges : Nat) (w : Word) : spiPeriod edges [w] false s = legacyPeriod edges w false s := by
  simp [spiPeriod, hon, hm]

theorem spiPeriod_valid {w : Word} (hw : crc8Ok w = true) : spiPeriod 32 [w] false s =
    let r := runFrame w (s.modLegacy (fun l => { l with sent := l.reply }))
    frameAnswered r.2 r.1 := by
  rw [spiPeriod_compat hon hm, legacyPeriod]
  simp only [hw, and_self, if_true]
  rfl

section
variable {a v : Nat} (hassigned : legacyAssigned a = true) (ha : a < 128) {t : State}
include hassigned ha

theorem spiPeriod_writeFrame_taken (hv : v < 65536) (h : legacyWrite a v s.legacy.keyHalf (framed s) = (t, true)) :
    spiPeriod 32 [writeFrame a v] false s = frameAnswered (legacyReply false a (legacyReg a t)) t := by
  rw [spiPeriod_valid hon hm (crc8Ok_writeFrame a v), runFrame_modLegacy_sent, bits_writeFrame_addr ha hv,
    bits_writeFrame_data hv, bit_writeFrame]
  simp only [hassigned, h, Bool.not_true, Bool.false_eq_true, if_false, if_true]

theorem spiPeriod_writeFrame_refused (hv : v < 65536) (h : legacyWrite a v s.legacy.keyHalf (framed s) = (t, false)) :
    spiPeriod 32 [writeFrame a v] false s = frameAnswered (legacyReply true a 3) (legacyFault 8 t) := by
  rw [spiPeriod_valid hon hm (crc8Ok_writeFrame a v), runFrame_modLegacy_sent, bits_writeFrame_addr ha hv,
    bits_writeFrame_data hv, bit_writeFrame]
  simp only [hassigned, h, Bool.not_true, Bool.false_eq_true, if_false, if_true]

theorem spiPeriod_readFrame :
    spiPeriod 32 [readFrame a] false s =
      frameAnswered (legacyReply false a (legacyReg a (framed s))) (legacyClear a (framed s)) := by
  rw [spiPeriod_valid hon hm (crc8Ok_readFrame a), runFrame_modLegacy_sent, bits_readFrame_addr ha, bit_readFrame ha]
  simp only [hassigned, Bool.not_true, Bool.false_eq_true, if_false]

end

/-- A frame of 16 bits is not executed: an error reply, and FAULT.SPI (R492, R493). -/
theorem execLegacyFrame_short : ∃ t, exec (.legacyFrame 16 0 false) s = .next t ∧ t.legacy.sent = s.legacy.reply ∧
    t.legacy.reply = legacyReply true 0 1 ∧ t.legacy.keyHalf = false ∧ t.legacy.fault.getLsbD 7 = true := by
  have e : spiPeriod 16 [0] false s = (legacyFault 7 (s.modLegacy (fun l => { l with sent := l.reply }))).modLegacy
      (fun l => { l with keyHalf := false, reply := legacyReply true 0 1 }) := spiPeriod_compat hon hm 16 0
  have e' : exec (.legacyFrame 16 0 false) s = done (spiPeriod 16 [0] false s) := rfl
  rw [e] at e'
  have hb : (BitVec.ofNat 14 (1 <<< 7)).getLsbD 7 = true := by decide
  refine ⟨_, e', settle_keeps (fun u => u.legacy.sent) (fun _ => rfl) _, settle_keeps (fun u => u.legacy.reply) (fun _ => rfl) _,
    settle_keeps (fun u => u.legacy.keyHalf) (fun _ => rfl) _, settle_fault ?_⟩
  show (s.legacy.fault ||| _).getLsbD 7 = true
  rw [BitVec.getLsbD_or, hb, Bool.or_true]

theorem execLegacyFrame_id : ∃ t, exec (.legacyFrame 32 (readFrame 0x00) false) s = .next t ∧
    t.legacy.reply = legacyReply false 0 0x1A10 := by
  have e : exec (.legacyFrame 32 (readFrame 0x00) false) s = done (spiPeriod 32 [readFrame 0x00] false s) := rfl
  rw [spiPeriod_readFrame hon hm (a := 0) rfl (by decide)] at e
  exact ⟨_, e, settle_keeps (fun u => u.legacy.reply) (fun _ => rfl) _⟩

/-! ### KEY and MODE (R40, R505, R508) -/

theorem execKeyWrite_first : ∃ t, exec (.keyWrite 0x5A5A) s = .next t ∧ t.legacy.keyHalf = true ∧ t.mode.ifMode = .compat := by
  have e : exec (.keyWrite 0x5A5A) s = done (spiPeriod 32 [writeFrame 0x7F 0x5A5A] false s) := rfl
  rw [spiPeriod_writeFrame_taken hon hm (a := 0x7F) rfl (by decide) (by decide) (t := _) rfl] at e
  exact ⟨_, e, settle_keeps (fun u => u.legacy.keyHalf) (fun _ => rfl) _, by rw [settle_mode]; exact hm⟩

theorem execKeyWrite_second (hk : s.legacy.keyHalf = true) : ∃ t, exec (.keyWrite 0xA5A5) s = .next t ∧
    t.mode.ifMode = .compatExt ∧ t.legacy.keyHalf = false := by
  have h : legacyWrite 0x7F 0xA5A5 s.legacy.keyHalf (framed s) =
      ({ framed s with mode := { s.mode with ifMode := .compatExt } }, true) := congrArg (·, true) (if_pos ⟨rfl, hk, hm⟩)
  have e : exec (.keyWrite 0xA5A5) s = done (spiPeriod 32 [writeFrame 0x7F 0xA5A5] false s) := rfl
  rw [spiPeriod_writeFrame_taken hon hm rfl (by decide) (by decide) h] at e
  exact ⟨_, e, by rw [settle_mode]; rfl, settle_keeps (fun u => u.legacy.keyHalf) (fun _ => rfl) _⟩

theorem execLegacyModeWrite_refused : ∃ t, exec (.legacyModeWrite 3) s = .next t ∧
    t.legacy.reply = legacyReply true 1 3 ∧ t.pwr.pstate = s.pwr.pstate := by
  have e : exec (.legacyModeWrite 3) s = done (spiPeriod 32 [writeFrame 0x01 3] false s) := rfl
  rw [spiPeriod_writeFrame_refused hon hm (a := 1) rfl (by decide) (by decide) (t := framed s) rfl] at e
  exact ⟨_, e, settle_keeps (fun u => u.legacy.reply) (fun _ => rfl) _, settle_pstate _⟩

omit hon hm in
theorem askState_s1 (h0 : s.pwr.pstate = .s0) (hb : pwrBusy s = false) (p : CmdPort) : askState p .s1 s =
    (s.modPwr (fun w => { w with entryTo := some .s1, entryTried := false, entryPort := p }), stOk) := by
  simp [askState, h0, hb, pstateNo]

theorem execLegacyModeWrite_s1 (h0 : s.pwr.pstate = .s0) (hb : pwrBusy s = false) : ∃ t,
    exec (.legacyModeWrite 1) s = .next t ∧ t.pwr.entryTo = some .s1 ∧ t.pwr.entryPort = .spi ∧
      t.legacy.reply = legacyReply false 1 1 := by
  have hw : legacyWrite 1 1 s.legacy.keyHalf (framed s) = (((framed s).modPwr (fun w =>
      { w with entryTo := some .s1, entryTried := false, entryPort := .spi })).modLegacy (fun l => { l with mode := 1 }), true) := by
    show modeWrite 1 (framed s) = _
    have hp : pstateOf (1 % 4) = .s1 := rfl
    rw [modeWrite, if_neg (by decide), hp, askState_s1 (s := framed s) h0 hb .spi]
    rfl
  have e : exec (.legacyModeWrite 1) s = done (spiPeriod 32 [writeFrame 0x01 1] false s) := rfl
  rw [spiPeriod_writeFrame_taken hon hm (a := 1) rfl (by decide) (by decide) hw] at e
  exact ⟨_, e, settle_keeps (fun u => u.pwr.entryTo) (fun _ => rfl) _, settle_keeps (fun u => u.pwr.entryPort) (fun _ => rfl) _,
    settle_keeps (fun u => u.legacy.reply) (fun _ => rfl) _⟩

/-! ### Reads that clear (R503) -/

theorem execFaultRead_clears : exec .faultRead s = .next (settle ((clearFault (framed s)).modLegacy (fun l => { l with
    reply := legacyReply false 4 (s.legacy.fault &&& ~~~ s.base.fault).toNat }))) := by
  show done (spiPeriod 32 [readFrame 0x04] false s) = _
  rw [spiPeriod_readFrame hon hm (a := 4) rfl (by decide)]
  rfl

omit hon hm in
theorem sub_countShown (made now : Nat) : now - countShown made now = min made now := by
  unfold countShown; omega

theorem execLegacyClearOnRead_verr : ∃ t, exec (.legacyClearOnRead 0x09) s = .next t ∧
    t.legacy.verr = min s.base.verr s.legacy.verr ∧ t.legacy.reply = legacyReply false 9 (s.legacy.verr - s.base.verr) := by
  have e : exec (.legacyClearOnRead 0x09) s = done (spiPeriod 32 [readFrame 0x09] false s) := rfl
  rw [spiPeriod_readFrame hon hm (a := 9) rfl (by decide)] at e
  rw [← sub_countShown]
  exact ⟨_, e, settle_keeps (fun u => u.legacy.verr) (fun _ => rfl) _, settle_keeps (fun u => u.legacy.reply) (fun _ => rfl) _⟩

theorem execLegacyClearOnRead_vdrop : ∃ t, exec (.legacyClearOnRead 0x0A) s = .next t ∧
    t.legacy.vdrop = min s.base.vdrop s.legacy.vdrop ∧
    t.legacy.reply = legacyReply false 0x0A (s.legacy.vdrop - s.base.vdrop) := by
  have e : exec (.legacyClearOnRead 0x0A) s = done (spiPeriod 32 [readFrame 0x0A] false s) := rfl
  rw [spiPeriod_readFrame hon hm (a := 10) rfl (by decide)] at e
  rw [← sub_countShown]
  exact ⟨_, e, settle_keeps (fun u => u.legacy.vdrop) (fun _ => rfl) _, settle_keeps (fun u => u.legacy.reply) (fun _ => rfl) _⟩

omit hon hm in
/-- The registers of the tiles, TCURn and TFLTn, are those from 0x20 up (Table 19.2). -/
theorem legacyReg_of_le {a : Nat} (h : 0x20 ≤ a) : legacyReg a s =
    if 0x20 ≤ a ∧ a < 0x40 then (s.legacy.tcur.getD (a - 0x20) 0).toNat
    else if 0x40 ≤ a ∧ a < 0x60 then (tfltShown (a - 0x40) s).toNat
    else if a = 0x7F ∧ s.mode.ifMode = .compatExt then 0xA5A5 else 0 := by
  have hne (c : Nat) (hc : c < 0x20) : a ≠ c := by omega
  simp only [legacyReg, hne 0x00 (by decide), hne 0x01 (by decide), hne 0x02 (by decide), hne 0x03 (by decide),
    hne 0x04 (by decide), hne 0x05 (by decide), hne 0x06 (by decide), hne 0x07 (by decide), hne 0x08 (by decide),
    hne 0x09 (by decide), hne 0x0A (by decide), hne 0x0B (by decide), hne 0x0C (by decide), hne 0x1E (by decide), if_false]

omit hon hm in
theorem legacyReg_tflt (n : Fin 32) : legacyReg (0x40 + n.val) s = (tfltShown n.val s).toNat := by
  have hn := n.isLt
  have hno : ¬ (0x20 ≤ 0x40 + n.val ∧ 0x40 + n.val < 0x40) := by omega
  have hyes : 0x40 ≤ 0x40 + n.val ∧ 0x40 + n.val < 0x60 := by omega
  rw [legacyReg_of_le (by omega), if_neg hno, if_pos hyes, Nat.add_sub_cancel_left]

omit hon hm in
theorem legacyClear_tflt (n : Fin 32) : legacyClear (0x40 + n.val) s =
    s.modLegacy (fun l => { l with tflt := modAt l.tflt n.val (fun r => r &&& ~~~ tfltShown n.val s) }) := by
  have hn := n.isLt
  have hne (c : Nat) (hc : c < 0x40) : ¬ 0x40 + n.val = c := by omega
  have hyes : 0x40 ≤ 0x40 + n.val ∧ 0x40 + n.val < 0x60 := by omega
  simp only [legacyClear, hne _ (show 0x04 < 0x40 by decide), hne _ (show 0x09 < 0x40 by decide),
    hne _ (show 0x0A < 0x40 by decide), if_pos hyes, if_false, Nat.add_sub_cancel_left]

theorem execLegacyClearOnRead_tflt (n : Fin 32) :
    let r := s.legacy.tflt.getD n.val 0 &&& ~~~ s.base.tflt.getD n.val 0
    exec (.legacyClearOnRead (BitVec.ofNat 7 (0x40 + n.val))) s = .next (settle (s.modLegacy (fun l => { l with
      sent := l.reply, keyHalf := false, tflt := modAt l.tflt n.val (fun x => x &&& ~~~ r)
      reply := legacyReply false (0x40 + n.val) r.toNat }))) := by
  have hn := n.isLt
  have ha : (BitVec.ofNat 7 (0x40 + n.val)).toNat = 0x40 + n.val := Nat.mod_eq_of_lt (by omega)
  have hc : clearsOnRead (0x40 + n.val) = true := by simp [clearsOnRead]; omega
  have has : legacyAssigned (0x40 + n.val) = true := by simp [legacyAssigned]; omega
  intro r
  show done (if clearsOnRead (BitVec.ofNat 7 (0x40 + n.val)).toNat then _ else s) = _
  rw [ha, if_pos hc, spiPeriod_readFrame hon hm has (by omega), legacyReg_tflt, legacyClear_tflt]
  rfl

end

/-! ### GCUR and TCUR (R83, R495, R496) -/

/-- No stored parity of a tile is bad, and no check of it is injected or forced (R539). -/
def TilesGood (s : State) : Prop := (∀ x ∈ s.arr.tiles, x.parityBad = false) ∧ fails 8 1 false s = false

theorem legacyTile_good {s : State} (h : TilesGood s) (t : Nat) (f : Tile → Tile) :
    legacyTile t f s = s.modTile t (fun x => { f x with parityBad := false }) := by
  have hp : (s.tile t).parityBad = false := by
    rw [State.tile, List.getD_eq_getElem?_getD]
    cases hx : s.arr.tiles[t]? with
    | none => rfl
    | some x => exact h.1 x (List.mem_of_getElem? hx)
  rw [legacyTile, tileParity_good hp h.2]

theorem tilesGood_modTile {s : State} (h : TilesGood s) (t : Nat) (f : Tile → Tile) :
    TilesGood (s.modTile t (fun x => { f x with parityBad := false })) := by
  refine ⟨fun x hx => ?_, h.2⟩
  rcases mem_modAt _ _ _ _ hx with hx | ⟨y, rfl⟩
  · exact h.1 x hx
  · rfl

section
variable {α : Type} (i : α → Nat) (g : α → Tile → Tile)

/-- The tiles after a change of those that a list names. -/
@[irreducible] def tilesChanged : List α → List Tile → List Tile
  | [], ts => ts
  | a :: l, ts => tilesChanged l (modAt ts (i a) (g a))

theorem tilesChanged_nil (ts : List Tile) : tilesChanged i g [] ts = ts := by rw [tilesChanged]

theorem tilesChanged_cons (a : α) (l : List α) (ts : List Tile) :
    tilesChanged i g (a :: l) ts = tilesChanged i g l (modAt ts (i a) (g a)) := by rw [tilesChanged]

theorem tilesChanged_other {l : List α} {k : Nat} (h : ∀ a ∈ l, i a ≠ k) (ts : List Tile) :
    (tilesChanged i g l ts)[k]? = ts[k]? := by
  induction l generalizing ts with
  | nil => rw [tilesChanged_nil]
  | cons a l ih =>
    rw [tilesChanged_cons]
    exact (ih (fun b hb => h b (List.mem_cons_of_mem _ hb)) _).trans
      (getElem?_modAt_ne _ _ _ _ (h a List.mem_cons_self))

theorem length_modAt (ts : List Tile) (k : Nat) (f : Tile → Tile) : (modAt ts k f).length = ts.length := by
  simpa using congrArg List.length (map_modAt (fun _ => ()) ts k f (fun _ => rfl))

theorem length_tilesChanged (l : List α) (ts : List Tile) : (tilesChanged i g l ts).length = ts.length := by
  induction l generalizing ts with
  | nil => rw [tilesChanged_nil]
  | cons a l ih => rw [tilesChanged_cons, ih, length_modAt]

theorem tilesChanged_same {l : List α} (hl : (l.map i).Nodup) {a : α} (ha : a ∈ l) {ts : List Tile} (hk : i a < ts.length) :
    (tilesChanged i g l ts).getD (i a) {} = g a (ts.getD (i a) {}) := by
  induction l generalizing ts with
  | nil => exact absurd ha List.not_mem_nil
  | cons b l ih =>
    obtain ⟨hb, hl⟩ := List.nodup_cons.mp hl
    rw [tilesChanged_cons]
    rcases List.mem_cons.mp ha with rfl | hal
    · have hother : ∀ c ∈ l, i c ≠ i a := fun c hc he => hb (he ▸ List.mem_map_of_mem hc)
      rw [List.getD_eq_getElem?_getD, tilesChanged_other i g hother, ← List.getD_eq_getElem?_getD, getD_modAt_same _ _ _ _ hk]
    · have hne : i b ≠ i a := fun he => hb (he ▸ List.mem_map_of_mem hal)
      rw [ih hl hal (by rwa [length_modAt]), List.getD_eq_getElem?_getD, getElem?_modAt_ne _ _ _ _ hne,
        ← List.getD_eq_getElem?_getD]

end

/-- A legacy write that reaches TILE_CTRL of the tiles of a list, each with good parity. -/
theorem foldl_legacyTile {α : Type} (i : α → Nat) (f : α → Tile → Tile) (l : List α) {s : State} (h : TilesGood s) :
    l.foldl (fun s a => legacyTile (i a) (f a) s) s =
      { s with arr := { s.arr with tiles := tilesChanged i (fun a x => { f a x with parityBad := false }) l s.arr.tiles } } := by
  induction l generalizing s with
  | nil => rw [tilesChanged_nil]; rfl
  | cons a l ih =>
    rw [List.foldl_cons, legacyTile_good h, ih (tilesGood_modTile h _ _), tilesChanged_cons]
    rfl

theorem settle_tiles_map {β : Type} (g : Tile → β) (hg : ∀ x, g (bareTile x) = g x) (s : State) :
    (settle s).arr.tiles.map g = s.arr.tiles.map g := by
  refine settle_keeps (fun u => u.arr.tiles.map g) (fun u => ?_) s
  show (u.arr.tiles.map bareTile).map g = _
  rw [List.map_map]
  exact List.map_congr_left (fun x _ => hg x)

theorem settle_tile_ttrim (s : State) (k : Nat) : ((settle s).tile k).ttrim = (s.tile k).ttrim := by
  have hk (u : State) : (u.tile k).ttrim = (u.arr.tiles.map (·.ttrim)).getD k ({} : Tile).ttrim := by
    simp only [State.tile, List.getD_eq_getElem?_getD, List.getElem?_map]
    cases u.arr.tiles[k]? <;> rfl
  rw [hk, hk, settle_tiles_map _ (fun _ => rfl)]

/-- A write that is refused answers the error reply and sets FAULT.WR_REJ (R494). -/
theorem settle_refused (w : Word) (s : State) : (settle (frameAnswered w (legacyFault 8 s))).legacy.reply = w ∧
    (settle (frameAnswered w (legacyFault 8 s))).legacy.fault.getLsbD 8 = true := by
  refine ⟨settle_keeps (fun u => u.legacy.reply) (fun _ => rfl) _, settle_fault ?_⟩
  have hb : (BitVec.ofNat 14 (1 <<< 8)).getLsbD 8 = true := by decide
  show (s.legacy.fault ||| _).getLsbD 8 = true
  rw [BitVec.getLsbD_or, hb, Bool.or_true]

/-- Every tile has a full-on current within the limit with the RANGE and GTRIM of a GCUR value (R83). -/
def gcurAllowed (v : Nat) (s : State) : Prop :=
  ∀ x ∈ s.arr.tiles, 5 * (v / 16384 + 1) * (v % 256 + 128) * (x.ttrim.toNat + 384) ≤ 3200000

/-- The state of a GCUR value that is taken (R495). -/
def gcurStored (v : Nat) (s : State) : State :=
  { s with
    arr := { s.arr with
      tiles := tilesChanged (fun t => t) (fun _ x => { x with range := BitVec.ofNat 2 (v / 16384), parityBad := false })
        allTiles s.arr.tiles
      gtrim := BitVec.ofNat 8 (v % 256) }
    legacy := { s.legacy with
      range := BitVec.ofNat 2 (v / 16384), c := BitVec.ofNat 6 (v / 256), gtrim := BitVec.ofNat 8 (v % 256) } }

section
variable {s : State} {v : Nat} (hv : v < 65536)
include hv

theorem gcurWrite_refusal : (blockOff 8 s || !s.arr.tiles.all (fun x =>
    currentAllowed (v / 16384 % 4) (v % 256) x.ttrim.toNat)) = true ↔ blockOff 8 s = true ∨ ¬ gcurAllowed v s := by
  have hr : v / 16384 % 4 = v / 16384 := Nat.mod_eq_of_lt (by omega)
  rw [Bool.or_eq_true, Bool.not_eq_true', ← Bool.not_eq_true, List.all_eq_true, hr]
  simp only [currentAllowed_iff, fullScale, gcurAllowed]

theorem gcurWrite_taken (hb : blockOff 8 s = false) (hg : TilesGood s) (ha : gcurAllowed v s) :
    gcurWrite v s = (gcurStored v s, true) := by
  have hr : v / 16384 % 4 = v / 16384 := Nat.mod_eq_of_lt (by omega)
  have hno : ¬ (blockOff 8 s = true ∨ ¬ gcurAllowed v s) := by simp [hb, ha]
  rw [gcurWrite]
  simp only [← gcurWrite_refusal hv] at hno
  rw [if_neg hno, foldl_legacyTile (fun t => t) _ allTiles hg, hr]
  rfl

theorem gcurWrite_refused (ha : ¬ gcurAllowed v s) : gcurWrite v s = (s, false) :=
  if_pos ((gcurWrite_refusal hv).mpr (.inr ha))

theorem legacyReg_gcurStored : legacyReg 2 (gcurStored v s) = v := by
  show (BitVec.ofNat 2 (v / 16384)).toNat * 16384 + (BitVec.ofNat 6 (v / 256)).toNat * 256 + (BitVec.ofNat 8 (v % 256)).toNat = v
  simp only [BitVec.toNat_ofNat]
  omega

omit hv in
theorem gcurStored_range (hlen : s.arr.tiles.length = 256) :
    ∀ x ∈ (gcurStored v s).arr.tiles, x.range = BitVec.ofNat 2 (v / 16384) := by
  intro x hx
  obtain ⟨k, hk, rfl⟩ := List.getElem_of_mem hx
  have hk' : k < s.arr.tiles.length := by
    have hl : (gcurStored v s).arr.tiles.length = s.arr.tiles.length := length_tilesChanged _ _ _ _
    omega
  have h := tilesChanged_same (fun t => t) (fun _ x => { x with range := BitVec.ofNat 2 (v / 16384), parityBad := false })
    (l := allTiles) (by simpa [allTiles] using List.nodup_range) (a := k) (List.mem_range.mpr (hlen ▸ hk')) hk'
  have hx : (gcurStored v s).arr.tiles.getD k {} = (gcurStored v s).arr.tiles[k] := List.getD_eq_getElem _ _ hk
  rw [← hx]
  exact (congrArg Tile.range h :)

end

/-- The state of a TCUR value that is taken (R496). -/
def tcurStored (n v : Nat) (s : State) : State :=
  { s with
    arr := { s.arr with tiles := tilesChanged (fun k => 8 * n + k) (fun k x => { x with
      on := tcurCode v k != 0
      ttrim := if tcurCode v k = 0 then x.ttrim else BitVec.ofNat 8 (tcurTrim (tcurCode v k))
      parityBad := false }) (List.range 8) s.arr.tiles }
    legacy := { s.legacy with tcur := s.legacy.tcur.set n (BitVec.ofNat 16 v) } }

theorem tcurWrite_taken {n v : Nat} {s : State} (hb : blockOff 8 s = false) (hg : TilesGood s)
    (ha : ∀ k, k < 8 → tcurCode v k = 0 ∨
      currentAllowed s.legacy.range.toNat s.legacy.gtrim.toNat (64 * tcurCode v k) = true) :
    tcurWrite n v s = (tcurStored n v s, true) := by
  have hall : (List.range 8).all (fun k => tcurCode v k == 0 ||
      currentAllowed s.legacy.range.toNat s.legacy.gtrim.toNat (tcurTrim (tcurCode v k))) = true := by
    rw [List.all_eq_true]
    intro k hk
    rw [Bool.or_eq_true, beq_iff_eq]
    exact ha k (List.mem_range.mp hk)
  rw [tcurWrite]
  simp only [hb, hall, Bool.not_true, Bool.or_self, Bool.false_eq_true, if_false]
  rw [foldl_legacyTile (fun k => 8 * n + k) _ (List.range 8) hg]
  rfl

theorem tcurWrite_refused {n v k : Nat} {s : State} (hk : k < 8) (hc : tcurCode v k ≠ 0)
    (ha : currentAllowed s.legacy.range.toNat s.legacy.gtrim.toNat (64 * tcurCode v k) = false) :
    tcurWrite n v s = (s, false) := by
  have hall : (List.range 8).all (fun k => tcurCode v k == 0 ||
      currentAllowed s.legacy.range.toNat s.legacy.gtrim.toNat (tcurTrim (tcurCode v k))) = false := by
    rw [List.all_eq_false]
    exact ⟨k, List.mem_range.mpr hk, by simp [hc, tcurTrim, ha]⟩
  rw [tcurWrite]
  simp only [hall, Bool.not_false, Bool.or_true, if_true]

theorem tcurStored_tile {n v k : Nat} {s : State} (hn : n < 32) (hk : k < 8) (hlen : s.arr.tiles.length = 256) :
    (tcurStored n v s).tile (8 * n + k) = { s.tile (8 * n + k) with
      on := tcurCode v k != 0
      ttrim := if tcurCode v k = 0 then (s.tile (8 * n + k)).ttrim else BitVec.ofNat 8 (tcurTrim (tcurCode v k))
      parityBad := false } := by
  have hnd : ((List.range 8).map (fun k => 8 * n + k)).Nodup :=
    List.nodup_range.map (fun a b h => by simpa using h)
  exact tilesChanged_same (fun k => 8 * n + k) _ hnd (List.mem_range.mpr hk) (by rw [hlen]; omega)

theorem tcurCode_lt (v k : Nat) : tcurCode v k < 4 := Nat.mod_lt _ (by decide)

section
variable {s : State} (hon : spiOn s = true) (hm : s.mode.ifMode = .compat)
include hon hm

theorem execGcurWrite_taken {v : BitVec 16} (hb : blockOff 8 s = false) (hg : TilesGood s) (hlen : s.arr.tiles.length = 256)
    (ha : gcurAllowed v.toNat s) : ∃ t, exec (.gcurWrite v) s = .next t ∧ t.arr.gtrim.toNat = v.toNat % 256 ∧
      (∀ x ∈ t.arr.tiles, x.range.toNat = v.toNat / 16384) ∧ t.legacy.range.toNat = v.toNat / 16384 ∧
      t.legacy.gtrim.toNat = v.toNat % 256 ∧ t.legacy.reply = legacyReply false 2 v.toNat := by
  have hv : v.toNat < 65536 := v.isLt
  have hw : legacyWrite 2 v.toNat s.legacy.keyHalf (framed s) = (gcurStored v.toNat (framed s), true) :=
    gcurWrite_taken hv hb hg ha
  have e : exec (.gcurWrite v) s = done (spiPeriod 32 [writeFrame 0x02 v.toNat] false s) := rfl
  rw [spiPeriod_writeFrame_taken hon hm rfl (by decide) hv hw, legacyReg_gcurStored hv] at e
  have hr : (BitVec.ofNat 2 (v.toNat / 16384)).toNat = v.toNat / 16384 := Nat.mod_eq_of_lt (by omega)
  have hgt : (BitVec.ofNat 8 (v.toNat % 256)).toNat = v.toNat % 256 := Nat.mod_eq_of_lt (by omega)
  refine ⟨_, e, ?_, fun x hx => ?_, ?_, ?_, settle_keeps (fun u => u.legacy.reply) (fun _ => rfl) _⟩
  · rw [settle_keeps (fun u => u.arr.gtrim) (fun _ => rfl)]; exact hgt
  · have hx' := List.mem_map_of_mem (f := fun x : Tile => x.range) hx
    rw [settle_tiles_map _ (fun _ => rfl), List.mem_map] at hx'
    obtain ⟨y, hy, hyx⟩ := hx'
    rw [← hyx, gcurStored_range hlen y hy, hr]
  · rw [settle_keeps (fun u => u.legacy.range) (fun _ => rfl)]; exact hr
  · rw [settle_keeps (fun u => u.legacy.gtrim) (fun _ => rfl)]; exact hgt

theorem execGcurWrite_refused {v : BitVec 16} (ha : ¬ gcurAllowed v.toNat s) : ∃ t, exec (.gcurWrite v) s = .next t ∧
    t.arr.gtrim = s.arr.gtrim ∧ t.legacy.reply = legacyReply true 2 3 ∧ t.legacy.fault.getLsbD 8 = true := by
  have hw : legacyWrite 2 v.toNat s.legacy.keyHalf (framed s) = (framed s, false) := gcurWrite_refused v.isLt ha
  have e : exec (.gcurWrite v) s = done (spiPeriod 32 [writeFrame 0x02 v.toNat] false s) := rfl
  rw [spiPeriod_writeFrame_refused hon hm rfl (by decide) v.isLt hw] at e
  exact ⟨_, e, settle_keeps (fun u => u.arr.gtrim) (fun _ => rfl) _, settle_refused _ _⟩

omit hon hm in
theorem legacyWrite_tcur (n : Fin 32) (v : Nat) (half : Bool) : legacyWrite (0x20 + n.val) v half s = tcurWrite n.val v s := by
  have hn := n.isLt
  have hyes : 0x20 ≤ 0x20 + n.val ∧ 0x20 + n.val < 0x40 := by omega
  rw [legacyWrite, if_neg (by omega), if_neg (by omega), if_neg (by omega), if_neg (by omega), if_pos hyes,
    Nat.add_sub_cancel_left]

omit hon hm in
theorem legacyReg_tcur (n : Fin 32) : legacyReg (0x20 + n.val) s = (s.legacy.tcur.getD n.val 0).toNat := by
  have hn := n.isLt
  have hyes : 0x20 ≤ 0x20 + n.val ∧ 0x20 + n.val < 0x40 := by omega
  rw [legacyReg_of_le (by omega), if_pos hyes, Nat.add_sub_cancel_left]

omit hon hm in
theorem legacyAssigned_tcur (n : Fin 32) : legacyAssigned (0x20 + n.val) = true := by
  have hn := n.isLt
  simp [legacyAssigned]; omega

theorem execTcurWrite_taken (n : Fin 32) {v : BitVec 16} (hb : blockOff 8 s = false) (hg : TilesGood s)
    (hlen : s.arr.tiles.length = 256) (ht : s.legacy.tcur.length = 32)
    (ha : ∀ k, k < 8 → tcurCode v.toNat k = 0 ∨
      currentAllowed s.legacy.range.toNat s.legacy.gtrim.toNat (64 * tcurCode v.toNat k) = true) :
    ∃ t, exec (.tcurWrite n v) s = .next t ∧ t.legacy.tcur.getD n.val 0 = v ∧
      t.legacy.reply = legacyReply false (0x20 + n.val) v.toNat ∧
      ∀ k, k < 8 → (t.tile (8 * n.val + k)).on = decide (tcurCode v.toNat k ≠ 0) ∧
        (tcurCode v.toNat k ≠ 0 → (t.tile (8 * n.val + k)).ttrim.toNat = 64 * tcurCode v.toNat k) := by
  have hn := n.isLt
  have hw : legacyWrite (0x20 + n.val) v.toNat s.legacy.keyHalf (framed s) = (tcurStored n.val v.toNat (framed s), true) :=
    (legacyWrite_tcur n v.toNat _).trans (tcurWrite_taken hb hg ha)
  have hreg : (tcurStored n.val v.toNat (framed s)).legacy.tcur.getD n.val 0 = v := by
    show (s.legacy.tcur.set n.val (BitVec.ofNat 16 v.toNat)).getD n.val 0 = v
    rw [List.getD_eq_getElem?_getD, List.getElem?_set_self (by omega), BitVec.ofNat_toNat, BitVec.setWidth_eq, Option.getD_some]
  have e : exec (.tcurWrite n v) s = done (spiPeriod 32 [writeFrame (0x20 + n.val) v.toNat] false s) := rfl
  rw [spiPeriod_writeFrame_taken hon hm (legacyAssigned_tcur n) (by omega) v.isLt hw, legacyReg_tcur, hreg] at e
  refine ⟨_, e, ?_, settle_keeps (fun u => u.legacy.reply) (fun _ => rfl) _, fun k hk => ?_⟩
  · rw [settle_keeps (fun u => u.legacy.tcur) (fun _ => rfl)]; exact hreg
  · have htile := tcurStored_tile (v := v.toNat) (s := framed s) hn hk hlen
    have hlt := tcurCode_lt v.toNat k
    rw [settle_tile_on, settle_tile_ttrim]
    refine ⟨(congrArg Tile.on htile).trans (by rw [Bool.eq_iff_iff]; simp), fun hc => ?_⟩
    refine (congrArg (fun x : Tile => x.ttrim.toNat) htile).trans ?_
    simp only [if_neg hc, BitVec.toNat_ofNat, tcurTrim]
    omega

theorem execTcurWrite_refused (n : Fin 32) {v : BitVec 16} {k : Nat} (hk : k < 8) (hc : tcurCode v.toNat k ≠ 0)
    (ha : currentAllowed s.legacy.range.toNat s.legacy.gtrim.toNat (64 * tcurCode v.toNat k) = false) :
    ∃ t, exec (.tcurWrite n v) s = .next t ∧ t.legacy.tcur = s.legacy.tcur ∧
      t.legacy.reply = legacyReply true (0x20 + n.val) 3 ∧ t.legacy.fault.getLsbD 8 = true := by
  have hn := n.isLt
  have hw : legacyWrite (0x20 + n.val) v.toNat s.legacy.keyHalf (framed s) = (framed s, false) :=
    (legacyWrite_tcur n v.toNat _).trans (tcurWrite_refused hk hc ha)
  have e : exec (.tcurWrite n v) s = done (spiPeriod 32 [writeFrame (0x20 + n.val) v.toNat] false s) := rfl
  rw [spiPeriod_writeFrame_refused hon hm (legacyAssigned_tcur n) (by omega) v.isLt hw] at e
  exact ⟨_, e, settle_keeps (fun u => u.legacy.tcur) (fun _ => rfl) _, settle_refused _ _⟩

end

/-- Settles O54: each frame in compatibility mode is one read or one write of a legacy register, with the reply it leaves. -/
theorem legacyFramesAct : Obligations.LegacyFramesAct := by
  unfold Obligations.LegacyFramesAct
  intro s hon hm
  refine ⟨execLegacyFrame_short hon hm, execLegacyFrame_id hon hm, execKeyWrite_first hon hm, execKeyWrite_second hon hm,
    fun v hb hp hf hlen => ⟨fun ha => execGcurWrite_taken hon hm hb ⟨hp, hf⟩ hlen ha, fun ⟨x, hx, hlt⟩ => ?_⟩,
    fun n v hb hp hf hlen ht => ⟨fun ha => execTcurWrite_taken hon hm n hb ⟨hp, hf⟩ hlen ht ha,
      fun k hk hc ha => execTcurWrite_refused hon hm n hk hc ha⟩,
    execLegacyModeWrite_refused hon hm, execLegacyModeWrite_s1 hon hm, execFaultRead_clears hon hm,
    execLegacyClearOnRead_verr hon hm, execLegacyClearOnRead_vdrop hon hm, execLegacyClearOnRead_tflt hon hm⟩
  exact execGcurWrite_refused hon hm (fun ha => absurd (ha x hx) (Nat.not_le_of_lt hlt))

end Sys2Proof.Machine
end

section
/-! Supervisors, the resets of the module and the boot (R435, R442, R443, R458, R519). -/

namespace Sys2Proof.Machine

/-! ### Supervisors (R435) -/

theorem settle_inReset (s : State) : (settle s).pwr.inReset = s.pwr.inReset :=
  settle_keeps (fun u => u.pwr.inReset) (fun _ => rfl) s

theorem settle_porHeld (s : State) : (settle s).pwr.porHeld = s.pwr.porHeld :=
  settle_keeps (fun u => u.pwr.porHeld) (fun _ => rfl) s

section
variable (mv : Supply) {s : State}

theorem execPorRelease_held (h : s.pwr.porHeld = true) : ∃ t, exec (.porRelease mv) s = .next t ∧ t.pwr.porHeld = false ∧
    t.pwr.inReset = (!s.pwr.resetLvl && !s.pwr.ignore) ∧ t.pwr.vhuMv = min mv.vhu 8191 ∧ t.pwr.low = false := by
  have e : exec (.porRelease mv) s = done (holdReset (s.modPwr (fun p =>
      { takeSupply mv p with porHeld := false, low := false, saveLvl := false }))) := by
    show done (if s.pwr.porHeld then _ else s) = _
    rw [if_pos h]
  refine ⟨_, e, ?_, ?_, ?_, ?_⟩
  · rw [settle_porHeld]; rfl
  · rw [settle_inReset]; rfl
  · exact settle_keeps (fun u => u.pwr.vhuMv) (fun _ => rfl) _
  · exact settle_keeps (fun u => u.pwr.low) (fun _ => rfl) _

variable (h : s.pwr.porHeld = false)
include h

theorem execVsupLow_reports (hf : fails 15 0 false s = false) : exec (.vsupLow mv) s = .next (settle (raiseFault 15 0 0 true false
    { s with pwr := { takeSupply mv s.pwr with low := true, ov := false } })) := by
  show done (if s.pwr.porHeld then s else _) = _
  rw [if_neg (by rw [h]; decide)]
  exact congrArg done (ownCheck_found 0 (s := s.modPwr (fun p => { takeSupply mv p with low := true, ov := false })) hf)

theorem execVsupOv_reports (hf : fails 15 1 false s = false) : exec (.vsupOv mv) s = .next (settle (raiseFault 15 1 0 true false
    { s with pwr := { takeSupply mv s.pwr with ov := true, low := false, saveLvl := false } })) := by
  show done (if s.pwr.porHeld then s else _) = _
  rw [if_neg (by rw [h]; decide)]
  exact congrArg done (ownCheck_found 0 (s := s.modPwr (fun p => { takeSupply mv p with ov := true, low := false, saveLvl := false })) hf)

theorem execVsupLowClear_clears : exec (.vsupLowClear mv) s = .next (settle { s with pwr := { takeSupply mv s.pwr with
    low := false, saveLvl := false, ov := s.pwr.ov && decide (3700 ≤ mv.vhu) } }) := by
  show done (if s.pwr.porHeld then s else _) = _
  rw [if_neg (by rw [h]; decide)]
  rfl

theorem execVregFail_reports (n : Fin 16) (hf : fails 15 2 false s = false) : exec (.vregFail n) s =
    .next (settle (raiseFault 15 2 n.val true false { s with pwr := { s.pwr with regGood := false, vregBad := true } })) := by
  show done (if s.pwr.porHeld then s else _) = _
  rw [if_neg (by rw [h]; decide)]
  exact congrArg done (ownCheck_found n.val (s := s.modPwr (fun p => { p with regGood := false, vregBad := true })) hf)

end

/-! ### What every reset of the module keeps (R442) -/

/-- From `s` to `t` the bytes and locks of Keep, the bytes of external memory and the queue of the host are kept. -/
structure MemoryKept (s t : State) : Prop where
  keep : t.keep.bytes = s.keep.bytes
  lock : t.keep.lock = s.keep.lock
  cs0 : t.xmem.cs0.bytes = s.xmem.cs0.bytes
  cs1 : t.xmem.cs1.bytes = s.xmem.cs1.bytes
  pending : t.pending = s.pending

theorem memoryKept_settle {s t : State} (h : MemoryKept s t) : MemoryKept s (settle t) :=
  ⟨by rw [settle_keep]; exact h.keep, by rw [settle_keep]; exact h.lock, by rw [settle_xmem]; exact h.cs0,
    by rw [settle_xmem]; exact h.cs1, by rw [settle_pending]; exact h.pending⟩

theorem memoryKept_of_untouched {s t u : State} (h : MemoryKept s t) (hu : untouched u = untouched t) : MemoryKept s u :=
  ⟨(keeps_of_untouched (fun v => v.keep.bytes) (fun _ => rfl) hu).trans h.keep,
    (keeps_of_untouched (fun v => v.keep.lock) (fun _ => rfl) hu).trans h.lock,
    (keeps_of_untouched (fun v => v.xmem.cs0.bytes) (fun _ => rfl) hu).trans h.cs0,
    (keeps_of_untouched (fun v => v.xmem.cs1.bytes) (fun _ => rfl) hu).trans h.cs1,
    (keeps_of_untouched (fun v => v.pending) (fun _ => rfl) hu).trans h.pending⟩

/-- POR holds the module in reset with cause 1 (R435). -/
theorem execPorTrip_holds (s : State) : ∃ t, exec .porTrip s = .next t ∧ t.pwr.porHeld = true ∧ t.pwr.inReset = true ∧
    t.pwr.rstCause = 1 ∧ t.pwr.ready = false ∧ MemoryKept s t := by
  have hs (c : Bool) (u : State) (hu : u = if c then s.modPwr (fun p => { p with slots := p.slots.set (freeSlot s) none }) else s) :
      MemoryKept s u := by
    cases c <;> exact hu ▸ ⟨rfl, rfl, rfl, rfl, rfl⟩
  obtain ⟨hk, hl, h0, h1, hp⟩ := hs s.pwr.saving.isSome _ rfl
  refine ⟨_, rfl, ?_, ?_, ?_, ?_, memoryKept_settle ⟨hk, hl, h0, h1, hp⟩⟩
  · rw [settle_porHeld]; rfl
  · rw [settle_inReset]; rfl
  · rw [settle_rstCause]; rfl
  · rw [settle_ready]; rfl

/-- RESET_N before it is stuck and outside a save resets the module to S0 with cause 2 (R442). -/
theorem execResetNAssert_resets {s : State} (hi : s.pwr.ignore = false) (hp : s.pwr.porHeld = false)
    (hs : s.pwr.saving = none) : ∃ t, exec .resetNAssert s = .next t ∧ t.pwr.inReset = true ∧ t.pwr.rstCause = 2 ∧
      t.pwr.pstate = .s0 ∧ t.pwr.ready = false ∧ MemoryKept s t ∧ t.store = {} ∧ t.cmd.sessOpen = false := by
  have e : exec .resetNAssert s = done (holdReset (resetTo 2 (s.modPwr (fun p =>
      { p with resetLvl := false, lowAt := if p.resetLvl then s.ticks else p.lowAt })))) := by
    show done _ = _
    rw [hi, hp, hs]; rfl
  refine ⟨_, e, ?_, ?_, ?_, ?_, memoryKept_settle ⟨rfl, rfl, rfl, rfl, rfl⟩, ?_, ?_⟩
  · rw [settle_inReset]
    show (s.pwr.porHeld || (!false && !s.pwr.ignore)) = true
    rw [hi]; exact Bool.or_true _
  · rw [settle_rstCause]; rfl
  · rw [settle_pstate]; rfl
  · rw [settle_ready]; rfl
  · rw [settle_store (fun e => by cases e <;> rfl)]; rfl
  · rw [settle_sessOpen]; rfl

theorem execResetNAssert_saving {s : State} (hi : s.pwr.ignore = false) (hp : s.pwr.porHeld = false)
    (hs : s.pwr.saving ≠ none) : exec .resetNAssert s = .next (settle { s with pwr := { s.pwr with
      resetLvl := false, lowAt := if s.pwr.resetLvl then s.ticks else s.pwr.lowAt, resetHeld := true } }) := by
  show done _ = _
  rw [hi, hp, Option.isSome_iff_ne_none.mpr hs]; rfl

theorem execResetNAssert_ignored {s : State} (hi : s.pwr.ignore = true) : exec .resetNAssert s = .next (settle { s with
    pwr := { s.pwr with resetLvl := false, lowAt := if s.pwr.resetLvl then s.ticks else s.pwr.lowAt } }) := by
  show done _ = _
  rw [hi]; rfl

theorem execResetNIgnoreEnd_ignored {s : State} (hi : s.pwr.ignore = true) : exec .resetNIgnoreEnd s =
    .next (settle { s with pwr := { s.pwr with ignore := false, resetLvl := true } }) := by
  show done (if s.pwr.ignore then _ else s) = _
  rw [if_pos hi]; rfl

/-! ### A stuck RESET_N (R443) -/

theorem stuckDue_eq (s : State) : stuckDue s = (!s.pwr.resetLvl && decide (s.pwr.lowAt + 1212500000 ≤ s.ticks)) := by
  have ht : 4850 * ticksPerMs = 1212500000 := rfl
  rw [stuckDue, ht]

theorem execResetStuck_early {s : State} (h : s.ticks < s.pwr.lowAt + 1212500000) :
    exec .resetStuck s = .next (settle s) := by
  have hd : stuckDue s = false := by
    rw [stuckDue_eq, decide_eq_false (Nat.not_le_of_lt h), Bool.and_false]
  show done (if (s.pwr.inReset && stuckDue s && !s.pwr.porHeld) = true then _ else s) = _
  rw [hd, Bool.and_false, Bool.false_and]; rfl

/-- The reset of a stuck RESET_N, before its report: cause 5, outside reset (R443, R444). -/
def stuckReset (s : State) : State :=
  holdReset (systemEntry 5 (((resetTo 5 s).modPwr (fun p => { p with stuck := true, ignore := true, causeOwed := false })).hit
    15 0x0204 2))

theorem untouched_stuckReset (s : State) : untouched (stuckReset s) = untouched (holdReset (((resetTo 5 s).modPwr (fun p =>
    { p with stuck := true, ignore := true, causeOwed := false })).hit 15 0x0204 2)) := by
  unfold stuckReset systemEntry pushLog
  split <;> rfl

theorem execResetStuck_due {s : State} (hr : s.pwr.inReset = true) (hl : s.pwr.resetLvl = false) (hp : s.pwr.porHeld = false)
    (h : s.pwr.lowAt + 1212500000 ≤ s.ticks) : ∃ t, exec .resetStuck s = .next t ∧ t.pwr.stuck = true ∧ t.pwr.ignore = true ∧
      t.pwr.rstCause = 5 ∧ t.pwr.inReset = false ∧ MemoryKept s t := by
  have hd : stuckDue s = true := by
    rw [stuckDue_eq, hl, decide_eq_true h]; rfl
  have e : exec .resetStuck s = done (raiseFault 15 5 0 true false (stuckReset s)) := by
    show done (if (s.pwr.inReset && stuckDue s && !s.pwr.porHeld) = true then _ else s) = _
    rw [hr, hd, hp]; rfl
  have hu := (untouched_raiseFault 15 5 0 true false (stuckReset s)).trans (untouched_stuckReset s)
  have hs := (untouched_settle (raiseFault 15 5 0 true false (stuckReset s))).trans hu
  refine ⟨_, e, ?_, ?_, ?_, ?_, memoryKept_of_untouched ?_ hs⟩
  · exact keeps_of_untouched (fun v => v.pwr.stuck) (fun _ => rfl) hs
  · exact keeps_of_untouched (fun v => v.pwr.ignore) (fun _ => rfl) hs
  · exact keeps_of_untouched (fun v => v.pwr.rstCause) (fun _ => rfl) hs
  · refine (keeps_of_untouched (fun v => v.pwr.inReset) (fun _ => rfl) hs).trans ?_
    show (s.pwr.porHeld || (!s.pwr.resetLvl && !true)) = false
    rw [hp]; exact Bool.and_false _
  · exact ⟨rfl, rfl, rfl, rfl, rfl⟩

/-! ### The end of a boot (R441, R458) -/

/-- Both cores run and READY is reached. -/
def BootDone (s : State) : Prop := s.pwr.ready = true ∧ s.rigger.safeRun = true ∧ s.rigger.svcRun = true

/-- READY and the cores that run. -/
def bootBits (s : State) : Bool × Bool × Bool := (s.pwr.ready, s.rigger.safeRun, s.rigger.svcRun)

theorem bootDone_iff (s : State) : BootDone s ↔ bootBits s = (true, true, true) := by simp [BootDone, bootBits]

theorem bootBits_of_untouched {s t : State} (h : untouched t = untouched s) : bootBits t = bootBits s :=
  keeps_of_untouched bootBits (fun _ => rfl) h

theorem bootBits_of_offLinks {s t : State} (h : offLinks t = offLinks s) : bootBits t = bootBits s :=
  (congrArg bootBits h : bootBits (offLinks t) = bootBits (offLinks s))

theorem bootBits_foldl {α : Type} (f : State → α → State) (h : ∀ s a, bootBits (f s a) = bootBits s) (l : List α) (s : State) :
    bootBits (l.foldl f s) = bootBits s := by
  induction l generalizing s with
  | nil => rfl
  | cons a l ih => rw [List.foldl_cons, ih, h]

theorem bootBits_modEng (e : Eng) (f : Engine → Engine) (s : State) : bootBits (s.modEng e f) = bootBits s := by
  cases e <;> rfl

theorem bootBits_startStep1 (e : Eng) (s : State) : bootBits (startStep1 e s) = bootBits s :=
  bootBits_of_untouched (untouched_startStep1 e s)

theorem bootBits_queueEvent (c v : Nat) (ws : List Word) (s : State) : bootBits (queueEvent c v ws s) = bootBits s :=
  bootBits_of_untouched (untouched_queueEvent c v ws s)

theorem bootBits_startEngines (s : State) : bootBits (startEngines s) = bootBits s :=
  bootBits_foldl _ (fun s e => by split; exacts [bootBits_startStep1 e s, rfl]) _ s

theorem bootBits_endSwitchover (s : State) : bootBits (endSwitchover s) = bootBits s := by
  unfold endSwitchover
  split
  · split
    · rfl
    · extract_lets s1 s2 s3
      have h2 : bootBits s2 = bootBits s1 := bootBits_modEng _ _ s1
      have h3 : bootBits s3 = bootBits s2 := bootBits_queueEvent _ _ _ s2
      rw [bootBits_startStep1, h3, h2]; rfl
  · rfl

theorem bootBits_stopEngines (s : State) : bootBits (stopEngines s) = bootBits s := by
  unfold stopEngines
  extract_lets stop
  have h : bootBits (bothEngs.foldl stop (dropTrims s)) = bootBits (dropTrims s) :=
    bootBits_foldl stop (fun s e => bootBits_modEng e _ s) _ _
  exact h

theorem bootBits_goDeep (s : State) : bootBits (goDeep s) = bootBits s := by
  unfold goDeep
  extract_lets s1
  have h1 : bootBits s1 = bootBits s := by
    simp only [s1]
    split <;> rfl
  have hh (u : State) : bootBits (stopHeartbeats u) = bootBits u := bootBits_foldl _ (fun s e => bootBits_modEng e _ s) _ u
  rw [bootBits_of_offLinks (offLinks_endSession _ _), hh, bootBits_stopEngines, bootBits_endSwitchover, h1]

theorem offLinks_detectEntry (q : Bool) (p : HPort) (s : State) : offLinks (detectEntry q p s) = offLinks s := by
  unfold detectEntry
  rw [offLinks_modPort, offLinks_hitIf, offLinks_quit]

theorem offLinks_portDown (f : Bool) (p : HPort) (s : State) : offLinks (portDown f p s) = offLinks s := by
  unfold portDown
  split
  · rfl
  · rfl
  · rw [offLinks_afterReplies, offLinks_modPort]
  · rw [offLinks_modPort]
  · split
    · rfl
    · rw [offLinks_modPort, offLinks_detectEntry]
  · rw [offLinks_modPort, offLinks_detectEntry]

theorem bootBits_enterState_s2 (c : Nat) (s : State) : bootBits (enterState c .s2 s) = bootBits s := by
  have hc (u : State) : bootBits (changeState c .s2 u) = bootBits u := bootBits_queueEvent _ _ _ _
  have hp (u : State) : bootBits (portDown false .p1 (portDown false .p0 u)) = bootBits u :=
    bootBits_of_offLinks ((offLinks_portDown _ _ _).trans (offLinks_portDown _ _ _))
  exact (hc _).trans ((hp _).trans (bootBits_goDeep (s.modPwr (fun p => { p with entryTo := none }))))

theorem bootBits_beginSave (c : Nat) (s : State) : bootBits (beginSave c s) = bootBits s := by
  have hm (f : Pwr → Pwr) (hf : ∀ p, (f p).ready = p.ready) (u : State) : bootBits (u.modPwr f) = bootBits u := by
    simp only [bootBits, State.modPwr, hf]
  have ho (u : State) : bootBits (enterOff .p1 (enterOff .p0 u)) = bootBits u :=
    bootBits_of_offLinks ((offLinks_enterOff _ _).trans (offLinks_enterOff _ _))
  unfold beginSave
  split
  · rfl
  · split
    · exact hm _ (fun _ => rfl) s
    · split
      · have hw : bootBits (if s.pwr.wakeStage = 0 then s else sleepClocks s) = bootBits s := by split <;> rfl
        exact (hm _ (fun _ => rfl) _).trans hw
      · exact (hm _ (fun _ => rfl) _).trans (ho s)

theorem bootBits_saveRemoved (s : State) : bootBits (saveRemoved s) = bootBits s := by
  unfold saveRemoved
  extract_lets s1
  split
  · exact (bootBits_of_untouched (untouched_raiseFault 15 6 0 true false s1)).trans (bootBits_beginSave 2 s)
  · exact bootBits_beginSave 2 s

theorem bootBits_bootPort (p : HPort) (s : State) : bootBits (bootPort p s) = bootBits s := by
  unfold bootPort
  split
  · exact bootBits_of_offLinks (offLinks_enterDetect p s)
  · rfl

/-- READY is reached with the cores as they are (R441, R458). -/
theorem bootDone_reachReady (present : Bool) {s : State} (h : s.rigger.safeRun = true ∧ s.rigger.svcRun = true) :
    BootDone (reachReady present s) := by
  rw [bootDone_iff]
  unfold reachReady
  extract_lets s1 s2 s3
  have h1 : bootBits s1 = (true, true, true) := by simp only [bootBits, s1, State.modPwr, h]
  have h2 : bootBits s2 = bootBits s1 := (bootBits_queueEvent _ _ _ _).trans (bootBits_startEngines s1)
  have h3 : bootBits s3 = bootBits s2 := by
    simp only [s3]
    split
    · exact bootBits_enterState_s2 1 s2
    · rfl
  split
  · exact h3.trans (h2.trans h1)
  · exact (bootBits_saveRemoved s3).trans (h3.trans (h2.trans h1))

/-- Whatever its steps 4 to 8 find, a boot ends with READY and both cores running (R458). -/
theorem bootDone_bootFrom4 (b : BootEnv) (r : Option SaveRec) (s : State) : BootDone (bootFrom4 b r s) := by
  unfold bootFrom4
  extract_lets s1 s2 s4 s6 s7 r8 s8
  have h8 : s8.rigger.safeRun = true ∧ s8.rigger.svcRun = true := ⟨rfl, rfl⟩
  clear_value s8
  have hq : bootBits (bootPort .p1 (bootPort .p0 (setReq (vadjMax s8) s8))) = bootBits s8 := by
    rw [bootBits_bootPort, bootBits_bootPort]; rfl
  have hc := congrArg Prod.snd hq
  refine bootDone_reachReady b.present ?_
  exact ⟨(congrArg Prod.fst hc).trans h8.1, (congrArg Prod.snd hc).trans h8.2⟩

theorem bootDone_settle {s : State} (h : BootDone s) : BootDone (settle s) :=
  (bootDone_iff _).mpr ((bootBits_of_untouched (untouched_settle s)).trans ((bootDone_iff s).mp h))

/-! ### The boot (R458, R519) -/

/-- The state in which a boot runs: RESET_N is released. -/
def bootReleased (s : State) : State := s.modPwr (fun p => { p with inReset := false, resetLvl := p.resetLvl || !p.ignore })

theorem execBoot_idle (b : BootEnv) {s : State} (h : booting s = false) : exec (.boot b) s = .next (settle s) := by
  show done (if booting s then _ else s) = _
  rw [h]; rfl

theorem execBoot_from4 (b : BootEnv) {s : State} (h : booting s = true) (h4 : s.pwr.bootFrom4 = true)
    (ht : s.mode.testHeld = false) : exec (.boot b) s = done (bootFrom4 b none (writeOwed (bootReleased s))) := by
  have hc : (s.pwr.bootFrom4 && !s.mode.testHeld) = true := by rw [h4, ht]; rfl
  show done (if booting s then (if s.pwr.bootFrom4 && !s.mode.testHeld then bootFrom4 b none (writeOwed (bootReleased s))
    else _) else s) = _
  rw [if_pos h, if_pos hc]

theorem execBoot_all (b : BootEnv) {s : State} (h : booting s = true) (h4 : s.pwr.bootFrom4 = false) :
    exec (.boot b) s = done (bootAll b (bootReleased s)) := by
  have hn : ¬ (s.pwr.bootFrom4 && !s.mode.testHeld) = true := by
    rw [h4, Bool.false_and]
    exact Bool.false_ne_true
  show done (if booting s then (if s.pwr.bootFrom4 && !s.mode.testHeld then _ else bootAll b (bootReleased s)) else s) = _
  rw [if_pos h, if_neg hn]

theorem bootDone_bootAll {b : BootEnv} {s : State} (hb : b.testN = true) (ht : s.mode.testHeld = false) :
    BootDone (bootAll b s) := by
  unfold bootAll
  extract_lets s1 s2
  rw [if_neg (by rw [hb, ht]; decide)]
  split
  · exact bootDone_bootFrom4 _ _ _
  · exact bootDone_bootFrom4 _ _ _

theorem bootAll_stopped {b : BootEnv} (hb : b.testN = false) (s : State) :
    bootAll b s = stopAtTest (takeStrap b.compat (readHeader b.keepEcc s)) := by
  unfold bootAll
  extract_lets s1 s2
  rw [if_pos (by rw [hb]; rfl)]

/-- Reading the header of Keep leaves the interface mode and READY. -/
theorem readHeader_kept (ecc : Nat) (s : State) :
    (readHeader ecc s).mode = s.mode ∧ (readHeader ecc s).pwr.ready = s.pwr.ready := by
  let g (u : State) : ModeSt × Bool := (u.mode, u.pwr.ready)
  suffices h : g (readHeader ecc s) = g s from Prod.mk.inj h
  unfold readHeader
  extract_lets count
  have hc (u : State) (one : Bool) : g (count u one) = g u := by
    simp only [count]
    split <;> rfl
  have hr := keepRead_keeps g (fun _ => rfl) (fun _ _ _ => rfl) ecc (count (count s false) true)
  generalize keepRead ecc (count (count s false) true) = r at hr ⊢
  obtain ⟨s1, bad⟩ := r
  have h1 : g s1 = g s := hr.trans ((hc _ _).trans (hc _ _))
  simp only
  split
  · exact h1
  · exact (keeps_of_untouched g (fun _ => rfl) (untouched_raiseFault 13 2 0 true false _)).trans h1

/-- TEST_N low stops a boot at step 3 with the interface mode of the strap (R5, R519). -/
theorem execBoot_stopped {b : BootEnv} {s : State} (h : booting s = true) (h4 : s.pwr.bootFrom4 = false) (hb : b.testN = false) :
    ∃ t, exec (.boot b) s = .next t ∧ t.pwr.ready = false ∧ t.pwr.bootStopped = true ∧ t.mode.testHeld = true ∧
      t.bstay.beam = .dark ∧ t.mode.ifMode = (if s.mode.forceNative || b.compat then .native else .compat) := by
  have hready : s.pwr.ready = false := by
    simp only [booting, Bool.and_eq_true, Bool.not_eq_true'] at h
    exact h.1.1.1.1
  have e := execBoot_all b h h4
  rw [bootAll_stopped hb] at e
  obtain ⟨hm, hr⟩ := readHeader_kept b.keepEcc (bootReleased s)
  generalize readHeader b.keepEcc (bootReleased s) = u at e hm hr
  refine ⟨_, e, ?_, settle_keeps (fun u => u.pwr.bootStopped) (fun _ => rfl) _, ?_, (settle_dark rfl).1, ?_⟩
  · rw [settle_ready]
    exact hr.trans hready
  · rw [settle_mode]; rfl
  · rw [settle_mode]
    show (if u.mode.forceNative || b.compat then IfMode.native else IfMode.compat) = _
    rw [hm]; rfl

/-- Settles O47: the reset keeps what the memories hold and gives the rest its reset value, and the end of the boot does not
depend on what its steps find. -/
theorem supervisorsResetsAndBoot : Obligations.SupervisorsResetsAndBoot := by
  unfold Obligations.SupervisorsResetsAndBoot
  refine ⟨fun s => ⟨?_, fun mv => execPorRelease_held mv, fun mv hp => ?_, fun hi hp => ⟨fun hs => ?_, execResetNAssert_saving hi hp⟩,
    fun hi => ⟨execResetNAssert_ignored hi, execResetNIgnoreEnd_ignored hi⟩, execResetStuck_early, fun hr hl hp hd => ?_⟩,
    execBoot_idle, fun b s h h4 ht => ?_, fun b s h h4 => ⟨fun hb ht => ?_, execBoot_stopped h h4⟩⟩
  · obtain ⟨t, e, hpor, hin, hcause, hready, hk⟩ := execPorTrip_holds s
    exact ⟨t, e, hpor, hin, hcause, hready, hk.keep, hk.lock, hk.cs0, hk.cs1, hk.pending⟩
  · exact ⟨execVsupLow_reports mv hp, execVsupOv_reports mv hp, execVsupLowClear_clears mv hp, execVregFail_reports hp⟩
  · obtain ⟨t, e, hin, hcause, hs0, hready, hk, hstore, hsess⟩ := execResetNAssert_resets hi hp hs
    exact ⟨t, e, hin, hcause, hs0, hready, hk.keep, hk.lock, hk.cs0, hk.cs1, hstore, hsess, hk.pending⟩
  · obtain ⟨t, e, hstuck, hign, hcause, hin, hk⟩ := execResetStuck_due hr hl hp hd
    exact ⟨t, e, hstuck, hign, hcause, hin, hk.keep, hk.lock, hk.cs0, hk.cs1, hk.pending⟩
  · exact ⟨_, execBoot_from4 b h h4 ht, bootDone_settle (bootDone_bootFrom4 _ _ _)⟩
  · exact ⟨_, execBoot_all b h h4, bootDone_settle (bootDone_bootAll hb ht)⟩

end Sys2Proof.Machine
end

section
/-! Pages of SPI NAND that a write leaves incomplete, and their programming (R471). -/

namespace Sys2Proof.Machine

/-- The bytes of a page of `size` bytes of which only those of `bs`, from offset `o` on, have come. -/
def pagePart (size o : Nat) (bs : List Byte) : List (Option Byte) :=
  List.replicate o none ++ bs.map some ++ List.replicate (size - (o + bs.length)) none

section
variable {size o : Nat} {bs : List Byte}

theorem length_pagePart (h : o + bs.length ≤ size) : (pagePart size o bs).length = size := by
  simp only [pagePart, List.length_append, List.length_replicate, List.length_map]
  omega

theorem pagePart_in {i : Nat} (h : i < bs.length) : (pagePart size o bs)[o + i]? = some (some bs[i]) := by
  rw [pagePart, List.append_assoc, List.getElem?_append_right (by simp), List.getElem?_append_left (by simpa using h)]
  simp [h]

theorem pagePart_out {i : Nat} (hi : i < size) (h : i < o ∨ o + bs.length ≤ i) : (pagePart size o bs)[i]? = some none := by
  rcases h with h | h
  · rw [pagePart, List.append_assoc, List.getElem?_append_left (by simpa using h), List.getElem?_replicate, if_pos h]
  · have hlen : (List.replicate o (none : Option Byte) ++ bs.map some).length = o + bs.length := by simp
    rw [pagePart, List.getElem?_append_right (by omega), hlen, List.getElem?_replicate, if_pos (by omega)]

/-- Data into a page of which nothing has come. -/
theorem pagePart_eq (h : o + bs.length ≤ size) :
    ((List.replicate size (none : Option Byte)).take o ++ bs.map some ++
      (List.replicate size none).drop (o + bs.length)).take size = pagePart size o bs := by
  rw [List.take_replicate, List.drop_replicate, Nat.min_eq_left (by omega)]
  exact List.take_of_length_le (length_pagePart h).le

/-- A page is incomplete where less than a page has come. -/
theorem pagePart_incomplete (hlt : bs.length < size) :
    (pagePart size o bs).all (fun b => b.isSome) = false := by
  have hi : ∃ i, i < size ∧ (i < o ∨ o + bs.length ≤ i) := by
    rcases Nat.eq_zero_or_pos o with h0 | h0
    · exact ⟨bs.length, hlt, .inr (by omega)⟩
    · exact ⟨0, by omega, .inl h0⟩
  obtain ⟨i, hs, ho⟩ := hi
  exact List.all_eq_false.mpr ⟨none, List.mem_of_getElem? (pagePart_out hs ho), Bool.false_ne_true⟩

/-- The bytes that a page takes when it is programmed: those that have come, over those that it holds (R471). -/
theorem pageFilled (old : List Byte) (hold : old.length = size) (h : o + bs.length ≤ size) :
    let new := ((pagePart size o bs).zip old).map (fun q => q.1.getD q.2)
    new.length = size ∧ (∀ i, i < bs.length → new[o + i]? = bs[i]?) ∧
      ∀ i, i < size → i < o ∨ o + bs.length ≤ i → new[i]? = old[i]? := by
  intro new
  refine ⟨by simp [new, length_pagePart h, hold], fun i hi => ?_, fun i hs ho => ?_⟩
  · have hq : old[o + i]? = some old[o + i] := List.getElem?_eq_getElem (by omega)
    have hz : ((pagePart size o bs).zip old)[o + i]? = some (some bs[i], old[o + i]) :=
      List.getElem?_zip_eq_some.mpr ⟨pagePart_in hi, hq⟩
    rw [List.getElem?_map, hz, List.getElem?_eq_getElem hi]; rfl
  · have hq : old[i]? = some old[i] := List.getElem?_eq_getElem (by omega)
    have hz : ((pagePart size o bs).zip old)[i]? = some (none, old[i]) :=
      List.getElem?_zip_eq_some.mpr ⟨pagePart_out hs ho, hq⟩
    rw [List.getElem?_map, hz, hq]; rfl

end

/-! ### A write short of a page -/

section
variable {cs : Bool} {a : Nat} {bs : List Byte} {s : State}

/-- The state with a page of a chip select that waits for the rest of its data. -/
def pageWaits (cs : Bool) (page : Nat) (part : List (Option Byte)) (s : State) : State :=
  s.modXmem (fun x => { x with
    partialPage := x.partialPage.filter (fun q => q.cs1 != cs) ++ [{ cs1 := cs, page := page, bytes := part }] })

theorem pageOf_pageWaits (cs : Bool) (page : Nat) (part : List (Option Byte)) (s : State) :
    pageOf cs (pageWaits cs page part s) = some { cs1 := cs, page := page, bytes := part } := by
  have hnone : (s.xmem.partialPage.filter (fun q : PartPage => q.cs1 != cs)).find? (fun p => p.cs1 == cs) = none := by
    rw [List.find?_eq_none]
    intro p hp
    simpa using (List.mem_filter.mp hp).2
  show (s.xmem.partialPage.filter (fun q : PartPage => q.cs1 != cs) ++ [_]).find? (fun p : PartPage => p.cs1 == cs) = _
  rw [List.find?_append, hnone]
  simp

theorem fillPage_incomplete {page o : Nat} (hp : pageOf cs s = none) (h : o + bs.length ≤ 2 ^ (s.mdev cs).pageLog2)
    (hlt : bs.length < 2 ^ (s.mdev cs).pageLog2) :
    fillPage cs page o bs s = pageWaits cs page (pagePart (2 ^ (s.mdev cs).pageLog2) o bs) s := by
  unfold fillPage
  simp only [hp, Option.any_none, Bool.false_eq_true, if_false, flushPage_none hp, Option.map_none, Option.getD_none,
    pagePart_eq h, pagePart_incomplete hlt]
  rfl

/-- A write to SPI NAND within a page and short of it waits (R471). -/
theorem memStore_waits (hn : isNand cs s = true) (hp : pageOf cs s = none)
    (hfit : a % 2 ^ (s.mdev cs).pageLog2 + bs.length ≤ 2 ^ (s.mdev cs).pageLog2) (h0 : 0 < bs.length)
    (hlt : bs.length < 2 ^ (s.mdev cs).pageLog2) :
    memStore cs a bs s = unverify cs a bs.length (pageWaits cs (a / 2 ^ (s.mdev cs).pageLog2)
      (pagePart (2 ^ (s.mdev cs).pageLog2) (a % 2 ^ (s.mdev cs).pageLog2) bs) s) := by
  obtain ⟨n, hfuel⟩ : ∃ n, bs.length = n + 1 := ⟨bs.length - 1, by omega⟩
  have hmin : min bs.length (2 ^ (s.mdev cs).pageLog2 - a % 2 ^ (s.mdev cs).pageLog2) = bs.length := by omega
  have hdone (fuel b : Nat) (u : State) : fillPages cs fuel b [] u = u := by
    cases fuel with
    | zero => rfl
    | succ fuel => simp [fillPages]
  have hfill : fillPages cs bs.length a bs s = fillPage cs (a / 2 ^ (s.mdev cs).pageLog2) (a % 2 ^ (s.mdev cs).pageLog2) bs s := by
    conv_lhs => rw [hfuel]
    rw [fillPages]
    simp only [hmin, if_neg h0.ne', List.take_length, List.drop_length, hdone]
  rw [memStore, if_pos hn, hfill, fillPage_incomplete hp hfit hlt]

/-- The page that waits, once it is programmed: the bytes written read back, and every other byte of the device is as before
(R471). -/
theorem flushPage_pageWaits {page o : Nat} {t : State} (hwf : Memory.wf erased (s.mdev cs).bytes = true)
    (hdev : t.mdev cs = s.mdev cs) (h : o + bs.length ≤ 2 ^ (s.mdev cs).pageLog2)
    (hp : pageOf cs t = some { cs1 := cs, page := page, bytes := pagePart (2 ^ (s.mdev cs).pageLog2) o bs }) :
    devBytes cs (page * 2 ^ (s.mdev cs).pageLog2 + o) bs.length (flushPage cs t) = bs ∧
      ∀ j, j < page * 2 ^ (s.mdev cs).pageLog2 + o ∨ page * 2 ^ (s.mdev cs).pageLog2 + o + bs.length ≤ j →
        memGet erased ((flushPage cs t).mdev cs).bytes j = memGet erased (s.mdev cs).bytes j := by
  generalize hsize : 2 ^ (s.mdev cs).pageLog2 = size at h hp ⊢
  generalize hbase : page * size = base
  have hold : devBytes cs base size t = (List.range size).map (fun i => memGet erased (s.mdev cs).bytes (base + i)) := by
    rw [devBytes, hdev, memRead_eq erased _ _ _ ((Memory.wf_iff _ _).mp hwf).1]
  obtain ⟨hlen, hin, hout⟩ := pageFilled (o := o) (bs := bs) (devBytes cs base size t) (by rw [hold]; simp) h
  generalize hnew : ((pagePart size o bs).zip (devBytes cs base size t)).map (fun q => q.1.getD q.2) = new at hlen hin hout
  have hb : ((flushPage cs t).mdev cs).bytes = memWrite erased (s.mdev cs).bytes base new := by
    have hf : flushPage cs t = devWrite cs base new (t.modXmem (fun x => { x with
        partialPage := x.partialPage.filter (fun q => q.cs1 != cs) })) := by
      rw [← hnew, ← hbase, ← hsize, ← hdev]
      simp only [flushPage, hp, hdev, hsize]
    rw [hf, devWrite, unverify_mdev, (mdev_modDev cs _ _).1]
    exact congrArg (fun d : MemDev => memWrite erased d.bytes base new) hdev
  have hget (i : Nat) (hi : i < size) : memGet erased (memWrite erased (s.mdev cs).bytes base new) (base + i) = new.getD i erased :=
    memGet_memWrite_in erased new _ base i (hlen ▸ hi)
  constructor
  · rw [devBytes, hb, memRead_eq erased _ _ _ ((Memory.wf_iff _ _).mp (Memory.wf_memWrite erased new _ base hwf)).1]
    refine List.ext_getElem (by simp) (fun i hi hi' => ?_)
    rw [List.getElem_map, List.getElem_range, Nat.add_assoc, hget _ (by omega), List.getD_eq_getElem?_getD, hin i hi',
      List.getElem?_eq_getElem hi', Option.getD_some]
  · intro j hj
    rw [hb]
    by_cases hpage : base ≤ j ∧ j < base + size
    · obtain ⟨i, rfl⟩ := Nat.exists_eq_add_of_le hpage.1
      have hi : i < size := by omega
      rw [hget i hi, List.getD_eq_getElem?_getD, hout i hi (by omega), hold]
      simp [hi]
    · exact memGet_memWrite_other erased new _ base j (by omega)

end

end Sys2Proof.Machine
end

section
/-! The memory and firmware commands (R464, R466, R471 to R473, Table 17.9). -/

namespace Sys2Proof.Machine

theorem length_wordsBytes (bs : List Word) : (wordsBytes bs).length = 4 * bs.length := by
  induction bs with
  | nil => rfl
  | cons w bs ih =>
    rw [wordsBytes, List.flatMap_cons, List.length_append, ← wordsBytes, ih, List.length_cons]
    simp only [wordBytes, List.length_cons, List.length_nil]
    omega

/-! ### Commands that go to XMEM's work (R466) -/

/-- TARGET of a command to a chip select. -/
def targetWord (cs : Bool) : Word := if cs then 1 else 0

theorem targetWord_fields (cs : Bool) : within (targetWord cs) 3 = true ∧ bits (targetWord cs) 0 2 = cs.toNat := by
  cases cs <;> decide

theorem targetWord_cs (cs : Bool) : (bits (targetWord cs) 0 2 == 1) = cs := by
  cases cs <;> decide

section
variable (c : CmdCtx) {cs : Bool} {a n : Word} {s : State} (hon : blockOff 12 s = false)
include hon

theorem opMemRead_external (h4 : 4 ≤ n.toNat) (h256 : n.toNat ≤ 256) (hm : n.toNat % 4 = 0) :
    opMemRead c [targetWord cs, a, n] s =
      if a.toNat + n.toNat ≤ usable cs s then startMem s else endWith stBadParam s := by
  have h4' : ¬ n.toNat < 4 := by omega
  have h256' : ¬ 256 < n.toNat := by omega
  obtain ⟨hw, hb⟩ := targetWord_fields cs
  have hk : bits (targetWord cs) 0 2 ≠ 2 ∧ bits (targetWord cs) 0 2 ≠ 3 := by cases cs <;> decide
  simp only [opMemRead, List.getD_cons_zero, List.getD_cons_succ, hw, beq_eq_false_iff_ne.mpr hk.2, hon, h4', h256', hm,
    if_neg hk.1, targetWord_cs, rangeOk]
  by_cases hr : a.toNat + n.toNat ≤ usable cs s <;> simp [hr]

theorem opMemWrite_external {bs : List Word} (hr : a.toNat + 4 * bs.length ≤ usable cs s) :
    opMemWrite c (targetWord cs :: a :: bs) s =
      if protected_ (inSession c s) cs a.toNat (4 * bs.length) s then endWith stDenied s else startMem s := by
  obtain ⟨hw, hb⟩ := targetWord_fields cs
  have hk : bits (targetWord cs) 0 2 ≠ 2 ∧ bits (targetWord cs) 0 2 ≠ 3 := by cases cs <;> decide
  have hd : (targetWord cs :: a :: bs).drop 2 = bs := rfl
  simp only [opMemWrite, List.getD_cons_zero, List.getD_cons_succ, hw, beq_eq_false_iff_ne.mpr hk.2, hon, if_neg hk.1,
    targetWord_cs, rangeOk, hd, length_wordsBytes, decide_eq_true hr, Bool.not_true, Bool.or_self, Bool.false_eq_true, if_false]

theorem opMemErase_protected (hp : protected_ (inSession c s) cs a.toNat n.toNat s = true) :
    opMemErase c [targetWord cs, a, n] s = endWith stBadParam s := by
  obtain ⟨hw, hb⟩ := targetWord_fields cs
  have hk : ¬ 2 ≤ bits (targetWord cs) 0 2 := by cases cs <;> decide
  simp only [opMemErase, List.getD_cons_zero, List.getD_cons_succ, hw, hk, hon, targetWord_cs, hp, Bool.or_true, if_true,
    Bool.not_true, decide_false, Bool.or_self, Bool.false_eq_true, if_false]

theorem opMemErase_starts (hr : a.toNat + n.toNat ≤ usable cs s) (ha : a.toNat % eraseUnit cs s = 0)
    (hn : n.toNat % eraseUnit cs s = 0) (hp : protected_ (inSession c s) cs a.toNat n.toNat s = false) :
    opMemErase c [targetWord cs, a, n] s = startMem s := by
  obtain ⟨hw, hb⟩ := targetWord_fields cs
  have hk : ¬ 2 ≤ bits (targetWord cs) 0 2 := by cases cs <;> decide
  simp only [opMemErase, List.getD_cons_zero, List.getD_cons_succ, hw, hk, hon, targetWord_cs, hp, rangeOk, decide_eq_true hr, ha,
    hn, Bool.not_true, bne_self_eq_false, decide_false, Bool.or_self, Bool.false_eq_true, if_false]

end

/-- The word of FW_UPDATE: its slot and operation. -/
def slotWord (b : Bool) (op : Nat) : Word := setField (if b then 0x100 else 0) 0 2 op

theorem slotWord_fields (b : Bool) {op : Nat} (h : op < 3) :
    within (slotWord b op) 0x103 = true ∧ bits (slotWord b op) 0 2 = op ∧ bit (slotWord b op) 8 = b := by
  interval_cases op <;> cases b <;> decide

/-- The number that RUNNING gives the slot (Table 17.16). -/
def slotRunning (b : Bool) : Nat := if b then 2 else 1

section
variable (c : CmdCtx) {b : Bool} {size : Word} {s : State}

theorem opFwUpdate_running {op : Nat} (h : op < 3) (hs : op ≠ 0 → size = 0) (hr : s.keep.running = slotRunning b) :
    opFwUpdate c [slotWord b op, size] s = endWith stBadState s := by
  obtain ⟨hw, hop, hb⟩ := slotWord_fields b h
  have h3 : (op == 3) = false := beq_eq_false_iff_ne.mpr (by omega)
  have hz : (op != 0 && size.toNat != 0) = false := by
    by_cases h0 : op = 0
    · simp [h0]
    · simp [hs h0]
  simp only [opFwUpdate, List.getD_cons_zero, List.getD_cons_succ, hw, hop, hb, h3, hz, Bool.not_true, Bool.or_self,
    Bool.false_eq_true, if_false]
  exact if_pos hr

variable (hr : s.keep.running ≠ slotRunning b)
include hr

theorem opFwUpdate_starts {op : Nat} (h : op < 2) (hs : op ≠ 0 → size = 0) {e : DirEntry} (hon : blockOff 12 s = false)
    (hd : dirFind (fwId b) s = some e) (hlen : op = 0 → size.toNat ≤ e.length) :
    opFwUpdate c [slotWord b op, size] s = startMem s := by
  obtain ⟨hw, hop, hb⟩ := slotWord_fields b (show op < 3 by omega)
  have h3 : (op == 3) = false := beq_eq_false_iff_ne.mpr (by omega)
  have h2 : ¬ op = 2 := by omega
  have hz : (op != 0 && size.toNat != 0) = false := by
    by_cases h0 : op = 0
    · simp [h0]
    · simp [hs h0]
  have hl : ¬ (op = 0 ∧ e.length < size.toNat) := fun hx => absurd hx.2 (Nat.not_lt.mpr (hlen hx.1))
  have hr' : ¬ s.keep.running = (if b then 2 else 1) := hr
  simp only [opFwUpdate, List.getD_cons_zero, List.getD_cons_succ, hw, hop, hb, h3, hz, Bool.not_true, Bool.or_self,
    Bool.false_eq_true, if_false, hr', h2, hon, hd, hl]

theorem opFwUpdate_select : opFwUpdate c [slotWord b 2, 0] s =
    if s.xmem.fwVerified.getD (if b then 1 else 0) false then
      endWith stOk (writeHeader (s.modKeep (fun k => { k with pref := b, trial := 1 })))
    else endWith stBadState s := by
  obtain ⟨hw, hop, hb⟩ := slotWord_fields b (show 2 < 3 by decide)
  have hr' : ¬ s.keep.running = (if b then 2 else 1) := hr
  have h3 : ((2 : Nat) == 3) = false := rfl
  have hz : ((2 : Nat) != 0 && (0 : Word).toNat != 0) = false := rfl
  simp only [opFwUpdate, List.getD_cons_zero, List.getD_cons_succ, hw, hop, hb, h3, hz, Bool.not_true, Bool.or_self,
    Bool.false_eq_true, if_false, hr', if_true]

end

/-! ### The commands that are taken (R299, R466) -/

/-- A memory command waits for XMEM, begun at the time of the state. -/
def memQueued (code : Nat) (c : CmdCtx) (ws : List Word) (s : State) : State :=
  let s1 := accepted code c ws s
  markSlow c.port c.tag (fun y => { y with started := true, startedAt := s.ticks })
    { s1 with xmem := { s1.xmem with queue := s1.xmem.queue ++ [.memCmd] } }

theorem accepted_xmem (code : Nat) (c : CmdCtx) (ws : List Word) (s : State) : (accepted code c ws s).xmem = s.xmem :=
  accepted_keeps State.xmem (fun _ _ _ _ _ _ => rfl) code c ws s

theorem accepted_keep (code : Nat) (c : CmdCtx) (ws : List Word) (s : State) : (accepted code c ws s).keep = s.keep :=
  accepted_keeps State.keep (fun _ _ _ _ _ _ => rfl) code c ws s

theorem accepted_usable (cs : Bool) (code : Nat) (c : CmdCtx) (ws : List Word) (s : State) :
    usable cs (accepted code c ws s) = usable cs s := accepted_keeps (usable cs) (fun _ _ _ _ _ _ => rfl) code c ws s

theorem accepted_eraseUnit (cs : Bool) (code : Nat) (c : CmdCtx) (ws : List Word) (s : State) :
    eraseUnit cs (accepted code c ws s) = eraseUnit cs s :=
  accepted_keeps (eraseUnit cs) (fun _ _ _ _ _ _ => rfl) code c ws s

theorem accepted_dirFind (id code : Nat) (c : CmdCtx) (ws : List Word) (s : State) :
    dirFind id (accepted code c ws s) = dirFind id s := accepted_keeps (dirFind id) (fun _ _ _ _ _ _ => rfl) code c ws s

/-- What is protected from a command in its session is the same once it is accepted. -/
theorem accepted_protected (cs : Bool) (a n code : Nat) (c : CmdCtx) (ws : List Word) (s : State) :
    protected_ (inSession (slowCtx c.keepEcc (slowEntry code c ws)) (accepted code c ws s)) cs a n (accepted code c ws s) =
      protected_ (inSession c s) cs a n s := by
  rw [inSession_accepted]
  exact accepted_keeps (protected_ (inSession c s) cs a n) (fun _ _ _ _ _ _ => rfl) code c ws s

section
variable {c : CmdCtx} {cs : Bool} {a n : Word} {s : State}

section
variable (hon : blockOff 12 s = false)
include hon

theorem memRead_row (h : slowReady 0x70 c [targetWord cs, a, n] s = true) (h4 : 4 ≤ n.toNat) (h256 : n.toNat ≤ 256)
    (hm : n.toNat % 4 = 0) :
    (a.toNat + n.toNat ≤ usable cs s →
      exec (.memRead c [targetWord cs, a, n]) s = .next (settle (memQueued 0x70 c [targetWord cs, a, n] s))) ∧
    (usable cs s < a.toNat + n.toNat → exec (.memRead c [targetWord cs, a, n]) s =
      .next (settle (completed 0x70 c stBadParam [] (accepted 0x70 c [targetWord cs, a, n] s)))) := by
  have e := opMemRead_external (slowCtx c.keepEcc (slowEntry 0x70 c [targetWord cs, a, n]))
    (cs := cs) (a := a) ((blockOff_accepted 12 0x70 c [targetWord cs, a, n] s).trans hon) h4 h256 hm
  rw [accepted_usable] at e
  refine ⟨fun hr => ?_, fun hr => ?_⟩
  · rw [if_pos hr] at e
    exact congrArg Host.Outcome.next (slow_begun h e)
  · rw [if_neg (by omega)] at e
    exact congrArg Host.Outcome.next (slow_refused h e)

theorem memWrite_row {bs : List Word} (h : slowReady 0x71 c (targetWord cs :: a :: bs) s = true)
    (hr : a.toNat + 4 * bs.length ≤ usable cs s) :
    (protected_ (inSession c s) cs a.toNat (4 * bs.length) s = false → exec (.memWrite c (targetWord cs :: a :: bs)) s =
      .next (settle (memQueued 0x71 c (targetWord cs :: a :: bs) s))) ∧
    (protected_ (inSession c s) cs a.toNat (4 * bs.length) s = true → exec (.memWrite c (targetWord cs :: a :: bs)) s =
      .next (settle (completed 0x71 c stDenied [] (accepted 0x71 c (targetWord cs :: a :: bs) s)))) := by
  have e := opMemWrite_external (slowCtx c.keepEcc (slowEntry 0x71 c (targetWord cs :: a :: bs)))
    (cs := cs) (a := a) ((blockOff_accepted 12 0x71 c (targetWord cs :: a :: bs) s).trans hon)
    (bs := bs) (by rw [accepted_usable]; exact hr)
  rw [accepted_protected] at e
  refine ⟨fun hp => ?_, fun hp => ?_⟩
  · rw [if_neg (by rw [hp]; decide)] at e
    exact congrArg Host.Outcome.next (slow_begun h e)
  · rw [if_pos hp] at e
    exact congrArg Host.Outcome.next (slow_refused h e)

theorem memErase_row (h : slowReady 0x72 c [targetWord cs, a, n] s = true) :
    (a.toNat + n.toNat ≤ usable cs s → a.toNat % eraseUnit cs s = 0 → n.toNat % eraseUnit cs s = 0 →
      protected_ (inSession c s) cs a.toNat n.toNat s = false →
      exec (.memErase c [targetWord cs, a, n]) s = .next (settle (memQueued 0x72 c [targetWord cs, a, n] s))) ∧
    (protected_ (inSession c s) cs a.toNat n.toNat s = true → exec (.memErase c [targetWord cs, a, n]) s =
      .next (settle (completed 0x72 c stBadParam [] (accepted 0x72 c [targetWord cs, a, n] s)))) := by
  have hon' := (blockOff_accepted 12 0x72 c [targetWord cs, a, n] s).trans hon
  refine ⟨fun hr ha hn hp => ?_, fun hp => ?_⟩
  · exact congrArg Host.Outcome.next (slow_begun h (opMemErase_starts _ hon' (by rw [accepted_usable]; exact hr)
      (by rw [accepted_eraseUnit]; exact ha) (by rw [accepted_eraseUnit]; exact hn) (by rw [accepted_protected]; exact hp)))
  · exact congrArg Host.Outcome.next (slow_refused h (opMemErase_protected _ hon' (by rw [accepted_protected]; exact hp)))

end

end

section
variable {c : CmdCtx} {b : Bool} {s : State} (hr : s.keep.running ≠ slotRunning b)
include hr

theorem fwUpdate_starts {op : Nat} {size : Word} {e : DirEntry} (hop : op < 2) (hs : op ≠ 0 → size = 0)
    (h : slowReady 0x73 c [slotWord b op, size] s = true) (hon : blockOff 12 s = false) (hd : dirFind (fwId b) s = some e)
    (hlen : op = 0 → size.toNat ≤ e.length) :
    settle (submit opFwUpdate 0x73 c [slotWord b op, size] s) = settle (memQueued 0x73 c [slotWord b op, size] s) := by
  refine slow_begun h (opFwUpdate_starts _ ?_ hop hs ?_ ?_ hlen)
  · rw [accepted_keep]; exact hr
  · rw [blockOff_accepted]; exact hon
  · rw [accepted_dirFind]; exact hd

theorem fwUpdateSelect_row (h : slowReady 0x73 c [slotWord b 2, 0] s = true) :
    (s.xmem.fwVerified.getD (if b then 1 else 0) false = true → settle (submit opFwUpdate 0x73 c [slotWord b 2, 0] s) =
      concluded 0x73 c [] (writeHeader { accepted 0x73 c [slotWord b 2, 0] s with keep := { s.keep with pref := b, trial := 1 } })) ∧
    (s.xmem.fwVerified.getD (if b then 1 else 0) false = false → settle (submit opFwUpdate 0x73 c [slotWord b 2, 0] s) =
      settle (completed 0x73 c stBadState [] (accepted 0x73 c [slotWord b 2, 0] s))) := by
  have e := opFwUpdate_select (slowCtx c.keepEcc (slowEntry 0x73 c [slotWord b 2, 0])) (b := b)
    (s := accepted 0x73 c [slotWord b 2, 0] s) (by rw [accepted_keep]; exact hr)
  rw [accepted_xmem, State.modKeep, accepted_keep] at e
  refine ⟨fun hv => ?_, fun hv => ?_⟩
  · rw [if_pos hv] at e
    exact slow_concluded h e
  · rw [if_neg (by rw [hv]; decide)] at e
    exact slow_refused h e

end

theorem fwUpdate_running {c : CmdCtx} {b : Bool} {s : State} (hr : s.keep.running = slotRunning b)
    (h : slowReady 0x73 c [slotWord b 0, 0] s = true) : settle (submit opFwUpdate 0x73 c [slotWord b 0, 0] s) =
      settle (completed 0x73 c stBadState [] (accepted 0x73 c [slotWord b 0, 0] s)) :=
  slow_refused h (opFwUpdate_running _ (by decide) (fun _ => rfl) (by rw [accepted_keep]; exact hr))

end Sys2Proof.Machine
end

section
/-! The serving of a memory command by an idle XMEM, and its good end (R464, R466, R470 to R472). -/

namespace Sys2Proof.Machine

/-! ### The memory command in progress (R299) -/

/-- The entry of a memory command that has begun. -/
def memEntry (code : Nat) (c : CmdCtx) (ws : List Word) (s : State) : SlowCmd :=
  { slowEntry code c ws with started := true, startedAt := s.ticks }

theorem slowIdle_of_ready {code : Nat} {c : CmdCtx} {ws : List Word} {s : State} (h : slowReady code c ws s = true) :
    s.cmd.slow.all (fun x => x.finished) = true := by
  simp only [slowReady, Bool.and_eq_true] at h
  exact h.2

theorem accepted_slow (code : Nat) (c : CmdCtx) (ws : List Word) (s : State) :
    (accepted code c ws s).cmd.slow = s.cmd.slow ++ [slowEntry code c ws] := by
  have hc : (reply c code stAccepted [] s).cmd = (noteSession c s).cmd := reply_cmd _ _ _ _ _
  have hn : (noteSession c s).cmd.slow = s.cmd.slow := by
    unfold noteSession
    split <;> rfl
  show (reply c code stAccepted [] s).cmd.slow ++ _ = _
  rw [hc, hn]

/-- The command that has just begun is the memory command in progress. -/
theorem memStarted_memQueued {code : Nat} {c : CmdCtx} {ws : List Word} {s : State} (h : slowReady code c ws s = true)
    (hcode : 0x70 ≤ code ∧ code ≤ 0x73) : memStarted (settle (memQueued code c ws s)) = some (memEntry code c ws s) := by
  have hc : (BitVec.ofNat 8 code).toNat = code := Nat.mod_eq_of_lt (by omega)
  have hslow : (memQueued code c ws s).cmd.slow = (s.cmd.slow ++ [slowEntry code c ws]).map (fun x =>
      if x.port == c.port && x.tag == c.tag then { x with started := true, startedAt := s.ticks } else x) := by
    rw [← accepted_slow]; rfl
  rw [memStarted, settle_slow, hslow, List.map_append, List.find?_append, List.find?_eq_none.mpr]
  · simp [slowEntry, memEntry, hc, hcode]
  · intro y hy
    obtain ⟨x, hx, rfl⟩ := List.mem_map.mp hy
    have hf := List.all_eq_true.mp (slowIdle_of_ready h) x hx
    split <;> simp [hf]

/-- XMEM is off during its block reset, in S3 and deeper, and with its clock gated (Table 10.8). -/
theorem blockOff_xmem (s : State) :
    blockOff 12 s = (xmemResets s || (s.pwr.pstate == .s3 || vault s.pwr.pstate || s.clk.gate.getLsbD 3)) := by
  simp [blockOff, xmemResets]

theorem blockOff_settle_xmem (s : State) : blockOff 12 (settle s) = blockOff 12 s := by
  have hg : (settle s).clk.gate = s.clk.gate := settle_keeps (fun u => u.clk.gate) (fun _ => rfl) s
  rw [blockOff_xmem, blockOff_xmem, (keepsMarks_settle s).resets, settle_pstate, hg]

/-! ### The serving of the command (R466) -/

/-- XMEM works on the memory command `x`; its devices and Keep are those of `s`. -/
structure MemServed (x : SlowCmd) (s u : State) : Prop where
  xmem : u.xmem = { s.xmem with queue := [], busy := some .memCmd }
  keep : u.keep = s.keep
  on : blockOff 12 u = false
  started : memStarted u = some x

/-- The memory command is the next work where no other waits. -/
theorem nextWork_memCmd {s : State} (hq : s.xmem.queue = [.memCmd]) : nextWork s = some .memCmd := by
  unfold nextWork
  rw [hq]
  cases scrubDue s <;> rfl

theorem memServed {code : Nat} {c : CmdCtx} {ws : List Word} {s : State} (h : slowReady code c ws s = true)
    (hcode : 0x70 ≤ code ∧ code ≤ 0x73) (hon : blockOff 12 s = false) (hq : s.xmem.queue = []) (hb : s.xmem.busy = none)
    (hs : s.xmem.suspended = none) :
    ∃ u, exec .xmemWorkServe (settle (memQueued code c ws s)) = .next u ∧ MemServed (memEntry code c ws s) s u := by
  have hx : (settle (memQueued code c ws s)).xmem = { s.xmem with queue := [.memCmd] } := by
    rw [settle_xmem]
    show { (accepted code c ws s).xmem with queue := (accepted code c ws s).xmem.queue ++ [XKind.memCmd] } = _
    rw [accepted_xmem, hq]; rfl
  have hk : (settle (memQueued code c ws s)).keep = s.keep := (settle_keep _).trans (accepted_keep code c ws s)
  have ho : blockOff 12 (settle (memQueued code c ws s)) = false := by
    rw [blockOff_settle_xmem]
    exact (blockOff_accepted 12 code c ws s).trans hon
  have hst := memStarted_memQueued h hcode
  generalize settle (memQueued code c ws s) = t at hx hk ho hst
  have e := exec_xmemWorkServe_idle ho (by rw [hx]; exact hb) (by rw [hx]; exact hs) (nextWork_memCmd (by rw [hx]))
  refine ⟨_, e, ⟨?_, by rw [settle_keep]; exact hk, by rw [blockOff_settle_xmem]; exact ho, ?_⟩⟩
  · rw [settle_xmem]
    show { t.xmem with queue := dropFirst (fun j => j == XKind.memCmd) t.xmem.queue, busy := some XKind.memCmd } = _
    rw [hx]; rfl
  · rw [memStarted, settle_slow]
    exact hst

/-! ### The end of the command (R464, R471) -/

theorem exec_xmemOperationDone_memCmd {x : SlowCmd} {s : State} (hon : blockOff 12 s = false) (hst : memStarted s = some x)
    (hb : s.xmem.busy = some .memCmd) (res n blk : Nat) (vd : List (Bool × Nat)) :
    exec (.xmemOperationDone res n blk vd) s = .next (settle (endMem res n blk vd x (endWork s))) := by
  show execXmemOperationDone res n blk vd s = _
  simp only [execXmemOperationDone, hon, hb, hst, done, Bool.false_eq_true, if_false]

section
variable {x : SlowCmd} (n blk : Nat) (vd : List (Bool × Nat)) {w a l : Word} {bs : List Word} (s : State)

/-- The command completes with a status and words. -/
def memFin (x : SlowCmd) (st : BitVec 8) (ws : List Word) (s : State) : State := finishSlow x.port x.tag x.opcode st ws s

theorem memFin_xmem (x : SlowCmd) (st : BitVec 8) (ws : List Word) (s : State) : (memFin x st ws s).xmem = s.xmem := by
  unfold memFin finishSlow queueDone
  cases x.port <;> rfl

theorem endMem_read (ho : x.opcode = 0x70) (hp : x.payload = [w, a, l]) :
    endMem 0 n blk vd x s = refreshAll vd (memFin x stOk
      (bytesWords (devBytes (cmdCs x s) a.toNat l.toNat (flushPage (cmdCs x s) s))) (flushPage (cmdCs x s) s)) := by
  simp only [endMem, if_pos ho, hp, if_true]
  rfl

theorem endMem_read_failed (ho : x.opcode = 0x70) :
    endMem 2 n blk vd x s = refreshAll vd (memFin x stMemError [] (flushPage (cmdCs x s) s)) := by
  simp only [endMem, if_pos ho]
  rfl

theorem endMem_write (ho : x.opcode = 0x71) (hp : x.payload = w :: a :: bs) :
    endMem 0 n blk vd x s = memFin x stOk [] (memStore (cmdCs x s) a.toNat (wordsBytes bs) s) := by
  have h0 : ¬ x.opcode = 0x70 := by rw [ho]; decide
  simp only [endMem, if_neg h0, if_pos ho, hp, writeResult, if_true]
  rfl

theorem endMem_erase (ho : x.opcode = 0x72) (hp : x.payload = [w, a, l]) :
    endMem 0 n blk vd x s = memFin x stOk [] (devErase (cmdCs x s) a.toNat l.toNat (flushPage (cmdCs x s) s)) := by
  have h0 : ¬ x.opcode = 0x70 := by rw [ho]; decide
  have h1 : ¬ x.opcode = 0x71 := by rw [ho]; decide
  simp only [endMem, if_neg h0, if_neg h1, if_pos ho, hp, writeResult, if_true]
  rfl

/-- The verdict of a firmware slot is stored (R464). -/
def slotMarked (b v : Bool) (s : State) : State :=
  s.modXmem (fun y => { y with fwVerified := y.fwVerified.set (if b then 1 else 0) v })

theorem endMem_prepare {b : Bool} {e : DirEntry} (ho : x.opcode = 0x73) (hp : x.payload = [slotWord b 0, l])
    (hd : dirFind (fwId b) s = some e) : endMem 0 n blk vd x s = memFin x stOk [] (slotMarked b false
      (devErase (cmdCs x s) (entryUnits e s).1 (entryUnits e s).2 (flushPage (cmdCs x s) s))) := by
  have h0 : ¬ x.opcode = 0x70 := by rw [ho]; decide
  have h1 : ¬ x.opcode = 0x71 := by rw [ho]; decide
  have h2 : ¬ x.opcode = 0x72 := by rw [ho]; decide
  obtain ⟨-, hop, hb⟩ := slotWord_fields b (show 0 < 3 by decide)
  simp only [endMem, if_neg h0, if_neg h1, if_neg h2, hp, List.getD_cons_zero, hop, hb, hd, writeResult, if_true]
  rfl

theorem endMem_verify {b : Bool} {e : DirEntry} (ho : x.opcode = 0x73) (hp : x.payload = [slotWord b 1, l])
    (hd : dirFind (fwId b) s = some e) : endMem 0 n blk vd x s = refreshAll vd (memFin x
      (if slotPasses b (flushPage (cmdCs x s) s) then stOk else stCheckFail) []
      (slotMarked b (slotPasses b (flushPage (cmdCs x s) s)) (flushPage (cmdCs x s) s))) := by
  have h0 : ¬ x.opcode = 0x70 := by rw [ho]; decide
  have h1 : ¬ x.opcode = 0x71 := by rw [ho]; decide
  have h2 : ¬ x.opcode = 0x72 := by rw [ho]; decide
  have h10 : ¬ (1 : Nat) = 0 := by decide
  obtain ⟨-, hop, hb⟩ := slotWord_fields b (show 1 < 3 by decide)
  simp only [endMem, if_neg h0, if_neg h1, if_neg h2, hp, List.getD_cons_zero, hop, hb, hd, if_neg h10, bne_self_eq_false,
    Bool.false_eq_true, if_false]
  rfl

end

end Sys2Proof.Machine
end

section
/-! Memory and firmware commands from their row to their end, those to Keep, and their time limit (R464, R471 to R473). -/

namespace Sys2Proof.Machine

/-! ### What depends on the devices alone -/

/-- From `s` to `z` the devices, the directory, the pages that wait and the verdicts on the slots are kept. -/
structure DevicesKept (s z : State) : Prop where
  dev : ∀ cs, z.mdev cs = s.mdev cs
  dir : z.xmem.dir = s.xmem.dir
  pages : z.xmem.partialPage = s.xmem.partialPage
  verdicts : z.xmem.fwVerified = s.xmem.fwVerified

section
variable {s z : State} (h : DevicesKept s z)
include h

theorem DevicesKept.devBytes (cs : Bool) (a n : Nat) : devBytes cs a n z = Machine.devBytes cs a n s := by
  rw [Machine.devBytes, h.dev cs]; rfl

theorem DevicesKept.isNand (cs : Bool) : isNand cs z = Machine.isNand cs s := by
  rw [Machine.isNand, h.dev cs]; rfl

theorem DevicesKept.pageOf (cs : Bool) : pageOf cs z = Machine.pageOf cs s := by
  rw [Machine.pageOf, h.pages]; rfl

theorem DevicesKept.dirFind (id : Nat) : dirFind id z = Machine.dirFind id s := by
  rw [Machine.dirFind, h.dir]; rfl

theorem DevicesKept.entryUnits (e : DirEntry) : entryUnits e z = Machine.entryUnits e s := by
  simp only [Machine.entryUnits, eraseUnit, h.dev e.cs1]

end

theorem devicesKept_endWork {x : SlowCmd} {s u : State} (h : MemServed x s u) : DevicesKept s (endWork u) := by
  have hx : (endWork u).xmem = { s.xmem with queue := [], busy := none } := by
    show { u.xmem with busy := none } = _
    rw [h.xmem]
  exact ⟨fun cs => by rw [State.mdev, hx]; rfl, by rw [hx], by rw [hx], by rw [hx]⟩

theorem cmdCs_target {x : SlowCmd} {cs : Bool} (ho : x.opcode ≠ 0x73) (hp : x.payload.getD 0 0 = targetWord cs) (s : State) :
    cmdCs x s = cs := by
  rw [cmdCs, if_neg ho, hp, targetWord_cs]

theorem cmdCs_slot {x : SlowCmd} {b : Bool} {op : Nat} {e : DirEntry} {s : State} (ho : x.opcode = 0x73) (hop : op < 3)
    (hp : x.payload.getD 0 0 = slotWord b op) (hd : dirFind (fwId b) s = some e) : cmdCs x s = e.cs1 := by
  obtain ⟨-, -, hb⟩ := slotWord_fields b hop
  rw [cmdCs, if_pos ho, hp, hb, hd]; rfl

/-- What a command that completes leaves on the devices. -/
theorem settle_memFin_xmem (x : SlowCmd) (st : BitVec 8) (ws : List Word) (y : State) :
    (settle (memFin x st ws y)).xmem = y.xmem := by rw [settle_xmem, memFin_xmem]

theorem settle_memFin_mdev (x : SlowCmd) (st : BitVec 8) (ws : List Word) (y : State) (cs : Bool) :
    (settle (memFin x st ws y)).mdev cs = y.mdev cs := by
  rw [State.mdev, settle_memFin_xmem]; rfl

theorem devBytes_congr {s t : State} (cs : Bool) (a n : Nat) (h : t.mdev cs = s.mdev cs) : devBytes cs a n t = devBytes cs a n s := by
  rw [devBytes, devBytes, h]

/-! ### Commands to external memory, from the row to the good end (R464, R471) -/

section
variable {c : CmdCtx} {cs : Bool} {a n : Word} {s : State} (k blk : Nat) (vd : List (Bool × Nat))
  (hon : blockOff 12 s = false) (hq : s.xmem.queue = []) (hb : s.xmem.busy = none) (hs : s.xmem.suspended = none)
  (hpage : pageOf cs s = none)
include hon hq hb hs hpage

theorem memRead_completes (h : slowReady 0x70 c [targetWord cs, a, n] s = true) (h4 : 4 ≤ n.toNat) (h256 : n.toNat ≤ 256)
    (hm : n.toNat % 4 = 0) (hr : a.toNat + n.toNat ≤ usable cs s) :
    ∃ t, exec (.memRead c [targetWord cs, a, n]) s = .next t ∧ ∃ u, exec .xmemWorkServe t = .next u ∧
      exec (.xmemOperationDone 0 k blk vd) u =
        .next (settle (refreshAll vd (finishSlow c.port c.tag 0x70 stOk (bytesWords (devBytes cs a.toNat n.toNat s))
          { u with xmem := { u.xmem with busy := none } }))) := by
  obtain ⟨u, hu, hx⟩ := memServed h (by decide) hon hq hb hs
  have hk := devicesKept_endWork hx
  have hcs := cmdCs_target (x := memEntry 0x70 c [targetWord cs, a, n] s) (cs := cs)
    (show (0x70 : BitVec 8) ≠ 0x73 by decide) rfl (endWork u)
  have e := exec_xmemOperationDone_memCmd hx.on hx.started (by rw [hx.xmem]) 0 k blk vd
  rw [endMem_read k blk vd (endWork u) rfl rfl, hcs, flushPage_none ((hk.pageOf cs).trans hpage), hk.devBytes] at e
  exact ⟨_, (memRead_row hon h h4 h256 hm).1 hr, u, hu, e⟩

omit hpage in
/-- A MEM_WRITE that is allowed, from its row to its good end. -/
theorem memWrite_completes {bs : List Word} (h : slowReady 0x71 c (targetWord cs :: a :: bs) s = true)
    (hr : a.toNat + 4 * bs.length ≤ usable cs s) (hp : protected_ (inSession c s) cs a.toNat (4 * bs.length) s = false) :
    ∃ t, exec (.memWrite c (targetWord cs :: a :: bs)) s = .next t ∧ ∃ u, exec .xmemWorkServe t = .next u ∧
      ∃ z, DevicesKept s z ∧ ∃ v, exec (.xmemOperationDone 0 k blk vd) u = .next v ∧
        v.xmem = (memStore cs a.toNat (wordsBytes bs) z).xmem := by
  obtain ⟨u, hu, hx⟩ := memServed h (by decide) hon hq hb hs
  have hcs := cmdCs_target (x := memEntry 0x71 c (targetWord cs :: a :: bs) s) (cs := cs)
    (show (0x71 : BitVec 8) ≠ 0x73 by decide) rfl (endWork u)
  have e := exec_xmemOperationDone_memCmd hx.on hx.started (by rw [hx.xmem]) 0 k blk vd
  rw [endMem_write k blk vd (endWork u) rfl rfl, hcs] at e
  exact ⟨_, (memWrite_row hon h hr).1 hp, u, hu, endWork u, devicesKept_endWork hx, _, e, settle_memFin_xmem _ _ _ _⟩

variable (hwf : Memory.wf erased (s.mdev cs).bytes = true)
include hwf

omit hpage in
theorem memWrite_programs {bs : List Word} (h : slowReady 0x71 c (targetWord cs :: a :: bs) s = true)
    (hr : a.toNat + 4 * bs.length ≤ usable cs s) (hp : protected_ (inSession c s) cs a.toNat (4 * bs.length) s = false)
    (hn : isNand cs s = false) :
    ∃ t, exec (.memWrite c (targetWord cs :: a :: bs)) s = .next t ∧ ∃ u, exec .xmemWorkServe t = .next u ∧
      ∃ v, exec (.xmemOperationDone 0 k blk vd) u = .next v ∧ devBytes cs a.toNat (4 * bs.length) v = wordsBytes bs ∧
      ∀ j, j < a.toNat ∨ a.toNat + 4 * bs.length ≤ j →
        memGet erased (v.mdev cs).bytes j = memGet erased (s.mdev cs).bytes j := by
  obtain ⟨t, ht, u, hu, z, hk, v, hv, hx⟩ := memWrite_completes k blk vd hon hq hb hs h hr hp
  have hz : memStore cs a.toNat (wordsBytes bs) z = devWrite cs a.toNat (wordsBytes bs) z := by
    rw [memStore, if_neg (by rw [hk.isNand, hn]; decide)]
  rw [hz] at hx
  have hv' : v.mdev cs = (devWrite cs a.toNat (wordsBytes bs) z).mdev cs := by rw [State.mdev, hx]; rfl
  obtain ⟨hin, -, -, -, hout⟩ := memoryWritesTouchOnlyTheirBytes.1 cs a.toNat (wordsBytes bs) z (by rw [hk.dev]; exact hwf)
  rw [length_wordsBytes] at hin hout
  refine ⟨t, ht, u, hu, v, hv, ?_, fun j hj => ?_⟩
  · rw [devBytes_congr cs _ _ hv', hin]
  · rw [hv', hout j hj, hk.dev]

theorem memWrite_waits {bs : List Word} (h : slowReady 0x71 c (targetWord cs :: a :: bs) s = true)
    (hr : a.toNat + 4 * bs.length ≤ usable cs s) (hp : protected_ (inSession c s) cs a.toNat (4 * bs.length) s = false)
    (hn : isNand cs s = true) (hfit : a.toNat % 2 ^ (s.mdev cs).pageLog2 + 4 * bs.length ≤ 2 ^ (s.mdev cs).pageLog2)
    (h0 : 0 < bs.length) (hlt : 4 * bs.length < 2 ^ (s.mdev cs).pageLog2) :
    ∃ t, exec (.memWrite c (targetWord cs :: a :: bs)) s = .next t ∧ ∃ u, exec .xmemWorkServe t = .next u ∧
      ∃ v, exec (.xmemOperationDone 0 k blk vd) u = .next v ∧ (v.mdev cs).bytes = (s.mdev cs).bytes ∧
      pageOf cs (flushPage cs v) = none ∧ devBytes cs a.toNat (4 * bs.length) (flushPage cs v) = wordsBytes bs ∧
      ∀ j, j < a.toNat ∨ a.toNat + 4 * bs.length ≤ j →
        memGet erased ((flushPage cs v).mdev cs).bytes j = memGet erased (s.mdev cs).bytes j := by
  obtain ⟨t, ht, u, hu, z, hk, v, hv, hx⟩ := memWrite_completes k blk vd hon hq hb hs h hr hp
  have hlen := length_wordsBytes bs
  rw [memStore_waits ((hk.isNand cs).trans hn) ((hk.pageOf cs).trans hpage) (by rw [hk.dev, hlen]; exact hfit)
    (by omega) (by rw [hk.dev, hlen]; exact hlt), hk.dev] at hx
  have hdev : v.mdev cs = s.mdev cs := by
    rw [← hk.dev, State.mdev, hx]; rfl
  have hpv : pageOf cs v = some (PartPage.mk cs (a.toNat / 2 ^ (s.mdev cs).pageLog2)
      (pagePart (2 ^ (s.mdev cs).pageLog2) (a.toNat % 2 ^ (s.mdev cs).pageLog2) (wordsBytes bs))) := by
    rw [pageOf, hx]
    exact pageOf_pageWaits cs _ _ z
  obtain ⟨hin, hout⟩ := flushPage_pageWaits hwf hdev (by rw [hlen]; exact hfit) hpv
  rw [Nat.div_add_mod', hlen] at hin hout
  exact ⟨t, ht, u, hu, v, hv, by rw [hdev], pageOf_flushPage cs cs (.inl rfl), hin, hout⟩

theorem memErase_erases (h : slowReady 0x72 c [targetWord cs, a, n] s = true) (hr : a.toNat + n.toNat ≤ usable cs s)
    (ha : a.toNat % eraseUnit cs s = 0) (hn : n.toNat % eraseUnit cs s = 0)
    (hp : protected_ (inSession c s) cs a.toNat n.toNat s = false) :
    ∃ t, exec (.memErase c [targetWord cs, a, n]) s = .next t ∧ ∃ u, exec .xmemWorkServe t = .next u ∧
      ∃ v, exec (.xmemOperationDone 0 k blk vd) u = .next v ∧ devBytes cs a.toNat n.toNat v = List.replicate n.toNat erased ∧
      ∀ j, j < a.toNat ∨ a.toNat + n.toNat ≤ j →
        memGet erased (v.mdev cs).bytes j = memGet erased (s.mdev cs).bytes j := by
  obtain ⟨u, hu, hx⟩ := memServed h (by decide) hon hq hb hs
  have hk := devicesKept_endWork hx
  have hcs := cmdCs_target (x := memEntry 0x72 c [targetWord cs, a, n] s) (cs := cs)
    (show (0x72 : BitVec 8) ≠ 0x73 by decide) rfl (endWork u)
  have e := exec_xmemOperationDone_memCmd hx.on hx.started (by rw [hx.xmem]) 0 k blk vd
  rw [endMem_erase k blk vd (endWork u) rfl rfl, hcs, flushPage_none ((hk.pageOf cs).trans hpage)] at e
  obtain ⟨hin, -, -, -, hout⟩ := memoryWritesTouchOnlyTheirBytes.2.1 cs a.toNat n.toNat (endWork u) (by rw [hk.dev]; exact hwf)
  refine ⟨_, (memErase_row hon h).1 hr ha hn hp, u, hu, _, e, ?_, fun j hj => ?_⟩
  · rw [devBytes_congr cs _ _ (settle_memFin_mdev _ _ _ _ _), hin]
  · rw [settle_memFin_mdev, hout j hj, hk.dev]

end

/-! ### Firmware slots (R464) -/

theorem refreshBlock_fwVerified (s : State) (p : Bool × Nat) : (refreshBlock s p).xmem.fwVerified = s.xmem.fwVerified := by
  have hr (b n i : Nat) (x y : Bool) (u : State) : (raiseFault b n i x y u).xmem = u.xmem :=
    keeps_of_untouched (fun v => v.xmem) (fun _ => rfl) (untouched_raiseFault b n i x y u)
  have hm : (mapSpare p.1 p.2 s).1.xmem.fwVerified = s.xmem.fwVerified := by
    unfold mapSpare
    extract_lets d
    split
    · rfl
    · simp only
      split
      · rw [hr]
      · rfl
  unfold refreshBlock
  generalize mapSpare p.1 p.2 s = r at hm ⊢
  obtain ⟨s1, ok⟩ := r
  cases ok
  · exact hm
  · exact (congrArg Xmem.fwVerified (hr _ _ _ _ _ _)).trans hm

theorem refreshAll_fwVerified (l : List (Bool × Nat)) (s : State) : (refreshAll l s).xmem.fwVerified = s.xmem.fwVerified := by
  unfold refreshAll
  induction l generalizing s with
  | nil => rfl
  | cons p l ih => rw [List.foldl_cons, ih, refreshBlock_fwVerified]

theorem slotPasses_endWork (b : Bool) (s : State) : slotPasses b (endWork s) = slotPasses b s := rfl

section
variable {c : CmdCtx} {b : Bool} {e : DirEntry} {size : Word} {s : State} (k blk : Nat) (vd : List (Bool × Nat))
  (hon : blockOff 12 s = false) (hpage : pageOf e.cs1 s = none) (hq : s.xmem.queue = []) (hb : s.xmem.busy = none)
  (hs : s.xmem.suspended = none) (hlen : s.xmem.fwVerified.length = 2) (hr : s.keep.running ≠ slotRunning b)
  (hd : dirFind (fwId b) s = some e)
include hon hpage hq hb hs hlen hr hd

omit hlen in
theorem fwUpdatePrepare_erases (hwf : Memory.wf erased (s.mdev e.cs1).bytes = true) (hsize : size.toNat ≤ e.length)
    (h : slowReady 0x73 c [slotWord b 0, size] s = true) :
    ∃ u, exec .xmemWorkServe (settle (submit opFwUpdate 0x73 c [slotWord b 0, size] s)) = .next u ∧
      ∃ v, exec (.xmemOperationDone 0 k blk vd) u = .next v ∧
        devBytes e.cs1 (entryUnits e s).1 (entryUnits e s).2 v = List.replicate (entryUnits e s).2 erased ∧
        v.xmem.fwVerified.getD (if b then 1 else 0) true = false := by
  obtain ⟨u, hu, hx⟩ := memServed h (by decide) hon hq hb hs
  have hk := devicesKept_endWork hx
  have hcs := cmdCs_slot (x := memEntry 0x73 c [slotWord b 0, size] s) rfl (by decide) rfl ((hk.dirFind (fwId b)).trans hd)
  have he := exec_xmemOperationDone_memCmd hx.on hx.started (by rw [hx.xmem]) 0 k blk vd
  rw [endMem_prepare k blk vd (endWork u) rfl rfl ((hk.dirFind (fwId b)).trans hd), hcs,
    flushPage_none ((hk.pageOf e.cs1).trans hpage), hk.entryUnits] at he
  obtain ⟨hin, -⟩ := memoryWritesTouchOnlyTheirBytes.2.1 e.cs1 (entryUnits e s).1 (entryUnits e s).2 (endWork u)
    (by rw [hk.dev]; exact hwf)
  rw [fwUpdate_starts hr (by decide) (fun h0 => absurd rfl h0) h hon hd (fun _ => hsize)]
  refine ⟨u, hu, _, he, ?_, ?_⟩
  · rw [devBytes_congr e.cs1 _ _ (settle_memFin_mdev _ _ _ _ _)]
    exact hin
  · rw [settle_memFin_xmem]
    cases b <;> rfl

theorem fwUpdateVerify_verdict (h : slowReady 0x73 c [slotWord b 1, 0] s = true) :
    ∃ u, exec .xmemWorkServe (settle (submit opFwUpdate 0x73 c [slotWord b 1, 0] s)) = .next u ∧
      ∃ v, exec (.xmemOperationDone 0 k blk vd) u = .next v ∧
        v.xmem.fwVerified.getD (if b then 1 else 0) false = slotPasses b u := by
  obtain ⟨u, hu, hx⟩ := memServed h (by decide) hon hq hb hs
  have hk := devicesKept_endWork hx
  have hcs := cmdCs_slot (x := memEntry 0x73 c [slotWord b 1, 0] s) rfl (by decide) rfl ((hk.dirFind (fwId b)).trans hd)
  have he := exec_xmemOperationDone_memCmd hx.on hx.started (by rw [hx.xmem]) 0 k blk vd
  rw [endMem_verify k blk vd (endWork u) rfl rfl ((hk.dirFind (fwId b)).trans hd), hcs,
    flushPage_none ((hk.pageOf e.cs1).trans hpage), slotPasses_endWork] at he
  rw [fwUpdate_starts hr (by decide) (fun _ => rfl) h hon hd (fun h0 => absurd h0 (by decide))]
  refine ⟨u, hu, _, he, ?_⟩
  have hl : (if b then 1 else 0) < (endWork u).xmem.fwVerified.length := by
    rw [hk.verdicts, hlen]
    cases b <;> decide
  rw [settle_xmem, refreshAll_fwVerified, memFin_xmem]
  show ((endWork u).xmem.fwVerified.set (if b then 1 else 0) (slotPasses b u)).getD (if b then 1 else 0) false = _
  rw [List.getD_eq_getElem?_getD, List.getElem?_set_self hl, Option.getD_some]

end

/-! ### Commands to Keep (R472, R473) -/

section
variable {c : CmdCtx} {a n : Word} {s : State}

theorem memRead_keep (h : slowReady 0x70 c [2, a, n] s = true) (h4 : 4 ≤ n.toNat) (h256 : n.toNat ≤ 256)
    (hm : n.toNat % 4 = 0) (hr : a.toNat + n.toNat ≤ keepSize) (he : c.keepEcc = 0) (h0 : fails 13 0 false s = false)
    (h1 : fails 13 1 false s = false) : exec (.memRead c [2, a, n]) s = .next (concluded 0x70 c
      (bytesWords ((List.range n.toNat).map (fun i => keepByteAt s (a.toNat + i)))) (accepted 0x70 c [2, a, n] s)) := by
  have hf (m : Nat) : fails 13 m false (accepted 0x70 c [2, a, n] s) = fails 13 m false s :=
    accepted_keeps (fails 13 m false) (fun _ _ _ _ _ _ => rfl) _ _ _ _
  have hb (i : Nat) : keepByteAt (accepted 0x70 c [2, a, n] s) i = keepByteAt s i :=
    accepted_keeps (fun u => keepByteAt u i) (fun _ _ _ _ _ _ => rfl) _ _ _ _
  have hq := keepRead_quiet ((hf 0).trans h0) ((hf 1).trans h1)
  have hw : within (2 : Word) 3 = true ∧ bits (2 : Word) 0 2 = 2 := by decide
  have h4' : ¬ n.toNat < 4 := by omega
  have h256' : ¬ 256 < n.toNat := by omega
  have hr' : ¬ keepSize < a.toNat + n.toNat := by omega
  have hecc : (slowCtx c.keepEcc (slowEntry 0x70 c [2, a, n])).keepEcc = 0 := he
  have e : opMemRead (slowCtx c.keepEcc (slowEntry 0x70 c [2, a, n])) [2, a, n] (accepted 0x70 c [2, a, n] s) =
      (accepted 0x70 c [2, a, n] s, .fin stOk (bytesWords ((List.range n.toNat).map (fun i => keepByteAt s (a.toNat + i))))) := by
    simp only [opMemRead, List.getD_cons_zero, List.getD_cons_succ, hw, h4', h256', hm, hr', hecc, hq, hb]
    rfl
  exact congrArg (fun u => Host.Outcome.next (settle u)) (submit_slow_fin _ _ c _ s _ stOk _ h e)

/-- A write to Keep ends as Keep decides. -/
theorem opMemWrite_keep (c : CmdCtx) (a : Word) (bs : List Word) (s : State) : opMemWrite c (2 :: a :: bs) s =
    endWith (keepWriteCmd (inSession c s) a.toNat (wordsBytes bs) s).2 (keepWriteCmd (inSession c s) a.toNat (wordsBytes bs) s).1 := by
  have hw : within (2 : Word) 3 = true ∧ bits (2 : Word) 0 2 = 2 := by decide
  have hd : ((2 : Word) :: a :: bs).drop 2 = bs := rfl
  simp only [opMemWrite, List.getD_cons_zero, List.getD_cons_succ, hw, hd]
  rfl

section
variable {bs : List Word} (h : slowReady 0x71 c (2 :: a :: bs) s = true) {t : State}
include h

theorem memWrite_keep_stored
    (e : keepWriteCmd (inSession c s) a.toNat (wordsBytes bs) (accepted 0x71 c (2 :: a :: bs) s) = (t, stOk)) :
    exec (.memWrite c (2 :: a :: bs)) s = .next (concluded 0x71 c [] t) := by
  refine congrArg Host.Outcome.next (slow_concluded h ?_)
  rw [opMemWrite_keep, inSession_accepted, e]

theorem memWrite_keep_denied (e : keepWriteCmd (inSession c s) a.toNat (wordsBytes bs) (accepted 0x71 c (2 :: a :: bs) s) =
      (accepted 0x71 c (2 :: a :: bs) s, stDenied)) :
    exec (.memWrite c (2 :: a :: bs)) s = .next (settle (completed 0x71 c stDenied [] (accepted 0x71 c (2 :: a :: bs) s))) := by
  refine congrArg Host.Outcome.next (slow_refused h ?_)
  rw [opMemWrite_keep, inSession_accepted, e]

end

end

/-- The firmware area of Keep is written in a session only (R473). -/
theorem keepWriteCmd_firmware {a : Nat} {bs : List Byte} (ha : 0xA000 ≤ a) (hr : a + bs.length ≤ 0x10000)
    (sess : Bool) (s : State) :
    keepWriteCmd sess a bs s = if sess then (keepStore a bs s, stOk) else (s, stDenied) := by
  have hno : ¬ (0x800 ≤ a ∧ a + bs.length ≤ 0xC00 ∧ a % 16 = 0 ∧ bs.length % 16 = 0) := by omega
  rw [keepWriteCmd]
  simp only [if_neg hno, if_pos (And.intro ha hr)]

/-- A write of one whole write-once block (R473). -/
theorem keepWriteCmd_block (b : Fin 64) {bs : List Byte} (hbs : bs.length = 16) (sess : Bool) (s : State) :
    keepWriteCmd sess (0x800 + 16 * b.val) bs s =
      if !sess && [b.val] != [0] then (s, stDenied)
      else if s.keep.lock.getLsbD b.val then (s, stDenied)
      else ((keepStore (0x800 + 16 * b.val) bs s).modKeep (fun k => { k with
        lock := k.lock ||| BitVec.ofNat 64 (1 <<< b.val) }), stOk) := by
  have hb := b.isLt
  have hyes : 0x800 ≤ 0x800 + 16 * b.val ∧ 0x800 + 16 * b.val + bs.length ≤ 0xC00 ∧ (0x800 + 16 * b.val) % 16 = 0 ∧
      bs.length % 16 = 0 := by omega
  have hblocks : (List.range (bs.length / 16)).map (fun i => (0x800 + 16 * b.val - 0x800) / 16 + i) = [b.val] := by
    rw [hbs, Nat.add_sub_cancel_left, Nat.mul_div_cancel_left _ (by decide)]; rfl
  rw [keepWriteCmd]
  simp only [if_pos hyes, hblocks, List.any_cons, List.any_nil, Bool.or_false, locked, List.foldl_cons, List.foldl_nil]

theorem putBlock_toNat (b : Fin 64) : (put 0 (0x800 + 16 * b.val)).toNat = 0x800 + 16 * b.val := by
  have hb := b.isLt
  rw [put, Nat.shiftLeft_zero, BitVec.toNat_ofNat]
  exact Nat.mod_eq_of_lt (by omega)

section
variable {c : CmdCtx} {s : State} (b : Fin 64) {vs : List Word} (hvs : vs.length = 4)
  (h : slowReady 0x71 c (2 :: put 0 (0x800 + 16 * b.val) :: vs) s = true)
include hvs h

theorem memWrite_block_open (hs : inSession c s = true) (hl : s.keep.lock.getLsbD b.val = false) :
    exec (.memWrite c (2 :: put 0 (0x800 + 16 * b.val) :: vs)) s =
      let u := keepStore (0x800 + 16 * b.val) (wordsBytes vs) (accepted 0x71 c (2 :: put 0 (0x800 + 16 * b.val) :: vs) s)
      .next (concluded 0x71 c [] { u with
        keep := { u.keep with lock := s.keep.lock ||| BitVec.ofNat 64 (1 <<< b.val) } }) := by
  refine memWrite_keep_stored h ?_
  rw [putBlock_toNat, keepWriteCmd_block b (by rw [length_wordsBytes, hvs]), hs, accepted_keep, hl]
  simp only [State.modKeep, keepStore, accepted_keep, Bool.not_true, Bool.false_and, Bool.false_eq_true, if_false]

theorem memWrite_block_locked (hl : s.keep.lock.getLsbD b.val = true) :
    exec (.memWrite c (2 :: put 0 (0x800 + 16 * b.val) :: vs)) s =
      .next (settle (completed 0x71 c stDenied [] (accepted 0x71 c (2 :: put 0 (0x800 + 16 * b.val) :: vs) s))) := by
  refine memWrite_keep_denied h ?_
  rw [putBlock_toNat, keepWriteCmd_block b (by rw [length_wordsBytes, hvs]), accepted_keep, if_pos hl, ite_self]

end

/-! ### The time limit (R471) -/

section
variable {x : SlowCmd} {s : State} (hx : memStarted s = some x) (ho : x.opcode = 0x70) (n : Nat)
include hx ho

omit ho in
theorem memCmdTimeout_early (h : s.ticks < x.startedAt + 50000000) : exec (.memCmdTimeout n) s = .next (settle s) := by
  have ht : 200 * ticksPerMs = 50000000 := rfl
  show execMemCmdTimeout n s = _
  unfold execMemCmdTimeout
  simp only [hx, ht]
  rw [if_pos (by rw [decide_eq_true h, Bool.or_true])]; rfl

theorem memCmdTimeout_due (hb : s.xmem.busy = some .memCmd) (hq : s.xmem.queue.contains .memCmd = false)
    (hs : s.xmem.suspended = none) (he : s.xmem.eraseSusp = false) (h : x.startedAt + 50000000 ≤ s.ticks) :
    exec (.memCmdTimeout n) s = .next (settle (finishSlow x.port x.tag 0x70 stTimeout []
      (raiseFault 12 4 (if cmdCs x s then 1 else 0) true false
        (flushPage (cmdCs x s) { s with xmem := { s.xmem with busy := none } })))) := by
  have ht : 200 * ticksPerMs = 50000000 := rfl
  have hno : ¬ (decide (x.opcode = 0x73) || decide (s.ticks < x.startedAt + 50000000)) = true := by
    rw [ho, decide_eq_false (by omega : ¬ s.ticks < x.startedAt + 50000000)]; decide
  have hfilter : s.xmem.queue.filter (fun k => k != .memCmd) = s.xmem.queue := by
    refine List.filter_eq_self.mpr (fun k hk => ?_)
    rw [bne_iff_ne]
    rintro rfl
    exact absurd (List.contains_iff_mem.mpr hk) (by rw [hq]; decide)
  have hx1 : s.modXmem (fun y => { y with
      queue := y.queue.filter (fun k => k != .memCmd)
      busy := y.busy.bind (fun k => if k = .memCmd then none else some k)
      suspended := y.suspended.bind (fun k => if k = .memCmd then none else some k)
      eraseSusp := y.eraseSusp && (y.suspended.bind (fun k => if k = XKind.memCmd then none else some k)).isSome }) =
      { s with xmem := { s.xmem with busy := none } } := by
    simp only [State.modXmem, hfilter, hb, hs, he, Option.bind_some, Option.bind_none, if_true, Bool.false_and]
  have h1 : ¬ x.opcode = 0x71 := by rw [ho]; decide
  have h2 : ¬ x.opcode = 0x72 := by rw [ho]; decide
  show execMemCmdTimeout n s = _
  unfold execMemCmdTimeout
  simp only [hx, ht, if_neg hno, hx1, hb, beq_self_eq_true, Bool.true_or, Bool.not_true, Bool.false_eq_true, if_false, if_neg h1,
    if_neg h2]
  rw [ho]; rfl

end

end Sys2Proof.Machine
end

section
/-! The memory and firmware commands together. -/

namespace Sys2Proof.Machine

/-- The operation in progress of a memory command ends (Table 17.9). -/
theorem memCmd_operationDone {x : SlowCmd} {a n : Word} {bs : List Word} (k blk : Nat) (vd : List (Bool × Nat)) {s : State}
    (hon : blockOff 12 s = false) (hst : memStarted s = some x) (hb : s.xmem.busy = some .memCmd) :
    (x.opcode = 0x70 → x.payload = [put 0 (if cmdCs x s then 1 else 0), a, n] →
      exec (.xmemOperationDone 0 k blk vd) s = .next (settle (refreshAll vd (memFin x stOk
        (bytesWords (devBytes (cmdCs x s) a.toNat n.toNat (flushPage (cmdCs x s) (endWork s))))
        (flushPage (cmdCs x s) (endWork s))))) ∧
      exec (.xmemOperationDone 2 k blk vd) s =
        .next (settle (refreshAll vd (memFin x stMemError [] (flushPage (cmdCs x s) (endWork s)))))) ∧
    (x.opcode = 0x71 → x.payload = put 0 (if cmdCs x s then 1 else 0) :: a :: bs →
      exec (.xmemOperationDone 0 k blk vd) s =
        .next (settle (memFin x stOk [] (memStore (cmdCs x s) a.toNat (wordsBytes bs) (endWork s))))) ∧
    (x.opcode = 0x72 → x.payload = [put 0 (if cmdCs x s then 1 else 0), a, n] →
      exec (.xmemOperationDone 0 k blk vd) s =
        .next (settle (memFin x stOk [] (devErase (cmdCs x s) a.toNat n.toNat (flushPage (cmdCs x s) (endWork s)))))) := by
  have e (r : Nat) := exec_xmemOperationDone_memCmd hon hst hb r k blk vd
  have hcs : cmdCs x (endWork s) = cmdCs x s := rfl
  refine ⟨fun ho hp => ⟨?_, ?_⟩, fun ho hp => ?_, fun ho hp => ?_⟩
  · rw [e, endMem_read k blk vd _ ho hp, hcs]
  · rw [e, endMem_read_failed k blk vd _ ho, hcs]
  · rw [e, endMem_write k blk vd _ ho hp, hcs]
  · rw [e, endMem_erase k blk vd _ ho hp, hcs]

/-- The operations of FW_UPDATE on a slot that does not run (R464). -/
theorem fwUpdate_row {c : CmdCtx} {b : Bool} {s : State} (hr : s.keep.running ≠ slotRunning b) :
    (∀ e : DirEntry, blockOff 12 s = false → dirFind (fwId b) s = some e →
      (∀ size : Word, size.toNat ≤ e.length → slowReady 0x73 c [slotWord b 0, size] s = true →
        exec (.fwUpdatePrepare c [if b then 0x100 else 0, size]) s =
          .next (settle (memQueued 0x73 c [slotWord b 0, size] s))) ∧
      (slowReady 0x73 c [slotWord b 1, 0] s = true → exec (.fwUpdateVerify c [if b then 0x100 else 0, 0]) s =
        .next (settle (memQueued 0x73 c [slotWord b 1, 0] s)))) ∧
    (slowReady 0x73 c [slotWord b 2, 0] s = true →
      (s.xmem.fwVerified.getD (if b then 1 else 0) false = true → exec (.fwUpdateSelect c [if b then 0x100 else 0, 0]) s =
        .next (concluded 0x73 c [] (writeHeader { accepted 0x73 c [slotWord b 2, 0] s with
          keep := { s.keep with pref := b, trial := 1 } }))) ∧
      (s.xmem.fwVerified.getD (if b then 1 else 0) false = false → exec (.fwUpdateSelect c [if b then 0x100 else 0, 0]) s =
        .next (settle (completed 0x73 c stBadState [] (accepted 0x73 c [slotWord b 2, 0] s))))) := by
  refine ⟨fun e hon hd => ⟨fun size hsize h => ?_, fun h => ?_⟩, fun h => ?_⟩
  · exact congrArg Host.Outcome.next
      (fwUpdate_starts hr (by decide) (fun h0 => absurd rfl h0) h hon hd (fun _ => hsize))
  · exact congrArg Host.Outcome.next
      (fwUpdate_starts hr (by decide) (fun _ => rfl) h hon hd (fun h0 => absurd h0 (by decide)))
  · obtain ⟨hyes, hno⟩ := fwUpdateSelect_row hr h
    exact ⟨fun hv => congrArg Host.Outcome.next (hyes hv), fun hv => congrArg Host.Outcome.next (hno hv)⟩

/-- A write to Keep's firmware area (R472, R473). -/
theorem memWrite_firmware {c : CmdCtx} {a : Word} {bs : List Word} {s : State} (h : slowReady 0x71 c (2 :: a :: bs) s = true)
    (ha : 0xA000 ≤ a.toNat) (hr : a.toNat + 4 * bs.length ≤ 0x10000) :
    (inSession c s = true → exec (.memWrite c (2 :: a :: bs)) s =
      .next (concluded 0x71 c [] (keepStore a.toNat (wordsBytes bs) (accepted 0x71 c (2 :: a :: bs) s)))) ∧
    (inSession c s = false → exec (.memWrite c (2 :: a :: bs)) s =
      .next (settle (completed 0x71 c stDenied [] (accepted 0x71 c (2 :: a :: bs) s)))) := by
  have e := keepWriteCmd_firmware (bs := wordsBytes bs) ha (by rw [length_wordsBytes]; exact hr)
  refine ⟨fun hs => memWrite_keep_stored h ?_, fun hs => memWrite_keep_denied h ?_⟩
  · rw [e, hs, if_pos rfl]
  · rw [e, hs, if_neg (by decide)]

theorem memQueued_eq (code : Nat) (c : CmdCtx) (ws : List Word) (s : State) : memQueued code c ws s =
    markSlow c.port c.tag (fun y => { y with started := true, startedAt := s.ticks })
      { accepted code c ws s with xmem := { s.xmem with queue := s.xmem.queue ++ [.memCmd] } } := by
  rw [memQueued, accepted_xmem]

/-- Settles O52: a command is followed from its row over the serving of XMEM's work to its good end. -/
theorem memoryCommandsComplete : Obligations.MemoryCommandsComplete := by
  unfold Obligations.MemoryCommandsComplete
  refine ⟨fun c cs a n s hon => ⟨memRead_row hon, fun bs => memWrite_row hon, fun h => (memErase_row hon h).1,
      fun h => (memErase_row hon h).2⟩,
    fun c cs a n k blk vd s hon hq hb hs hwf hpage => ⟨memRead_completes k blk vd hon hq hb hs hpage, fun bs h hr hp =>
      ⟨memWrite_programs k blk vd hon hq hb hs hwf h hr hp, memWrite_waits k blk vd hon hq hb hs hpage hwf h hr hp⟩,
      memErase_erases k blk vd hon hq hb hs hpage hwf⟩,
    fun c b e size k blk vd s hon hpage hq hb hs hlen hr hd hwf => ⟨fun hsize h =>
      ⟨_, rfl, fwUpdatePrepare_erases k blk vd hon hpage hq hb hs hr hd hwf hsize h⟩,
      fun h => ⟨_, rfl, fwUpdateVerify_verdict k blk vd hon hpage hq hb hs hlen hr hd h⟩⟩,
    fun c s => ⟨fun a n => memRead_keep, fun a bs => memWrite_firmware, fun b v0 v1 v2 v3 h =>
      ⟨memWrite_block_open b rfl h, memWrite_block_locked b rfl h⟩⟩,
    fun c b s => ⟨fun hr => ?_, fun hr h => congrArg Host.Outcome.next (fwUpdate_running hr h)⟩,
    fun x a n bs k blk vd s => memCmd_operationDone k blk vd,
    fun x n s hst ho hb hq hs he => ⟨memCmdTimeout_early hst n, memCmdTimeout_due hst ho n hb hq hs he⟩⟩
  · have hrow := fwUpdate_row (c := c) hr
    simp only [memQueued_eq] at hrow
    exact hrow

end Sys2Proof.Machine
end
